-- ==== Sys2Proof/Word.lean ====
section
/-!
DEFINITION. The word types of the model and the sparse table that holds every array of the part.

Bytes are bit vectors (they are what memory holds); array indices, counters, times and register field values
are natural numbers, truncated to their widths where they are written (`Machine/Bits.lean`, `Machine/Ops.lean`).
-/

namespace Sys2Proof

/-- One byte (R6, R14). -/
abbrev Byte := BitVec 8

/-- A 32-bit word: a register as software reads it (R13), a spindle scalar register or lane. -/
abbrev Word := BitVec 32

/-- A sparse table: the entries whose value is not the default of the table, by strictly rising key.
It is plain data, so two tables with the same content are the same list. -/
abbrev Tab (α : Type) := List (Nat × α)

end Sys2Proof
end

