-- ==== Sys2Proof/Syntax.lean ====
section
/-!
DEFINITION. The commands of the block: one constructor per row of spec/opcode_table.json, with the row's operands.

The table gives the rows no operand fields, so the operands are the model's (notes/assumptions/1.md): what the row's rule
needs and the state does not hold. `t` is always the array time of the instant, in units of 2^-32 s (R6). What only
the world outside the part can decide (a measured value, whether a test passes, what a wire carries) is an operand.
-/

namespace Sys2Proof

/-- What one cycle brings to the reference inputs when some are lost (R375, R388): the inputs lost, the gates measured (code, mHz), the
waits-to-restore of which a second ends. -/
structure RefCycle where
  lost : List Nat
  gates : List (Nat × Nat)
  ticks : List Nat
deriving DecidableEq, Repr

/-- The data of a register write (R13): the word and its byte enables. -/
structure BusWrite where
  value : Nat
  enables : Nat
deriving DecidableEq, Repr

/-- An outstanding read of host memory (R437): the store port that issued it and its address. -/
structure HostRead where
  port : Nat
  addr : Nat
deriving DecidableEq, Repr

/-- The commands (R68 to R496), in the order of the table. -/
inductive Instr where
  /-- ADMIT (R68). DRAFT_CTL.ADMIT starts the check of the staged stream, as a full Draft or as a patch depending on the controller state and the staged KIND. -/
  | draftAdmit (t : Nat)
  /-- START (R68). DRAFT_CTL.START moves an admitted Draft to ARMED and applies its tables, programs, classification, lane roles and map, or is refused with 0x0117. -/
  | draftStart (t : Nat)
  /-- STOP (R68). DRAFT_CTL.STOP moves a running Draft to STOPPING, or cancels an armed start. -/
  | draftStop (t : Nat)
  /-- ABORT (R68). DRAFT_CTL.ABORT abandons a check or an admitted or armed Draft. -/
  | draftAbort
  /-- DRAFT_SCP_DATA (R64). A write of DRAFT_SCP_DATA stores a word of the staged stream and advances DRAFT_SCP_PTR, or is ignored while the range is protected or the pointer is beyond LEN. -/
  | draftScpData (value : Nat)
  /-- CHECK_COMPLETE (R65). The check of a full Draft or a patch ends in admission or refusal, and the result is recorded and the staging range released. -/
  | checkComplete (t : Nat)
  /-- DRAFT_RUNNING (R68). Array time reaches DRAFT_START, the Draft enters RUNNING and span 0 begins. -/
  | draftRunning (t : Nat)
  /-- STOPPING_END (R68). Once the last pass of span S has committed, every dump is sent and no patch check runs, open integrations end with short dumps and the controller returns to IDLE. -/
  | stoppingEnd (t : Nat)
  /-- SPAN_START (R24). Array time reaches the start of a span, switching the corner-turn buffer and opening the passes of the previous span. -/
  | spanStart (span t : Nat)
  /-- SPAN_FINAL (R132). A span becomes final once all its verdicts, statistics flags and autos are in, releasing waiting passes to commit or replay. -/
  | spanFinal (span t : Nat)
  /-- SPAN_DEADLINE (R155). The deadline of a span arrives and every pass of that span not yet committing is abandoned. -/
  | spanDeadline (span t : Nat)
  /-- PASS_START (R134). A queued pass whose conditions all hold starts injecting and is decided settled or speculative. -/
  | passStart (ply t : Nat)
  /-- INJECTION_RESUME (R109). A held ply resumes injection once the cause of the hold has cleared. -/
  | injectionResume (ply cycles : Nat)
  /-- PASS_INJECTED (R134). The last sample of the last tile-step is injected and the pass enters MERGING, sending the end marker if no pass follows. -/
  | passInjected (ply : Nat)
  /-- MERGE_DONE (R134). The last drained entry of a pass is merged, and the pass goes to COMMITTING, REPLAYING or WAITING. -/
  | mergeDone (ply : Nat)
  /-- REPLAY_DONE (R136). The last replay entry of a speculative pass is merged and the pass enters COMMITTING. -/
  | replayDone (ply cycles : Nat)
  /-- PASS_COMMIT (R137). The commit steps of a pass complete: autos are added, the pass record is formed and the working copy goes to write-back or dump. -/
  | passCommit (ply t : Nat)
  /-- BUFFER_RELEASE (R134). The write-back or dump of a committed pass has left its creel buffer and the buffer is released. -/
  | bufferRelease (ply : Nat)
  /-- DUMP_STATE_WRITE (R153). Once a store dump's data is visible at its destination, the part writes the slot header with STATE 1. -/
  | dumpStateWrite
  /-- TEST_START (R125). KNOT_CTL.TEST_START starts a self-test of an uncovered knot, or is refused. -/
  | testStart (knot seed : Nat)
  /-- TEST_ABORT (R126). KNOT_CTL.TEST_ABORT aborts a running self-test and sets TEST_ABORTED. -/
  | testAbort (knot : Nat)
  /-- SELF_TEST_DONE (R125). A knot self-test ends after 4,160 cycles and sets TEST_PASS or TEST_FAIL with KNOT_TEST_RESULT. -/
  | selfTestDone (knot : Nat) (cells : List Nat) (t : Nat)
  /-- TEST_POWER (R127). A write of SECTION_CTL.TEST_POWER keeps a section powered or releases it. -/
  | testPower (sect : Nat) (on : Bool)
  /-- SECTION_POWER_GOOD (R122). Power good arrives for a powering section, which zeroes its registers, releases isolation and starts its clock. -/
  | sectionPowerGood (sect : Nat)
  /-- SECTION_POWER_TIMEOUT (R122). No power good within 100 µs moves a section to FAULT. -/
  | sectionPowerTimeout (sect : Nat)
  /-- POWER_GOOD_LOST (R122). Power good is lost in an ON or DRAINING section, which enters FAULT. -/
  | powerGoodLost (sect : Nat)
  /-- SECTION_DRAINED (R122). A draining section has delivered every drain entry and access, and turns OFF. -/
  | sectionDrained (sect : Nat)
  /-- SUBMIT (R164). FOX_BATCH_CTL.SUBMIT starts the read and check of a delay-model batch, or is ignored while PENDING. -/
  | foxSubmit
  /-- BATCH_CHECKED (R164). The check of a model batch ends: it is accepted and classified, or refused with an ERR code. -/
  | batchChecked (ext : List Byte) (t : Nat)
  /-- FOX_CLEAR (R165). FOX_CTL.CLEAR discards every stored model while no Draft runs. -/
  | foxClear
  /-- INTERVAL_IN_USE (R166). A Fox interval comes into use and Fox begins computing the interval two ahead. -/
  | intervalInUse (late : List Nat) (t : Nat)
  /-- TABLE_COMPLETE (R169). Fox finishes computing the tables of an interval. -/
  | tableComplete (interval : Nat)
  /-- FOX_STALE_POP (R171). FOX_STALE_CTL.POP removes the oldest queued stale record. -/
  | foxStalePop
  /-- RETRACTION_SEND (R172). A retraction record for excluded beam source slots is sent to the destination that carried the samples. -/
  | retractionSend (dest n t : Nat)
  /-- WITHDRAWAL_WRITE (R175). A withdrawal record for a mark whose evidence has an excluded source is written into each capture stream holding it. -/
  | withdrawalWrite (t : Nat)
  /-- SETTLED_WRITE (R176). Once a span is final and its tap samples are evaluated, a SETTLED record is written into every running capture stream. -/
  | settledWrite (t : Nat)
  /-- BEAM_PASS_START (R182). A queued beam pass starts injecting, decided settled or speculative, queuing PRIOR records if settled with exclusions. -/
  | beamPassStart (ply t : Nat)
  /-- BEAM_COMPLETE (R180). A beam's samples of a pass are complete and it begins to emit voltage or detected samples. -/
  | beamComplete (ply beam t : Nat)
  /-- BEAM_PASS_EMITTED (R182). The last frame or page of every beam of a pass has left and the beam-sum buffer is released. -/
  | beamPassEmitted (ply : Nat)
  /-- STEERING_BUILD_DONE (R184). The build of a steering matrix into its buffer completes, releasing passes held for it. -/
  | steeringBuildDone (ply cycles : Nat)
  /-- BEAM_PAGE_HEADER (R189). Once a beam or retraction page's content is visible, the part writes its page header. -/
  | beamPageHeader (t : Nat)
  /-- NOP (R209). Spindle instruction that does nothing. -/
  | nop (spin t : Nat)
  /-- RPT (R215). Spindle instruction that repeats the next instruction 1 to 65,536 times. -/
  | rpt (spin t : Nat)
  /-- JMP (R209). Spindle jump to a target word. -/
  | jmp (spin t : Nat)
  /-- BR (R209). Spindle conditional branch on a scalar register. -/
  | br (spin t : Nat)
  /-- JAL (R209). Spindle jump that saves the return address in S15. -/
  | jal (spin t : Nat)
  /-- JR (R209). Spindle jump to the address held in a scalar register. -/
  | jr (spin t : Nat)
  /-- BLK (R209). Spindle instruction that closes the current block, checking its push count and waiting for its pushes to enter the OUT FIFO. -/
  | blk (spin t : Nat)
  /-- EVT (R209). Spindle instruction that writes a code to SPIN_FAULT.PCODE and sets PROG_EVT. -/
  | evt (spin t : Nat)
  /-- SALU (R209). Spindle scalar register arithmetic or logic. -/
  | salu (spin t : Nat)
  /-- SALUI (R209). Spindle scalar arithmetic or logic with an immediate. -/
  | salui (spin t : Nat)
  /-- SSH (R209). Spindle scalar shift. -/
  | ssh (spin t : Nat)
  /-- SMUL (R209). Spindle scalar multiply. -/
  | smul (spin t : Nat)
  /-- SGET (R211). Spindle instruction that reads a named spindle value into a scalar register. -/
  | sget (spin t : Nat)
  /-- ASET (R209). Spindle instruction that sets an address, control or offset register. -/
  | aset (spin t : Nat)
  /-- AGET (R209). Spindle instruction that reads an address, control or offset register. -/
  | aget (spin t : Nat)
  /-- LDS (R210). Spindle scalar load from local memory. -/
  | lds (spin t : Nat)
  /-- STS (R210). Spindle scalar store to local memory. -/
  | sts (spin t : Nat)
  /-- VLD (R210). Spindle vector load from local memory. -/
  | vld (spin t : Nat)
  /-- VST (R210). Spindle vector store to local memory. -/
  | vst (spin t : Nat)
  /-- VLDB (R210). Spindle load of one word broadcast to every lane. -/
  | vldb (spin t : Nat)
  /-- PIN (R203). Spindle pop from stream port 0 or 2 into a vector register or local memory. -/
  | pin (spin t : Nat)
  /-- POUT (R203). Spindle push to stream port 1 or 3 from a vector register or local memory. -/
  | pout (spin t : Nat)
  /-- PSEEK (R207). Spindle instruction that sets the spill position of port 2 or 3. -/
  | pseek (spin t : Nat)
  /-- VADD (R216). Spindle vector add with saturation. -/
  | vadd (spin t : Nat)
  /-- VSUB (R216). Spindle vector subtract with saturation. -/
  | vsub (spin t : Nat)
  /-- VBF (R209). Spindle butterfly into an even register pair. -/
  | vbf (spin t : Nat)
  /-- VMUL (R216). Spindle vector complex multiply. -/
  | vmul (spin t : Nat)
  /-- VSHR (R216). Spindle vector arithmetic shift right. -/
  | vshr (spin t : Nat)
  /-- VSHL (R209). Spindle vector shift left with saturation. -/
  | vshl (spin t : Nat)
  /-- VPERM (R209). Spindle vector permutation, conjugation or negation. -/
  | vperm (spin t : Nat)
  /-- VBCS (R209). Spindle broadcast of a scalar register to every lane. -/
  | vbcs (spin t : Nat)
  /-- VCVT (R209). Spindle conversion between int16 and float32 lanes. -/
  | vcvt (spin t : Nat)
  /-- VLUT (R209). Spindle lookup through an OUT_WIDTH 16 curve. -/
  | vlut (spin t : Nat)
  /-- VMAC (R198). Spindle multiply-accumulate into an accumulator. -/
  | vmac (spin t : Nat)
  /-- VMACP (R218). Spindle pair multiply-accumulate with real coefficients from local memory. -/
  | vmacp (spin t : Nat)
  /-- VACR (R209). Spindle readout of an accumulator with shift and saturation. -/
  | vacr (spin t : Nat)
  /-- VACL (R198). Spindle clear of an accumulator and its lane status. -/
  | vacl (spin t : Nat)
  /-- VSRCH (R222). Spindle minimum or maximum search within a vector or across a repeat. -/
  | vsrch (spin t : Nat)
  /-- VSTAT (R221). Spindle integer statistics into tally records. -/
  | vstat (spin t : Nat)
  /-- VSTATF (R221). Spindle float statistics into an accumulator pair. -/
  | vstatf (spin t : Nat)
  /-- VRQS (R220). Spindle statistics, requantisation and auto in one operation. -/
  | vrqs (spin t : Nat)
  /-- VNCO (R219). Spindle rotation and gain formed from phase memory. -/
  | vnco (spin t : Nat)
  /-- STALL_RESUME (R215). A stalled spindle instruction or repeat iteration resumes once its port, tally record or host cycle allows. -/
  | stallResume (spin t : Nat)
  /-- FLUSH_LATE (R201). 900 µs after a span ends without its closing BLK, the bank flushes the tally as it stands and excludes the spindle's slots. -/
  | flushLate (spin t : Nat)
  /-- IN_VECTOR (R204). A decoded vector arrives at a spindle's IN FIFO, or voids its block when the FIFO is full. -/
  | inVector (spin t : Nat)
  /-- SWAP (R224). SPIN_CTL.SWAP requests a swap to the valid inactive bank at the next BLK, or is refused. -/
  | spinSwap (spin : Nat)
  /-- FORCE_SWAP (R225). SPIN_CTL.FORCE_SWAP aborts the running image at once, voids the block and starts loading the new image. -/
  | spinForceSwap (spin t : Nat)
  /-- FORCED_IMAGE_START (R225). After a forced swap's memory fill, the new image starts at its ENTRY at the next block boundary. -/
  | forcedImageStart (spin t : Nat)
  /-- SPIN_PROG_DATA (R223). A write of SPIN_PROG_DATA stores a word in the addressed program bank and advances WORD, or is refused. -/
  | spinProgData (spin word : Nat)
  /-- PROG_COMMIT (R223). SPIN_PROG_ENTRY with COMMIT marks the inactive bank VALID with its entry word. -/
  | progCommit (spin entry : Nat)
  /-- SPIN_LMEM_DATA (R199). A host access of SPIN_LMEM_DATA reads or writes a local-memory word in a free cycle and advances the address. -/
  | spinLmemData (spin value : Nat) (write : Bool)
  /-- SPIN_GAIN_DATA (R202). A host write of SPIN_GAIN_DATA changes one gain atomically and advances the index. -/
  | spinGainData (spin value : Nat)
  /-- ZOOM_SAMPLE (R236). A zoom engine accepts a coarse sample of each position, and at a decimation instant forms and emits the 64 outputs. -/
  | zoomSample (engine t : Nat)
  /-- SWAP_ARM (R242). ZOOM_CTL.SWAP_ARM arms a coefficient-bank swap at ZOOM_SWAP_TIME. -/
  | swapArm (engine t : Nat)
  /-- SWAP_CANCEL (R242). ZOOM_CTL.SWAP_CANCEL disarms an armed coefficient swap. -/
  | swapCancel (engine : Nat)
  /-- ZOOM_SWAP (R242). The first output at or after the swap time is formed with the new bank, which becomes active. -/
  | zoomSwap (engine t : Nat)
  /-- ZOOM_COEF_DATA (R241). A write of ZOOM_COEF_DATA stores a coefficient in the inactive bank, or is refused. -/
  | zoomCoefData (engine value : Nat)
  /-- SIGNAL_PRESENT (R260). Signal present for 10 µs moves a receiver from NO_SIGNAL to ADAPT. -/
  | signalPresent (lane t : Nat)
  /-- ADAPT_DONE (R260). Receiver adaptation converges and the receiver enters HUNT. -/
  | adaptDone (lane eye ctle : Nat) (taps : List Nat) (t : Nat)
  /-- COMMA_FOUND (R260). In HUNT a comma is seen at some bit offset, fixing alignment and entering VERIFY. -/
  | commaFound (lane t : Nat)
  /-- COMMA_INTERVAL (R260). At each expected comma place the receiver advances, keeps or loses lock according to whether a comma is found. -/
  | commaInterval (lane blk reads t : Nat)
  /-- HEADER_ERROR_LIMIT (R260). 64 invalid headers within one comma interval move a locked receiver to HUNT. -/
  | headerErrorLimit (lane t : Nat)
  /-- SIGNAL_LOST (R260). Signal absence is detected within 1 µs and the receiver returns to NO_SIGNAL. -/
  | signalLost (lane t : Nat)
  /-- RELOCK (R260). LANE_CTL.RELOCK restarts the receiver from ADAPT. -/
  | laneRelock (lane : Nat)
  /-- BLOCK_RECEIVE (R261). A locked receiver takes a 130-bit block, checks its header and passes it through the elastic buffer to the frame unit. -/
  | blockReceive (lane blk reads t : Nat)
  /-- TX_BLOCK (R259). A transmitter sends its next block: comma, filler, data, CREDIT or IDLE per the schedule. -/
  | txBlock (lane t : Nat)
  /-- LANE_TX_FFE (R251). A write of LANE_TX_FFE sets new transmit taps that apply from the next comma block. -/
  | laneTxFfe (lane pre post : Nat)
  /-- HANK_CTL (R248). A write of HANK_CTL sets a hank's role, rate and lanes, restarting changed directions from OFF. -/
  | hankCtl (hank value t : Nat)
  /-- HANK_PLL_LOCK (R263). A hank transmit PLL locks and its transmitters start with block 0. -/
  | hankPllLock (hank t : Nat)
  /-- HANK_PLL_TIMEOUT (R263). A hank PLL that does not lock within 1 ms silences its transmitters and sets PLL_FAULT. -/
  | hankPllTimeout (hank t : Nat)
  /-- HANK_PLL_LOSS (R263). A hank PLL loses lock, silencing its transmitters. -/
  | hankPllLoss (hank t : Nat)
  /-- FRAME_HEADER (R271). A frame header arrives and the frame unit checks, classifies and places it, accepting or discarding it. -/
  | frameHeader (lane t : Nat)
  /-- FRAME_TRAILER (R271). A frame's trailer arrives and its FCRC verdict is given, excluding the slot with class 1 on failure. -/
  | frameTrailer (lane t : Nat)
  /-- FRAME_TRUNCATED (R276). A frame is truncated by the end of its run or by 900 µs without a trailer. -/
  | frameTruncated (lane t : Nat)
  /-- CREDIT_RECEIVE (R287). A CREDIT block arrives and the transmitter adopts its limits and epoch. -/
  | creditReceive (lane t : Nat)
  /-- CREDIT_SEND (R289). A receiving lane sends a CREDIT block after freeing units, an epoch change or each comma interval. -/
  | creditSend (lane t : Nat)
  /-- FRAME_TRANSMIT (R286). At a frame boundary a transmit lane picks the next frame by class and credit and sends it. -/
  | frameTransmit (lane t : Nat)
  /-- CLASS_DRAIN_DONE (R278). The last frame of a superseded classification generation finishes and CLASS_STATUS.DRAIN falls. -/
  | classDrainDone (t : Nat)
  /-- FRAME_GAP_POP (R275). FRAME_GAP_CTL.POP removes the oldest gap record. -/
  | frameGapPop
  /-- MESH_REQUEST (R283). A mesh request or store frame is served as a read, write or flush against the target store. -/
  | meshRequest (lane t : Nat)
  /-- COMPLETION_RECEIVE (R284). A completion arrives and ends its outstanding request, or is discarded if unmatched. -/
  | completionReceive (lane t : Nat)
  /-- NP_TIMEOUT (R284). A non-posted request with no completion after 1 ms completes locally with status 3. -/
  | npTimeout (t : Nat)
  /-- ANNOUNCE_SEND (R294). An announce frame is sent after lock and every 1 ms on mesh, mirror and far-store lanes. -/
  | announceSend (lane t : Nat)
  /-- ANNOUNCE_RECEIVE (R294). A received announce records the sender and may raise a node-byte conflict. -/
  | announceReceive (lane t : Nat)
  /-- MESH_ARM (R296). MESH_CTL.ARM arms a layout change at MESH_NEXT_TIME, or is refused. -/
  | meshArm (t : Nat)
  /-- MESH_CANCEL (R296). MESH_CTL.CANCEL disarms a layout change. -/
  | meshCancel
  /-- LAYOUT_APPLY (R296). The armed layout is copied into MESH_LAYOUT at its instant. -/
  | layoutApply (t : Nat)
  /-- MESH_OPERAND (R299). A received mesh operand frame is written into the corner-turn buffer. -/
  | meshOperand (lane t : Nat)
  /-- SUMMARY_RECEIVE (R300). A summary frame gives a home node's exclusions for a channel and span. -/
  | summaryReceive (lane t : Nat)
  /-- SUMMARY_TIMEOUT (R300). A summary not arrived F after the span ends excludes the sender's slots with class 9. -/
  | summaryTimeout (span t : Nat)
  /-- NODE_LOST (R302). Every lane to a node has left LOCKED and the node is declared lost within 10 µs. -/
  | nodeLost (node t : Nat)
  /-- HEARTBEAT_SEND (R312). A side or arbiter sends a heartbeat every 100 µs. -/
  | heartbeatSend (t : Nat)
  /-- HEARTBEAT_RECEIVE (R314). A heartbeat arrives and renews, grants or vouches for a lease. -/
  | heartbeatReceive (lane t : Nat)
  /-- ARBITER_TIMEOUT (R314). 300 µs without the holder's heartbeat makes the arbiter grant the other ready side. -/
  | arbiterTimeout (t : Nat)
  /-- LEASE_END (R313). Array time reaches LEASE_END − G and the active side fences. -/
  | leaseEnd (t : Nat)
  /-- PAIR_GRANT_END (R312). A write of PAIR_GRANT_END_HI delivers a host-software grant. -/
  | pairGrantEnd (hi t : Nat)
  /-- MIRROR_RECORD (R306). A standby applies a mirror record in MSEQ order, or detects a mirror gap. -/
  | mirrorRecord (lane t : Nat)
  /-- EMITTED_SEND (R308). The active side sends EMITTED records for each destination every 100 µs. -/
  | emittedSend (t : Nat)
  /-- RESYNC (R311). PAIR_CTL.RESYNC starts a resync from STANDBY or SYNCING. -/
  | pairResync
  /-- RESYNC_RECORD (R311). A RESYNC record is received: a request, a snapshot end or a refusal. -/
  | resyncRecord (lane : Nat) (agree : Bool) (t : Nat)
  /-- SOLO (R321). PAIR_CTL.SOLO makes the side leave pairing. -/
  | pairSolo
  /-- STANDBY_SELF_TEST (R310). A standby starts a knot self-test on the next uncovered knot every 100 µs. -/
  | standbySelfTest (t : Nat)
  /-- BADGER_WATCHDOG (R320). The den watchdog expires and the standby Badger core takes over. -/
  | badgerWatchdog (t : Nat)
  /-- RESTART (R320). PAIR_BADGER.RESTART restarts the failed core as standby. -/
  | badgerRestart
  /-- MEM_COMMAND_CYCLE (R331). Each pseudo-channel schedules a refresh or request command in a command cycle. -/
  | memCommandCycle (site pch cyc t banks err : Nat) (refreshDue : Bool)
  /-- RD_WINDOW (R333). A 32 ms row-disturbance window ends and the trackers restart. -/
  | rdWindow (site t : Nat)
  /-- THROTTLE_END (R334). A port throttle's duration ends. -/
  | throttleEnd (port : Nat)
  /-- SITE_POWER_GOOD (R335). A stack site reaches power good and enters TRAINING. -/
  | sitePowerGood (site t : Nat) (verify : Bool)
  /-- SITE_POWER_TIMEOUT (R335). A site without power good within 10 ms enters FAULT. -/
  | sitePowerTimeout (site : Nat)
  /-- PROBE (R336). MEM_TRAIN_CMD.PROBE drives a training pattern at the delays in force. -/
  | memProbe (site : Nat)
  /-- PROBE_DONE (R336). A probe ends and reports per-line pass bits. -/
  | probeDone (site pass : Nat)
  /-- MEM_TRAIN_DLY (R336). A write of MEM_TRAIN_DLY sets one or all line delays, or is ignored outside TRAINING. -/
  | memTrainDly (site dly : Nat) (all : Bool)
  /-- TRAIN_COMMIT (R335). MEM_CTL.TRAIN_COMMIT commits the delays, extends slot 4 and starts the sweep. -/
  | trainCommit (site t : Nat)
  /-- TRAIN_FAIL (R335). MEM_CTL.TRAIN_FAIL puts the site in FAULT. -/
  | trainFail (site : Nat)
  /-- SWEEP_DONE (R345). A site finishes writing every unit with zeros and becomes READY. -/
  | sweepDone (site t : Nat)
  /-- TEMP_REPORT (R339). A stack reports its temperature every 1 ms and the refresh multiplier follows the curve. -/
  | tempReport (site t : Nat) (temp : Int)
  /-- PATROL_SCRUB (R340). The patrol scrub reads and corrects the next written location. -/
  | patrolScrub (site err : Nat)
  /-- RETIRE (R343). MEM_CTL.RETIRE retires a rank and starts migration to the spare. -/
  | memRetire (site sid t : Nat)
  /-- MIGRATION_DONE (R344). Every watermark reaches the end of the rank and the spare is in use. -/
  | migrationDone (site : Nat)
  /-- SHED_LEVEL_CHANGE (R346). A site's shed level moves on pressed requests, temperature and its 10 µs and 1 ms timers. -/
  | shedLevelChange (site row t : Nat)
  /-- STORE_ACCESS (R353). A translated requester access is looked up in the map cache and served on its target. -/
  | storeAccess (port addr len : Nat) (write : Bool) (data : List Byte) (bad : Bool) (ext : List Byte) (t : Nat)
  /-- WALK_DONE (R361). A map walk after a cache miss completes with a target or a walk fault. -/
  | walkDone (n : Nat) (bad : Bool) (ext : List Byte) (t : Nat)
  /-- INV_GO (R362). STORE_INV.GO invalidates cached translations of one generation. -/
  | invGo (gen : Nat)
  /-- INV_ALL (R362). STORE_INV.ALL invalidates every cached translation. -/
  | invAll
  /-- INV_DONE (R362). Accesses and walks in flight at an invalidate have completed and INV_BUSY falls. -/
  | invDone
  /-- MAP_BUILD_DONE (R358). The map build from MEMPLAN completes. -/
  | mapBuildDone
  /-- STORE_OPEN (R363). Every site is READY and sweeps and builds are done, so the store opens. -/
  | storeOpen
  /-- STORE_FAULT_POP (R367). STORE_FAULT_CTL.POP removes the oldest fault record. -/
  | storeFaultPop
  /-- BAR2_REQUEST (R369). A BAR2 request is divided into segments and served through the store map. -/
  | bar2Request (write : Bool) (off len : Nat) (data : List Byte) (bad : Bool) (ext : List Byte) (t : Nat)
  /-- REF_GATE (R375). A 100 ms gate measures each input's frequency and qualifies or disqualifies it. -/
  | refGate (gates : List (Nat × Nat)) (ticks : List Nat) (t : Nat)
  /-- REF_EDGE_LOSS (R375). An input with no edge for 1 µs is disqualified. -/
  | refEdgeLoss (cycle : RefCycle) (t : Nat)
  /-- WTR_TICK (R375). A second of wait-to-restore elapses, qualifying the input when it reaches zero. -/
  | wtrTick (code t : Nat)
  /-- PPS_EDGE (R376). A PPS rising edge qualifies its input and measures the phase offset. -/
  | ppsEdge (pps ns t : Nat)
  /-- PPS_MISSING (R376). No PPS edge within 1 s + PPS_WIN disqualifies the PPS. -/
  | ppsMissing (pps t : Nat)
  /-- FREQ_LOCK (R378). Frequency held within 1 ppb for 1 s moves ACQUIRE to LOCKED or SWITCHING. -/
  | freqLock (t : Nat)
  /-- PULL_DONE (R379). The remaining phase offset of a pull reaches 1 ns. -/
  | pullDone (t : Nat)
  /-- TIME_SET (R380). A write of TIME_SET_HI sets array time, at once or at the next PPS edge. -/
  | timeSet (hi t : Nat)
  /-- TIME_STEP (R380). A write of TIME_STEP_HI steps array time or adds to a pull. -/
  | timeStep (hi t : Nat)
  /-- TIME_NET_ADJ (R381). A write of TIME_NET_ADJ delivers a network correction. -/
  | timeNetAdj (value t : Nat)
  /-- NET_TIMEOUT (R381). The network source stops being live after its timeout. -/
  | netTimeout (t : Nat)
  /-- XO_FAULT (R378). TB_XO shows no edge for 1 µs and the timebase holds FREERUN. -/
  | xoFault (t : Nat)
  /-- BEACON_SEND (R383). A time beacon is sent every 1 ms on mesh and mirror lanes. -/
  | beaconSend (lane t : Nat)
  /-- BEACON_RECEIVE (R383). A time beacon arrives and its offset is recorded. -/
  | beaconReceive (lane arrival t : Nat)
  /-- BEACON_CHOICE (R383). Each second the part chooses the beacon to follow and delivers its mean offset as a correction. -/
  | beaconChoice (t : Nat)
  /-- TRIGOUT_ARM (R386). TRIGOUT_CTL.ARM arms a single or periodic pulse schedule, or is refused. -/
  | trigoutArm (unit t : Nat)
  /-- TRIGOUT_CANCEL (R386). TRIGOUT_CTL.CANCEL disarms after the pulse in progress. -/
  | trigoutCancel (unit : Nat)
  /-- TRIGOUT_PULSE (R386). Array time reaches a scheduled instant and a TRIGOUT pulse fires. -/
  | trigoutPulse (unit t : Nat)
  /-- TRIGIN_EDGE (R387). A rising edge on TRIGIN is stamped and queued. -/
  | triginEdge (pin t : Nat)
  /-- TRIGIN_POP (R387). TRIGIN_CTL.POP removes the oldest stamp. -/
  | triginPop
  /-- DEN_TICK (R384). In D2 the den advances array time by 320 ns per tick. -/
  | denTick
  /-- DEN_PPS_EDGE (R384). In D2 a PPS edge near the expected instant sets the den's fraction. -/
  | denPpsEdge (pps : Nat)
  /-- TAP_SAMPLE (R394). A trigger unit evaluates a tap sample, updating detectors and taking a transition. -/
  | tapSample (unit t : Nat)
  /-- CAP_WPTR_ADVANCE (R404). Once written records are visible, CAP_WPTR advances to their end. -/
  | capWptrAdvance (stream t : Nat)
  /-- CAPTURE_FRAME_SEND (R405). A capture frame is sent when full or 100 µs after its first record. -/
  | captureFrameSend (stream t : Nat)
  /-- FRAME_SKIP (R405). A record not sent within 1 ms is skipped with those queued with it. -/
  | frameSkip (stream t : Nat)
  /-- REGISTER_WRITE (R14). A write to a register that has no row of its own, including W1C and W1S fields. -/
  | registerWrite (master off : Nat) (w : BusWrite) (t : Nat)
  /-- RC_READ (R16). A read of a register holding read-clear fields returns them and clears them. -/
  | rcRead (master off t : Nat)
  /-- LATCHED_LOW_READ (R13). A read of the low word of a register pair loads the master's latch with the high word. -/
  | latchedLowRead (master off t : Nat)
  /-- GROUP_WRITE (R411). A group-aperture write is delivered to every member in ascending order. -/
  | groupWrite (master off : Nat) (w : BusWrite) (t : Nat)
  /-- GROUP_READ (R412). A group-aperture read returns the OR over members without side effects. -/
  | groupRead (master off t : Nat)
  /-- ACQUIRE (R416). XBAR_LOCK.ACQUIRE requests a lock on a target. -/
  | lockAcquire (master target t : Nat)
  /-- LOCK_GRANT (R416). The lock is granted once no other master's request to the target is in progress. -/
  | lockGrant (master t : Nat)
  /-- RELEASE (R416). XBAR_LOCK.RELEASE releases the held lock. -/
  | lockRelease (master t : Nat)
  /-- LOCK_EXPIRY (R416). A lock held for XBAR_LOCK_LIMIT is released by the part. -/
  | lockExpiry (master t : Nat)
  /-- XBAR_TIMEOUT (R417). A crossbar request without response for 2 ms completes with an error. -/
  | xbarTimeout (master off t : Nat) (write : Bool)
  /-- DMA_ARM (R423). DMA_CTL.ARM starts a channel at DMA_DESC. -/
  | dmaArm (chan : Nat)
  /-- DMA_DISABLE (R424). DMA_CTL.DISABLE drops everything at once. -/
  | dmaDisable (chan : Nat) (ext : List Byte) (bad : List Nat) (t : Nat)
  /-- DESCRIPTOR_FETCH (R419). A fetched descriptor is checked and its move begins. -/
  | descriptorFetch (chan : Nat) (ext : List Byte) (bad : Bool) (t : Nat)
  /-- DESCRIPTOR_COMPLETE (R421). A descriptor completes, writing back status and fetching the next or finishing the chain. -/
  | descriptorComplete (chan : Nat) (ext : List Byte) (bad : List Nat) (t : Nat)
  /-- DMA_FAILURE (R422). A segment or descriptor access completes with an error and the channel stops in ERROR. -/
  | dmaFailure (chan err moved : Nat) (ext : List Byte) (bad : List Nat) (t : Nat)
  /-- INIT (R426). CHECK_CTL.INIT loads the initial value and clears the alive history. -/
  | checkInit (unit : Nat)
  /-- CHECK_DATA (R426). A write of CHECK_DATA feeds bytes into a check-value unit. -/
  | checkData (unit word : Nat)
  /-- CHECK_ALIVE_IN (R427). A write of CHECK_ALIVE_IN checks an alive counter for repeat or jump. -/
  | checkAliveIn (unit value : Nat)
  /-- CHECK_STATE (R428). A write of CHECK_STATE loads the running register. -/
  | checkState (unit : Nat) (high : Bool) (word : Nat)
  /-- EVT_PEND (R429). A W1C write of EVT_PEND clears pending bits, re-raising any whose level is still 1. -/
  | evtPend (word value : Nat)
  /-- MSIX_UNMASK (R432). Clearing a vector mask, the Function Mask, or setting MSI-X Enable sends messages for pending vectors. -/
  | msixUnmask (which : Nat) (value : Bool)
  /-- BAR0_REQUEST (R436). A PCIe BAR0 request is served as a register access or refused. -/
  | bar0Request (write : Bool) (off len enables value t : Nat)
  /-- COMPLETION_TIMEOUT (R437). A read to host memory with no completion in 10 ms ends with status 3. -/
  | completionTimeout (read : HostRead) (t : Nat)
  /-- LINK_DOWN (R438). The PCIe link is lost and host targets go offline. -/
  | linkDown
  /-- LINK_UP (R438). The PCIe link trains and pending unmasked vectors are signalled. -/
  | linkUp (speed width : Nat)
  /-- FN_RESET (R438). PERST_N, hot reset or FLR resets the PCIe block only. -/
  | fnReset
  /-- D3HOT (R438). The function enters D3hot and BAR decoding stops. -/
  | d3hot (on : Bool)
  /-- MGMT_RECEIVE (R440). A management frame is received, filtered and dispatched by EtherType. -/
  | mgmtReceive (frame : List Byte) (ok : Bool) (held t : Nat)
  /-- MGMT_TRANSMIT (R444). The MAC takes the next frame from its queues and transmits it. -/
  | mgmtTransmit (ptp other : List Byte) (t : Nat)
  /-- COLLISION (R439). A collision during transmission starts back-off or abandons the frame. -/
  | collision (t : Nat)
  /-- BACKOFF_EXPIRY (R439). The back-off time ends and the MAC retries. -/
  | backoffExpiry (t : Nat)
  /-- REGISTER_REQUEST (R443). A register-request command packet is served and answered. -/
  | registerRequest (late : List Nat) (t : Nat)
  /-- MGMT_TS_POP (R445). MGMT_TS_CTL.POP removes the oldest stamp of a direction. -/
  | mgmtTsPop (dir : Nat)
  /-- SCP_WRITE (R446). An SCP WRITE transaction writes each complete data word to a register. -/
  | scpWrite (cmd : Nat) (words : List Nat) (t : Nat)
  /-- SCP_READ (R446). An SCP READ transaction reads COUNT words into the read buffer. -/
  | scpRead (cmd : Nat) (words : List Nat) (t : Nat)
  /-- SCP_FETCH (R446). An SCP FETCH returns status and the ready read words. -/
  | scpFetch (cmd words t : Nat)
  /-- SCP_SEL_RISE (R447). SCP_SEL_N rises and ends the transaction, discarding any partial word. -/
  | scpSelRise (nbits : Nat)
  /-- FLASH_GO (R448). FLASH_CTL.GO issues a flash command. -/
  | flashGo (t : Nat)
  /-- FLASH_DONE (R448). A flash command completes. -/
  | flashDone (data : List Byte)
  /-- FLASH_TIMEOUT (R448). A flash command not ended in 10 ms is abandoned. -/
  | flashTimeout (t : Nat)
  /-- MON_FRAME (R449). A monitor port sends one frame of eight slots. -/
  | monFrame (port t : Nat)
  /-- MON_BLOCK (R449). A monitor block boundary latches its time and applies pending slot changes. -/
  | monBlock (port t : Nat)
  /-- ENTER_D1 (R456). POWER_CTL.GO with TARGET 1 enters D1, or is refused. -/
  | enterD1 (force keep : Bool) (t : Nat)
  /-- ENTER_D2 (R456). POWER_CTL.GO with TARGET 2 starts D2 entry and waits for the Ledger. -/
  | enterD2 (force keep : Bool) (t : Nat)
  /-- WAKE_FROM_D1 (R457). POWER_CTL.GO with TARGET 0 wakes the part from D1. -/
  | wakeFromD1 (master t : Nat) (force keep : Bool)
  /-- LEDGER_DONE (R456). POWER_CTL.LEDGER_DONE lets D2 entry open the rail switches. -/
  | ledgerDone (t : Nat)
  /-- LEDGER_WAIT_TIMEOUT (R456). 100 ms without LEDGER_DONE proceeds into D2 with LEDGER_SKIPPED. -/
  | ledgerWaitTimeout (t : Nat)
  /-- WARM_RESET (R470). POWER_CTL.WARM_RESET performs a warm reset. -/
  | warmReset (t : Nat)
  /-- FW_READY (R458). POWER_CTL.FW_READY completes a wake or weave-up to D0. -/
  | fwReady (t : Nat)
  /-- WAKE_TIME (R457). Array time reaches POWER_WAKE_TIME and the part wakes. -/
  | wakeTime (t : Nat)
  /-- DEN_WAKE_N (R457). DEN_WAKE_N held low for 1 µs wakes the part. -/
  | denWakeN (t : Nat)
  /-- WAKE_FRAME (R457). A wake frame on the management port wakes the part. -/
  | wakeFrame (frame : List Byte) (ok : Bool) (t : Nat)
  /-- SCP_SEL_FALL (R457). In D2 any fall of SCP_SEL_N wakes the part. -/
  | scpSelFall (t : Nat)
  /-- PERST_RISE (R457). In D2 a rising edge of PERST_N wakes the part. -/
  | perstRise (t : Nat)
  /-- SUPPLY_FAULT (R466). A rail outside its limits for 10 µs asserts FAULT_N and enters D2. -/
  | supplyFault (rail t : Nat)
  /-- CAUSE_CLEAR (R466). POWER_CAUSE.CLEAR clears the cause and releases FAULT_N. -/
  | causeClear
  /-- HP_EN_FALL (R467). HP_EN falls and every output is quieted within 1 µs. -/
  | hpEnFall (t : Nat)
  /-- HP_EN_RISE (R467). HP_EN rises and outputs are released 10 µs later. -/
  | hpEnRise (t : Nat)
  /-- TEMP_SAMPLE (R468). Die, stack and den sensors report every 1 ms, raising warnings or a thermal trip. -/
  | tempSample (die stack den : Int) (t : Nat)
  /-- POR_N_ASSERT (R466). POR_N asserted puts the part in D3. -/
  | porNAssert
  /-- POR_N_RELEASE (R489). POR_N release starts weave-up. -/
  | porNRelease (t : Nat)
  /-- RAILS_GOOD (R489). The switched rails are closed with power good and PLLs lock. -/
  | railsGood (t : Nat)
  /-- CREEL_SWEEP_DONE (R489). The creel sweep to zero completes. -/
  | creelSweepDone
  /-- IMAGE_FETCHED (R491). A firmware image has been read and checked, starting Badger or trying the secondary image. -/
  | imageFetched (image : List Byte) (t : Nat)
  /-- BOOT_RETRY (R491). SYS_BOOT.RETRY restarts the firmware fetch after both images failed. -/
  | bootRetry
  /-- SPDM_REQUEST (R475). An SPDM request arrives over DOE, MCTP or the mailbox and is accepted for signing. -/
  | spdmRequest (transport : Nat) (req : List Byte)
  /-- SPDM_RESPONSE (R477). The signing engine completes a response. -/
  | spdmResponse
  /-- MBOX_GO (R477). TRUST_MBOX_CTL.GO submits a mailbox SPDM request. -/
  | mboxGo (len : Nat)
  /-- TRUST_MBOX_DATA (R477). An access of TRUST_MBOX_DATA appends request bytes or returns response bytes. -/
  | trustMboxData (master value : Nat) (write : Bool)
  /-- UPDATE (R480). TRUST_FW_CTL.UPDATE starts a live firmware update. -/
  | fwUpdate (t : Nat)
  /-- IMAGE_LOADED (R480). The update image is loaded and hashed, or fails its checks. -/
  | imageLoaded (ext : List Byte) (t : Nat)
  /-- READY (R480). TRUST_FW_CTL.READY reports a starting core ready. -/
  | fwReadyCore (t : Nat)
  /-- YIELD (R480). TRUST_FW_CTL.YIELD hands service to the new core. -/
  | fwYield (t : Nat)
  /-- FW_START_TIMEOUT (R480). A core not READY within 150 ms ends the update with an error. -/
  | fwStartTimeout (t : Nat)
  /-- HANDOVER_TIMEOUT (R480). 1 ms in HANDOVER without YIELD completes the handover. -/
  | handoverTimeout (t : Nat)
  /-- LEDGER_COMMIT (R482). LEDGER_CTL.COMMIT writes the live image to the next copy. -/
  | ledgerCommit (t : Nat)
  /-- COMMIT_DONE (R482). A Ledger commit's read-back check completes or fails over to the next copy. -/
  | commitDone (ok : Bool)
  /-- LEDGER_DATA (R485). An access of LEDGER_DATA reads or writes a live-image word, refusing writes outside writable areas. -/
  | ledgerData (master value : Nat) (write : Bool)
  /-- LEDGER_SAMPLE (R484). Once per second the Ledger histograms take their samples. -/
  | ledgerSample (rails : List Int) (t : Nat)
  /-- PARTNER_LOST (R309). 300 µs pass with no partner heartbeat, so PARTNER_SEEN falls and event 0x14D is raised. -/
  | partnerLost (t : Nat)
  /-- ARBITER_LOST (R315). 300 µs pass with no arbiter heartbeat on a side, so ARB_SEEN falls, event 0x14E is raised and the side may vouch for the holder. -/
  | arbiterLost (t : Nat)
  /-- RECORD_RETRY (R368). Every 1 ms, a retraction page or a withdrawal or SETTLED record whose write failed or was shed is written again until it succeeds. -/
  | recordRetry (unit t : Nat)
deriving DecidableEq, Repr

end Sys2Proof
end

