-- ==== Sys2Proof/WellFormed.lean ====
section
/-!
DEFINITION. Which commands are well formed: every operand lies in the range that the spec gives it. A meaning is total; what it does with
an operand outside its range stands for nothing on the part.
-/

namespace Sys2Proof

/-- A 32-bit word (R13). -/
def okWord (n : Nat) : Bool := decide (n < 4294967296)

/-- 1,024 ply numbers (PASS_PLY_SEL). -/
def okPly (n : Nat) : Bool := decide (n < 1024)

/-- 1,024 knots (R96). -/
def okKnot (n : Nat) : Bool := decide (n < 1024)

/-- An 8-bit value. -/
def okByte (n : Nat) : Bool := decide (n < 256)

/-- 16 sections (R96). -/
def okSection (n : Nat) : Bool := decide (n < 16)

/-- 256 destinations (R405). -/
def okDest (n : Nat) : Bool := decide (n < 256)

/-- 1 to 128 records of a frame (R282). -/
def okRetr (n : Nat) : Bool := decide (1 ≤ n) && decide (n < 129)

/-- 4,096 beam numbers (R180). -/
def okBeam (n : Nat) : Bool := decide (n < 4096)

/-- 512 spindles (R194). -/
def okSpin (n : Nat) : Bool := decide (n < 512)

/-- A word address of a program bank (R223). -/
def okProg (n : Nat) : Bool := decide (n < 4096)

/-- 64 zoom engines (R230). -/
def okEngine (n : Nat) : Bool := decide (n < 64)

/-- 96 lanes (R246). -/
def okLane (n : Nat) : Bool := decide (n < 96)

/-- A block of 130 bits (R253). -/
def okBlock (n : Nat) : Bool := decide (n < 2 ^ 130)

/-- Values of a transmit tap (R256). -/
def okTap (n : Nat) : Bool := decide (n < 64)

/-- 12 hanks (R246). -/
def okHank (n : Nat) : Bool := decide (n < 12)

/-- 64 node IDs (R293). -/
def okNode (n : Nat) : Bool := decide (n < 64)

/-- A lane, or 96 for the management port (R312). -/
def okBeat (n : Nat) : Bool := decide (n < 97)

/-- 6 stack sites (R323). -/
def okSite (n : Nat) : Bool := decide (n < 6)

/-- 32 pseudo-channels of a site (R325). -/
def okPch (n : Nat) : Bool := decide (n < 32)

/-- 64 banks of a pseudo-channel (R325). -/
def okBanks (n : Nat) : Bool := decide (n < 2 ^ 64)

/-- What a stack access meets (R340 to R342). -/
def okErr (n : Nat) : Bool := decide (n < 5)

/-- 64 requester ports (R329). -/
def okPort (n : Nat) : Bool := decide (n < 64)

/-- 40 lines of a KIND (R336). -/
def okPass (n : Nat) : Bool := decide (n < 2 ^ 40)

/-- A line delay (R336). -/
def okDly (n : Nat) : Bool := decide (n < 128)

/-- A temperature in °C (R339). -/
def okTemp (n : Int) : Bool := decide (-128 ≤ n) && decide (n < 128)

/-- The SIDs that can retire (R343). -/
def okSid (n : Nat) : Bool := decide (n < 3)

/-- Rows of the shed table (R346). -/
def okRow (n : Nat) : Bool := decide (n < 7)

/-- A store address (R353). -/
def okAddr (n : Nat) : Bool := decide (n < 2 ^ 48)

/-- At least one byte. -/
def okLen (n : Nat) : Bool := decide (0 < n)

/-- A byte of BAR2 (R369). -/
def okBar2 (n : Nat) : Bool := decide (n < 2 ^ 36)

/-- A reference input, 1 to 4 (R375). -/
def okRef (n : Nat) : Bool := decide (1 ≤ n) && decide (n < 5)

/-- 2 PPS inputs (R376). -/
def okPps (n : Nat) : Bool := decide (n < 2)

/-- 4 TRIGOUT units (R386). -/
def okUnit4 (n : Nat) : Bool := decide (n < 4)

/-- 4 TRIGIN pins (R387). -/
def okPin (n : Nat) : Bool := decide (n < 4)

/-- 16 trigger or check-value units (R390, R426). -/
def okUnit16 (n : Nat) : Bool := decide (n < 16)

/-- 16 capture streams (R397). -/
def okStream (n : Nat) : Bool := decide (n < 16)

/-- 12 crossbar masters (R413). -/
def okMaster (n : Nat) : Bool := decide (n < 12)

/-- A byte of one half of BAR0 (R408, R409). -/
def okOff (n : Nat) : Bool := decide (n < 2 ^ 26)

/-- 24 targets (R408). -/
def okTarget (n : Nat) : Bool := decide (n < 24)

/-- A byte of BAR0 (R409). -/
def okBar0 (n : Nat) : Bool := decide (n < 2 ^ 27)

/-- 32 DMA channels (R409). -/
def okChan (n : Nat) : Bool := decide (n < 32)

/-- Failures from outside (R422). -/
def okDmaErr (n : Nat) : Bool := decide (2 ≤ n) && decide (n < 5)

/-- A 16-bit value (R427). -/
def okHalf (n : Nat) : Bool := decide (n < 65536)

/-- 32 words of pending bits (R429). -/
def okPendWord (n : Nat) : Bool := decide (n < 32)

/-- A vector, the Function Mask or MSI-X Enable (R432). -/
def okVector (n : Nat) : Bool := decide (n < 66)

/-- Byte enables of a DWORD (R13, R436). -/
def okEnables (n : Nat) : Bool := decide (n < 16)

/-- Link speeds (R435). -/
def okSpeed (n : Nat) : Bool := decide (1 ≤ n) && decide (n < 6)

/-- Link widths (R435). -/
def okWidth (n : Nat) : Bool := decide (1 ≤ n) && decide (n < 17)

/-- Receive or transmit (R445). -/
def okDir (n : Nat) : Bool := decide (n < 2)

/-- Bits of a word cut short (R447). -/
def okBits (n : Nat) : Bool := decide (n < 32)

/-- 4 monitor ports (R449). -/
def okMon (n : Nat) : Bool := decide (n < 4)

/-- Rails as in POWER_SUPPLY (R466). -/
def okRail (n : Nat) : Bool := decide (n < 32)

/-- DOE, MCTP, mailbox (R475). -/
def okTransport (n : Nat) : Bool := decide (n < 3)

/-- Mailbox bytes (R477). -/
def okMbox (n : Nat) : Bool := decide (n < 8192)

/-- A stream, the page header (16), or a destination (R177, R189). -/
def okRetry (n : Nat) : Bool := decide (n < 273)

/-- 32-bit words (R446). -/
def okWords (l : List Nat) : Bool := l.all okWord

/-- Every operand in its range. Operands that describe the world (times, bytes, measured values) are free. -/
def Instr.wf (c : Instr) : Bool :=
  match c with
  | .draftAdmit _ => true
  | .draftStart _ => true
  | .draftStop _ => true
  | .draftAbort => true
  | .draftScpData value => okWord value
  | .checkComplete _ => true
  | .draftRunning _ => true
  | .stoppingEnd _ => true
  | .spanStart _ _ => true
  | .spanFinal _ _ => true
  | .spanDeadline _ _ => true
  | .passStart ply _ => okPly ply
  | .injectionResume ply _ => okPly ply
  | .passInjected ply => okPly ply
  | .mergeDone ply => okPly ply
  | .replayDone ply _ => okPly ply
  | .passCommit ply _ => okPly ply
  | .bufferRelease ply => okPly ply
  | .dumpStateWrite => true
  | .testStart knot seed => okKnot knot && okByte seed
  | .testAbort knot => okKnot knot
  | .selfTestDone knot _ _ => okKnot knot
  | .testPower sect _ => okSection sect
  | .sectionPowerGood sect => okSection sect
  | .sectionPowerTimeout sect => okSection sect
  | .powerGoodLost sect => okSection sect
  | .sectionDrained sect => okSection sect
  | .foxSubmit => true
  | .batchChecked _ _ => true
  | .foxClear => true
  | .intervalInUse _ _ => true
  | .tableComplete _ => true
  | .foxStalePop => true
  | .retractionSend dest n _ => okDest dest && okRetr n
  | .withdrawalWrite _ => true
  | .settledWrite _ => true
  | .beamPassStart ply _ => okPly ply
  | .beamComplete ply beam _ => okPly ply && okBeam beam
  | .beamPassEmitted ply => okPly ply
  | .steeringBuildDone ply _ => okPly ply
  | .beamPageHeader _ => true
  | .nop spin _ => okSpin spin
  | .rpt spin _ => okSpin spin
  | .jmp spin _ => okSpin spin
  | .br spin _ => okSpin spin
  | .jal spin _ => okSpin spin
  | .jr spin _ => okSpin spin
  | .blk spin _ => okSpin spin
  | .evt spin _ => okSpin spin
  | .salu spin _ => okSpin spin
  | .salui spin _ => okSpin spin
  | .ssh spin _ => okSpin spin
  | .smul spin _ => okSpin spin
  | .sget spin _ => okSpin spin
  | .aset spin _ => okSpin spin
  | .aget spin _ => okSpin spin
  | .lds spin _ => okSpin spin
  | .sts spin _ => okSpin spin
  | .vld spin _ => okSpin spin
  | .vst spin _ => okSpin spin
  | .vldb spin _ => okSpin spin
  | .pin spin _ => okSpin spin
  | .pout spin _ => okSpin spin
  | .pseek spin _ => okSpin spin
  | .vadd spin _ => okSpin spin
  | .vsub spin _ => okSpin spin
  | .vbf spin _ => okSpin spin
  | .vmul spin _ => okSpin spin
  | .vshr spin _ => okSpin spin
  | .vshl spin _ => okSpin spin
  | .vperm spin _ => okSpin spin
  | .vbcs spin _ => okSpin spin
  | .vcvt spin _ => okSpin spin
  | .vlut spin _ => okSpin spin
  | .vmac spin _ => okSpin spin
  | .vmacp spin _ => okSpin spin
  | .vacr spin _ => okSpin spin
  | .vacl spin _ => okSpin spin
  | .vsrch spin _ => okSpin spin
  | .vstat spin _ => okSpin spin
  | .vstatf spin _ => okSpin spin
  | .vrqs spin _ => okSpin spin
  | .vnco spin _ => okSpin spin
  | .stallResume spin _ => okSpin spin
  | .flushLate spin _ => okSpin spin
  | .inVector spin _ => okSpin spin
  | .spinSwap spin => okSpin spin
  | .spinForceSwap spin _ => okSpin spin
  | .forcedImageStart spin _ => okSpin spin
  | .spinProgData spin word => okSpin spin && okWord word
  | .progCommit spin entry => okSpin spin && okProg entry
  | .spinLmemData spin value _ => okSpin spin && okWord value
  | .spinGainData spin value => okSpin spin && okWord value
  | .zoomSample engine _ => okEngine engine
  | .swapArm engine _ => okEngine engine
  | .swapCancel engine => okEngine engine
  | .zoomSwap engine _ => okEngine engine
  | .zoomCoefData engine value => okEngine engine && okWord value
  | .signalPresent lane _ => okLane lane
  | .adaptDone lane _ _ _ _ => okLane lane
  | .commaFound lane _ => okLane lane
  | .commaInterval lane block _ _ => okLane lane && okBlock block
  | .headerErrorLimit lane _ => okLane lane
  | .signalLost lane _ => okLane lane
  | .laneRelock lane => okLane lane
  | .blockReceive lane block _ _ => okLane lane && okBlock block
  | .txBlock lane _ => okLane lane
  | .laneTxFfe lane pre post => okLane lane && okTap pre && okTap post
  | .hankCtl hank value _ => okHank hank && okWord value
  | .hankPllLock hank _ => okHank hank
  | .hankPllTimeout hank _ => okHank hank
  | .hankPllLoss hank _ => okHank hank
  | .frameHeader lane _ => okLane lane
  | .frameTrailer lane _ => okLane lane
  | .frameTruncated lane _ => okLane lane
  | .creditReceive lane _ => okLane lane
  | .creditSend lane _ => okLane lane
  | .frameTransmit lane _ => okLane lane
  | .classDrainDone _ => true
  | .frameGapPop => true
  | .meshRequest lane _ => okLane lane
  | .completionReceive lane _ => okLane lane
  | .npTimeout _ => true
  | .announceSend lane _ => okLane lane
  | .announceReceive lane _ => okLane lane
  | .meshArm _ => true
  | .meshCancel => true
  | .layoutApply _ => true
  | .meshOperand lane _ => okLane lane
  | .summaryReceive lane _ => okLane lane
  | .summaryTimeout _ _ => true
  | .nodeLost node _ => okNode node
  | .heartbeatSend _ => true
  | .heartbeatReceive lane _ => okBeat lane
  | .arbiterTimeout _ => true
  | .leaseEnd _ => true
  | .pairGrantEnd hi _ => okWord hi
  | .mirrorRecord lane _ => okLane lane
  | .emittedSend _ => true
  | .pairResync => true
  | .resyncRecord lane _ _ => okLane lane
  | .pairSolo => true
  | .standbySelfTest _ => true
  | .badgerWatchdog _ => true
  | .badgerRestart => true
  | .memCommandCycle site pch _ _ banks err _ => okSite site && okPch pch && okBanks banks && okErr err
  | .rdWindow site _ => okSite site
  | .throttleEnd port => okPort port
  | .sitePowerGood site _ _ => okSite site
  | .sitePowerTimeout site => okSite site
  | .memProbe site => okSite site
  | .probeDone site pass => okSite site && okPass pass
  | .memTrainDly site dly _ => okSite site && okDly dly
  | .trainCommit site _ => okSite site
  | .trainFail site => okSite site
  | .sweepDone site _ => okSite site
  | .tempReport site _ temp => okSite site && okTemp temp
  | .patrolScrub site err => okSite site && okErr err
  | .memRetire site sid _ => okSite site && okSid sid
  | .migrationDone site => okSite site
  | .shedLevelChange site row _ => okSite site && okRow row
  | .storeAccess port addr len _ _ _ _ _ => okPort port && okAddr addr && okLen len
  | .walkDone _ _ _ _ => true
  | .invGo gen => okByte gen
  | .invAll => true
  | .invDone => true
  | .mapBuildDone => true
  | .storeOpen => true
  | .storeFaultPop => true
  | .bar2Request _ off len _ _ _ _ => okBar2 off && okLen len
  | .refGate gates ticks _ => gates.all (fun g => okRef g.1) && ticks.all okRef
  | .refEdgeLoss c _ => c.lost.all okRef && c.gates.all (fun g => okRef g.1) && c.ticks.all okRef
  | .wtrTick code _ => okRef code
  | .ppsEdge pps _ _ => okPps pps
  | .ppsMissing pps _ => okPps pps
  | .freqLock _ => true
  | .pullDone _ => true
  | .timeSet hi _ => okWord hi
  | .timeStep hi _ => okWord hi
  | .timeNetAdj value _ => okWord value
  | .netTimeout _ => true
  | .xoFault _ => true
  | .beaconSend lane _ => okLane lane
  | .beaconReceive lane _ _ => okLane lane
  | .beaconChoice _ => true
  | .trigoutArm unit _ => okUnit4 unit
  | .trigoutCancel unit => okUnit4 unit
  | .trigoutPulse unit _ => okUnit4 unit
  | .triginEdge input _ => okPin input
  | .triginPop => true
  | .denTick => true
  | .denPpsEdge pps => okPps pps
  | .tapSample unit _ => okUnit16 unit
  | .capWptrAdvance stream _ => okStream stream
  | .captureFrameSend stream _ => okStream stream
  | .frameSkip stream _ => okStream stream
  | .registerWrite master off w _ => okMaster master && okOff off && okWord w.value && okEnables w.enables
  | .rcRead master off _ => okMaster master && okOff off
  | .latchedLowRead master off _ => okMaster master && okOff off
  | .groupWrite master off w _ => okMaster master && okOff off && okWord w.value && okEnables w.enables
  | .groupRead master off _ => okMaster master && okOff off
  | .lockAcquire master target _ => okMaster master && okTarget target
  | .lockGrant master _ => okMaster master
  | .lockRelease master _ => okMaster master
  | .lockExpiry master _ => okMaster master
  | .xbarTimeout master off _ _ => okMaster master && okBar0 off
  | .dmaArm chan => okChan chan
  | .dmaDisable chan _ _ _ => okChan chan
  | .descriptorFetch chan _ _ _ => okChan chan
  | .descriptorComplete chan _ _ _ => okChan chan
  | .dmaFailure chan err _ _ _ _ => okChan chan && okDmaErr err
  | .checkInit unit => okUnit16 unit
  | .checkData unit word => okUnit16 unit && okWord word
  | .checkAliveIn unit value => okUnit16 unit && okHalf value
  | .checkState unit _ word => okUnit16 unit && okWord word
  | .evtPend word value => okPendWord word && okWord value
  | .msixUnmask which _ => okVector which
  | .bar0Request _ off _ enables value _ => okBar0 off && okEnables enables && okWord value
  | .completionTimeout r _ => okPort r.port
  | .linkDown => true
  | .linkUp speed width => okSpeed speed && okWidth width
  | .fnReset => true
  | .d3hot _ => true
  | .mgmtReceive _ _ _ _ => true
  | .mgmtTransmit _ _ _ => true
  | .collision _ => true
  | .backoffExpiry _ => true
  | .registerRequest _ _ => true
  | .mgmtTsPop dir => okDir dir
  | .scpWrite cmd words _ => okWord cmd && okWords words
  | .scpRead cmd words _ => okWord cmd && okWords words
  | .scpFetch cmd _ _ => okWord cmd
  | .scpSelRise nbits => okBits nbits
  | .flashGo _ => true
  | .flashDone _ => true
  | .flashTimeout _ => true
  | .monFrame port _ => okMon port
  | .monBlock port _ => okMon port
  | .enterD1 _ _ _ => true
  | .enterD2 _ _ _ => true
  | .wakeFromD1 master _ _ _ => okMaster master
  | .ledgerDone _ => true
  | .ledgerWaitTimeout _ => true
  | .warmReset _ => true
  | .fwReady _ => true
  | .wakeTime _ => true
  | .denWakeN _ => true
  | .wakeFrame _ _ _ => true
  | .scpSelFall _ => true
  | .perstRise _ => true
  | .supplyFault rail _ => okRail rail
  | .causeClear => true
  | .hpEnFall _ => true
  | .hpEnRise _ => true
  | .tempSample die stack den _ => okTemp die && okTemp stack && okTemp den
  | .porNAssert => true
  | .porNRelease _ => true
  | .railsGood _ => true
  | .creelSweepDone => true
  | .imageFetched _ _ => true
  | .bootRetry => true
  | .spdmRequest transport _ => okTransport transport
  | .spdmResponse => true
  | .mboxGo len => okMbox len
  | .trustMboxData master value _ => okMaster master && okWord value
  | .fwUpdate _ => true
  | .imageLoaded _ _ => true
  | .fwReadyCore _ => true
  | .fwYield _ => true
  | .fwStartTimeout _ => true
  | .handoverTimeout _ => true
  | .ledgerCommit _ => true
  | .commitDone _ => true
  | .ledgerData master value _ => okMaster master && okWord value
  | .ledgerSample _ _ => true
  | .partnerLost _ => true
  | .arbiterLost _ => true
  | .recordRetry unit _ => okRetry unit

end Sys2Proof
end

