-- ==== Sys2Proof/Machine/Bits.lean ====
section
/-!
DEFINITION. Bit fields, two's complement, byte order, exact rationals and the sparse table: the helpers every
family uses. All are structural and total, so that the kernel can evaluate them.
-/

namespace Sys2Proof.Machine

/-- The `w` bits of `v` from bit `lo` up (bit 0 the least significant, R32). -/
def bits (v lo w : Nat) : Nat := v / 2 ^ lo % 2 ^ w

/-- Bit `k` of `v`. -/
def bit (v k : Nat) : Bool := v / 2 ^ k % 2 == 1

/-- `v` with its `w` bits from `lo` up replaced by the low `w` bits of `x`. -/
def putBits (v lo w x : Nat) : Nat :=
  v / 2 ^ (lo + w) * 2 ^ (lo + w) + x % 2 ^ w * 2 ^ lo + v % 2 ^ lo

/-- 1 for true, 0 for false. -/
def b2n (b : Bool) : Nat := if b then 1 else 0

/-- The low `w` bits of `v` as a two's complement number (R7). -/
def sgn (w v : Nat) : Int :=
  let u := v % 2 ^ w
  if 2 * u < 2 ^ w then (u : Int) else (u : Int) - 2 ^ w

/-- The low `w` bits of an integer, as an unsigned number. -/
def usgn (w : Nat) (x : Int) : Nat := (x % 2 ^ w).toNat

/-- `x` limited to `lo .. hi`. -/
def clampI (lo hi x : Int) : Int := if x < lo then lo else if hi < x then hi else x

/-- `x` saturated to `w`-bit two's complement. -/
def satI (w : Nat) (x : Int) : Int := clampI (-(2 ^ (w - 1))) (2 ^ (w - 1) - 1) x

/-- Does `x` fit `w`-bit two's complement? -/
def fitsI (w : Nat) (x : Int) : Bool := satI w x == x

/-- `n` limited to `lo .. hi`. -/
def clampN (lo hi n : Nat) : Nat := if n < lo then lo else if hi < n then hi else n

/-- The `n` little-endian bytes of `v` (R32). -/
def leBytes : Nat → Nat → List Byte
  | 0, _ => []
  | n + 1, v => BitVec.ofNat 8 v :: leBytes n (v / 256)

/-- The number that little-endian bytes hold. -/
def leNat : List Byte → Nat
  | [] => 0
  | b :: r => b.toNat + 256 * leNat r

/-- The `n` big-endian bytes of `v`. -/
def beBytes (n v : Nat) : List Byte := (leBytes n v).reverse

/-- The number that big-endian bytes hold. -/
def beNat (l : List Byte) : Nat := leNat l.reverse

/-- `n` zero bytes. -/
def zeros (n : Nat) : List Byte := List.replicate n 0#8

/-- The `n`-byte little-endian field at byte `o` of `l`; bytes past the end read zero. -/
def fld (l : List Byte) (o n : Nat) : Nat := leNat ((l.drop o).take n)

/-- The signed `n`-byte field at byte `o` of `l`. -/
def fldI (l : List Byte) (o n : Nat) : Int := sgn (8 * n) (fld l o n)

/-- Byte `o` of `l`, 0 past the end. -/
def byteAt (l : List Byte) (o : Nat) : Nat := (l.getD o 0#8).toNat

/-- `l` cut or zero-padded to `n` bytes. -/
def padTo (n : Nat) (l : List Byte) : List Byte := (l ++ zeros (n - l.length)).take n

/-- `l` with the bytes `d` stored from byte `o` on (the list keeps its length). -/
def putAt (l : List Byte) (o : Nat) (d : List Byte) : List Byte :=
  (l.take o ++ d ++ l.drop (o + d.length)).take l.length

/-- `l` in groups of `n` elements (fuelled by the length). -/
def chunksF {α : Type} : Nat → Nat → List α → List (List α)
  | 0, _, _ => []
  | f + 1, n, l => if l.isEmpty then [] else l.take n :: chunksF f n (l.drop n)

/-- `l` in groups of `n` elements. -/
def chunks {α : Type} (n : Nat) (l : List α) : List (List α) := chunksF l.length n l

/-- Rounded-up division. -/
def cdiv (a b : Nat) : Nat := (a + b - 1) / b

/-- `a` rounded up to a multiple of `b`. -/
def roundUp (a b : Nat) : Nat := cdiv a b * b

/-- Number of one bits among the low `w` bits of `v`. -/
def popcount : Nat → Nat → Nat
  | 0, _ => 0
  | w + 1, v => v % 2 + popcount w (v / 2)

/-- The positions of the one bits among the low `w` bits of `v`, ascending. -/
def bitList (w v : Nat) : List Nat := (List.range w).filter (bit v)

/-- Bitwise or, and, exclusive or of naturals, by width (structural, kernel-evaluable). -/
def bitOp (f : Bool → Bool → Bool) : Nat → Nat → Nat → Nat
  | 0, _, _ => 0
  | w + 1, a, b => b2n (f (a % 2 == 1) (b % 2 == 1)) + 2 * bitOp f w (a / 2) (b / 2)

/-- Bitwise or on `w` bits. -/
def orN (w a b : Nat) : Nat := bitOp (· || ·) w a b
/-- Bitwise and on `w` bits. -/
def andN (w a b : Nat) : Nat := bitOp (· && ·) w a b
/-- Bitwise exclusive or on `w` bits. -/
def xorN (w a b : Nat) : Nat := bitOp (fun x y => x != y) w a b

/-- Bits of `a` that are clear in `b`, on `w` bits (what a W1C write leaves, R15). -/
def clearN (w a b : Nat) : Nat := bitOp (fun x y => x && !y) w a b

/-- Value of key `k` in a sparse table with default `d`. -/
def Tab.get {α : Type} (d : α) : Tab α → Nat → α
  | [], _ => d
  | (k', v) :: r, k => if k' = k then v else Tab.get d r k

/-- A key's entry written, whatever its value (the table keeps its order). -/
def Tab.put {α : Type} : Tab α → Nat → α → Tab α
  | [], k, v => [(k, v)]
  | (k', v') :: r, k, v =>
    if k' = k then (k, v) :: r
    else if k < k' then (k, v) :: (k', v') :: r
    else (k', v') :: Tab.put r k v

/-- A key's entry removed. -/
def Tab.del {α : Type} : Tab α → Nat → Tab α
  | [], _ => []
  | (k', v') :: r, k => if k' = k then Tab.del r k else (k', v') :: Tab.del r k

/-- A key's value written; writing the default removes the entry, so the form stays canonical. -/
def Tab.set {α : Type} [DecidableEq α] (d : α) (m : Tab α) (k : Nat) (v : α) : Tab α :=
  if v = d then Tab.del m k else Tab.put m k v

/-- A key's value changed by a function. -/
def Tab.upd {α : Type} [DecidableEq α] (d : α) (m : Tab α) (k : Nat) (f : α → α) : Tab α :=
  Tab.set d m k (f (Tab.get d m k))

/-- Insertion into an ascending list without repeats. -/
def insN (n : Nat) : List Nat → List Nat
  | [] => [n]
  | x :: r => if n < x then n :: x :: r else if n = x then x :: r else x :: insN n r

/-- The distinct elements of a list, ascending. -/
def sortN (l : List Nat) : List Nat := l.foldl (fun a x => insN x a) []

/-- Every key of the list is at least `k`, and keys rise strictly. -/
def Tab.sortedFrom {α : Type} : Nat → Tab α → Bool
  | _, [] => true
  | k, (k', _) :: r => decide (k ≤ k') && Tab.sortedFrom (k' + 1) r

/-- The canonical form: keys rise strictly and no entry holds the default. -/
def Tab.wf {α : Type} [DecidableEq α] (d : α) (m : Tab α) : Bool :=
  Tab.sortedFrom 0 m && m.all (fun e => decide (e.2 ≠ d))

/-- `n / d` compared with `m / e` (exact, R77): is the first at most the second? -/
def ratLe (n d m e : Nat) : Bool := decide (n * e ≤ m * d)

/-- Fold a step over `0 .. n-1`. -/
def forN {σ : Type} (n : Nat) (f : Nat → σ → σ) (s : σ) : σ := (List.range n).foldl (fun a i => f i a) s

/-- Fold a step over a list, the element first. -/
def forL {σ α : Type} (l : List α) (f : α → σ → σ) (s : σ) : σ := l.foldl (fun a x => f x a) s

/-- The first index of `l` whose element meets `p`. -/
def findIdx? {α : Type} (p : α → Bool) : List α → Option Nat
  | [] => none
  | x :: r => if p x then some 0 else (findIdx? p r).map (· + 1)

/-- The list with element `n` changed. -/
def modAt {α : Type} (f : α → α) : Nat → List α → List α
  | _, [] => []
  | 0, x :: r => f x :: r
  | n + 1, x :: r => x :: modAt f n r

end Sys2Proof.Machine
end

