-- ==== Sys2Proof/Machine/Checksum.lean ====
section
/-!
DEFINITION. The check values of the spec: CRC-32C (R62), CRC-16/CCITT (R269), CRC-64 (R307), Fletcher-64 (R420) and
SHA-384 (R62). The spec names SHA-384 and does not write it out: its constants are those of the published standard
(PRESUMED, notes/assumptions/5.md).
-/

namespace Sys2Proof.Machine

/-- One bit of a reflected CRC of width `w`. -/
def crcRBit {w : Nat} (poly c : BitVec w) : BitVec w :=
  if c.getLsbD 0 then (c >>> 1) ^^^ poly else c >>> 1

/-- One byte into a reflected CRC. -/
def crcRByte {w : Nat} (poly c : BitVec w) (b : Byte) : BitVec w :=
  let x := c ^^^ b.setWidth w
  crcRBit poly (crcRBit poly (crcRBit poly (crcRBit poly
    (crcRBit poly (crcRBit poly (crcRBit poly (crcRBit poly x)))))))

/-- The reflected Castagnoli polynomial (R62: 0x1EDC_6F41, reflected). -/
def poly32c : BitVec 32 := 0x82F63B78#32

/-- Running register of CRC-32C fed with bytes. -/
def crc32cFeed (c : BitVec 32) (l : List Byte) : BitVec 32 := l.foldl (crcRByte poly32c) c

/-- CRC-32C (R62). -/
def crc32c (l : List Byte) : Nat := (crc32cFeed 0xFFFFFFFF#32 l ^^^ 0xFFFFFFFF#32).toNat

/-- One bit of an unreflected CRC. -/
def crcFBit {w : Nat} (poly c : BitVec w) : BitVec w :=
  if c.msb then (c <<< 1) ^^^ poly else c <<< 1

/-- One byte into an unreflected CRC. -/
def crcFByte {w : Nat} (poly c : BitVec w) (b : Byte) : BitVec w :=
  let x := c ^^^ (b.setWidth w <<< (w - 8))
  crcFBit poly (crcFBit poly (crcFBit poly (crcFBit poly
    (crcFBit poly (crcFBit poly (crcFBit poly (crcFBit poly x)))))))

/-- Running register of CRC-16/CCITT fed with bytes (R269). -/
def crc16Feed (c : BitVec 16) (l : List Byte) : BitVec 16 := l.foldl (crcFByte 0x1021#16) c

/-- CRC-16/CCITT (R269): initial value 0xFFFF, most significant bit first, no final exclusive-OR. -/
def crc16 (l : List Byte) : Nat := (crc16Feed 0xFFFF#16 l).toNat

/-- Running register of CRC-64 fed with bytes (R307). -/
def crc64Feed (c : BitVec 64) (l : List Byte) : BitVec 64 := l.foldl (crcFByte 0x42F0E1EBA9EA3693#64) c

/-- CRC-64 (R307). -/
def crc64 (l : List Byte) : Nat := (crc64Feed 0#64 l).toNat

/-- Fletcher-64 (R420): 32-bit little-endian words, the last padded with zero bytes, sums modulo 2^32 - 1. -/
def fletcher64 (l : List Byte) : Nat :=
  let p := (chunks 4 l).foldl
    (fun (ab : Nat × Nat) c =>
      let a := (ab.1 + leNat c) % 4294967295
      (a, (ab.2 + a) % 4294967295)) (0, 0)
  p.2 * 4294967296 + p.1

/-! ## SHA-384 -/

/-- Rotation right of a 64-bit word. -/
def rotr64 (x : BitVec 64) (n : Nat) : BitVec 64 := (x >>> n) ||| (x <<< (64 - n))

def shaK0 : List (BitVec 64) := [0x428A2F98D728AE22#64, 0x7137449123EF65CD#64, 0xB5C0FBCFEC4D3B2F#64, 0xE9B5DBA58189DBBC#64,
  0x3956C25BF348B538#64, 0x59F111F1B605D019#64, 0x923F82A4AF194F9B#64, 0xAB1C5ED5DA6D8118#64,
  0xD807AA98A3030242#64, 0x12835B0145706FBE#64, 0x243185BE4EE4B28C#64, 0x550C7DC3D5FFB4E2#64,
  0x72BE5D74F27B896F#64, 0x80DEB1FE3B1696B1#64, 0x9BDC06A725C71235#64, 0xC19BF174CF692694#64]
def shaK1 : List (BitVec 64) := [0xE49B69C19EF14AD2#64, 0xEFBE4786384F25E3#64, 0x0FC19DC68B8CD5B5#64, 0x240CA1CC77AC9C65#64,
  0x2DE92C6F592B0275#64, 0x4A7484AA6EA6E483#64, 0x5CB0A9DCBD41FBD4#64, 0x76F988DA831153B5#64,
  0x983E5152EE66DFAB#64, 0xA831C66D2DB43210#64, 0xB00327C898FB213F#64, 0xBF597FC7BEEF0EE4#64,
  0xC6E00BF33DA88FC2#64, 0xD5A79147930AA725#64, 0x06CA6351E003826F#64, 0x142929670A0E6E70#64]
def shaK2 : List (BitVec 64) := [0x27B70A8546D22FFC#64, 0x2E1B21385C26C926#64, 0x4D2C6DFC5AC42AED#64, 0x53380D139D95B3DF#64,
  0x650A73548BAF63DE#64, 0x766A0ABB3C77B2A8#64, 0x81C2C92E47EDAEE6#64, 0x92722C851482353B#64,
  0xA2BFE8A14CF10364#64, 0xA81A664BBC423001#64, 0xC24B8B70D0F89791#64, 0xC76C51A30654BE30#64,
  0xD192E819D6EF5218#64, 0xD69906245565A910#64, 0xF40E35855771202A#64, 0x106AA07032BBD1B8#64]
def shaK3 : List (BitVec 64) := [0x19A4C116B8D2D0C8#64, 0x1E376C085141AB53#64, 0x2748774CDF8EEB99#64, 0x34B0BCB5E19B48A8#64,
  0x391C0CB3C5C95A63#64, 0x4ED8AA4AE3418ACB#64, 0x5B9CCA4F7763E373#64, 0x682E6FF3D6B2B8A3#64,
  0x748F82EE5DEFB2FC#64, 0x78A5636F43172F60#64, 0x84C87814A1F0AB72#64, 0x8CC702081A6439EC#64,
  0x90BEFFFA23631E28#64, 0xA4506CEBDE82BDE9#64, 0xBEF9A3F7B2C67915#64, 0xC67178F2E372532B#64]
def shaK4 : List (BitVec 64) := [0xCA273ECEEA26619C#64, 0xD186B8C721C0C207#64, 0xEADA7DD6CDE0EB1E#64, 0xF57D4F7FEE6ED178#64,
  0x06F067AA72176FBA#64, 0x0A637DC5A2C898A6#64, 0x113F9804BEF90DAE#64, 0x1B710B35131C471B#64,
  0x28DB77F523047D84#64, 0x32CAAB7B40C72493#64, 0x3C9EBE0A15C9BEBC#64, 0x431D67C49C100D4C#64,
  0x4CC5D4BECB3E42B6#64, 0x597F299CFC657E2A#64, 0x5FCB6FAB3AD6FAEC#64, 0x6C44198C4A475817#64]
/-- The 80 round constants. -/
def shaK : List (BitVec 64) := shaK0 ++ shaK1 ++ shaK2 ++ shaK3 ++ shaK4

/-- The initial hash value of SHA-384. -/
def shaH : List (BitVec 64) := [0xCBBB9D5DC1059ED8#64, 0x629A292A367CD507#64, 0x9159015A3070DD17#64, 0x152FECD8F70E5939#64,
  0x67332667FFC00B31#64, 0x8EB44A8768581511#64, 0xDB0C2E0D64F98FA7#64, 0x47B5481DBEFA4FA4#64]

/-- The eight working variables of the compression function. -/
structure Sha where
  a : BitVec 64
  b : BitVec 64
  c : BitVec 64
  d : BitVec 64
  e : BitVec 64
  f : BitVec 64
  g : BitVec 64
  h : BitVec 64
deriving DecidableEq, Repr

/-- One round: constant and schedule word in. -/
def shaRound (v : Sha) (kw : BitVec 64 × BitVec 64) : Sha :=
  let s1 := rotr64 v.e 14 ^^^ rotr64 v.e 18 ^^^ rotr64 v.e 41
  let ch := (v.e &&& v.f) ^^^ (~~~v.e &&& v.g)
  let t1 := v.h + s1 + ch + kw.1 + kw.2
  let s0 := rotr64 v.a 28 ^^^ rotr64 v.a 34 ^^^ rotr64 v.a 39
  let mj := (v.a &&& v.b) ^^^ (v.a &&& v.c) ^^^ (v.b &&& v.c)
  ⟨t1 + (s0 + mj), v.a, v.b, v.c, v.d + t1, v.e, v.f, v.g⟩

/-- The message schedule, newest word first: `n` more words after those of the list. -/
def shaExpand : Nat → List (BitVec 64) → List (BitVec 64)
  | 0, w => w
  | n + 1, w =>
    let x2 := w.getD 1 0#64
    let x7 := w.getD 6 0#64
    let x15 := w.getD 14 0#64
    let x16 := w.getD 15 0#64
    let g1 := rotr64 x2 19 ^^^ rotr64 x2 61 ^^^ (x2 >>> 6)
    let g0 := rotr64 x15 1 ^^^ rotr64 x15 8 ^^^ (x15 >>> 7)
    shaExpand n ((g1 + x7 + g0 + x16) :: w)

/-- One 128-byte block into the chaining value. -/
def shaBlock (hs : List (BitVec 64)) (blk : List Byte) : List (BitVec 64) :=
  let w0 := (chunks 8 blk).map (fun c => BitVec.ofNat 64 (beNat c))
  let w := (shaExpand 64 w0.reverse).reverse
  let g := fun (n : Nat) => hs.getD n 0#64
  let v := (shaK.zip w).foldl shaRound ⟨g 0, g 1, g 2, g 3, g 4, g 5, g 6, g 7⟩
  [g 0 + v.a, g 1 + v.b, g 2 + v.c, g 3 + v.d, g 4 + v.e, g 5 + v.f, g 6 + v.g, g 7 + v.h]

/-- The padded message. -/
def shaPad (l : List Byte) : List Byte :=
  let n := l.length
  let z := (128 - (n + 17) % 128) % 128
  l ++ [0x80#8] ++ zeros z ++ beBytes 16 (8 * n)

/-- SHA-384 of a byte string, in the order in which the digest's bytes are produced (R62). -/
def sha384 (l : List Byte) : List Byte :=
  (((chunks 128 (shaPad l)).foldl shaBlock shaH).take 6).flatMap (fun h => beBytes 8 h.toNat)

end Sys2Proof.Machine
end

