-- ==== Sys2Proof/Config.lean ====
section
/-!
DEFINITION. What one implementation of the part fixes, and the free values: constants with no body, so that no proof
can lean on a value the spec leaves open. Each is named in a row of notes/assumptions.
-/

namespace Sys2Proof

/-- The ordering codes of R2. -/
inductive Part where
  | x6 | x4
deriving DecidableEq, Repr

namespace Config

/-- TRUST_DEVICE_ID: "Fixed", and no value is given. -/
opaque deviceId : Nat
/-- TRUST_ROM.VERSION: "Fixed", and no value is given. -/
opaque romVersion : Nat
/-- PCIE_ID.VENDOR: "Fixed", and no value is given. -/
opaque pcieVendor : Nat
/-- POWER_SUPPLY.VCORE_REQ: fused per part, and no value is given. -/
opaque vcoreReq : Nat
/-- SHA-384 of the boot ROM (R472), as a number of 48 little-endian bytes: the ROM's contents are not given. -/
opaque romDigest : Nat
/-- A fresh free value for the n-th use of one (`State.free` counts them). -/
opaque freeValue : Nat → Nat

/-- Which of the 256 sets of the map cache a 2 MiB store page falls in (R361 gives no function). -/
opaque cacheSet : Nat → Nat

end Config

end Sys2Proof
end

