-- ==== Sys2Proof/Machine/Regs.lean ====
section
/-!
DEFINITION. The register map (R12 to R15, R408): every field of every register of the spec's register tables, at its
offset, with its access code and reset value, and the registers as software addresses them. A field that the spec
splits over a LO and a HI register is ONE field here, held once; each register shows its part of it.
-/

namespace Sys2Proof.Machine

/-- Field access codes of R15 (ST is a flag of its own). -/
inductive Acc where
  | ro | rw | w1c | rc | wo | rwl
deriving DecidableEq, Repr

/-- A register field: register offset of its instance 0, lowest bit, width, access, whether a warm reset keeps it
(ST), reset value, instance strides. -/
structure Field where
  addr : Nat
  lo : Nat
  w : Nat
  acc : Acc
  st : Bool
  rst : Nat
  s1 : Nat
  s2 : Nat
deriving DecidableEq, Repr

/-- What one register shows of a field: `w` bits from bit `lo` of the register are bits `sh` up of the field. -/
structure RPart where
  lo : Nat
  w : Nat
  fld : Field
  sh : Nat
deriving DecidableEq, Repr

/-- A register: name, offset of instance 0, strides and counts, reached by the group aperture or not (R409). -/
structure Reg where
  name : String
  addr : Nat
  s1 : Nat
  n1 : Nat
  s2 : Nat
  n2 : Nat
  grp : Bool
  parts : List RPart
deriving DecidableEq, Repr

namespace R

/-! Fields of `spec/00_scope.md`. -/

def SYS_ID_FAMILY : Field := ⟨0x0000000, 24, 8, .ro, false, 89, 0x0, 0x0⟩
def SYS_ID_PART : Field := ⟨0x0000000, 16, 8, .ro, false, 64, 0x0, 0x0⟩
def SYS_ID_REV : Field := ⟨0x0000000, 8, 8, .ro, false, 176, 0x0, 0x0⟩
def SYS_ID_STACKS : Field := ⟨0x0000000, 4, 4, .ro, false, 0, 0x0, 0x0⟩

/-! Fields of `spec/02_draft_format.md`. -/

def DRAFT_CTL_STOP : Field := ⟨0x0300000, 4, 1, .wo, false, 0, 0x0, 0x0⟩
def DRAFT_CTL_START : Field := ⟨0x0300000, 3, 1, .wo, false, 0, 0x0, 0x0⟩
def DRAFT_CTL_ABORT : Field := ⟨0x0300000, 2, 1, .wo, false, 0, 0x0, 0x0⟩
def DRAFT_CTL_ADMIT : Field := ⟨0x0300000, 1, 1, .wo, false, 0, 0x0, 0x0⟩
def DRAFT_STATUS_IGNORED : Field := ⟨0x0300004, 24, 8, .rc, false, 0, 0x0, 0x0⟩
def DRAFT_STATUS_PENDING : Field := ⟨0x0300004, 20, 4, .ro, false, 0, 0x0, 0x0⟩
def DRAFT_STATUS_PCHECK : Field := ⟨0x0300004, 16, 1, .ro, false, 0, 0x0, 0x0⟩
def DRAFT_STATUS_STATE : Field := ⟨0x0300004, 0, 4, .ro, false, 0, 0x0, 0x0⟩
def DRAFT_STAGE_BASE_ADDR : Field := ⟨0x0300008, 0, 48, .rw, false, 0, 0x0, 0x0⟩
def DRAFT_STAGE_LEN_LEN : Field := ⟨0x0300010, 0, 29, .rw, false, 0, 0x0, 0x0⟩
def DRAFT_SCP_PTR_PTR : Field := ⟨0x0300014, 2, 26, .rw, false, 0, 0x0, 0x0⟩
def DRAFT_SCP_DATA_DATA : Field := ⟨0x0300018, 0, 32, .wo, false, 0, 0x0, 0x0⟩
def DRAFT_REFUSE_CODE_CODE : Field := ⟨0x0300020, 0, 16, .ro, false, 0, 0x0, 0x0⟩
def DRAFT_REFUSE_WHERE_ITEM : Field := ⟨0x0300024, 16, 16, .ro, false, 0, 0x0, 0x0⟩
def DRAFT_REFUSE_WHERE_SECTION : Field := ⟨0x0300024, 0, 8, .ro, false, 0, 0x0, 0x0⟩
def DRAFT_REFUSE_DETAIL_DETAIL : Field := ⟨0x0300028, 0, 32, .ro, false, 0, 0x0, 0x0⟩
def DRAFT_START_START : Field := ⟨0x0300030, 0, 64, .rwl, false, 0, 0x0, 0x0⟩
def DRAFT_SERIAL_SERIAL : Field := ⟨0x0300038, 0, 64, .ro, false, 0, 0x0, 0x0⟩
def DRAFT_SPAN_SPAN : Field := ⟨0x0300040, 0, 64, .ro, false, 0, 0x0, 0x0⟩
def DRAFT_NEXT_PATCH_E : Field := ⟨0x0300048, 0, 64, .ro, false, 18446744073709551615, 0x0, 0x0⟩

/-! Fields of `spec/03_draft_admission.md`. -/

def DRAFT_FIG_A_CREEL : Field := ⟨0x0300060, 16, 16, .ro, false, 0, 0x0, 0x0⟩
def DRAFT_FIG_A_DUTY : Field := ⟨0x0300060, 0, 16, .ro, false, 0, 0x0, 0x0⟩
def DRAFT_FIG_SLACK_SLACK : Field := ⟨0x0300064, 0, 32, .ro, false, 0, 0x0, 0x0⟩
def DRAFT_FIG_STACK_MIB : Field := ⟨0x0300068, 0, 32, .ro, false, 0, 0x0, 0x0⟩
def DRAFT_FIG_BW_CEIL : Field := ⟨0x030006C, 16, 16, .ro, false, 0, 0x0, 0x0⟩
def DRAFT_FIG_BW_GUAR : Field := ⟨0x030006C, 0, 16, .ro, false, 0, 0x0, 0x0⟩
def DRAFT_FIG_USE_OUT : Field := ⟨0x0300070, 16, 16, .ro, false, 0, 0x0, 0x0⟩
def DRAFT_FIG_USE_SPIN : Field := ⟨0x0300070, 0, 16, .ro, false, 0, 0x0, 0x0⟩

/-! Fields of `spec/04_loom_and_plies.md`. -/

def KNOT_CTL_TEST_SEED : Field := ⟨0x0800000, 8, 8, .rw, false, 1, 0x100, 0x0⟩
def KNOT_CTL_TEST_ABORT : Field := ⟨0x0800000, 1, 1, .wo, false, 0, 0x100, 0x0⟩
def KNOT_CTL_TEST_START : Field := ⟨0x0800000, 0, 1, .wo, false, 0, 0x100, 0x0⟩
def KNOT_STATUS_MODE : Field := ⟨0x0800004, 12, 2, .ro, false, 0, 0x100, 0x0⟩
def KNOT_STATUS_FUNCTION : Field := ⟨0x0800004, 8, 2, .ro, false, 0, 0x100, 0x0⟩
def KNOT_STATUS_TEST_ABORTED : Field := ⟨0x0800004, 6, 1, .w1c, false, 0, 0x100, 0x0⟩
def KNOT_STATUS_ACTIVE : Field := ⟨0x0800004, 5, 1, .ro, false, 0, 0x100, 0x0⟩
def KNOT_STATUS_OVF : Field := ⟨0x0800004, 4, 1, .w1c, false, 0, 0x100, 0x0⟩
def KNOT_STATUS_TEST_REFUSED : Field := ⟨0x0800004, 3, 1, .w1c, false, 0, 0x100, 0x0⟩
def KNOT_STATUS_TEST_FAIL : Field := ⟨0x0800004, 2, 1, .w1c, true, 0, 0x100, 0x0⟩
def KNOT_STATUS_TEST_PASS : Field := ⟨0x0800004, 1, 1, .ro, false, 0, 0x100, 0x0⟩
def KNOT_STATUS_TEST_BUSY : Field := ⟨0x0800004, 0, 1, .ro, false, 0, 0x100, 0x0⟩
def KNOT_OVF_COUNT_COUNT : Field := ⟨0x0800008, 0, 32, .rc, false, 0, 0x100, 0x0⟩
def KNOT_TEST_RESULT_FAILS : Field := ⟨0x080000C, 21, 11, .ro, true, 0, 0x100, 0x0⟩
def KNOT_TEST_RESULT_FIRST : Field := ⟨0x080000C, 0, 10, .ro, true, 0, 0x100, 0x0⟩
def KNOT_ACTIVE_CYCLES : Field := ⟨0x0800010, 0, 32, .ro, false, 0, 0x100, 0x0⟩
def SECTION_CTL_EVT_HOLD_EN : Field := ⟨0x0C00000, 8, 1, .rw, false, 0, 0x1000, 0x0⟩
def SECTION_CTL_TEST_POWER : Field := ⟨0x0C00000, 0, 1, .rw, false, 0, 0x1000, 0x0⟩
def SECTION_STATUS_PLIES : Field := ⟨0x0C00004, 16, 8, .ro, false, 0, 0x1000, 0x0⟩
def SECTION_STATUS_USED : Field := ⟨0x0C00004, 8, 1, .ro, false, 0, 0x1000, 0x0⟩
def SECTION_STATUS_PSTATE : Field := ⟨0x0C00004, 0, 3, .ro, false, 0, 0x1000, 0x0⟩
def SECTION_EVT_OFFLINE_ACCESS : Field := ⟨0x0C00008, 4, 1, .w1c, false, 0, 0x1000, 0x0⟩
def SECTION_EVT_POWER_FAULT : Field := ⟨0x0C00008, 3, 1, .w1c, true, 0, 0x1000, 0x0⟩
def SECTION_EVT_TEST_FAIL : Field := ⟨0x0C00008, 2, 1, .w1c, false, 0, 0x1000, 0x0⟩
def SECTION_EVT_OVF : Field := ⟨0x0C00008, 1, 1, .w1c, false, 0, 0x1000, 0x0⟩
def SECTION_EVT_HOLD : Field := ⟨0x0C00008, 0, 1, .w1c, false, 0, 0x1000, 0x0⟩
def SECTION_HOLD_CYCLES : Field := ⟨0x0C0000C, 0, 32, .rc, false, 0, 0x1000, 0x0⟩
def SECTION_BUSY_CYCLES : Field := ⟨0x0C00010, 0, 64, .ro, false, 0, 0x1000, 0x0⟩
def SECTION_PWR_COUNT_FAULTS : Field := ⟨0x0C00018, 16, 16, .ro, true, 0, 0x1000, 0x0⟩
def SECTION_PWR_COUNT_UPS : Field := ⟨0x0C00018, 0, 16, .ro, true, 0, 0x1000, 0x0⟩

/-! Fields of `spec/05_passes_and_accumulation.md`. -/

def PASS_CTL_EVT_SLACK_EN : Field := ⟨0x0400000, 8, 1, .rw, false, 0, 0x0, 0x0⟩
def PASS_CTL_HFLAG_CLEAR : Field := ⟨0x0400000, 0, 1, .wo, false, 0, 0x0, 0x0⟩
def PASS_STATUS_PLIES : Field := ⟨0x0400004, 16, 11, .ro, false, 0, 0x0, 0x0⟩
def PASS_STATUS_SPEC : Field := ⟨0x0400004, 1, 1, .ro, false, 0, 0x0, 0x0⟩
def PASS_STATUS_FINAL : Field := ⟨0x0400004, 0, 1, .ro, false, 0, 0x0, 0x0⟩
def PASS_EVT_CAUSE : Field := ⟨0x0400008, 0, 7, .w1c, false, 0, 0x0, 0x0⟩
def PASS_PLY_SEL_PLY : Field := ⟨0x040000C, 0, 10, .rw, false, 0, 0x0, 0x0⟩
def PASS_PLY_STATE_CHANNEL : Field := ⟨0x0400010, 16, 16, .ro, false, 0, 0x0, 0x0⟩
def PASS_PLY_STATE_STATE : Field := ⟨0x0400010, 0, 3, .ro, false, 6, 0x0, 0x0⟩
def PASS_PLY_SLACK_SLACK : Field := ⟨0x0400014, 0, 32, .ro, false, 0, 0x0, 0x0⟩
def PASS_PLY_SLACK_MIN_SLACK : Field := ⟨0x0400018, 0, 32, .rc, false, 2147483647, 0x0, 0x0⟩
def PASS_SLACK_WARN_NS : Field := ⟨0x040001C, 0, 32, .rw, false, 500000, 0x0, 0x0⟩
def PASS_ABANDONED_COUNT : Field := ⟨0x0400020, 0, 32, .rc, false, 0, 0x0, 0x0⟩
def PASS_REPLAYS_COUNT : Field := ⟨0x0400024, 0, 32, .rc, false, 0, 0x0, 0x0⟩
def PASS_REPLAY_CYCLES_CYCLES : Field := ⟨0x0400028, 0, 32, .rc, false, 0, 0x0, 0x0⟩
def PASS_MARKED_COUNT : Field := ⟨0x040002C, 0, 32, .rc, false, 0, 0x0, 0x0⟩
def PASS_FINAL_SPAN_SPAN : Field := ⟨0x0400030, 0, 64, .ro, false, 18446744073709551615, 0x0, 0x0⟩
def PASS_HFLAG_SLOTS : Field := ⟨0x0400200, 0, 32, .rw, false, 0, 0x4, 0x0⟩
def PASS_LIMIT_LO_LO : Field := ⟨0x0410000, 0, 32, .rw, false, 0, 0x10, 0x0⟩
def PASS_LIMIT_HI_HI : Field := ⟨0x0410004, 0, 32, .rw, false, 4294967295, 0x10, 0x0⟩
def PASS_LIMIT_MEAN_MEANQ : Field := ⟨0x0410008, 0, 16, .rw, false, 65535, 0x10, 0x0⟩
def PASS_LIMIT_CTL_COARSE_MAX : Field := ⟨0x041000C, 16, 12, .rw, false, 0, 0x10, 0x0⟩
def PASS_LIMIT_CTL_EN_MEAN : Field := ⟨0x041000C, 1, 1, .rw, false, 0, 0x10, 0x0⟩
def PASS_LIMIT_CTL_EN_POWER : Field := ⟨0x041000C, 0, 1, .rw, false, 0, 0x10, 0x0⟩

/-! Fields of `spec/06_run_ahead_and_retraction.md`. -/

def FOX_CTL_LOG_INTERVAL : Field := ⟨0x0500000, 12, 4, .rwl, false, 12, 0x0, 0x0⟩
def FOX_CTL_CLEAR : Field := ⟨0x0500000, 1, 1, .wo, false, 0, 0x0, 0x0⟩
def FOX_CTL_ENABLE : Field := ⟨0x0500000, 0, 1, .rwl, false, 0, 0x0, 0x0⟩
def FOX_STATUS_IGNORED : Field := ⟨0x0500004, 24, 8, .rc, false, 0, 0x0, 0x0⟩
def FOX_STATUS_ERR : Field := ⟨0x0500004, 16, 4, .ro, false, 0, 0x0, 0x0⟩
def FOX_STATUS_LOG_USED : Field := ⟨0x0500004, 12, 4, .ro, false, 0, 0x0, 0x0⟩
def FOX_STATUS_PENDING : Field := ⟨0x0500004, 1, 1, .ro, false, 0, 0x0, 0x0⟩
def FOX_STATUS_RUN : Field := ⟨0x0500004, 0, 1, .ro, false, 0, 0x0, 0x0⟩
def FOX_BATCH_ADDR_ADDR : Field := ⟨0x0500008, 0, 48, .rw, false, 0, 0x0, 0x0⟩
def FOX_BATCH_CTL_SUBMIT : Field := ⟨0x0500010, 0, 1, .wo, false, 0, 0x0, 0x0⟩
def FOX_BATCH_SEQ_BSEQ : Field := ⟨0x0500014, 0, 32, .ro, false, 0, 0x0, 0x0⟩
def FOX_SKY_BASE_BASE : Field := ⟨0x0500018, 0, 64, .rwl, false, 0, 0x0, 0x0⟩
def FOX_SKY_STEP_STEP : Field := ⟨0x0500020, 0, 64, .rwl, false, 0, 0x0, 0x0⟩
def FOX_DMAX_DMAX : Field := ⟨0x0500028, 0, 24, .rwl, false, 0, 0x0, 0x0⟩
def FOX_INTERVAL_U : Field := ⟨0x0500030, 0, 64, .ro, false, 0, 0x0, 0x0⟩
def FOX_EVT_CAUSE : Field := ⟨0x0500038, 0, 7, .w1c, false, 0, 0x0, 0x0⟩
def FOX_RECOMPUTES_COUNT : Field := ⟨0x050003C, 0, 32, .rc, false, 0, 0x0, 0x0⟩
def FOX_STALE_WORD : Field := ⟨0x0500040, 0, 32, .ro, false, 0, 0x4, 0x0⟩
def FOX_STALE_CTL_POP : Field := ⟨0x0500060, 31, 1, .wo, false, 0, 0x0, 0x0⟩
def FOX_STALE_CTL_DROPPED : Field := ⟨0x0500060, 8, 8, .rc, false, 0, 0x0, 0x0⟩
def FOX_STALE_CTL_COUNT : Field := ⟨0x0500060, 0, 5, .ro, false, 0, 0x0, 0x0⟩
def RETRACT_SENT_COUNT : Field := ⟨0x0500070, 0, 32, .rc, false, 0, 0x0, 0x0⟩
def WITHDRAW_WRITTEN_COUNT : Field := ⟨0x0500074, 0, 32, .rc, false, 0, 0x0, 0x0⟩
def PASS_PREFETCH_DROP_COUNT : Field := ⟨0x0400038, 0, 32, .rc, false, 0, 0x0, 0x0⟩
def PASS_PREFETCH_WASTE_KIB : Field := ⟨0x040003C, 0, 32, .rc, false, 0, 0x0, 0x0⟩

/-! Fields of `spec/07_beams.md`. -/

def BEAM_CTL_EVT_CUT_EN : Field := ⟨0x0600000, 0, 1, .rw, false, 0, 0x0, 0x0⟩
def BEAM_STATUS_PLIES : Field := ⟨0x0600004, 16, 11, .ro, false, 0, 0x0, 0x0⟩
def BEAM_STATUS_BUILD : Field := ⟨0x0600004, 1, 1, .ro, false, 0, 0x0, 0x0⟩
def BEAM_STATUS_SPEC : Field := ⟨0x0600004, 0, 1, .ro, false, 0, 0x0, 0x0⟩
def BEAM_EVT_CAUSE : Field := ⟨0x0600008, 0, 4, .w1c, false, 0, 0x0, 0x0⟩
def BEAM_SEL_PLY : Field := ⟨0x060000C, 0, 10, .rw, false, 0, 0x0, 0x0⟩
def BEAM_PLY_STATE_CHANNEL : Field := ⟨0x0600010, 16, 16, .ro, false, 0, 0x0, 0x0⟩
def BEAM_PLY_STATE_STATE : Field := ⟨0x0600010, 0, 3, .ro, false, 3, 0x0, 0x0⟩
def BEAM_FRAMES_COUNT : Field := ⟨0x0600014, 0, 32, .rc, false, 0, 0x0, 0x0⟩
def BEAM_WINDOWS_CUT_COUNT : Field := ⟨0x0600018, 0, 32, .rc, false, 0, 0x0, 0x0⟩
def BEAM_WEIGHT_HOLD_CYCLES : Field := ⟨0x060001C, 0, 32, .rc, false, 0, 0x0, 0x0⟩
def BEAM_STORE_LOST_COUNT : Field := ⟨0x0600020, 0, 32, .rc, false, 0, 0x0, 0x0⟩
def BEAM_DEST_SEL_DEST : Field := ⟨0x0600024, 0, 8, .rw, false, 0, 0x0, 0x0⟩
def BEAM_DEST_PSEQ_PSEQ : Field := ⟨0x0600028, 0, 64, .ro, false, 18446744073709551615, 0x0, 0x0⟩

/-! Fields of `spec/08_spindles.md`. -/

def SPIN_CTL_EVT_SAT_EN : Field := ⟨0x1000000, 3, 1, .rw, false, 0, 0x1000, 0x0⟩
def SPIN_CTL_FORCE_SWAP : Field := ⟨0x1000000, 2, 1, .wo, false, 0, 0x1000, 0x0⟩
def SPIN_CTL_SWAP : Field := ⟨0x1000000, 1, 1, .wo, false, 0, 0x1000, 0x0⟩
def SPIN_STATUS_PC : Field := ⟨0x1000004, 16, 12, .ro, false, 0, 0x1000, 0x0⟩
def SPIN_STATUS_NPOS : Field := ⟨0x1000004, 8, 4, .ro, false, 0, 0x1000, 0x0⟩
def SPIN_STATUS_STALL : Field := ⟨0x1000004, 5, 3, .ro, false, 0, 0x1000, 0x0⟩
def SPIN_STATUS_REPEAT : Field := ⟨0x1000004, 4, 1, .ro, false, 0, 0x1000, 0x0⟩
def SPIN_STATUS_RUN : Field := ⟨0x1000004, 0, 1, .ro, false, 0, 0x1000, 0x0⟩
def SPIN_PROG_STATUS_REFUSED : Field := ⟨0x1000008, 24, 8, .rc, false, 0, 0x1000, 0x0⟩
def SPIN_PROG_STATUS_PEND : Field := ⟨0x1000008, 5, 1, .ro, false, 0, 0x1000, 0x0⟩
def SPIN_PROG_STATUS_VALID1 : Field := ⟨0x1000008, 4, 1, .ro, false, 0, 0x1000, 0x0⟩
def SPIN_PROG_STATUS_VALID0 : Field := ⟨0x1000008, 3, 1, .ro, false, 0, 0x1000, 0x0⟩
def SPIN_PROG_STATUS_ACTIVE : Field := ⟨0x1000008, 2, 1, .ro, false, 0, 0x1000, 0x0⟩
def SPIN_PROG_STATUS_SWAP_PENDING : Field := ⟨0x1000008, 1, 1, .ro, false, 0, 0x1000, 0x0⟩
def SPIN_PROG_STATUS_BUSY : Field := ⟨0x1000008, 0, 1, .w1c, false, 0, 0x1000, 0x0⟩
def SPIN_PROG_ADDR_BANK : Field := ⟨0x100000C, 12, 1, .rw, false, 0, 0x1000, 0x0⟩
def SPIN_PROG_ADDR_WORD : Field := ⟨0x100000C, 0, 12, .rw, false, 0, 0x1000, 0x0⟩
def SPIN_PROG_DATA_WORD : Field := ⟨0x1000010, 0, 32, .wo, false, 0, 0x1000, 0x0⟩
def SPIN_PROG_ENTRY_COMMIT : Field := ⟨0x1000014, 31, 1, .wo, false, 0, 0x1000, 0x0⟩
def SPIN_PROG_ENTRY_ENTRY : Field := ⟨0x1000014, 0, 12, .rw, false, 0, 0x1000, 0x0⟩
def SPIN_EVT_LATE_SWAP : Field := ⟨0x1000018, 7, 1, .w1c, false, 0, 0x1000, 0x0⟩
def SPIN_EVT_PROG_EVT : Field := ⟨0x1000018, 6, 1, .w1c, false, 0, 0x1000, 0x0⟩
def SPIN_EVT_SWAPPED : Field := ⟨0x1000018, 5, 1, .w1c, false, 0, 0x1000, 0x0⟩
def SPIN_EVT_PROG_REFUSED : Field := ⟨0x1000018, 4, 1, .w1c, false, 0, 0x1000, 0x0⟩
def SPIN_EVT_SAT : Field := ⟨0x1000018, 3, 1, .w1c, false, 0, 0x1000, 0x0⟩
def SPIN_EVT_IN_DROP : Field := ⟨0x1000018, 2, 1, .w1c, false, 0, 0x1000, 0x0⟩
def SPIN_EVT_VOID : Field := ⟨0x1000018, 1, 1, .w1c, false, 0, 0x1000, 0x0⟩
def SPIN_EVT_FAULT : Field := ⟨0x1000018, 0, 1, .w1c, true, 0, 0x1000, 0x0⟩
def SPIN_FAULT_CODE : Field := ⟨0x100001C, 28, 4, .ro, true, 0, 0x1000, 0x0⟩
def SPIN_FAULT_PC : Field := ⟨0x100001C, 16, 12, .ro, true, 0, 0x1000, 0x0⟩
def SPIN_FAULT_PCODE : Field := ⟨0x100001C, 8, 8, .ro, false, 0, 0x1000, 0x0⟩
def SPIN_FAULT_COUNT : Field := ⟨0x100001C, 0, 8, .rc, false, 0, 0x1000, 0x0⟩
def SPIN_BLOCK_MAX_CYCLES : Field := ⟨0x1000020, 0, 32, .rc, false, 0, 0x1000, 0x0⟩
def SPIN_STALL_IN_CYCLES : Field := ⟨0x1000024, 0, 32, .rc, false, 0, 0x1000, 0x0⟩
def SPIN_STALL_OUT_CYCLES : Field := ⟨0x1000028, 0, 32, .rc, false, 0, 0x1000, 0x0⟩
def SPIN_VOID_IN_DROP : Field := ⟨0x100002C, 16, 16, .rc, false, 0, 0x1000, 0x0⟩
def SPIN_VOID_VOID : Field := ⟨0x100002C, 0, 16, .rc, false, 0, 0x1000, 0x0⟩
def SPIN_SAT_COUNT : Field := ⟨0x1000030, 0, 32, .rc, false, 0, 0x1000, 0x0⟩
def SPIN_LMEM_ADDR_WORD : Field := ⟨0x1000040, 2, 16, .rw, false, 0, 0x1000, 0x0⟩
def SPIN_LMEM_DATA_DATA : Field := ⟨0x1000044, 0, 32, .rw, false, 0, 0x1000, 0x0⟩
def SPIN_GAIN_ADDR_INDEX : Field := ⟨0x1000048, 0, 13, .rw, false, 0, 0x1000, 0x0⟩
def SPIN_GAIN_DATA_IMAG : Field := ⟨0x100004C, 16, 16, .rw, false, 0, 0x1000, 0x0⟩
def SPIN_GAIN_DATA_REAL : Field := ⟨0x100004C, 0, 16, .rw, false, 32767, 0x1000, 0x0⟩
def SPIN_BANK_CTL_SUMMARY : Field := ⟨0x1200000, 0, 1, .rw, false, 0, 0x100, 0x0⟩
def SPIN_BANK_EVT_FLUSH_LATE : Field := ⟨0x1200004, 0, 1, .w1c, false, 0, 0x100, 0x0⟩
def SPIN_BANK_PEND_SPINDLES : Field := ⟨0x1200008, 0, 64, .ro, false, 0, 0x100, 0x0⟩

/-! Fields of `spec/09_zoom_chain.md`. -/

def ZOOM_CTL_SWAP_CANCEL : Field := ⟨0x1400000, 1, 1, .wo, false, 0, 0x400, 0x0⟩
def ZOOM_CTL_SWAP_ARM : Field := ⟨0x1400000, 0, 1, .wo, false, 0, 0x400, 0x0⟩
def ZOOM_STATUS_RUN : Field := ⟨0x1400004, 2, 1, .ro, false, 0, 0x400, 0x0⟩
def ZOOM_STATUS_SWAP_PENDING : Field := ⟨0x1400004, 1, 1, .ro, false, 0, 0x400, 0x0⟩
def ZOOM_STATUS_ACTIVE_BANK : Field := ⟨0x1400004, 0, 1, .ro, false, 0, 0x400, 0x0⟩
def ZOOM_CONFIG_D : Field := ⟨0x1400008, 30, 2, .ro, false, 0, 0x400, 0x0⟩
def ZOOM_CONFIG_M : Field := ⟨0x1400008, 27, 3, .ro, false, 0, 0x400, 0x0⟩
def ZOOM_CONFIG_L : Field := ⟨0x1400008, 19, 8, .ro, false, 0, 0x400, 0x0⟩
def ZOOM_CONFIG_R : Field := ⟨0x1400008, 6, 13, .ro, false, 0, 0x400, 0x0⟩
def ZOOM_CONFIG_SHIFT : Field := ⟨0x1400008, 0, 6, .ro, false, 0, 0x400, 0x0⟩
def ZOOM_GDELAY_HALF_SAMPLES : Field := ⟨0x140000C, 0, 20, .ro, false, 0, 0x400, 0x0⟩
def ZOOM_SWAP_TIME_TIME : Field := ⟨0x1400010, 0, 64, .rw, false, 0, 0x400, 0x0⟩
def ZOOM_COEF_ADDR_BANK : Field := ⟨0x1400018, 8, 1, .rw, false, 0, 0x400, 0x0⟩
def ZOOM_COEF_ADDR_INDEX : Field := ⟨0x1400018, 0, 6, .rw, false, 0, 0x400, 0x0⟩
def ZOOM_COEF_DATA_SIGN : Field := ⟨0x140001C, 18, 14, .ro, false, 0, 0x400, 0x0⟩
def ZOOM_COEF_DATA_COEF : Field := ⟨0x140001C, 0, 18, .rw, false, 0, 0x400, 0x0⟩
def ZOOM_SAT_COUNT : Field := ⟨0x1400020, 0, 32, .rc, false, 0, 0x400, 0x0⟩
def ZOOM_MISSING_MISSING : Field := ⟨0x1400024, 16, 16, .rc, false, 0, 0x400, 0x0⟩
def ZOOM_MISSING_SUPPRESSED : Field := ⟨0x1400024, 0, 16, .rc, false, 0, 0x400, 0x0⟩
def ZOOM_FLAGS_REFUSED : Field := ⟨0x1400028, 8, 8, .rc, false, 0, 0x400, 0x0⟩
def ZOOM_FLAGS_SWAP_CANCELLED : Field := ⟨0x1400028, 4, 1, .w1c, false, 0, 0x400, 0x0⟩
def ZOOM_FLAGS_SWAPPED : Field := ⟨0x1400028, 3, 1, .w1c, false, 0, 0x400, 0x0⟩
def ZOOM_FLAGS_SWAP_LATE : Field := ⟨0x1400028, 2, 1, .w1c, false, 0, 0x400, 0x0⟩
def ZOOM_FLAGS_COEF_REFUSED : Field := ⟨0x1400028, 1, 1, .w1c, false, 0, 0x400, 0x0⟩
def ZOOM_FLAGS_SAT : Field := ⟨0x1400028, 0, 1, .w1c, false, 0, 0x400, 0x0⟩
def ZOOM_SLOT_CH_SUPPRESSING : Field := ⟨0x1400100, 16, 1, .ro, false, 0, 0x400, 0x8⟩
def ZOOM_SLOT_CH_COARSE : Field := ⟨0x1400100, 0, 16, .ro, false, 65535, 0x400, 0x8⟩
def ZOOM_SLOT_NCO_FREQ : Field := ⟨0x1400104, 0, 32, .ro, false, 0, 0x400, 0x8⟩

/-! Fields of `spec/10_skein_lanes.md`. -/

def LANE_CTL_EVT_LOCK_EN : Field := ⟨0x1800000, 8, 1, .rw, false, 0, 0x1000, 0x0⟩
def LANE_CTL_RELOCK : Field := ⟨0x1800000, 7, 1, .wo, false, 0, 0x1000, 0x0⟩
def LANE_CTL_FREEZE : Field := ⟨0x1800000, 6, 1, .rw, false, 0, 0x1000, 0x0⟩
def LANE_CTL_TX_INVERT : Field := ⟨0x1800000, 5, 1, .rwl, false, 0, 0x1000, 0x0⟩
def LANE_CTL_RX_INVERT : Field := ⟨0x1800000, 4, 1, .rwl, false, 0, 0x1000, 0x0⟩
def LANE_CTL_TX_PRBS : Field := ⟨0x1800000, 3, 1, .rwl, false, 0, 0x1000, 0x0⟩
def LANE_CTL_RX_PRBS : Field := ⟨0x1800000, 2, 1, .rwl, false, 0, 0x1000, 0x0⟩
def LANE_CTL_TX_QUIET : Field := ⟨0x1800000, 1, 1, .rw, false, 0, 0x1000, 0x0⟩
def LANE_STATUS_REMOTE_NODE : Field := ⟨0x1800004, 24, 8, .ro, false, 0, 0x1000, 0x0⟩
def LANE_STATUS_REMOTE_HANK : Field := ⟨0x1800004, 20, 4, .ro, false, 0, 0x1000, 0x0⟩
def LANE_STATUS_REMOTE_LANE : Field := ⟨0x1800004, 16, 3, .ro, false, 0, 0x1000, 0x0⟩
def LANE_STATUS_REMOTE_RX_LOCKED : Field := ⟨0x1800004, 15, 1, .ro, false, 0, 0x1000, 0x0⟩
def LANE_STATUS_REMOTE_VALID : Field := ⟨0x1800004, 14, 1, .ro, false, 0, 0x1000, 0x0⟩
def LANE_STATUS_RATE : Field := ⟨0x1800004, 8, 2, .ro, false, 0, 0x1000, 0x0⟩
def LANE_STATUS_TX_ON : Field := ⟨0x1800004, 7, 1, .ro, false, 0, 0x1000, 0x0⟩
def LANE_STATUS_RX_ON : Field := ⟨0x1800004, 6, 1, .ro, false, 0, 0x1000, 0x0⟩
def LANE_STATUS_SIGNAL : Field := ⟨0x1800004, 3, 1, .ro, false, 0, 0x1000, 0x0⟩
def LANE_STATUS_STATE : Field := ⟨0x1800004, 0, 3, .ro, false, 0, 0x1000, 0x0⟩
def LANE_TX_FFE_MAIN : Field := ⟨0x1800008, 16, 6, .ro, false, 52, 0x1000, 0x0⟩
def LANE_TX_FFE_POST : Field := ⟨0x1800008, 8, 6, .rw, false, 8, 0x1000, 0x0⟩
def LANE_TX_FFE_PRE : Field := ⟨0x1800008, 0, 5, .rw, false, 4, 0x1000, 0x0⟩
def LANE_RX_EQ_EYE : Field := ⟨0x180000C, 16, 16, .ro, false, 0, 0x1000, 0x0⟩
def LANE_RX_EQ_CTLE : Field := ⟨0x180000C, 0, 4, .ro, false, 0, 0x1000, 0x0⟩
def LANE_DFE_TAP0 : Field := ⟨0x1800010, 0, 8, .ro, false, 0, 0x1000, 0x4⟩
def LANE_DFE_TAP1 : Field := ⟨0x1800010, 8, 8, .ro, false, 0, 0x1000, 0x4⟩
def LANE_DFE_TAP2 : Field := ⟨0x1800010, 16, 8, .ro, false, 0, 0x1000, 0x4⟩
def LANE_DFE_TAP3 : Field := ⟨0x1800010, 24, 8, .ro, false, 0, 0x1000, 0x4⟩
def LANE_ERR_HDR_COUNT : Field := ⟨0x1800020, 0, 32, .rc, false, 0, 0x1000, 0x0⟩
def LANE_ERR_CTRL_COMMA_MISS : Field := ⟨0x1800024, 16, 16, .rc, false, 0, 0x1000, 0x0⟩
def LANE_ERR_CTRL_UNKNOWN : Field := ⟨0x1800024, 0, 16, .rc, false, 0, 0x1000, 0x0⟩
def LANE_LOCKS_LOST : Field := ⟨0x1800028, 16, 16, .rc, false, 0, 0x1000, 0x0⟩
def LANE_LOCKS_GAINED : Field := ⟨0x1800028, 0, 16, .rc, false, 0, 0x1000, 0x0⟩
def LANE_FILL_INS_COUNT : Field := ⟨0x180002C, 0, 32, .rc, false, 0, 0x1000, 0x0⟩
def LANE_FILL_DEL_COUNT : Field := ⟨0x1800030, 0, 32, .rc, false, 0, 0x1000, 0x0⟩
def LANE_ESLIP_OVERFLOW : Field := ⟨0x1800034, 24, 8, .rc, false, 0, 0x1000, 0x0⟩
def LANE_ESLIP_UNDERFLOW : Field := ⟨0x1800034, 16, 8, .rc, false, 0, 0x1000, 0x0⟩
def LANE_ESLIP_LEVEL : Field := ⟨0x1800034, 0, 7, .ro, false, 0, 0x1000, 0x0⟩
def LANE_PRBS_ERR_COUNT : Field := ⟨0x1800038, 0, 32, .rc, false, 0, 0x1000, 0x0⟩
def LANE_EVT_ERR_HIGH : Field := ⟨0x180003C, 3, 1, .w1c, false, 0, 0x1000, 0x0⟩
def LANE_EVT_ESLIP : Field := ⟨0x180003C, 2, 1, .w1c, false, 0, 0x1000, 0x0⟩
def LANE_EVT_LOCK_GAINED : Field := ⟨0x180003C, 1, 1, .w1c, false, 0, 0x1000, 0x0⟩
def LANE_EVT_LOCK_LOST : Field := ⟨0x180003C, 0, 1, .w1c, false, 0, 0x1000, 0x0⟩
def HANK_CTL_MIN_LANES : Field := ⟨0x1900000, 16, 4, .rw, false, 0, 0x100, 0x0⟩
def HANK_CTL_LANES : Field := ⟨0x1900000, 8, 8, .rwl, false, 0, 0x100, 0x0⟩
def HANK_CTL_RATE : Field := ⟨0x1900000, 4, 2, .rwl, false, 0, 0x100, 0x0⟩
def HANK_CTL_ROLE : Field := ⟨0x1900000, 0, 4, .rwl, false, 0, 0x100, 0x0⟩
def HANK_STATUS_LOCKED : Field := ⟨0x1900004, 16, 8, .ro, false, 0, 0x100, 0x0⟩
def HANK_STATUS_POWERED : Field := ⟨0x1900004, 8, 8, .ro, false, 0, 0x100, 0x0⟩
def HANK_STATUS_PLL_LOCK : Field := ⟨0x1900004, 6, 1, .ro, false, 0, 0x100, 0x0⟩
def HANK_STATUS_UP : Field := ⟨0x1900004, 5, 1, .ro, false, 0, 0x100, 0x0⟩
def HANK_STATUS_DRAFT : Field := ⟨0x1900004, 4, 1, .ro, false, 0, 0x100, 0x0⟩
def HANK_STATUS_ROLE : Field := ⟨0x1900004, 0, 4, .ro, false, 0, 0x100, 0x0⟩
def HANK_EVT_PLL_FAULT : Field := ⟨0x1900008, 2, 1, .w1c, true, 0, 0x100, 0x0⟩
def HANK_EVT_UP : Field := ⟨0x1900008, 1, 1, .w1c, false, 0, 0x100, 0x0⟩
def HANK_EVT_DOWN : Field := ⟨0x1900008, 0, 1, .w1c, false, 0, 0x100, 0x0⟩

/-! Fields of `spec/11_skein_frames.md`. -/

def CLASS_STATUS_VALID : Field := ⟨0x1A00000, 1, 14, .ro, false, 0, 0x0, 0x0⟩
def CLASS_STATUS_DRAIN : Field := ⟨0x1A00000, 0, 1, .ro, false, 0, 0x0, 0x0⟩
def CLASS_SEL_GEN : Field := ⟨0x1A00004, 16, 4, .ro, false, 0, 0x0, 0x0⟩
def CLASS_SEL_INDEX : Field := ⟨0x1A00004, 0, 13, .rw, false, 0, 0x0, 0x0⟩
def CLASS_ENTRY_WORD : Field := ⟨0x1A00008, 0, 32, .ro, false, 0, 0x4, 0x0⟩
def FRAME_EVT_CAUSE : Field := ⟨0x1A00020, 0, 8, .w1c, false, 0, 0x0, 0x0⟩
def FRAME_ERR_CRC : Field := ⟨0x1A00024, 16, 16, .rc, false, 0, 0x0, 0x0⟩
def FRAME_ERR_HDR_BAD : Field := ⟨0x1A00024, 0, 16, .rc, false, 0, 0x0, 0x0⟩
def FRAME_DISCARD_SHAPE : Field := ⟨0x1A00028, 24, 8, .rc, false, 0, 0x0, 0x0⟩
def FRAME_DISCARD_UNCLASSIFIED : Field := ⟨0x1A00028, 16, 8, .rc, false, 0, 0x0, 0x0⟩
def FRAME_DISCARD_MISALIGNED : Field := ⟨0x1A00028, 8, 8, .rc, false, 0, 0x0, 0x0⟩
def FRAME_DISCARD_LATE : Field := ⟨0x1A00028, 0, 8, .rc, false, 0, 0x0, 0x0⟩
def FRAME_DUP_MISNUMBERED : Field := ⟨0x1A0002C, 16, 16, .rc, false, 0, 0x0, 0x0⟩
def FRAME_DUP_DUPLICATE : Field := ⟨0x1A0002C, 0, 16, .rc, false, 0, 0x0, 0x0⟩
def FRAME_LOSS_OVERFLOW : Field := ⟨0x1A00030, 16, 16, .rc, false, 0, 0x0, 0x0⟩
def FRAME_LOSS_TRUNCATED : Field := ⟨0x1A00030, 0, 16, .rc, false, 0, 0x0, 0x0⟩
def FRAME_LAST_DISCARD_REASON : Field := ⟨0x1A00034, 24, 4, .ro, false, 0, 0x0, 0x0⟩
def FRAME_LAST_DISCARD_LANE : Field := ⟨0x1A00034, 16, 8, .ro, false, 0, 0x0, 0x0⟩
def FRAME_LAST_DISCARD_SOURCE_ID : Field := ⟨0x1A00034, 0, 16, .ro, false, 0, 0x0, 0x0⟩
def FRAME_NP_TIMEOUT_UNMATCHED : Field := ⟨0x1A00038, 16, 16, .rc, false, 0, 0x0, 0x0⟩
def FRAME_NP_TIMEOUT_TIMEOUT : Field := ⟨0x1A00038, 0, 16, .rc, false, 0, 0x0, 0x0⟩
def FRAME_DISCARD_EDGE_AFTER_STOP : Field := ⟨0x1A0003C, 16, 16, .rc, false, 0, 0x0, 0x0⟩
def FRAME_DISCARD_EDGE_EARLY : Field := ⟨0x1A0003C, 0, 16, .rc, false, 0, 0x0, 0x0⟩
def FRAME_GAP_WORD : Field := ⟨0x1A00040, 0, 32, .ro, false, 0, 0x4, 0x0⟩
def FRAME_GAP_CTL_POP : Field := ⟨0x1A00060, 31, 1, .wo, false, 0, 0x0, 0x0⟩
def FRAME_GAP_CTL_DROPPED : Field := ⟨0x1A00060, 8, 8, .rc, false, 0, 0x0, 0x0⟩
def FRAME_GAP_CTL_COUNT : Field := ⟨0x1A00060, 0, 7, .ro, false, 0, 0x0, 0x0⟩
def FRAME_HANK_CFG_CREDITED : Field := ⟨0x1A01000, 0, 1, .rwl, false, 0, 0x10, 0x0⟩
def FRAME_HANK_CREDIT_CHK_ERR : Field := ⟨0x1A01004, 16, 16, .rc, false, 0, 0x10, 0x0⟩
def FRAME_HANK_CREDIT_OVERRUN : Field := ⟨0x1A01004, 8, 8, .rc, false, 0, 0x10, 0x0⟩
def FRAME_HANK_CREDIT_STALE_EPOCH : Field := ⟨0x1A01004, 0, 8, .rc, false, 0, 0x10, 0x0⟩
def FRAME_HANK_STALL_CYCLES : Field := ⟨0x1A01008, 0, 32, .rc, false, 0, 0x10, 0x0⟩

/-! Fields of `spec/12_mesh_and_pairing.md`. -/

def MESH_NODE_ID : Field := ⟨0x1C00000, 0, 6, .rwl, true, 0, 0x0, 0x0⟩
def MESH_STATUS_MEMBERS : Field := ⟨0x1C00004, 8, 7, .ro, false, 0, 0x0, 0x0⟩
def MESH_STATUS_ARMED : Field := ⟨0x1C00004, 2, 1, .ro, false, 0, 0x0, 0x0⟩
def MESH_STATUS_STATE : Field := ⟨0x1C00004, 0, 2, .ro, false, 0, 0x0, 0x0⟩
def MESH_CTL_CANCEL : Field := ⟨0x1C00008, 1, 1, .wo, false, 0, 0x0, 0x0⟩
def MESH_CTL_ARM : Field := ⟨0x1C00008, 0, 1, .wo, false, 0, 0x0, 0x0⟩
def MESH_COUNT_FOREIGN : Field := ⟨0x1C0000C, 16, 16, .rc, false, 0, 0x0, 0x0⟩
def MESH_COUNT_OPER_LATE : Field := ⟨0x1C0000C, 0, 16, .rc, false, 0, 0x0, 0x0⟩
def MESH_LAYOUT_NODES : Field := ⟨0x1C00010, 0, 64, .ro, false, 0, 0x0, 0x0⟩
def MESH_NEXT_NODES : Field := ⟨0x1C00018, 0, 64, .rw, false, 0, 0x0, 0x0⟩
def MESH_NEXT_TIME_TIME : Field := ⟨0x1C00020, 0, 64, .rw, false, 0, 0x0, 0x0⟩
def MESH_SEEN_NODES : Field := ⟨0x1C00028, 0, 64, .w1c, false, 0, 0x0, 0x0⟩
def MESH_LOST_NODES : Field := ⟨0x1C00030, 0, 64, .w1c, false, 0, 0x0, 0x0⟩
def MESH_BASE_SPAN_SPAN : Field := ⟨0x1C00038, 0, 64, .rwl, false, 0, 0x0, 0x0⟩
def MESH_EVT_CAUSE : Field := ⟨0x1C00040, 0, 6, .w1c, false, 0, 0x0, 0x0⟩
def PAIR_CTL_ARB : Field := ⟨0x2900000, 24, 8, .rwl, false, 255, 0x0, 0x0⟩
def PAIR_CTL_PREFER : Field := ⟨0x2900000, 8, 1, .rwl, false, 0, 0x0, 0x0⟩
def PAIR_CTL_RESYNC : Field := ⟨0x2900000, 4, 1, .wo, false, 0, 0x0, 0x0⟩
def PAIR_CTL_SOLO : Field := ⟨0x2900000, 3, 1, .wo, false, 0, 0x0, 0x0⟩
def PAIR_CTL_SIDE : Field := ⟨0x2900000, 2, 1, .rwl, false, 0, 0x0, 0x0⟩
def PAIR_CTL_MODE : Field := ⟨0x2900000, 0, 2, .rwl, false, 0, 0x0, 0x0⟩
def PAIR_STATUS_STBY_IGNORED : Field := ⟨0x2900004, 24, 8, .rc, false, 0, 0x0, 0x0⟩
def PAIR_STATUS_STATE : Field := ⟨0x2900004, 8, 3, .ro, false, 0, 0x0, 0x0⟩
def PAIR_STATUS_LEASE : Field := ⟨0x2900004, 6, 1, .ro, false, 0, 0x0, 0x0⟩
def PAIR_STATUS_PAIR_ACTIVE : Field := ⟨0x2900004, 5, 1, .ro, false, 0, 0x0, 0x0⟩
def PAIR_STATUS_WITNESS : Field := ⟨0x2900004, 4, 1, .ro, false, 0, 0x0, 0x0⟩
def PAIR_HEALTH_HEALTH : Field := ⟨0x2900008, 0, 32, .ro, false, 0, 0x0, 0x0⟩
def PAIR_PEER_HEALTH_HEALTH : Field := ⟨0x290000C, 0, 32, .ro, false, 0, 0x0, 0x0⟩
def PAIR_LEASE_END_TIME : Field := ⟨0x2900010, 0, 64, .ro, false, 0, 0x0, 0x0⟩
def PAIR_HB_SENT_COUNT : Field := ⟨0x2900018, 0, 32, .ro, false, 0, 0x0, 0x0⟩
def PAIR_GRANT_NODE_NODE : Field := ⟨0x290001C, 0, 8, .wo, false, 0, 0x0, 0x0⟩
def PAIR_GRANT_END_TIME : Field := ⟨0x2900020, 0, 64, .wo, false, 0, 0x0, 0x0⟩
def PAIR_MSEQ_TX_MSEQ : Field := ⟨0x2900028, 0, 32, .ro, false, 0, 0x0, 0x0⟩
def PAIR_MSEQ_RX_MSEQ : Field := ⟨0x290002C, 0, 32, .ro, false, 0, 0x0, 0x0⟩
def PAIR_DIV_WHERE_CHANNEL : Field := ⟨0x2900030, 16, 16, .ro, false, 0, 0x0, 0x0⟩
def PAIR_DIV_WHERE_PLY : Field := ⟨0x2900030, 0, 10, .ro, false, 0, 0x0, 0x0⟩
def PAIR_DIV_COUNT_COUNT : Field := ⟨0x2900034, 0, 32, .rc, false, 0, 0x0, 0x0⟩
def PAIR_EVT_CAUSE : Field := ⟨0x2900038, 0, 9, .w1c, false, 0, 0x0, 0x0⟩
def PAIR_FAILOVERS_FAILOVERS : Field := ⟨0x290003C, 16, 16, .ro, true, 0, 0x0, 0x0⟩
def PAIR_FAILOVERS_RELEASED : Field := ⟨0x290003C, 0, 16, .rc, false, 0, 0x0, 0x0⟩
def PAIR_BADGER_TAKEOVERS : Field := ⟨0x2900040, 16, 16, .ro, true, 0, 0x0, 0x0⟩
def PAIR_BADGER_RESTART : Field := ⟨0x2900040, 3, 1, .wo, false, 0, 0x0, 0x0⟩
def PAIR_BADGER_FAILED : Field := ⟨0x2900040, 2, 1, .ro, false, 0, 0x0, 0x0⟩
def PAIR_BADGER_STANDBY_OK : Field := ⟨0x2900040, 1, 1, .ro, false, 0, 0x0, 0x0⟩
def PAIR_BADGER_ACTIVE_CORE : Field := ⟨0x2900040, 0, 1, .ro, false, 0, 0x0, 0x0⟩
def PAIR_OWL_TABLE_WORD : Field := ⟨0x2900100, 0, 32, .ro, false, 0, 0x4, 0x0⟩

/-! Fields of `spec/13_memory_stacks.md`. -/

def MEM_CTL_MIG_RATE : Field := ⟨0x2000000, 8, 8, .rw, false, 50, 0x10000, 0x0⟩
def MEM_CTL_SCRUB_EN : Field := ⟨0x2000000, 6, 1, .rw, false, 1, 0x10000, 0x0⟩
def MEM_CTL_RETIRE_SID : Field := ⟨0x2000000, 4, 2, .rw, false, 0, 0x10000, 0x0⟩
def MEM_CTL_RETIRE : Field := ⟨0x2000000, 3, 1, .wo, false, 0, 0x10000, 0x0⟩
def MEM_CTL_TRAIN_FAIL : Field := ⟨0x2000000, 2, 1, .wo, false, 0, 0x10000, 0x0⟩
def MEM_CTL_TRAIN_COMMIT : Field := ⟨0x2000000, 1, 1, .wo, false, 0, 0x10000, 0x0⟩
def MEM_STATUS_TEMP : Field := ⟨0x2000004, 24, 8, .ro, false, 0, 0x10000, 0x0⟩
def MEM_STATUS_MULT : Field := ⟨0x2000004, 20, 2, .ro, false, 0, 0x10000, 0x0⟩
def MEM_STATUS_SPARE : Field := ⟨0x2000004, 18, 2, .ro, false, 0, 0x10000, 0x0⟩
def MEM_STATUS_RETIRED_SID : Field := ⟨0x2000004, 16, 2, .ro, false, 0, 0x10000, 0x0⟩
def MEM_STATUS_RETIRED : Field := ⟨0x2000004, 15, 1, .ro, false, 0, 0x10000, 0x0⟩
def MEM_STATUS_SHED : Field := ⟨0x2000004, 12, 3, .ro, false, 0, 0x10000, 0x0⟩
def MEM_STATUS_STATE : Field := ⟨0x2000004, 0, 3, .ro, false, 0, 0x10000, 0x0⟩
def MEM_EVT_SHED_GUAR : Field := ⟨0x2000008, 8, 1, .w1c, false, 0, 0x10000, 0x0⟩
def MEM_EVT_SHED_ASSURED : Field := ⟨0x2000008, 7, 1, .w1c, false, 0, 0x10000, 0x0⟩
def MEM_EVT_SHED_BE : Field := ⟨0x2000008, 6, 1, .w1c, false, 0, 0x10000, 0x0⟩
def MEM_EVT_THROTTLE : Field := ⟨0x2000008, 5, 1, .w1c, false, 0, 0x10000, 0x0⟩
def MEM_EVT_MIG_DONE : Field := ⟨0x2000008, 4, 1, .w1c, false, 0, 0x10000, 0x0⟩
def MEM_EVT_MIG_START : Field := ⟨0x2000008, 3, 1, .w1c, false, 0, 0x10000, 0x0⟩
def MEM_EVT_CA_FAIL : Field := ⟨0x2000008, 2, 1, .w1c, true, 0, 0x10000, 0x0⟩
def MEM_EVT_UE : Field := ⟨0x2000008, 1, 1, .w1c, true, 0, 0x10000, 0x0⟩
def MEM_EVT_CE : Field := ⟨0x2000008, 0, 1, .w1c, false, 0, 0x10000, 0x0⟩
def MEM_CE_COUNT_SID0 : Field := ⟨0x200000C, 0, 8, .rc, false, 0, 0x10000, 0x0⟩
def MEM_CE_COUNT_SID1 : Field := ⟨0x200000C, 8, 8, .rc, false, 0, 0x10000, 0x0⟩
def MEM_CE_COUNT_SID2 : Field := ⟨0x200000C, 16, 8, .rc, false, 0, 0x10000, 0x0⟩
def MEM_CE_COUNT_SID3 : Field := ⟨0x200000C, 24, 8, .rc, false, 0, 0x10000, 0x0⟩
def MEM_UE_COUNT_SID0 : Field := ⟨0x2000010, 0, 8, .rc, false, 0, 0x10000, 0x0⟩
def MEM_UE_COUNT_SID1 : Field := ⟨0x2000010, 8, 8, .rc, false, 0, 0x10000, 0x0⟩
def MEM_UE_COUNT_SID2 : Field := ⟨0x2000010, 16, 8, .rc, false, 0, 0x10000, 0x0⟩
def MEM_UE_COUNT_SID3 : Field := ⟨0x2000010, 24, 8, .rc, false, 0, 0x10000, 0x0⟩
def MEM_ERR_WHERE_SID : Field := ⟨0x2000014, 30, 2, .ro, false, 0, 0x10000, 0x0⟩
def MEM_ERR_WHERE_BANK : Field := ⟨0x2000014, 26, 4, .ro, false, 0, 0x10000, 0x0⟩
def MEM_ERR_WHERE_ROW : Field := ⟨0x2000014, 11, 15, .ro, false, 0, 0x10000, 0x0⟩
def MEM_ERR_WHERE_PCH : Field := ⟨0x2000014, 6, 5, .ro, false, 0, 0x10000, 0x0⟩
def MEM_ERR_WHERE_KIND : Field := ⟨0x2000014, 4, 2, .ro, false, 0, 0x10000, 0x0⟩
def MEM_MIG_PROGRESS : Field := ⟨0x2000018, 0, 16, .ro, false, 0, 0x10000, 0x0⟩
def MEM_RD_CTL_FRAC : Field := ⟨0x200001C, 28, 4, .rw, false, 4, 0x10000, 0x0⟩
def MEM_RD_CTL_LIMIT : Field := ⟨0x200001C, 0, 16, .rw, false, 2048, 0x10000, 0x0⟩
def MEM_RD_LAST_PORT : Field := ⟨0x2000020, 26, 6, .ro, false, 0, 0x10000, 0x0⟩
def MEM_RD_LAST_PCH : Field := ⟨0x2000020, 21, 5, .ro, false, 0, 0x10000, 0x0⟩
def MEM_RD_LAST_SID : Field := ⟨0x2000020, 19, 2, .ro, false, 0, 0x10000, 0x0⟩
def MEM_RD_LAST_BANK : Field := ⟨0x2000020, 15, 4, .ro, false, 0, 0x10000, 0x0⟩
def MEM_RD_LAST_ROW : Field := ⟨0x2000020, 0, 15, .ro, false, 0, 0x10000, 0x0⟩
def MEM_RD_FLAGS_COUNT : Field := ⟨0x2000024, 0, 32, .rc, false, 0, 0x10000, 0x0⟩
def MEM_SHED_TIME_GUAR_MS : Field := ⟨0x2000028, 16, 16, .rc, false, 0, 0x10000, 0x0⟩
def MEM_SHED_TIME_ASSURED_MS : Field := ⟨0x2000028, 0, 16, .rc, false, 0, 0x10000, 0x0⟩
def MEM_SCRUB_PASSES : Field := ⟨0x200002C, 16, 16, .ro, false, 0, 0x10000, 0x0⟩
def MEM_SCRUB_HOURS : Field := ⟨0x200002C, 0, 16, .rw, false, 24, 0x10000, 0x0⟩
def MEM_TRAIN_SEL_KIND : Field := ⟨0x2000040, 16, 3, .rw, false, 0, 0x10000, 0x0⟩
def MEM_TRAIN_SEL_BIT : Field := ⟨0x2000040, 8, 6, .rw, false, 0, 0x10000, 0x0⟩
def MEM_TRAIN_SEL_PC : Field := ⟨0x2000040, 4, 1, .rw, false, 0, 0x10000, 0x0⟩
def MEM_TRAIN_SEL_CH : Field := ⟨0x2000040, 0, 4, .rw, false, 0, 0x10000, 0x0⟩
def MEM_TRAIN_DLY_ALL : Field := ⟨0x2000044, 8, 1, .wo, false, 0, 0x10000, 0x0⟩
def MEM_TRAIN_DLY_DLY : Field := ⟨0x2000044, 0, 7, .rw, false, 0, 0x10000, 0x0⟩
def MEM_TRAIN_CMD_PROBE : Field := ⟨0x2000048, 0, 1, .wo, false, 0, 0x10000, 0x0⟩
def MEM_TRAIN_STATUS_REFUSED : Field := ⟨0x200004C, 24, 8, .rc, false, 0, 0x10000, 0x0⟩
def MEM_TRAIN_STATUS_BUSY : Field := ⟨0x200004C, 0, 1, .ro, false, 0, 0x10000, 0x0⟩
def MEM_TRAIN_RESULT_PASS : Field := ⟨0x2000050, 0, 40, .ro, false, 0, 0x10000, 0x0⟩
def MEM_PORT_CFG_CLASS : Field := ⟨0x2080000, 16, 2, .ro, false, 2, 0x20, 0x0⟩
def MEM_PORT_CFG_LATENCY : Field := ⟨0x2080000, 0, 16, .ro, false, 10000, 0x20, 0x0⟩
def MEM_PORT_SERVED_UNITS : Field := ⟨0x2080004, 0, 64, .ro, false, 0, 0x20, 0x0⟩
def MEM_PORT_DELAYED_UNITS : Field := ⟨0x208000C, 0, 32, .rc, false, 0, 0x20, 0x0⟩
def MEM_PORT_DELAY_CYC_CYCLES : Field := ⟨0x2080010, 0, 32, .rc, false, 0, 0x20, 0x0⟩
def MEM_PORT_REFUSED_SHED : Field := ⟨0x2080014, 16, 16, .rc, false, 0, 0x20, 0x0⟩
def MEM_PORT_REFUSED_OTHER : Field := ⟨0x2080014, 0, 16, .rc, false, 0, 0x20, 0x0⟩
def MEM_PORT_THROTTLE_CYCLES : Field := ⟨0x2080018, 0, 32, .rc, false, 0, 0x20, 0x0⟩

/-! Fields of `spec/14_store_map.md`. -/

def STORE_STATUS_IGNORED : Field := ⟨0x2100000, 24, 8, .rc, false, 0, 0x0, 0x0⟩
def STORE_STATUS_INV_BUSY : Field := ⟨0x2100000, 8, 1, .ro, false, 0, 0x0, 0x0⟩
def STORE_STATUS_DEFAULT : Field := ⟨0x2100000, 4, 1, .ro, false, 1, 0x0, 0x0⟩
def STORE_STATUS_STATE : Field := ⟨0x2100000, 0, 2, .ro, false, 0, 0x0, 0x0⟩
def STORE_ROOT_VALID : Field := ⟨0x2100004, 31, 1, .ro, false, 0, 0x0, 0x0⟩
def STORE_ROOT_L1_COUNT : Field := ⟨0x2100004, 12, 19, .ro, false, 0, 0x0, 0x0⟩
def STORE_ROOT_REGION : Field := ⟨0x2100004, 0, 10, .ro, false, 0, 0x0, 0x0⟩
def STORE_INV_ALL : Field := ⟨0x2100008, 9, 1, .wo, false, 0, 0x0, 0x0⟩
def STORE_INV_GO : Field := ⟨0x2100008, 8, 1, .wo, false, 0, 0x0, 0x0⟩
def STORE_INV_GEN : Field := ⟨0x2100008, 0, 8, .rw, false, 0, 0x0, 0x0⟩
def STORE_BAR2_BASE : Field := ⟨0x210000C, 0, 12, .rw, false, 0, 0x0, 0x0⟩
def STORE_EVT_CAUSE : Field := ⟨0x2100010, 0, 5, .w1c, false, 0, 0x0, 0x0⟩
def STORE_CACHE_HIT_COUNT : Field := ⟨0x2100014, 0, 32, .rc, false, 0, 0x0, 0x0⟩
def STORE_CACHE_MISS_COUNT : Field := ⟨0x2100018, 0, 32, .rc, false, 0, 0x0, 0x0⟩
def STORE_FAULT_COUNT_COUNT : Field := ⟨0x210001C, 0, 32, .rc, false, 0, 0x0, 0x0⟩
def STORE_BAR2_DROP_COUNT : Field := ⟨0x2100020, 0, 32, .rc, false, 0, 0x0, 0x0⟩
def STORE_FAULT_WORD : Field := ⟨0x2100040, 0, 32, .ro, false, 0, 0x4, 0x0⟩
def STORE_FAULT_CTL_POP : Field := ⟨0x2100060, 31, 1, .wo, false, 0, 0x0, 0x0⟩
def STORE_FAULT_CTL_DROPPED : Field := ⟨0x2100060, 8, 8, .rc, false, 0, 0x0, 0x0⟩
def STORE_FAULT_CTL_COUNT : Field := ⟨0x2100060, 0, 5, .ro, false, 0, 0x0, 0x0⟩

/-! Fields of `spec/15_timebase.md`. -/

def TIME_CTL_BEACON_TX : Field := ⟨0x0200000, 1, 1, .rw, false, 0, 0x0, 0x0⟩
def TIME_CTL_SET_AT_PPS : Field := ⟨0x0200000, 0, 1, .rw, false, 0, 0x0, 0x0⟩
def TIME_STATUS_IGNORED : Field := ⟨0x0200004, 24, 8, .rc, false, 0, 0x0, 0x0⟩
def TIME_STATUS_BEACON_HOPS : Field := ⟨0x0200004, 20, 4, .ro, false, 15, 0x0, 0x0⟩
def TIME_STATUS_BEACON_LANE : Field := ⟨0x0200004, 13, 7, .ro, false, 0, 0x0, 0x0⟩
def TIME_STATUS_TSRC : Field := ⟨0x0200004, 11, 2, .ro, false, 0, 0x0, 0x0⟩
def TIME_STATUS_PULLING : Field := ⟨0x0200004, 10, 1, .ro, false, 0, 0x0, 0x0⟩
def TIME_STATUS_XO_FAULT : Field := ⟨0x0200004, 9, 1, .ro, false, 0, 0x0, 0x0⟩
def TIME_STATUS_REF : Field := ⟨0x0200004, 6, 3, .ro, false, 0, 0x0, 0x0⟩
def TIME_STATUS_STATE : Field := ⟨0x0200004, 0, 3, .ro, false, 0, 0x0, 0x0⟩
def TIME_RC_RCB : Field := ⟨0x0200008, 8, 7, .ro, false, 127, 0x0, 0x0⟩
def TIME_RC_RCA : Field := ⟨0x0200008, 0, 7, .ro, false, 127, 0x0, 0x0⟩
def TIME_EVT_CAUSE : Field := ⟨0x020000C, 0, 11, .w1c, false, 0, 0x0, 0x0⟩
def TIME_NOW_TIME : Field := ⟨0x0200010, 0, 64, .ro, false, 0, 0x0, 0x0⟩
def TIME_SET_TIME : Field := ⟨0x0200018, 0, 64, .rw, false, 0, 0x0, 0x0⟩
def TIME_STEP_STEP : Field := ⟨0x0200020, 0, 64, .wo, false, 0, 0x0, 0x0⟩
def TIME_SLOPE_SLOPE : Field := ⟨0x0200028, 0, 10, .rw, false, 10, 0x0, 0x0⟩
def TIME_PULL_LEFT_NS : Field := ⟨0x020002C, 0, 32, .ro, false, 0, 0x0, 0x0⟩
def TIME_REF_CTL_EN : Field := ⟨0x0200040, 31, 1, .rw, false, 0, 0x10, 0x0⟩
def TIME_REF_CTL_PRIO : Field := ⟨0x0200040, 28, 3, .rw, false, 0, 0x10, 0x0⟩
def TIME_REF_CTL_FREQ : Field := ⟨0x0200040, 26, 2, .rw, false, 0, 0x10, 0x0⟩
def TIME_REF_CTL_PPS_WIN : Field := ⟨0x0200040, 18, 8, .rw, false, 10, 0x10, 0x0⟩
def TIME_REF_CTL_WTR : Field := ⟨0x0200040, 0, 12, .rw, false, 0, 0x10, 0x0⟩
def TIME_REF_WIN_WINDOW : Field := ⟨0x0200044, 0, 8, .rw, false, 50, 0x10, 0x0⟩
def TIME_REF_OFS_FRACTION : Field := ⟨0x0200048, 0, 32, .rw, false, 0, 0x10, 0x0⟩
def TIME_REF_STATUS_WTR_LEFT : Field := ⟨0x020004C, 20, 12, .ro, false, 0, 0x10, 0x0⟩
def TIME_REF_STATUS_SELECTED : Field := ⟨0x020004C, 3, 1, .ro, false, 0, 0x10, 0x0⟩
def TIME_REF_STATUS_PPS_QUAL : Field := ⟨0x020004C, 2, 1, .ro, false, 0, 0x10, 0x0⟩
def TIME_REF_STATUS_QUAL : Field := ⟨0x020004C, 1, 1, .ro, false, 0, 0x10, 0x0⟩
def TIME_REF_STATUS_ACTIVE : Field := ⟨0x020004C, 0, 1, .ro, false, 0, 0x10, 0x0⟩
def TIME_REF_OFFSET_NS : Field := ⟨0x0200090, 0, 32, .ro, false, 0, 0x4, 0x0⟩
def TIME_NET_CTL_DOMAIN : Field := ⟨0x02000A0, 24, 8, .rw, false, 0, 0x0, 0x0⟩
def TIME_NET_CTL_TIMEOUT : Field := ⟨0x02000A0, 16, 8, .rw, false, 30, 0x0, 0x0⟩
def TIME_NET_CTL_SLEW : Field := ⟨0x02000A0, 6, 10, .rw, false, 10, 0x0, 0x0⟩
def TIME_NET_CTL_PTP_MODE : Field := ⟨0x02000A0, 2, 1, .rw, false, 0, 0x0, 0x0⟩
def TIME_NET_CTL_SRC : Field := ⟨0x02000A0, 0, 2, .rw, false, 0, 0x0, 0x0⟩
def TIME_NET_ADJ_OFFSET : Field := ⟨0x02000A4, 0, 32, .wo, false, 0, 0x0, 0x0⟩
def TIME_NET_RATE_RATE : Field := ⟨0x02000A8, 0, 32, .rw, false, 0, 0x0, 0x0⟩
def TIME_NET_OFFSET_NS : Field := ⟨0x02000AC, 0, 32, .ro, false, 0, 0x0, 0x0⟩
def TIME_PTP_OFS_OFS : Field := ⟨0x02000B0, 0, 64, .rw, false, 0, 0x0, 0x0⟩
def TIME_ERR_HO_NS : Field := ⟨0x02000B8, 24, 8, .rw, false, 0, 0x0, 0x0⟩
def TIME_ERR_HOP_NS : Field := ⟨0x02000B8, 16, 8, .rw, false, 10, 0x0, 0x0⟩
def TIME_ERR_BASE_NS : Field := ⟨0x02000B8, 0, 16, .rw, false, 0, 0x0, 0x0⟩
def TIME_XO_TRIM_RATE : Field := ⟨0x02000BC, 0, 32, .rw, false, 0, 0x0, 0x0⟩
def TRIGOUT_CTL_WIDTH : Field := ⟨0x0200100, 16, 16, .rw, false, 10, 0x20, 0x0⟩
def TRIGOUT_CTL_POLARITY : Field := ⟨0x0200100, 3, 1, .rw, false, 0, 0x20, 0x0⟩
def TRIGOUT_CTL_MODE : Field := ⟨0x0200100, 2, 1, .rw, false, 0, 0x20, 0x0⟩
def TRIGOUT_CTL_CANCEL : Field := ⟨0x0200100, 1, 1, .wo, false, 0, 0x20, 0x0⟩
def TRIGOUT_CTL_ARM : Field := ⟨0x0200100, 0, 1, .wo, false, 0, 0x20, 0x0⟩
def TRIGOUT_STATUS_SKIPPED : Field := ⟨0x0200104, 16, 16, .rc, false, 0, 0x20, 0x0⟩
def TRIGOUT_STATUS_REFUSED : Field := ⟨0x0200104, 8, 8, .rc, false, 0, 0x20, 0x0⟩
def TRIGOUT_STATUS_LATE : Field := ⟨0x0200104, 1, 1, .w1c, false, 0, 0x20, 0x0⟩
def TRIGOUT_STATUS_ARMED : Field := ⟨0x0200104, 0, 1, .ro, false, 0, 0x20, 0x0⟩
def TRIGOUT_START_TIME : Field := ⟨0x0200108, 0, 64, .rw, false, 0, 0x20, 0x0⟩
def TRIGOUT_PERIOD_PERIOD : Field := ⟨0x0200110, 0, 64, .rw, false, 0, 0x20, 0x0⟩
def TRIGOUT_COUNT_COUNT : Field := ⟨0x0200118, 0, 32, .rw, false, 0, 0x20, 0x0⟩
def TRIGIN_CTL_POP : Field := ⟨0x0200200, 31, 1, .wo, false, 0, 0x0, 0x0⟩
def TRIGIN_CTL_DROPPED : Field := ⟨0x0200200, 16, 8, .rc, false, 0, 0x0, 0x0⟩
def TRIGIN_CTL_CLOSE : Field := ⟨0x0200200, 8, 8, .rc, false, 0, 0x0, 0x0⟩
def TRIGIN_CTL_PIN : Field := ⟨0x0200200, 6, 2, .ro, false, 0, 0x0, 0x0⟩
def TRIGIN_CTL_COUNT : Field := ⟨0x0200200, 0, 6, .ro, false, 0, 0x0, 0x0⟩
def TRIGIN_STAMP_TIME : Field := ⟨0x0200204, 0, 64, .ro, false, 0, 0x0, 0x0⟩
def TIME_BEACON_DELAY_DELAY : Field := ⟨0x0200400, 0, 32, .rw, false, 0, 0x4, 0x0⟩

/-! Fields of `spec/16_capture_and_triggers.md`. -/

def TRIG_CTL_STREAMS : Field := ⟨0x2200000, 16, 16, .rw, false, 0, 0x40, 0x0⟩
def TRIG_CTL_SHIFT : Field := ⟨0x2200000, 10, 6, .rw, false, 0, 0x40, 0x0⟩
def TRIG_CTL_IMAG : Field := ⟨0x2200000, 9, 1, .rw, false, 0, 0x40, 0x0⟩
def TRIG_CTL_PIN : Field := ⟨0x2200000, 4, 2, .rw, false, 0, 0x40, 0x0⟩
def TRIG_CTL_KIND : Field := ⟨0x2200000, 0, 3, .rw, false, 0, 0x40, 0x0⟩
def TRIG_SRC_INDEX : Field := ⟨0x2200004, 0, 12, .rw, false, 0, 0x40, 0x0⟩
def TRIG_CHAN_NCHM1 : Field := ⟨0x2200008, 16, 10, .rw, false, 0, 0x40, 0x0⟩
def TRIG_CHAN_FIRST : Field := ⟨0x2200008, 0, 13, .rw, false, 0, 0x40, 0x0⟩
def TRIG_STATUS_STATE : Field := ⟨0x220000C, 8, 4, .ro, false, 0, 0x40, 0x0⟩
def TRIG_STATUS_PENDING : Field := ⟨0x220000C, 7, 1, .ro, false, 0, 0x40, 0x0⟩
def TRIG_STATUS_KIND : Field := ⟨0x220000C, 4, 3, .ro, false, 0, 0x40, 0x0⟩
def TRIG_STATUS_RUN : Field := ⟨0x220000C, 0, 1, .ro, false, 0, 0x40, 0x0⟩
def TRIG_EVT_TAP_INVALID : Field := ⟨0x2200010, 2, 1, .w1c, false, 0, 0x40, 0x0⟩
def TRIG_EVT_WITHDRAWN : Field := ⟨0x2200010, 1, 1, .w1c, false, 0, 0x40, 0x0⟩
def TRIG_EVT_MARK_EVT : Field := ⟨0x2200010, 0, 1, .w1c, false, 0, 0x40, 0x0⟩
def TRIG_MSEQ_NEXT : Field := ⟨0x2200014, 0, 32, .ro, false, 0, 0x40, 0x0⟩
def TRIG_WITHDRAWN_COUNT : Field := ⟨0x2200018, 0, 32, .rc, false, 0, 0x40, 0x0⟩
def CAP_CTL_DEST : Field := ⟨0x2210000, 24, 8, .rw, false, 0, 0x40, 0x0⟩
def CAP_CTL_UNIT : Field := ⟨0x2210000, 20, 4, .rw, false, 0, 0x40, 0x0⟩
def CAP_CTL_GROUP : Field := ⟨0x2210000, 12, 8, .rw, false, 0, 0x40, 0x0⟩
def CAP_CTL_DEST_EN : Field := ⟨0x2210000, 2, 1, .rw, false, 0, 0x40, 0x0⟩
def CAP_CTL_SOURCE : Field := ⟨0x2210000, 0, 2, .rw, false, 0, 0x40, 0x0⟩
def CAP_CHAN_NCHM1 : Field := ⟨0x2210004, 16, 10, .rw, false, 0, 0x40, 0x0⟩
def CAP_CHAN_FIRST : Field := ⟨0x2210004, 0, 13, .rw, false, 0, 0x40, 0x0⟩
def CAP_STATUS_RUN : Field := ⟨0x2210008, 31, 1, .ro, false, 0, 0x40, 0x0⟩
def CAP_STATUS_PENDING : Field := ⟨0x2210008, 30, 1, .ro, false, 0, 0x40, 0x0⟩
def CAP_STATUS_SOURCE : Field := ⟨0x2210008, 28, 2, .ro, false, 0, 0x40, 0x0⟩
def CAP_STATUS_SPS : Field := ⟨0x2210008, 10, 11, .ro, false, 0, 0x40, 0x0⟩
def CAP_STATUS_REGION : Field := ⟨0x2210008, 0, 10, .ro, false, 0, 0x40, 0x0⟩
def CAP_WPTR_OFFSET : Field := ⟨0x221000C, 0, 56, .ro, false, 0, 0x40, 0x0⟩
def CAP_LOSS_MARKS_LOST : Field := ⟨0x2210014, 16, 16, .rc, false, 0, 0x40, 0x0⟩
def CAP_LOSS_FRAME_SKIP : Field := ⟨0x2210014, 0, 16, .rc, false, 0, 0x40, 0x0⟩
def CAP_GAP_SAMPLES_COUNT : Field := ⟨0x2210018, 0, 32, .rc, false, 0, 0x40, 0x0⟩
def CAP_EVT_CONFIG_INVALID : Field := ⟨0x221001C, 3, 1, .w1c, false, 0, 0x40, 0x0⟩
def CAP_EVT_FRAME_SKIP : Field := ⟨0x221001C, 2, 1, .w1c, false, 0, 0x40, 0x0⟩
def CAP_EVT_MARK_LOST : Field := ⟨0x221001C, 1, 1, .w1c, false, 0, 0x40, 0x0⟩
def CAP_EVT_GAP : Field := ⟨0x221001C, 0, 1, .w1c, false, 0, 0x40, 0x0⟩

/-! Fields of `spec/17_control_plane.md`. -/

def EVT_PEND_PEND : Field := ⟨0x0100100, 0, 32, .w1c, false, 0, 0x4, 0x0⟩
def EVT_VEC_FIRST_ANY : Field := ⟨0x0100200, 31, 1, .ro, false, 0, 0x4, 0x0⟩
def EVT_VEC_FIRST_SOURCE : Field := ⟨0x0100200, 0, 10, .ro, false, 0, 0x4, 0x0⟩
def EVT_PIN_DRIVEN : Field := ⟨0x0100300, 4, 4, .ro, false, 0, 0x0, 0x0⟩
def EVT_PIN_EN : Field := ⟨0x0100300, 0, 4, .rw, false, 0, 0x0, 0x0⟩
def EVT_MGMT_DROPPED : Field := ⟨0x0100304, 16, 16, .rc, false, 0, 0x0, 0x0⟩
def EVT_MGMT_QUEUED : Field := ⟨0x0100304, 0, 4, .ro, false, 0, 0x0, 0x0⟩
def EVT_ROUTE_MGMT : Field := ⟨0x0101000, 31, 1, .rw, false, 0, 0x4, 0x0⟩
def EVT_ROUTE_PINS : Field := ⟨0x0101000, 24, 4, .rw, false, 0, 0x4, 0x0⟩
def EVT_ROUTE_MSIX : Field := ⟨0x0101000, 22, 1, .rw, false, 0, 0x4, 0x0⟩
def EVT_ROUTE_VECTOR : Field := ⟨0x0101000, 16, 6, .rw, false, 0, 0x4, 0x0⟩
def EVT_ROUTE_LEVEL : Field := ⟨0x0101000, 0, 1, .ro, false, 0, 0x4, 0x0⟩
def XBAR_STATUS_TIMEOUT : Field := ⟨0x2800000, 24, 8, .rc, false, 0, 0x0, 0x0⟩
def XBAR_STATUS_LOCK_EXPIRED : Field := ⟨0x2800000, 16, 8, .rc, false, 0, 0x0, 0x0⟩
def XBAR_STATUS_LOCK_REFUSED : Field := ⟨0x2800000, 8, 8, .rc, false, 0, 0x0, 0x0⟩
def XBAR_STATUS_GROUP_MISS : Field := ⟨0x2800000, 0, 8, .rc, false, 0, 0x0, 0x0⟩
def XBAR_LOCK_ACQUIRE : Field := ⟨0x2800100, 31, 1, .wo, false, 0, 0x0, 0x0⟩
def XBAR_LOCK_RELEASE : Field := ⟨0x2800100, 30, 1, .wo, false, 0, 0x0, 0x0⟩
def XBAR_LOCK_TARGET : Field := ⟨0x2800100, 16, 5, .rw, false, 0, 0x0, 0x0⟩
def XBAR_LOCK_HELD : Field := ⟨0x2800100, 1, 1, .ro, false, 0, 0x0, 0x0⟩
def XBAR_LOCK_WAIT : Field := ⟨0x2800100, 0, 1, .ro, false, 0, 0x0, 0x0⟩
def XBAR_LOCK_LIMIT_US : Field := ⟨0x2800104, 0, 11, .rw, false, 100, 0x0, 0x0⟩
def XBAR_GROUP_MEMBERS : Field := ⟨0x2810000, 0, 32, .rw, false, 0, 0x4, 0x0⟩
def DMA_CTL_DISABLE : Field := ⟨0x2300000, 1, 1, .wo, false, 0, 0x100, 0x0⟩
def DMA_CTL_ARM : Field := ⟨0x2300000, 0, 1, .wo, false, 0, 0x100, 0x0⟩
def DMA_STATUS_IGNORED : Field := ⟨0x2300004, 24, 8, .rc, false, 0, 0x100, 0x0⟩
def DMA_STATUS_POISON : Field := ⟨0x2300004, 8, 1, .ro, false, 0, 0x100, 0x0⟩
def DMA_STATUS_ERR : Field := ⟨0x2300004, 4, 4, .ro, false, 0, 0x100, 0x0⟩
def DMA_STATUS_STATE : Field := ⟨0x2300004, 0, 3, .ro, false, 0, 0x100, 0x0⟩
def DMA_DESC_ADDR : Field := ⟨0x2300008, 0, 48, .rw, false, 0, 0x100, 0x0⟩
def DMA_CUR_ADDR : Field := ⟨0x2300010, 0, 64, .ro, false, 0, 0x100, 0x0⟩
def DMA_REMAIN_BYTES : Field := ⟨0x2300018, 0, 32, .ro, false, 0, 0x100, 0x0⟩
def DMA_EVT_DESC : Field := ⟨0x230001C, 2, 1, .w1c, false, 0, 0x100, 0x0⟩
def DMA_EVT_ERROR : Field := ⟨0x230001C, 1, 1, .w1c, false, 0, 0x100, 0x0⟩
def DMA_EVT_DONE : Field := ⟨0x230001C, 0, 1, .w1c, false, 0, 0x100, 0x0⟩
def CHECK_CTL_EVT_EN : Field := ⟨0x2400000, 8, 1, .rw, false, 0, 0x40, 0x0⟩
def CHECK_CTL_BYTES : Field := ⟨0x2400000, 4, 2, .rw, false, 0, 0x40, 0x0⟩
def CHECK_CTL_INIT : Field := ⟨0x2400000, 3, 1, .wo, false, 0, 0x40, 0x0⟩
def CHECK_CTL_POLY : Field := ⟨0x2400000, 0, 2, .rw, false, 0, 0x40, 0x0⟩
def CHECK_DATA_DATA : Field := ⟨0x2400004, 0, 32, .wo, false, 0, 0x40, 0x0⟩
def CHECK_STATE_STATE : Field := ⟨0x2400008, 0, 64, .rw, false, 0, 0x40, 0x0⟩
def CHECK_RESULT_RESULT : Field := ⟨0x2400010, 0, 64, .ro, false, 0, 0x40, 0x0⟩
def CHECK_ALIVE_IN_VALUE : Field := ⟨0x2400018, 0, 16, .wo, false, 0, 0x40, 0x0⟩
def CHECK_ALIVE_LAST_VALID : Field := ⟨0x240001C, 16, 1, .rw, false, 0, 0x40, 0x0⟩
def CHECK_ALIVE_LAST_LAST : Field := ⟨0x240001C, 0, 16, .rw, false, 0, 0x40, 0x0⟩
def CHECK_STATUS_MISSED : Field := ⟨0x2400020, 16, 16, .ro, false, 0, 0x40, 0x0⟩
def CHECK_STATUS_JUMP : Field := ⟨0x2400020, 1, 1, .w1c, false, 0, 0x40, 0x0⟩
def CHECK_STATUS_DUP : Field := ⟨0x2400020, 0, 1, .w1c, false, 0, 0x40, 0x0⟩
def CHECK_COUNT_DUPS : Field := ⟨0x2400024, 16, 16, .rc, false, 0, 0x40, 0x0⟩
def CHECK_COUNT_JUMPS : Field := ⟨0x2400024, 0, 16, .rc, false, 0, 0x40, 0x0⟩

/-! Fields of `spec/18_host_ports.md`. -/

def PCIE_ID_DEVICE : Field := ⟨0x2500000, 16, 16, .ro, false, 16534, 0x0, 0x0⟩
def PCIE_ID_VENDOR : Field := ⟨0x2500000, 0, 16, .ro, false, Config.pcieVendor % 65536, 0x0, 0x0⟩
def PCIE_STATUS_DOWNS : Field := ⟨0x2500004, 16, 16, .ro, true, 0, 0x0, 0x0⟩
def PCIE_STATUS_WIDTH : Field := ⟨0x2500004, 4, 5, .ro, false, 0, 0x0, 0x0⟩
def PCIE_STATUS_SPEED : Field := ⟨0x2500004, 1, 3, .ro, false, 0, 0x0, 0x0⟩
def PCIE_STATUS_UP : Field := ⟨0x2500004, 0, 1, .ro, false, 0, 0x0, 0x0⟩
def PCIE_ERR_PARTIAL : Field := ⟨0x2500008, 16, 16, .rc, false, 0, 0x0, 0x0⟩
def PCIE_ERR_CTO : Field := ⟨0x2500008, 8, 8, .rc, false, 0, 0x0, 0x0⟩
def PCIE_ERR_POISON : Field := ⟨0x2500008, 0, 8, .rc, false, 0, 0x0, 0x0⟩
def PCIE_EVT_CAUSE : Field := ⟨0x250000C, 0, 6, .w1c, false, 0, 0x0, 0x0⟩
def MGMT_CTL_REG_EN : Field := ⟨0x2510000, 1, 1, .rw, false, 1, 0x0, 0x0⟩
def MGMT_CTL_EN : Field := ⟨0x2510000, 0, 1, .rw, false, 1, 0x0, 0x0⟩
def MGMT_MAC_ADDR : Field := ⟨0x2510004, 0, 48, .rw, false, 2 + 256 * leNat (beBytes 5 Config.deviceId), 0x0, 0x0⟩
def MGMT_MCAST_ADDR : Field := ⟨0x251000C, 0, 48, .rw, false, 0, 0x8, 0x0⟩
def MGMT_MCAST_EN : Field := ⟨0x2510010, 31, 1, .rw, false, 0, 0x8, 0x0⟩
def MGMT_VLAN_RX_UNTAGGED : Field := ⟨0x251001C, 18, 1, .rw, false, 1, 0x0, 0x0⟩
def MGMT_VLAN_RX_MATCH : Field := ⟨0x251001C, 17, 1, .rw, false, 0, 0x0, 0x0⟩
def MGMT_VLAN_TX_TAG : Field := ⟨0x251001C, 16, 1, .rw, false, 0, 0x0, 0x0⟩
def MGMT_VLAN_PCP : Field := ⟨0x251001C, 13, 3, .rw, false, 0, 0x0, 0x0⟩
def MGMT_VLAN_VID : Field := ⟨0x251001C, 0, 12, .rw, false, 0, 0x0, 0x0⟩
def MGMT_RX_RUNT : Field := ⟨0x2510020, 24, 8, .rc, false, 0, 0x0, 0x0⟩
def MGMT_RX_OVERSIZE : Field := ⟨0x2510020, 16, 8, .rc, false, 0, 0x0, 0x0⟩
def MGMT_RX_BAD : Field := ⟨0x2510020, 8, 8, .rc, false, 0, 0x0, 0x0⟩
def MGMT_RX_FOREIGN : Field := ⟨0x2510020, 0, 8, .rc, false, 0, 0x0, 0x0⟩
def MGMT_TX_HB_REPLACED : Field := ⟨0x2510024, 16, 16, .rc, false, 0, 0x0, 0x0⟩
def MGMT_TX_EXCESS : Field := ⟨0x2510024, 8, 8, .rc, false, 0, 0x0, 0x0⟩
def MGMT_TX_LATE : Field := ⟨0x2510024, 0, 8, .rc, false, 0, 0x0, 0x0⟩
def MGMT_TS_LAT_TX : Field := ⟨0x2510028, 16, 16, .rw, false, 0, 0x0, 0x0⟩
def MGMT_TS_LAT_RX : Field := ⟨0x2510028, 0, 16, .rw, false, 0, 0x0, 0x0⟩
def MGMT_TS_CTL_POP : Field := ⟨0x251002C, 31, 1, .wo, false, 0, 0x0, 0x0⟩
def MGMT_TS_CTL_DIR : Field := ⟨0x251002C, 30, 1, .rw, false, 0, 0x0, 0x0⟩
def MGMT_TS_CTL_DROPPED : Field := ⟨0x251002C, 8, 8, .rc, false, 0, 0x0, 0x0⟩
def MGMT_TS_CTL_COUNT : Field := ⟨0x251002C, 0, 4, .ro, false, 0, 0x0, 0x0⟩
def MGMT_TS_TIME_TIME : Field := ⟨0x2510030, 0, 64, .ro, false, 0, 0x0, 0x0⟩
def MGMT_TS_INFO_MSGTYPE : Field := ⟨0x2510038, 16, 4, .ro, false, 0, 0x0, 0x0⟩
def MGMT_TS_INFO_SEQ : Field := ⟨0x2510038, 0, 16, .ro, false, 0, 0x0, 0x0⟩
def MGMT_EVT_CAUSE : Field := ⟨0x251003C, 0, 5, .w1c, false, 0, 0x0, 0x0⟩
def SCP_STATUS_PARTIAL : Field := ⟨0x2520000, 16, 16, .rc, false, 0, 0x0, 0x0⟩
def SCP_STATUS_REFUSED : Field := ⟨0x2520000, 8, 8, .rc, false, 0, 0x0, 0x0⟩
def SCP_STATUS_AVAIL : Field := ⟨0x2520000, 0, 7, .ro, false, 0, 0x0, 0x0⟩
def SCP_EVT_CAUSE : Field := ⟨0x2520004, 0, 3, .w1c, false, 0, 0x0, 0x0⟩
def FLASH_CTL_GO : Field := ⟨0x2520010, 31, 1, .wo, false, 0, 0x0, 0x0⟩
def FLASH_CTL_BUSY : Field := ⟨0x2520010, 30, 1, .ro, false, 0, 0x0, 0x0⟩
def FLASH_CTL_WRITE : Field := ⟨0x2520010, 29, 1, .rw, false, 0, 0x0, 0x0⟩
def FLASH_CTL_QUAD : Field := ⟨0x2520010, 28, 1, .rw, false, 0, 0x0, 0x0⟩
def FLASH_CTL_ERRORS : Field := ⟨0x2520010, 24, 4, .rc, false, 0, 0x0, 0x0⟩
def FLASH_CTL_IGNORED : Field := ⟨0x2520010, 20, 4, .rc, false, 0, 0x0, 0x0⟩
def FLASH_CTL_ABYTES : Field := ⟨0x2520010, 18, 2, .rw, false, 0, 0x0, 0x0⟩
def FLASH_CTL_LEN : Field := ⟨0x2520010, 9, 9, .rw, false, 0, 0x0, 0x0⟩
def FLASH_CTL_OPCODE : Field := ⟨0x2520010, 0, 8, .rw, false, 0, 0x0, 0x0⟩
def FLASH_ADDR_ADDR : Field := ⟨0x2520014, 0, 32, .rw, false, 0, 0x0, 0x0⟩
def FLASH_DUMMY_CLOCKS : Field := ⟨0x2520018, 0, 5, .rw, false, 0, 0x0, 0x0⟩
def FLASH_BUF_DATA : Field := ⟨0x2520100, 0, 32, .rw, false, 0, 0x4, 0x0⟩
def MON_CTL_DELAY : Field := ⟨0x2530000, 12, 10, .rw, false, 250, 0x100, 0x0⟩
def MON_CTL_GANG : Field := ⟨0x2530000, 4, 1, .rw, false, 0, 0x100, 0x0⟩
def MON_CTL_SLAVE : Field := ⟨0x2530000, 3, 1, .rw, false, 0, 0x100, 0x0⟩
def MON_CTL_RATE : Field := ⟨0x2530000, 1, 2, .rw, false, 0, 0x100, 0x0⟩
def MON_CTL_EN : Field := ⟨0x2530000, 0, 1, .rw, false, 0, 0x100, 0x0⟩
def MON_SLOT_KIND : Field := ⟨0x2530010, 30, 2, .rw, false, 0, 0x100, 0x4⟩
def MON_SLOT_IMAG : Field := ⟨0x2530010, 29, 1, .rw, false, 0, 0x100, 0x4⟩
def MON_SLOT_SCALE : Field := ⟨0x2530010, 24, 5, .rw, false, 0, 0x100, 0x4⟩
def MON_SLOT_INDEX : Field := ⟨0x2530010, 12, 12, .rw, false, 0, 0x100, 0x4⟩
def MON_SLOT_CHAN : Field := ⟨0x2530010, 0, 12, .rw, false, 0, 0x100, 0x4⟩
def MON_SLOT_STATUS_CAUSE : Field := ⟨0x2530030, 1, 5, .w1c, false, 0, 0x100, 0x4⟩
def MON_SLOT_STATUS_MUTED : Field := ⟨0x2530030, 0, 1, .w1c, false, 0, 0x100, 0x4⟩
def MON_STATUS_SLIPS : Field := ⟨0x2530050, 16, 16, .rc, false, 0, 0x100, 0x0⟩
def MON_STATUS_SAT : Field := ⟨0x2530050, 0, 16, .rc, false, 0, 0x100, 0x0⟩
def MON_BLOCK_TIME_TIME : Field := ⟨0x2530054, 0, 64, .ro, false, 0, 0x100, 0x0⟩
def MON_BLOCK_SEQ_SEQ : Field := ⟨0x253005C, 0, 32, .ro, false, 0, 0x100, 0x0⟩
def MON_EVT_LIMITED : Field := ⟨0x2530060, 2, 1, .w1c, false, 0, 0x100, 0x0⟩
def MON_EVT_INVALID : Field := ⟨0x2530060, 1, 1, .w1c, false, 0, 0x100, 0x0⟩
def MON_EVT_SLIP : Field := ⟨0x2530060, 0, 1, .w1c, false, 0, 0x100, 0x0⟩

/-! Fields of `spec/19_power_and_den.md`. -/

def POWER_CTL_WARM_RESET : Field := ⟨0x2A00000, 15, 1, .wo, false, 0, 0x0, 0x0⟩
def POWER_CTL_FW_READY : Field := ⟨0x2A00000, 8, 1, .wo, false, 0, 0x0, 0x0⟩
def POWER_CTL_LEDGER_DONE : Field := ⟨0x2A00000, 7, 1, .wo, false, 0, 0x0, 0x0⟩
def POWER_CTL_KEEP_HANKS : Field := ⟨0x2A00000, 6, 1, .rw, false, 0, 0x0, 0x0⟩
def POWER_CTL_FORCE : Field := ⟨0x2A00000, 5, 1, .rw, false, 0, 0x0, 0x0⟩
def POWER_CTL_GO : Field := ⟨0x2A00000, 4, 1, .wo, false, 0, 0x0, 0x0⟩
def POWER_CTL_TARGET : Field := ⟨0x2A00000, 0, 2, .rw, false, 0, 0x0, 0x0⟩
def POWER_STATUS_REFUSED : Field := ⟨0x2A00004, 24, 8, .rc, false, 0, 0x0, 0x0⟩
def POWER_STATUS_WAKE_SRC : Field := ⟨0x2A00004, 16, 3, .ro, false, 0, 0x0, 0x0⟩
def POWER_STATUS_STATE : Field := ⟨0x2A00004, 0, 3, .ro, false, 0, 0x0, 0x0⟩
def POWER_WAKE_EN_EN : Field := ⟨0x2A00008, 0, 5, .rw, false, 30, 0x0, 0x0⟩
def POWER_WAKE_TIME_TIME : Field := ⟨0x2A0000C, 0, 64, .rw, false, 0, 0x0, 0x0⟩
def POWER_TEMP_STACK_MAX : Field := ⟨0x2A00014, 24, 8, .ro, false, 0, 0x0, 0x0⟩
def POWER_TEMP_DIE_MAX : Field := ⟨0x2A00014, 16, 8, .ro, false, 0, 0x0, 0x0⟩
def POWER_TEMP_DEN : Field := ⟨0x2A00014, 8, 8, .ro, false, 0, 0x0, 0x0⟩
def POWER_THERM_CTL_WARN : Field := ⟨0x2A00018, 0, 8, .rw, false, 120, 0x0, 0x0⟩
def POWER_SUPPLY_VCORE_REQ : Field := ⟨0x2A0001C, 24, 8, .ro, false, Config.vcoreReq % 101, 0x0, 0x0⟩
def POWER_SUPPLY_OUT : Field := ⟨0x2A0001C, 0, 8, .ro, false, 0, 0x0, 0x0⟩
def POWER_CAUSE_CLEAR : Field := ⟨0x2A00020, 31, 1, .wo, false, 0, 0x0, 0x0⟩
def POWER_CAUSE_WAKES_REFUSED : Field := ⟨0x2A00020, 16, 8, .rc, false, 0, 0x0, 0x0⟩
def POWER_CAUSE_RAIL : Field := ⟨0x2A00020, 12, 4, .ro, false, 0, 0x0, 0x0⟩
def POWER_CAUSE_LEDGER_SKIPPED : Field := ⟨0x2A00020, 8, 1, .ro, false, 0, 0x0, 0x0⟩
def POWER_CAUSE_CAUSE : Field := ⟨0x2A00020, 0, 8, .ro, false, 0, 0x0, 0x0⟩
def POWER_EVT_CAUSE : Field := ⟨0x2A00024, 0, 8, .w1c, false, 0, 0x0, 0x0⟩

/-! Fields of `spec/20_trust_ledger_faults.md`. -/

def TRUST_CTL_MCTP_EID : Field := ⟨0x2600000, 8, 8, .rw, false, 0, 0x0, 0x0⟩
def TRUST_ROM_VERSION : Field := ⟨0x2600004, 0, 32, .ro, false, Config.romVersion % 2 ^ 32, 0x0, 0x0⟩
def TRUST_DEVICE_ID_ID : Field := ⟨0x2600008, 0, 64, .ro, false, Config.deviceId % 2 ^ 64, 0x0, 0x0⟩
def TRUST_SLOT_SEL_EXTENDS : Field := ⟨0x2600010, 16, 16, .ro, false, 0, 0x0, 0x0⟩
def TRUST_SLOT_SEL_SLOT : Field := ⟨0x2600010, 0, 3, .rw, false, 0, 0x0, 0x0⟩
def TRUST_SLOT_VAL_WORD : Field := ⟨0x2600020, 0, 32, .ro, false, 0, 0x4, 0x0⟩
def TRUST_LOG_STATUS_DROPPED : Field := ⟨0x2600050, 16, 16, .ro, false, 0, 0x0, 0x0⟩
def TRUST_LOG_STATUS_FULL : Field := ⟨0x2600050, 15, 1, .ro, false, 0, 0x0, 0x0⟩
def TRUST_LOG_STATUS_ENTRIES : Field := ⟨0x2600050, 0, 9, .ro, false, 0, 0x0, 0x0⟩
def TRUST_LOG_SEL_ENTRY : Field := ⟨0x2600054, 0, 8, .rw, false, 0, 0x0, 0x0⟩
def TRUST_LOG_DATA_WORD : Field := ⟨0x2600080, 0, 32, .ro, false, 0, 0x4, 0x0⟩
def TRUST_FW_ADDR_ADDR : Field := ⟨0x2600100, 0, 48, .rw, false, 0, 0x0, 0x0⟩
def TRUST_FW_CTL_YIELD : Field := ⟨0x2600108, 2, 1, .wo, false, 0, 0x0, 0x0⟩
def TRUST_FW_CTL_READY : Field := ⟨0x2600108, 1, 1, .wo, false, 0, 0x0, 0x0⟩
def TRUST_FW_CTL_UPDATE : Field := ⟨0x2600108, 0, 1, .wo, false, 0, 0x0, 0x0⟩
def TRUST_FW_STATUS_IGNORED : Field := ⟨0x260010C, 24, 8, .rc, false, 0, 0x0, 0x0⟩
def TRUST_FW_STATUS_ERR : Field := ⟨0x260010C, 20, 4, .ro, false, 0, 0x0, 0x0⟩
def TRUST_FW_STATUS_STATE : Field := ⟨0x260010C, 0, 3, .ro, false, 0, 0x0, 0x0⟩
def TRUST_FW_VERSION_VERSION : Field := ⟨0x2600110, 0, 32, .ro, false, 0, 0x0, 0x0⟩
def TRUST_MBOX_CTL_GO : Field := ⟨0x2600200, 31, 1, .wo, false, 0, 0x0, 0x0⟩
def TRUST_MBOX_CTL_DONE : Field := ⟨0x2600200, 30, 1, .ro, false, 0, 0x0, 0x0⟩
def TRUST_MBOX_CTL_BUSY : Field := ⟨0x2600200, 29, 1, .ro, false, 0, 0x0, 0x0⟩
def TRUST_MBOX_CTL_LEN : Field := ⟨0x2600200, 0, 13, .rw, false, 0, 0x0, 0x0⟩
def TRUST_MBOX_DATA_DATA : Field := ⟨0x2600204, 0, 32, .rw, false, 0, 0x0, 0x0⟩
def TRUST_EVT_ERRORS : Field := ⟨0x2600300, 16, 16, .rc, false, 0, 0x0, 0x0⟩
def TRUST_EVT_CAUSE : Field := ⟨0x2600300, 0, 4, .w1c, false, 0, 0x0, 0x0⟩
def LEDGER_CTL_COMMIT : Field := ⟨0x2700000, 0, 1, .wo, false, 0, 0x0, 0x0⟩
def LEDGER_STATUS_REFUSED : Field := ⟨0x2700004, 24, 8, .rc, false, 0, 0x0, 0x0⟩
def LEDGER_STATUS_FAILS : Field := ⟨0x2700004, 16, 8, .rc, false, 0, 0x0, 0x0⟩
def LEDGER_STATUS_FAIL : Field := ⟨0x2700004, 9, 1, .w1c, false, 0, 0x0, 0x0⟩
def LEDGER_STATUS_BUSY : Field := ⟨0x2700004, 8, 1, .ro, false, 0, 0x0, 0x0⟩
def LEDGER_STATUS_COPY : Field := ⟨0x2700004, 0, 6, .ro, false, 0, 0x0, 0x0⟩
def LEDGER_ADDR_WORD : Field := ⟨0x2700008, 2, 14, .rw, false, 0, 0x0, 0x0⟩
def LEDGER_DATA_DATA : Field := ⟨0x270000C, 0, 32, .rw, false, 0, 0x0, 0x0⟩
def LEDGER_EVT_CAUSE : Field := ⟨0x2700010, 0, 4, .w1c, false, 0, 0x0, 0x0⟩

/-! Fields of `spec/21_bring_up.md`. -/

def SYS_BOOT_RETRY : Field := ⟨0x0000004, 31, 1, .wo, false, 0, 0x0, 0x0⟩
def SYS_BOOT_START_MS : Field := ⟨0x0000004, 16, 12, .ro, false, 0, 0x0, 0x0⟩
def SYS_BOOT_ERR : Field := ⟨0x0000004, 12, 4, .ro, false, 0, 0x0, 0x0⟩
def SYS_BOOT_FAILED_EVT : Field := ⟨0x0000004, 10, 1, .w1c, false, 0, 0x0, 0x0⟩
def SYS_BOOT_SECONDARY_EVT : Field := ⟨0x0000004, 9, 1, .w1c, false, 0, 0x0, 0x0⟩
def SYS_BOOT_SECONDARY : Field := ⟨0x0000004, 8, 1, .ro, false, 0, 0x0, 0x0⟩
def SYS_BOOT_STAGE : Field := ⟨0x0000004, 0, 3, .ro, false, 0, 0x0, 0x0⟩

end R

/-- Registers of block SYS (R408). -/
def regsSYS : List Reg := [
  ⟨"SYS_ID", 0x0000000, 0x0, 1, 0x0, 0, false, [⟨24, 8, R.SYS_ID_FAMILY, 0⟩, ⟨16, 8, R.SYS_ID_PART, 0⟩, ⟨8, 8, R.SYS_ID_REV, 0⟩, ⟨4, 4, R.SYS_ID_STACKS, 0⟩]⟩,
  ⟨"SYS_BOOT", 0x0000004, 0x0, 1, 0x0, 0, false, [⟨31, 1, R.SYS_BOOT_RETRY, 0⟩, ⟨16, 12, R.SYS_BOOT_START_MS, 0⟩, ⟨12, 4, R.SYS_BOOT_ERR, 0⟩, ⟨10, 1, R.SYS_BOOT_FAILED_EVT, 0⟩, ⟨9, 1, R.SYS_BOOT_SECONDARY_EVT, 0⟩, ⟨8, 1, R.SYS_BOOT_SECONDARY, 0⟩, ⟨0, 3, R.SYS_BOOT_STAGE, 0⟩]⟩
]

/-- Registers of block EVT (R408). -/
def regsEVT : List Reg := [
  ⟨"EVT_PEND", 0x0100100, 0x4, 32, 0x0, 0, false, [⟨0, 32, R.EVT_PEND_PEND, 0⟩]⟩,
  ⟨"EVT_VEC_FIRST", 0x0100200, 0x4, 64, 0x0, 0, false, [⟨31, 1, R.EVT_VEC_FIRST_ANY, 0⟩, ⟨0, 10, R.EVT_VEC_FIRST_SOURCE, 0⟩]⟩,
  ⟨"EVT_PIN", 0x0100300, 0x0, 1, 0x0, 0, false, [⟨4, 4, R.EVT_PIN_DRIVEN, 0⟩, ⟨0, 4, R.EVT_PIN_EN, 0⟩]⟩,
  ⟨"EVT_MGMT", 0x0100304, 0x0, 1, 0x0, 0, false, [⟨16, 16, R.EVT_MGMT_DROPPED, 0⟩, ⟨0, 4, R.EVT_MGMT_QUEUED, 0⟩]⟩,
  ⟨"EVT_ROUTE", 0x0101000, 0x4, 1024, 0x0, 0, false, [⟨31, 1, R.EVT_ROUTE_MGMT, 0⟩, ⟨24, 4, R.EVT_ROUTE_PINS, 0⟩, ⟨22, 1, R.EVT_ROUTE_MSIX, 0⟩, ⟨16, 6, R.EVT_ROUTE_VECTOR, 0⟩, ⟨0, 1, R.EVT_ROUTE_LEVEL, 0⟩]⟩
]

/-- Registers of block TIME (R408). -/
def regsTIME : List Reg := [
  ⟨"TIME_CTL", 0x0200000, 0x0, 1, 0x0, 0, false, [⟨1, 1, R.TIME_CTL_BEACON_TX, 0⟩, ⟨0, 1, R.TIME_CTL_SET_AT_PPS, 0⟩]⟩,
  ⟨"TIME_STATUS", 0x0200004, 0x0, 1, 0x0, 0, false, [⟨24, 8, R.TIME_STATUS_IGNORED, 0⟩, ⟨20, 4, R.TIME_STATUS_BEACON_HOPS, 0⟩, ⟨13, 7, R.TIME_STATUS_BEACON_LANE, 0⟩, ⟨11, 2, R.TIME_STATUS_TSRC, 0⟩, ⟨10, 1, R.TIME_STATUS_PULLING, 0⟩, ⟨9, 1, R.TIME_STATUS_XO_FAULT, 0⟩, ⟨6, 3, R.TIME_STATUS_REF, 0⟩, ⟨0, 3, R.TIME_STATUS_STATE, 0⟩]⟩,
  ⟨"TIME_RC", 0x0200008, 0x0, 1, 0x0, 0, false, [⟨8, 7, R.TIME_RC_RCB, 0⟩, ⟨0, 7, R.TIME_RC_RCA, 0⟩]⟩,
  ⟨"TIME_EVT", 0x020000C, 0x0, 1, 0x0, 0, false, [⟨0, 11, R.TIME_EVT_CAUSE, 0⟩]⟩,
  ⟨"TIME_NOW_LO", 0x0200010, 0x0, 1, 0x0, 0, false, [⟨0, 32, R.TIME_NOW_TIME, 0⟩]⟩,
  ⟨"TIME_NOW_HI", 0x0200014, 0x0, 1, 0x0, 0, false, [⟨0, 32, R.TIME_NOW_TIME, 32⟩]⟩,
  ⟨"TIME_SET_LO", 0x0200018, 0x0, 1, 0x0, 0, false, [⟨0, 32, R.TIME_SET_TIME, 0⟩]⟩,
  ⟨"TIME_SET_HI", 0x020001C, 0x0, 1, 0x0, 0, false, [⟨0, 32, R.TIME_SET_TIME, 32⟩]⟩,
  ⟨"TIME_STEP_LO", 0x0200020, 0x0, 1, 0x0, 0, false, [⟨0, 32, R.TIME_STEP_STEP, 0⟩]⟩,
  ⟨"TIME_STEP_HI", 0x0200024, 0x0, 1, 0x0, 0, false, [⟨0, 32, R.TIME_STEP_STEP, 32⟩]⟩,
  ⟨"TIME_SLOPE", 0x0200028, 0x0, 1, 0x0, 0, false, [⟨0, 10, R.TIME_SLOPE_SLOPE, 0⟩]⟩,
  ⟨"TIME_PULL_LEFT", 0x020002C, 0x0, 1, 0x0, 0, false, [⟨0, 32, R.TIME_PULL_LEFT_NS, 0⟩]⟩,
  ⟨"TIME_REF_CTL", 0x0200040, 0x10, 5, 0x0, 0, false, [⟨31, 1, R.TIME_REF_CTL_EN, 0⟩, ⟨28, 3, R.TIME_REF_CTL_PRIO, 0⟩, ⟨26, 2, R.TIME_REF_CTL_FREQ, 0⟩, ⟨18, 8, R.TIME_REF_CTL_PPS_WIN, 0⟩, ⟨0, 12, R.TIME_REF_CTL_WTR, 0⟩]⟩,
  ⟨"TIME_REF_WIN", 0x0200044, 0x10, 5, 0x0, 0, false, [⟨0, 8, R.TIME_REF_WIN_WINDOW, 0⟩]⟩,
  ⟨"TIME_REF_OFS", 0x0200048, 0x10, 5, 0x0, 0, false, [⟨0, 32, R.TIME_REF_OFS_FRACTION, 0⟩]⟩,
  ⟨"TIME_REF_STATUS", 0x020004C, 0x10, 5, 0x0, 0, false, [⟨20, 12, R.TIME_REF_STATUS_WTR_LEFT, 0⟩, ⟨3, 1, R.TIME_REF_STATUS_SELECTED, 0⟩, ⟨2, 1, R.TIME_REF_STATUS_PPS_QUAL, 0⟩, ⟨1, 1, R.TIME_REF_STATUS_QUAL, 0⟩, ⟨0, 1, R.TIME_REF_STATUS_ACTIVE, 0⟩]⟩,
  ⟨"TIME_REF_OFFSET", 0x0200090, 0x4, 2, 0x0, 0, false, [⟨0, 32, R.TIME_REF_OFFSET_NS, 0⟩]⟩,
  ⟨"TIME_NET_CTL", 0x02000A0, 0x0, 1, 0x0, 0, false, [⟨24, 8, R.TIME_NET_CTL_DOMAIN, 0⟩, ⟨16, 8, R.TIME_NET_CTL_TIMEOUT, 0⟩, ⟨6, 10, R.TIME_NET_CTL_SLEW, 0⟩, ⟨2, 1, R.TIME_NET_CTL_PTP_MODE, 0⟩, ⟨0, 2, R.TIME_NET_CTL_SRC, 0⟩]⟩,
  ⟨"TIME_NET_ADJ", 0x02000A4, 0x0, 1, 0x0, 0, false, [⟨0, 32, R.TIME_NET_ADJ_OFFSET, 0⟩]⟩,
  ⟨"TIME_NET_RATE", 0x02000A8, 0x0, 1, 0x0, 0, false, [⟨0, 32, R.TIME_NET_RATE_RATE, 0⟩]⟩,
  ⟨"TIME_NET_OFFSET", 0x02000AC, 0x0, 1, 0x0, 0, false, [⟨0, 32, R.TIME_NET_OFFSET_NS, 0⟩]⟩,
  ⟨"TIME_PTP_OFS_LO", 0x02000B0, 0x0, 1, 0x0, 0, false, [⟨0, 32, R.TIME_PTP_OFS_OFS, 0⟩]⟩,
  ⟨"TIME_PTP_OFS_HI", 0x02000B4, 0x0, 1, 0x0, 0, false, [⟨0, 32, R.TIME_PTP_OFS_OFS, 32⟩]⟩,
  ⟨"TIME_ERR", 0x02000B8, 0x0, 1, 0x0, 0, false, [⟨24, 8, R.TIME_ERR_HO_NS, 0⟩, ⟨16, 8, R.TIME_ERR_HOP_NS, 0⟩, ⟨0, 16, R.TIME_ERR_BASE_NS, 0⟩]⟩,
  ⟨"TIME_XO_TRIM", 0x02000BC, 0x0, 1, 0x0, 0, false, [⟨0, 32, R.TIME_XO_TRIM_RATE, 0⟩]⟩,
  ⟨"TRIGOUT_CTL", 0x0200100, 0x20, 4, 0x0, 0, false, [⟨16, 16, R.TRIGOUT_CTL_WIDTH, 0⟩, ⟨3, 1, R.TRIGOUT_CTL_POLARITY, 0⟩, ⟨2, 1, R.TRIGOUT_CTL_MODE, 0⟩, ⟨1, 1, R.TRIGOUT_CTL_CANCEL, 0⟩, ⟨0, 1, R.TRIGOUT_CTL_ARM, 0⟩]⟩,
  ⟨"TRIGOUT_STATUS", 0x0200104, 0x20, 4, 0x0, 0, false, [⟨16, 16, R.TRIGOUT_STATUS_SKIPPED, 0⟩, ⟨8, 8, R.TRIGOUT_STATUS_REFUSED, 0⟩, ⟨1, 1, R.TRIGOUT_STATUS_LATE, 0⟩, ⟨0, 1, R.TRIGOUT_STATUS_ARMED, 0⟩]⟩,
  ⟨"TRIGOUT_START_LO", 0x0200108, 0x20, 4, 0x0, 0, false, [⟨0, 32, R.TRIGOUT_START_TIME, 0⟩]⟩,
  ⟨"TRIGOUT_START_HI", 0x020010C, 0x20, 4, 0x0, 0, false, [⟨0, 32, R.TRIGOUT_START_TIME, 32⟩]⟩,
  ⟨"TRIGOUT_PERIOD_LO", 0x0200110, 0x20, 4, 0x0, 0, false, [⟨0, 32, R.TRIGOUT_PERIOD_PERIOD, 0⟩]⟩,
  ⟨"TRIGOUT_PERIOD_HI", 0x0200114, 0x20, 4, 0x0, 0, false, [⟨0, 32, R.TRIGOUT_PERIOD_PERIOD, 32⟩]⟩,
  ⟨"TRIGOUT_COUNT", 0x0200118, 0x20, 4, 0x0, 0, false, [⟨0, 32, R.TRIGOUT_COUNT_COUNT, 0⟩]⟩,
  ⟨"TRIGIN_CTL", 0x0200200, 0x0, 1, 0x0, 0, false, [⟨31, 1, R.TRIGIN_CTL_POP, 0⟩, ⟨16, 8, R.TRIGIN_CTL_DROPPED, 0⟩, ⟨8, 8, R.TRIGIN_CTL_CLOSE, 0⟩, ⟨6, 2, R.TRIGIN_CTL_PIN, 0⟩, ⟨0, 6, R.TRIGIN_CTL_COUNT, 0⟩]⟩,
  ⟨"TRIGIN_STAMP_LO", 0x0200204, 0x0, 1, 0x0, 0, false, [⟨0, 32, R.TRIGIN_STAMP_TIME, 0⟩]⟩,
  ⟨"TRIGIN_STAMP_HI", 0x0200208, 0x0, 1, 0x0, 0, false, [⟨0, 32, R.TRIGIN_STAMP_TIME, 32⟩]⟩,
  ⟨"TIME_BEACON_DELAY", 0x0200400, 0x4, 96, 0x0, 0, false, [⟨0, 32, R.TIME_BEACON_DELAY_DELAY, 0⟩]⟩
]

/-- Registers of block DRAFT (R408). -/
def regsDRAFT : List Reg := [
  ⟨"DRAFT_CTL", 0x0300000, 0x0, 1, 0x0, 0, false, [⟨4, 1, R.DRAFT_CTL_STOP, 0⟩, ⟨3, 1, R.DRAFT_CTL_START, 0⟩, ⟨2, 1, R.DRAFT_CTL_ABORT, 0⟩, ⟨1, 1, R.DRAFT_CTL_ADMIT, 0⟩]⟩,
  ⟨"DRAFT_STATUS", 0x0300004, 0x0, 1, 0x0, 0, false, [⟨24, 8, R.DRAFT_STATUS_IGNORED, 0⟩, ⟨20, 4, R.DRAFT_STATUS_PENDING, 0⟩, ⟨16, 1, R.DRAFT_STATUS_PCHECK, 0⟩, ⟨0, 4, R.DRAFT_STATUS_STATE, 0⟩]⟩,
  ⟨"DRAFT_STAGE_BASE_LO", 0x0300008, 0x0, 1, 0x0, 0, false, [⟨12, 20, R.DRAFT_STAGE_BASE_ADDR, 12⟩]⟩,
  ⟨"DRAFT_STAGE_BASE_HI", 0x030000C, 0x0, 1, 0x0, 0, false, [⟨0, 16, R.DRAFT_STAGE_BASE_ADDR, 32⟩]⟩,
  ⟨"DRAFT_STAGE_LEN", 0x0300010, 0x0, 1, 0x0, 0, false, [⟨0, 29, R.DRAFT_STAGE_LEN_LEN, 0⟩]⟩,
  ⟨"DRAFT_SCP_PTR", 0x0300014, 0x0, 1, 0x0, 0, false, [⟨2, 26, R.DRAFT_SCP_PTR_PTR, 0⟩]⟩,
  ⟨"DRAFT_SCP_DATA", 0x0300018, 0x0, 1, 0x0, 0, false, [⟨0, 32, R.DRAFT_SCP_DATA_DATA, 0⟩]⟩,
  ⟨"DRAFT_REFUSE_CODE", 0x0300020, 0x0, 1, 0x0, 0, false, [⟨0, 16, R.DRAFT_REFUSE_CODE_CODE, 0⟩]⟩,
  ⟨"DRAFT_REFUSE_WHERE", 0x0300024, 0x0, 1, 0x0, 0, false, [⟨16, 16, R.DRAFT_REFUSE_WHERE_ITEM, 0⟩, ⟨0, 8, R.DRAFT_REFUSE_WHERE_SECTION, 0⟩]⟩,
  ⟨"DRAFT_REFUSE_DETAIL", 0x0300028, 0x0, 1, 0x0, 0, false, [⟨0, 32, R.DRAFT_REFUSE_DETAIL_DETAIL, 0⟩]⟩,
  ⟨"DRAFT_START_LO", 0x0300030, 0x0, 1, 0x0, 0, false, [⟨0, 32, R.DRAFT_START_START, 0⟩]⟩,
  ⟨"DRAFT_START_HI", 0x0300034, 0x0, 1, 0x0, 0, false, [⟨0, 32, R.DRAFT_START_START, 32⟩]⟩,
  ⟨"DRAFT_SERIAL_LO", 0x0300038, 0x0, 1, 0x0, 0, false, [⟨0, 32, R.DRAFT_SERIAL_SERIAL, 0⟩]⟩,
  ⟨"DRAFT_SERIAL_HI", 0x030003C, 0x0, 1, 0x0, 0, false, [⟨0, 32, R.DRAFT_SERIAL_SERIAL, 32⟩]⟩,
  ⟨"DRAFT_SPAN_LO", 0x0300040, 0x0, 1, 0x0, 0, false, [⟨0, 32, R.DRAFT_SPAN_SPAN, 0⟩]⟩,
  ⟨"DRAFT_SPAN_HI", 0x0300044, 0x0, 1, 0x0, 0, false, [⟨0, 32, R.DRAFT_SPAN_SPAN, 32⟩]⟩,
  ⟨"DRAFT_NEXT_PATCH_LO", 0x0300048, 0x0, 1, 0x0, 0, false, [⟨0, 32, R.DRAFT_NEXT_PATCH_E, 0⟩]⟩,
  ⟨"DRAFT_NEXT_PATCH_HI", 0x030004C, 0x0, 1, 0x0, 0, false, [⟨0, 32, R.DRAFT_NEXT_PATCH_E, 32⟩]⟩,
  ⟨"DRAFT_FIG_A", 0x0300060, 0x0, 1, 0x0, 0, false, [⟨16, 16, R.DRAFT_FIG_A_CREEL, 0⟩, ⟨0, 16, R.DRAFT_FIG_A_DUTY, 0⟩]⟩,
  ⟨"DRAFT_FIG_SLACK", 0x0300064, 0x0, 1, 0x0, 0, false, [⟨0, 32, R.DRAFT_FIG_SLACK_SLACK, 0⟩]⟩,
  ⟨"DRAFT_FIG_STACK", 0x0300068, 0x0, 1, 0x0, 0, false, [⟨0, 32, R.DRAFT_FIG_STACK_MIB, 0⟩]⟩,
  ⟨"DRAFT_FIG_BW", 0x030006C, 0x0, 1, 0x0, 0, false, [⟨16, 16, R.DRAFT_FIG_BW_CEIL, 0⟩, ⟨0, 16, R.DRAFT_FIG_BW_GUAR, 0⟩]⟩,
  ⟨"DRAFT_FIG_USE", 0x0300070, 0x0, 1, 0x0, 0, false, [⟨16, 16, R.DRAFT_FIG_USE_OUT, 0⟩, ⟨0, 16, R.DRAFT_FIG_USE_SPIN, 0⟩]⟩
]

/-- Registers of block PASS (R408). -/
def regsPASS : List Reg := [
  ⟨"PASS_CTL", 0x0400000, 0x0, 1, 0x0, 0, false, [⟨8, 1, R.PASS_CTL_EVT_SLACK_EN, 0⟩, ⟨0, 1, R.PASS_CTL_HFLAG_CLEAR, 0⟩]⟩,
  ⟨"PASS_STATUS", 0x0400004, 0x0, 1, 0x0, 0, false, [⟨16, 11, R.PASS_STATUS_PLIES, 0⟩, ⟨1, 1, R.PASS_STATUS_SPEC, 0⟩, ⟨0, 1, R.PASS_STATUS_FINAL, 0⟩]⟩,
  ⟨"PASS_EVT", 0x0400008, 0x0, 1, 0x0, 0, false, [⟨0, 7, R.PASS_EVT_CAUSE, 0⟩]⟩,
  ⟨"PASS_PLY_SEL", 0x040000C, 0x0, 1, 0x0, 0, false, [⟨0, 10, R.PASS_PLY_SEL_PLY, 0⟩]⟩,
  ⟨"PASS_PLY_STATE", 0x0400010, 0x0, 1, 0x0, 0, false, [⟨16, 16, R.PASS_PLY_STATE_CHANNEL, 0⟩, ⟨0, 3, R.PASS_PLY_STATE_STATE, 0⟩]⟩,
  ⟨"PASS_PLY_SLACK", 0x0400014, 0x0, 1, 0x0, 0, false, [⟨0, 32, R.PASS_PLY_SLACK_SLACK, 0⟩]⟩,
  ⟨"PASS_PLY_SLACK_MIN", 0x0400018, 0x0, 1, 0x0, 0, false, [⟨0, 32, R.PASS_PLY_SLACK_MIN_SLACK, 0⟩]⟩,
  ⟨"PASS_SLACK_WARN", 0x040001C, 0x0, 1, 0x0, 0, false, [⟨0, 32, R.PASS_SLACK_WARN_NS, 0⟩]⟩,
  ⟨"PASS_ABANDONED", 0x0400020, 0x0, 1, 0x0, 0, false, [⟨0, 32, R.PASS_ABANDONED_COUNT, 0⟩]⟩,
  ⟨"PASS_REPLAYS", 0x0400024, 0x0, 1, 0x0, 0, false, [⟨0, 32, R.PASS_REPLAYS_COUNT, 0⟩]⟩,
  ⟨"PASS_REPLAY_CYCLES", 0x0400028, 0x0, 1, 0x0, 0, false, [⟨0, 32, R.PASS_REPLAY_CYCLES_CYCLES, 0⟩]⟩,
  ⟨"PASS_MARKED", 0x040002C, 0x0, 1, 0x0, 0, false, [⟨0, 32, R.PASS_MARKED_COUNT, 0⟩]⟩,
  ⟨"PASS_FINAL_SPAN_LO", 0x0400030, 0x0, 1, 0x0, 0, false, [⟨0, 32, R.PASS_FINAL_SPAN_SPAN, 0⟩]⟩,
  ⟨"PASS_FINAL_SPAN_HI", 0x0400034, 0x0, 1, 0x0, 0, false, [⟨0, 32, R.PASS_FINAL_SPAN_SPAN, 32⟩]⟩,
  ⟨"PASS_HFLAG", 0x0400200, 0x4, 128, 0x0, 0, false, [⟨0, 32, R.PASS_HFLAG_SLOTS, 0⟩]⟩,
  ⟨"PASS_LIMIT_LO", 0x0410000, 0x10, 4096, 0x0, 0, false, [⟨0, 32, R.PASS_LIMIT_LO_LO, 0⟩]⟩,
  ⟨"PASS_LIMIT_HI", 0x0410004, 0x10, 4096, 0x0, 0, false, [⟨0, 32, R.PASS_LIMIT_HI_HI, 0⟩]⟩,
  ⟨"PASS_LIMIT_MEAN", 0x0410008, 0x10, 4096, 0x0, 0, false, [⟨0, 16, R.PASS_LIMIT_MEAN_MEANQ, 0⟩]⟩,
  ⟨"PASS_LIMIT_CTL", 0x041000C, 0x10, 4096, 0x0, 0, false, [⟨16, 12, R.PASS_LIMIT_CTL_COARSE_MAX, 0⟩, ⟨1, 1, R.PASS_LIMIT_CTL_EN_MEAN, 0⟩, ⟨0, 1, R.PASS_LIMIT_CTL_EN_POWER, 0⟩]⟩,
  ⟨"PASS_PREFETCH_DROP", 0x0400038, 0x0, 1, 0x0, 0, false, [⟨0, 32, R.PASS_PREFETCH_DROP_COUNT, 0⟩]⟩,
  ⟨"PASS_PREFETCH_WASTE", 0x040003C, 0x0, 1, 0x0, 0, false, [⟨0, 32, R.PASS_PREFETCH_WASTE_KIB, 0⟩]⟩
]

/-- Registers of block FOX (R408). -/
def regsFOX : List Reg := [
  ⟨"FOX_CTL", 0x0500000, 0x0, 1, 0x0, 0, false, [⟨12, 4, R.FOX_CTL_LOG_INTERVAL, 0⟩, ⟨1, 1, R.FOX_CTL_CLEAR, 0⟩, ⟨0, 1, R.FOX_CTL_ENABLE, 0⟩]⟩,
  ⟨"FOX_STATUS", 0x0500004, 0x0, 1, 0x0, 0, false, [⟨24, 8, R.FOX_STATUS_IGNORED, 0⟩, ⟨16, 4, R.FOX_STATUS_ERR, 0⟩, ⟨12, 4, R.FOX_STATUS_LOG_USED, 0⟩, ⟨1, 1, R.FOX_STATUS_PENDING, 0⟩, ⟨0, 1, R.FOX_STATUS_RUN, 0⟩]⟩,
  ⟨"FOX_BATCH_ADDR_LO", 0x0500008, 0x0, 1, 0x0, 0, false, [⟨6, 26, R.FOX_BATCH_ADDR_ADDR, 6⟩]⟩,
  ⟨"FOX_BATCH_ADDR_HI", 0x050000C, 0x0, 1, 0x0, 0, false, [⟨0, 16, R.FOX_BATCH_ADDR_ADDR, 32⟩]⟩,
  ⟨"FOX_BATCH_CTL", 0x0500010, 0x0, 1, 0x0, 0, false, [⟨0, 1, R.FOX_BATCH_CTL_SUBMIT, 0⟩]⟩,
  ⟨"FOX_BATCH_SEQ", 0x0500014, 0x0, 1, 0x0, 0, false, [⟨0, 32, R.FOX_BATCH_SEQ_BSEQ, 0⟩]⟩,
  ⟨"FOX_SKY_BASE_LO", 0x0500018, 0x0, 1, 0x0, 0, false, [⟨0, 32, R.FOX_SKY_BASE_BASE, 0⟩]⟩,
  ⟨"FOX_SKY_BASE_HI", 0x050001C, 0x0, 1, 0x0, 0, false, [⟨0, 32, R.FOX_SKY_BASE_BASE, 32⟩]⟩,
  ⟨"FOX_SKY_STEP_LO", 0x0500020, 0x0, 1, 0x0, 0, false, [⟨0, 32, R.FOX_SKY_STEP_STEP, 0⟩]⟩,
  ⟨"FOX_SKY_STEP_HI", 0x0500024, 0x0, 1, 0x0, 0, false, [⟨0, 32, R.FOX_SKY_STEP_STEP, 32⟩]⟩,
  ⟨"FOX_DMAX", 0x0500028, 0x0, 1, 0x0, 0, false, [⟨0, 24, R.FOX_DMAX_DMAX, 0⟩]⟩,
  ⟨"FOX_INTERVAL_LO", 0x0500030, 0x0, 1, 0x0, 0, false, [⟨0, 32, R.FOX_INTERVAL_U, 0⟩]⟩,
  ⟨"FOX_INTERVAL_HI", 0x0500034, 0x0, 1, 0x0, 0, false, [⟨0, 32, R.FOX_INTERVAL_U, 32⟩]⟩,
  ⟨"FOX_EVT", 0x0500038, 0x0, 1, 0x0, 0, false, [⟨0, 7, R.FOX_EVT_CAUSE, 0⟩]⟩,
  ⟨"FOX_RECOMPUTES", 0x050003C, 0x0, 1, 0x0, 0, false, [⟨0, 32, R.FOX_RECOMPUTES_COUNT, 0⟩]⟩,
  ⟨"FOX_STALE", 0x0500040, 0x4, 8, 0x0, 0, false, [⟨0, 32, R.FOX_STALE_WORD, 0⟩]⟩,
  ⟨"FOX_STALE_CTL", 0x0500060, 0x0, 1, 0x0, 0, false, [⟨31, 1, R.FOX_STALE_CTL_POP, 0⟩, ⟨8, 8, R.FOX_STALE_CTL_DROPPED, 0⟩, ⟨0, 5, R.FOX_STALE_CTL_COUNT, 0⟩]⟩,
  ⟨"RETRACT_SENT", 0x0500070, 0x0, 1, 0x0, 0, false, [⟨0, 32, R.RETRACT_SENT_COUNT, 0⟩]⟩,
  ⟨"WITHDRAW_WRITTEN", 0x0500074, 0x0, 1, 0x0, 0, false, [⟨0, 32, R.WITHDRAW_WRITTEN_COUNT, 0⟩]⟩
]

/-- Registers of block BEAM (R408). -/
def regsBEAM : List Reg := [
  ⟨"BEAM_CTL", 0x0600000, 0x0, 1, 0x0, 0, false, [⟨0, 1, R.BEAM_CTL_EVT_CUT_EN, 0⟩]⟩,
  ⟨"BEAM_STATUS", 0x0600004, 0x0, 1, 0x0, 0, false, [⟨16, 11, R.BEAM_STATUS_PLIES, 0⟩, ⟨1, 1, R.BEAM_STATUS_BUILD, 0⟩, ⟨0, 1, R.BEAM_STATUS_SPEC, 0⟩]⟩,
  ⟨"BEAM_EVT", 0x0600008, 0x0, 1, 0x0, 0, false, [⟨0, 4, R.BEAM_EVT_CAUSE, 0⟩]⟩,
  ⟨"BEAM_SEL", 0x060000C, 0x0, 1, 0x0, 0, false, [⟨0, 10, R.BEAM_SEL_PLY, 0⟩]⟩,
  ⟨"BEAM_PLY_STATE", 0x0600010, 0x0, 1, 0x0, 0, false, [⟨16, 16, R.BEAM_PLY_STATE_CHANNEL, 0⟩, ⟨0, 3, R.BEAM_PLY_STATE_STATE, 0⟩]⟩,
  ⟨"BEAM_FRAMES", 0x0600014, 0x0, 1, 0x0, 0, false, [⟨0, 32, R.BEAM_FRAMES_COUNT, 0⟩]⟩,
  ⟨"BEAM_WINDOWS_CUT", 0x0600018, 0x0, 1, 0x0, 0, false, [⟨0, 32, R.BEAM_WINDOWS_CUT_COUNT, 0⟩]⟩,
  ⟨"BEAM_WEIGHT_HOLD", 0x060001C, 0x0, 1, 0x0, 0, false, [⟨0, 32, R.BEAM_WEIGHT_HOLD_CYCLES, 0⟩]⟩,
  ⟨"BEAM_STORE_LOST", 0x0600020, 0x0, 1, 0x0, 0, false, [⟨0, 32, R.BEAM_STORE_LOST_COUNT, 0⟩]⟩,
  ⟨"BEAM_DEST_SEL", 0x0600024, 0x0, 1, 0x0, 0, false, [⟨0, 8, R.BEAM_DEST_SEL_DEST, 0⟩]⟩,
  ⟨"BEAM_DEST_PSEQ_LO", 0x0600028, 0x0, 1, 0x0, 0, false, [⟨0, 32, R.BEAM_DEST_PSEQ_PSEQ, 0⟩]⟩,
  ⟨"BEAM_DEST_PSEQ_HI", 0x060002C, 0x0, 1, 0x0, 0, false, [⟨0, 32, R.BEAM_DEST_PSEQ_PSEQ, 32⟩]⟩
]

/-- Registers of block LOOM (R408). -/
def regsLOOM : List Reg := [
  ⟨"KNOT_CTL", 0x0800000, 0x100, 1024, 0x0, 0, true, [⟨8, 8, R.KNOT_CTL_TEST_SEED, 0⟩, ⟨1, 1, R.KNOT_CTL_TEST_ABORT, 0⟩, ⟨0, 1, R.KNOT_CTL_TEST_START, 0⟩]⟩,
  ⟨"KNOT_STATUS", 0x0800004, 0x100, 1024, 0x0, 0, true, [⟨12, 2, R.KNOT_STATUS_MODE, 0⟩, ⟨8, 2, R.KNOT_STATUS_FUNCTION, 0⟩, ⟨6, 1, R.KNOT_STATUS_TEST_ABORTED, 0⟩, ⟨5, 1, R.KNOT_STATUS_ACTIVE, 0⟩, ⟨4, 1, R.KNOT_STATUS_OVF, 0⟩, ⟨3, 1, R.KNOT_STATUS_TEST_REFUSED, 0⟩, ⟨2, 1, R.KNOT_STATUS_TEST_FAIL, 0⟩, ⟨1, 1, R.KNOT_STATUS_TEST_PASS, 0⟩, ⟨0, 1, R.KNOT_STATUS_TEST_BUSY, 0⟩]⟩,
  ⟨"KNOT_OVF_COUNT", 0x0800008, 0x100, 1024, 0x0, 0, true, [⟨0, 32, R.KNOT_OVF_COUNT_COUNT, 0⟩]⟩,
  ⟨"KNOT_TEST_RESULT", 0x080000C, 0x100, 1024, 0x0, 0, true, [⟨21, 11, R.KNOT_TEST_RESULT_FAILS, 0⟩, ⟨0, 10, R.KNOT_TEST_RESULT_FIRST, 0⟩]⟩,
  ⟨"KNOT_ACTIVE", 0x0800010, 0x100, 1024, 0x0, 0, true, [⟨0, 32, R.KNOT_ACTIVE_CYCLES, 0⟩]⟩,
  ⟨"SECTION_CTL", 0x0C00000, 0x1000, 16, 0x0, 0, false, [⟨8, 1, R.SECTION_CTL_EVT_HOLD_EN, 0⟩, ⟨0, 1, R.SECTION_CTL_TEST_POWER, 0⟩]⟩,
  ⟨"SECTION_STATUS", 0x0C00004, 0x1000, 16, 0x0, 0, false, [⟨16, 8, R.SECTION_STATUS_PLIES, 0⟩, ⟨8, 1, R.SECTION_STATUS_USED, 0⟩, ⟨0, 3, R.SECTION_STATUS_PSTATE, 0⟩]⟩,
  ⟨"SECTION_EVT", 0x0C00008, 0x1000, 16, 0x0, 0, false, [⟨4, 1, R.SECTION_EVT_OFFLINE_ACCESS, 0⟩, ⟨3, 1, R.SECTION_EVT_POWER_FAULT, 0⟩, ⟨2, 1, R.SECTION_EVT_TEST_FAIL, 0⟩, ⟨1, 1, R.SECTION_EVT_OVF, 0⟩, ⟨0, 1, R.SECTION_EVT_HOLD, 0⟩]⟩,
  ⟨"SECTION_HOLD", 0x0C0000C, 0x1000, 16, 0x0, 0, false, [⟨0, 32, R.SECTION_HOLD_CYCLES, 0⟩]⟩,
  ⟨"SECTION_BUSY_LO", 0x0C00010, 0x1000, 16, 0x0, 0, false, [⟨0, 32, R.SECTION_BUSY_CYCLES, 0⟩]⟩,
  ⟨"SECTION_BUSY_HI", 0x0C00014, 0x1000, 16, 0x0, 0, false, [⟨0, 32, R.SECTION_BUSY_CYCLES, 32⟩]⟩,
  ⟨"SECTION_PWR_COUNT", 0x0C00018, 0x1000, 16, 0x0, 0, false, [⟨16, 16, R.SECTION_PWR_COUNT_FAULTS, 0⟩, ⟨0, 16, R.SECTION_PWR_COUNT_UPS, 0⟩]⟩
]

/-- Registers of block SPIN (R408). -/
def regsSPIN : List Reg := [
  ⟨"SPIN_CTL", 0x1000000, 0x1000, 512, 0x0, 0, true, [⟨3, 1, R.SPIN_CTL_EVT_SAT_EN, 0⟩, ⟨2, 1, R.SPIN_CTL_FORCE_SWAP, 0⟩, ⟨1, 1, R.SPIN_CTL_SWAP, 0⟩]⟩,
  ⟨"SPIN_STATUS", 0x1000004, 0x1000, 512, 0x0, 0, true, [⟨16, 12, R.SPIN_STATUS_PC, 0⟩, ⟨8, 4, R.SPIN_STATUS_NPOS, 0⟩, ⟨5, 3, R.SPIN_STATUS_STALL, 0⟩, ⟨4, 1, R.SPIN_STATUS_REPEAT, 0⟩, ⟨0, 1, R.SPIN_STATUS_RUN, 0⟩]⟩,
  ⟨"SPIN_PROG_STATUS", 0x1000008, 0x1000, 512, 0x0, 0, true, [⟨24, 8, R.SPIN_PROG_STATUS_REFUSED, 0⟩, ⟨5, 1, R.SPIN_PROG_STATUS_PEND, 0⟩, ⟨4, 1, R.SPIN_PROG_STATUS_VALID1, 0⟩, ⟨3, 1, R.SPIN_PROG_STATUS_VALID0, 0⟩, ⟨2, 1, R.SPIN_PROG_STATUS_ACTIVE, 0⟩, ⟨1, 1, R.SPIN_PROG_STATUS_SWAP_PENDING, 0⟩, ⟨0, 1, R.SPIN_PROG_STATUS_BUSY, 0⟩]⟩,
  ⟨"SPIN_PROG_ADDR", 0x100000C, 0x1000, 512, 0x0, 0, true, [⟨12, 1, R.SPIN_PROG_ADDR_BANK, 0⟩, ⟨0, 12, R.SPIN_PROG_ADDR_WORD, 0⟩]⟩,
  ⟨"SPIN_PROG_DATA", 0x1000010, 0x1000, 512, 0x0, 0, true, [⟨0, 32, R.SPIN_PROG_DATA_WORD, 0⟩]⟩,
  ⟨"SPIN_PROG_ENTRY", 0x1000014, 0x1000, 512, 0x0, 0, true, [⟨31, 1, R.SPIN_PROG_ENTRY_COMMIT, 0⟩, ⟨0, 12, R.SPIN_PROG_ENTRY_ENTRY, 0⟩]⟩,
  ⟨"SPIN_EVT", 0x1000018, 0x1000, 512, 0x0, 0, true, [⟨7, 1, R.SPIN_EVT_LATE_SWAP, 0⟩, ⟨6, 1, R.SPIN_EVT_PROG_EVT, 0⟩, ⟨5, 1, R.SPIN_EVT_SWAPPED, 0⟩, ⟨4, 1, R.SPIN_EVT_PROG_REFUSED, 0⟩, ⟨3, 1, R.SPIN_EVT_SAT, 0⟩, ⟨2, 1, R.SPIN_EVT_IN_DROP, 0⟩, ⟨1, 1, R.SPIN_EVT_VOID, 0⟩, ⟨0, 1, R.SPIN_EVT_FAULT, 0⟩]⟩,
  ⟨"SPIN_FAULT", 0x100001C, 0x1000, 512, 0x0, 0, true, [⟨28, 4, R.SPIN_FAULT_CODE, 0⟩, ⟨16, 12, R.SPIN_FAULT_PC, 0⟩, ⟨8, 8, R.SPIN_FAULT_PCODE, 0⟩, ⟨0, 8, R.SPIN_FAULT_COUNT, 0⟩]⟩,
  ⟨"SPIN_BLOCK_MAX", 0x1000020, 0x1000, 512, 0x0, 0, true, [⟨0, 32, R.SPIN_BLOCK_MAX_CYCLES, 0⟩]⟩,
  ⟨"SPIN_STALL_IN", 0x1000024, 0x1000, 512, 0x0, 0, true, [⟨0, 32, R.SPIN_STALL_IN_CYCLES, 0⟩]⟩,
  ⟨"SPIN_STALL_OUT", 0x1000028, 0x1000, 512, 0x0, 0, true, [⟨0, 32, R.SPIN_STALL_OUT_CYCLES, 0⟩]⟩,
  ⟨"SPIN_VOID", 0x100002C, 0x1000, 512, 0x0, 0, true, [⟨16, 16, R.SPIN_VOID_IN_DROP, 0⟩, ⟨0, 16, R.SPIN_VOID_VOID, 0⟩]⟩,
  ⟨"SPIN_SAT", 0x1000030, 0x1000, 512, 0x0, 0, true, [⟨0, 32, R.SPIN_SAT_COUNT, 0⟩]⟩,
  ⟨"SPIN_LMEM_ADDR", 0x1000040, 0x1000, 512, 0x0, 0, true, [⟨2, 16, R.SPIN_LMEM_ADDR_WORD, 0⟩]⟩,
  ⟨"SPIN_LMEM_DATA", 0x1000044, 0x1000, 512, 0x0, 0, true, [⟨0, 32, R.SPIN_LMEM_DATA_DATA, 0⟩]⟩,
  ⟨"SPIN_GAIN_ADDR", 0x1000048, 0x1000, 512, 0x0, 0, true, [⟨0, 13, R.SPIN_GAIN_ADDR_INDEX, 0⟩]⟩,
  ⟨"SPIN_GAIN_DATA", 0x100004C, 0x1000, 512, 0x0, 0, true, [⟨16, 16, R.SPIN_GAIN_DATA_IMAG, 0⟩, ⟨0, 16, R.SPIN_GAIN_DATA_REAL, 0⟩]⟩,
  ⟨"SPIN_BANK_CTL", 0x1200000, 0x100, 8, 0x0, 0, false, [⟨0, 1, R.SPIN_BANK_CTL_SUMMARY, 0⟩]⟩,
  ⟨"SPIN_BANK_EVT", 0x1200004, 0x100, 8, 0x0, 0, false, [⟨0, 1, R.SPIN_BANK_EVT_FLUSH_LATE, 0⟩]⟩,
  ⟨"SPIN_BANK_PEND_LO", 0x1200008, 0x100, 8, 0x0, 0, false, [⟨0, 32, R.SPIN_BANK_PEND_SPINDLES, 0⟩]⟩,
  ⟨"SPIN_BANK_PEND_HI", 0x120000C, 0x100, 8, 0x0, 0, false, [⟨0, 32, R.SPIN_BANK_PEND_SPINDLES, 32⟩]⟩
]

/-- Registers of block ZOOM (R408). -/
def regsZOOM : List Reg := [
  ⟨"ZOOM_CTL", 0x1400000, 0x400, 64, 0x0, 0, true, [⟨1, 1, R.ZOOM_CTL_SWAP_CANCEL, 0⟩, ⟨0, 1, R.ZOOM_CTL_SWAP_ARM, 0⟩]⟩,
  ⟨"ZOOM_STATUS", 0x1400004, 0x400, 64, 0x0, 0, true, [⟨2, 1, R.ZOOM_STATUS_RUN, 0⟩, ⟨1, 1, R.ZOOM_STATUS_SWAP_PENDING, 0⟩, ⟨0, 1, R.ZOOM_STATUS_ACTIVE_BANK, 0⟩]⟩,
  ⟨"ZOOM_CONFIG", 0x1400008, 0x400, 64, 0x0, 0, true, [⟨30, 2, R.ZOOM_CONFIG_D, 0⟩, ⟨27, 3, R.ZOOM_CONFIG_M, 0⟩, ⟨19, 8, R.ZOOM_CONFIG_L, 0⟩, ⟨6, 13, R.ZOOM_CONFIG_R, 0⟩, ⟨0, 6, R.ZOOM_CONFIG_SHIFT, 0⟩]⟩,
  ⟨"ZOOM_GDELAY", 0x140000C, 0x400, 64, 0x0, 0, true, [⟨0, 20, R.ZOOM_GDELAY_HALF_SAMPLES, 0⟩]⟩,
  ⟨"ZOOM_SWAP_TIME_LO", 0x1400010, 0x400, 64, 0x0, 0, true, [⟨0, 32, R.ZOOM_SWAP_TIME_TIME, 0⟩]⟩,
  ⟨"ZOOM_SWAP_TIME_HI", 0x1400014, 0x400, 64, 0x0, 0, true, [⟨0, 32, R.ZOOM_SWAP_TIME_TIME, 32⟩]⟩,
  ⟨"ZOOM_COEF_ADDR", 0x1400018, 0x400, 64, 0x0, 0, true, [⟨8, 1, R.ZOOM_COEF_ADDR_BANK, 0⟩, ⟨0, 6, R.ZOOM_COEF_ADDR_INDEX, 0⟩]⟩,
  ⟨"ZOOM_COEF_DATA", 0x140001C, 0x400, 64, 0x0, 0, true, [⟨18, 14, R.ZOOM_COEF_DATA_SIGN, 0⟩, ⟨0, 18, R.ZOOM_COEF_DATA_COEF, 0⟩]⟩,
  ⟨"ZOOM_SAT", 0x1400020, 0x400, 64, 0x0, 0, true, [⟨0, 32, R.ZOOM_SAT_COUNT, 0⟩]⟩,
  ⟨"ZOOM_MISSING", 0x1400024, 0x400, 64, 0x0, 0, true, [⟨16, 16, R.ZOOM_MISSING_MISSING, 0⟩, ⟨0, 16, R.ZOOM_MISSING_SUPPRESSED, 0⟩]⟩,
  ⟨"ZOOM_FLAGS", 0x1400028, 0x400, 64, 0x0, 0, true, [⟨8, 8, R.ZOOM_FLAGS_REFUSED, 0⟩, ⟨4, 1, R.ZOOM_FLAGS_SWAP_CANCELLED, 0⟩, ⟨3, 1, R.ZOOM_FLAGS_SWAPPED, 0⟩, ⟨2, 1, R.ZOOM_FLAGS_SWAP_LATE, 0⟩, ⟨1, 1, R.ZOOM_FLAGS_COEF_REFUSED, 0⟩, ⟨0, 1, R.ZOOM_FLAGS_SAT, 0⟩]⟩,
  ⟨"ZOOM_SLOT_CH", 0x1400100, 0x400, 64, 0x8, 64, true, [⟨16, 1, R.ZOOM_SLOT_CH_SUPPRESSING, 0⟩, ⟨0, 16, R.ZOOM_SLOT_CH_COARSE, 0⟩]⟩,
  ⟨"ZOOM_SLOT_NCO", 0x1400104, 0x400, 64, 0x8, 64, true, [⟨0, 32, R.ZOOM_SLOT_NCO_FREQ, 0⟩]⟩
]

/-- Registers of block LANE (R408). -/
def regsLANE : List Reg := [
  ⟨"LANE_CTL", 0x1800000, 0x1000, 96, 0x0, 0, true, [⟨8, 1, R.LANE_CTL_EVT_LOCK_EN, 0⟩, ⟨7, 1, R.LANE_CTL_RELOCK, 0⟩, ⟨6, 1, R.LANE_CTL_FREEZE, 0⟩, ⟨5, 1, R.LANE_CTL_TX_INVERT, 0⟩, ⟨4, 1, R.LANE_CTL_RX_INVERT, 0⟩, ⟨3, 1, R.LANE_CTL_TX_PRBS, 0⟩, ⟨2, 1, R.LANE_CTL_RX_PRBS, 0⟩, ⟨1, 1, R.LANE_CTL_TX_QUIET, 0⟩]⟩,
  ⟨"LANE_STATUS", 0x1800004, 0x1000, 96, 0x0, 0, true, [⟨24, 8, R.LANE_STATUS_REMOTE_NODE, 0⟩, ⟨20, 4, R.LANE_STATUS_REMOTE_HANK, 0⟩, ⟨16, 3, R.LANE_STATUS_REMOTE_LANE, 0⟩, ⟨15, 1, R.LANE_STATUS_REMOTE_RX_LOCKED, 0⟩, ⟨14, 1, R.LANE_STATUS_REMOTE_VALID, 0⟩, ⟨8, 2, R.LANE_STATUS_RATE, 0⟩, ⟨7, 1, R.LANE_STATUS_TX_ON, 0⟩, ⟨6, 1, R.LANE_STATUS_RX_ON, 0⟩, ⟨3, 1, R.LANE_STATUS_SIGNAL, 0⟩, ⟨0, 3, R.LANE_STATUS_STATE, 0⟩]⟩,
  ⟨"LANE_TX_FFE", 0x1800008, 0x1000, 96, 0x0, 0, true, [⟨16, 6, R.LANE_TX_FFE_MAIN, 0⟩, ⟨8, 6, R.LANE_TX_FFE_POST, 0⟩, ⟨0, 5, R.LANE_TX_FFE_PRE, 0⟩]⟩,
  ⟨"LANE_RX_EQ", 0x180000C, 0x1000, 96, 0x0, 0, true, [⟨16, 16, R.LANE_RX_EQ_EYE, 0⟩, ⟨0, 4, R.LANE_RX_EQ_CTLE, 0⟩]⟩,
  ⟨"LANE_DFE", 0x1800010, 0x1000, 96, 0x4, 3, true, [⟨0, 8, R.LANE_DFE_TAP0, 0⟩, ⟨8, 8, R.LANE_DFE_TAP1, 0⟩, ⟨16, 8, R.LANE_DFE_TAP2, 0⟩, ⟨24, 8, R.LANE_DFE_TAP3, 0⟩]⟩,
  ⟨"LANE_ERR_HDR", 0x1800020, 0x1000, 96, 0x0, 0, true, [⟨0, 32, R.LANE_ERR_HDR_COUNT, 0⟩]⟩,
  ⟨"LANE_ERR_CTRL", 0x1800024, 0x1000, 96, 0x0, 0, true, [⟨16, 16, R.LANE_ERR_CTRL_COMMA_MISS, 0⟩, ⟨0, 16, R.LANE_ERR_CTRL_UNKNOWN, 0⟩]⟩,
  ⟨"LANE_LOCKS", 0x1800028, 0x1000, 96, 0x0, 0, true, [⟨16, 16, R.LANE_LOCKS_LOST, 0⟩, ⟨0, 16, R.LANE_LOCKS_GAINED, 0⟩]⟩,
  ⟨"LANE_FILL_INS", 0x180002C, 0x1000, 96, 0x0, 0, true, [⟨0, 32, R.LANE_FILL_INS_COUNT, 0⟩]⟩,
  ⟨"LANE_FILL_DEL", 0x1800030, 0x1000, 96, 0x0, 0, true, [⟨0, 32, R.LANE_FILL_DEL_COUNT, 0⟩]⟩,
  ⟨"LANE_ESLIP", 0x1800034, 0x1000, 96, 0x0, 0, true, [⟨24, 8, R.LANE_ESLIP_OVERFLOW, 0⟩, ⟨16, 8, R.LANE_ESLIP_UNDERFLOW, 0⟩, ⟨0, 7, R.LANE_ESLIP_LEVEL, 0⟩]⟩,
  ⟨"LANE_PRBS_ERR", 0x1800038, 0x1000, 96, 0x0, 0, true, [⟨0, 32, R.LANE_PRBS_ERR_COUNT, 0⟩]⟩,
  ⟨"LANE_EVT", 0x180003C, 0x1000, 96, 0x0, 0, true, [⟨3, 1, R.LANE_EVT_ERR_HIGH, 0⟩, ⟨2, 1, R.LANE_EVT_ESLIP, 0⟩, ⟨1, 1, R.LANE_EVT_LOCK_GAINED, 0⟩, ⟨0, 1, R.LANE_EVT_LOCK_LOST, 0⟩]⟩,
  ⟨"HANK_CTL", 0x1900000, 0x100, 12, 0x0, 0, false, [⟨16, 4, R.HANK_CTL_MIN_LANES, 0⟩, ⟨8, 8, R.HANK_CTL_LANES, 0⟩, ⟨4, 2, R.HANK_CTL_RATE, 0⟩, ⟨0, 4, R.HANK_CTL_ROLE, 0⟩]⟩,
  ⟨"HANK_STATUS", 0x1900004, 0x100, 12, 0x0, 0, false, [⟨16, 8, R.HANK_STATUS_LOCKED, 0⟩, ⟨8, 8, R.HANK_STATUS_POWERED, 0⟩, ⟨6, 1, R.HANK_STATUS_PLL_LOCK, 0⟩, ⟨5, 1, R.HANK_STATUS_UP, 0⟩, ⟨4, 1, R.HANK_STATUS_DRAFT, 0⟩, ⟨0, 4, R.HANK_STATUS_ROLE, 0⟩]⟩,
  ⟨"HANK_EVT", 0x1900008, 0x100, 12, 0x0, 0, false, [⟨2, 1, R.HANK_EVT_PLL_FAULT, 0⟩, ⟨1, 1, R.HANK_EVT_UP, 0⟩, ⟨0, 1, R.HANK_EVT_DOWN, 0⟩]⟩
]

/-- Registers of block FRAME (R408). -/
def regsFRAME : List Reg := [
  ⟨"CLASS_STATUS", 0x1A00000, 0x0, 1, 0x0, 0, false, [⟨1, 14, R.CLASS_STATUS_VALID, 0⟩, ⟨0, 1, R.CLASS_STATUS_DRAIN, 0⟩]⟩,
  ⟨"CLASS_SEL", 0x1A00004, 0x0, 1, 0x0, 0, false, [⟨16, 4, R.CLASS_SEL_GEN, 0⟩, ⟨0, 13, R.CLASS_SEL_INDEX, 0⟩]⟩,
  ⟨"CLASS_ENTRY", 0x1A00008, 0x4, 4, 0x0, 0, false, [⟨0, 32, R.CLASS_ENTRY_WORD, 0⟩]⟩,
  ⟨"FRAME_EVT", 0x1A00020, 0x0, 1, 0x0, 0, false, [⟨0, 8, R.FRAME_EVT_CAUSE, 0⟩]⟩,
  ⟨"FRAME_ERR", 0x1A00024, 0x0, 1, 0x0, 0, false, [⟨16, 16, R.FRAME_ERR_CRC, 0⟩, ⟨0, 16, R.FRAME_ERR_HDR_BAD, 0⟩]⟩,
  ⟨"FRAME_DISCARD", 0x1A00028, 0x0, 1, 0x0, 0, false, [⟨24, 8, R.FRAME_DISCARD_SHAPE, 0⟩, ⟨16, 8, R.FRAME_DISCARD_UNCLASSIFIED, 0⟩, ⟨8, 8, R.FRAME_DISCARD_MISALIGNED, 0⟩, ⟨0, 8, R.FRAME_DISCARD_LATE, 0⟩]⟩,
  ⟨"FRAME_DUP", 0x1A0002C, 0x0, 1, 0x0, 0, false, [⟨16, 16, R.FRAME_DUP_MISNUMBERED, 0⟩, ⟨0, 16, R.FRAME_DUP_DUPLICATE, 0⟩]⟩,
  ⟨"FRAME_LOSS", 0x1A00030, 0x0, 1, 0x0, 0, false, [⟨16, 16, R.FRAME_LOSS_OVERFLOW, 0⟩, ⟨0, 16, R.FRAME_LOSS_TRUNCATED, 0⟩]⟩,
  ⟨"FRAME_LAST_DISCARD", 0x1A00034, 0x0, 1, 0x0, 0, false, [⟨24, 4, R.FRAME_LAST_DISCARD_REASON, 0⟩, ⟨16, 8, R.FRAME_LAST_DISCARD_LANE, 0⟩, ⟨0, 16, R.FRAME_LAST_DISCARD_SOURCE_ID, 0⟩]⟩,
  ⟨"FRAME_NP_TIMEOUT", 0x1A00038, 0x0, 1, 0x0, 0, false, [⟨16, 16, R.FRAME_NP_TIMEOUT_UNMATCHED, 0⟩, ⟨0, 16, R.FRAME_NP_TIMEOUT_TIMEOUT, 0⟩]⟩,
  ⟨"FRAME_DISCARD_EDGE", 0x1A0003C, 0x0, 1, 0x0, 0, false, [⟨16, 16, R.FRAME_DISCARD_EDGE_AFTER_STOP, 0⟩, ⟨0, 16, R.FRAME_DISCARD_EDGE_EARLY, 0⟩]⟩,
  ⟨"FRAME_GAP", 0x1A00040, 0x4, 8, 0x0, 0, false, [⟨0, 32, R.FRAME_GAP_WORD, 0⟩]⟩,
  ⟨"FRAME_GAP_CTL", 0x1A00060, 0x0, 1, 0x0, 0, false, [⟨31, 1, R.FRAME_GAP_CTL_POP, 0⟩, ⟨8, 8, R.FRAME_GAP_CTL_DROPPED, 0⟩, ⟨0, 7, R.FRAME_GAP_CTL_COUNT, 0⟩]⟩,
  ⟨"FRAME_HANK_CFG", 0x1A01000, 0x10, 12, 0x0, 0, false, [⟨0, 1, R.FRAME_HANK_CFG_CREDITED, 0⟩]⟩,
  ⟨"FRAME_HANK_CREDIT", 0x1A01004, 0x10, 12, 0x0, 0, false, [⟨16, 16, R.FRAME_HANK_CREDIT_CHK_ERR, 0⟩, ⟨8, 8, R.FRAME_HANK_CREDIT_OVERRUN, 0⟩, ⟨0, 8, R.FRAME_HANK_CREDIT_STALE_EPOCH, 0⟩]⟩,
  ⟨"FRAME_HANK_STALL", 0x1A01008, 0x10, 12, 0x0, 0, false, [⟨0, 32, R.FRAME_HANK_STALL_CYCLES, 0⟩]⟩
]

/-- Registers of block MESH (R408). -/
def regsMESH : List Reg := [
  ⟨"MESH_NODE", 0x1C00000, 0x0, 1, 0x0, 0, false, [⟨0, 6, R.MESH_NODE_ID, 0⟩]⟩,
  ⟨"MESH_STATUS", 0x1C00004, 0x0, 1, 0x0, 0, false, [⟨8, 7, R.MESH_STATUS_MEMBERS, 0⟩, ⟨2, 1, R.MESH_STATUS_ARMED, 0⟩, ⟨0, 2, R.MESH_STATUS_STATE, 0⟩]⟩,
  ⟨"MESH_CTL", 0x1C00008, 0x0, 1, 0x0, 0, false, [⟨1, 1, R.MESH_CTL_CANCEL, 0⟩, ⟨0, 1, R.MESH_CTL_ARM, 0⟩]⟩,
  ⟨"MESH_COUNT", 0x1C0000C, 0x0, 1, 0x0, 0, false, [⟨16, 16, R.MESH_COUNT_FOREIGN, 0⟩, ⟨0, 16, R.MESH_COUNT_OPER_LATE, 0⟩]⟩,
  ⟨"MESH_LAYOUT_LO", 0x1C00010, 0x0, 1, 0x0, 0, false, [⟨0, 32, R.MESH_LAYOUT_NODES, 0⟩]⟩,
  ⟨"MESH_LAYOUT_HI", 0x1C00014, 0x0, 1, 0x0, 0, false, [⟨0, 32, R.MESH_LAYOUT_NODES, 32⟩]⟩,
  ⟨"MESH_NEXT_LO", 0x1C00018, 0x0, 1, 0x0, 0, false, [⟨0, 32, R.MESH_NEXT_NODES, 0⟩]⟩,
  ⟨"MESH_NEXT_HI", 0x1C0001C, 0x0, 1, 0x0, 0, false, [⟨0, 32, R.MESH_NEXT_NODES, 32⟩]⟩,
  ⟨"MESH_NEXT_TIME_LO", 0x1C00020, 0x0, 1, 0x0, 0, false, [⟨0, 32, R.MESH_NEXT_TIME_TIME, 0⟩]⟩,
  ⟨"MESH_NEXT_TIME_HI", 0x1C00024, 0x0, 1, 0x0, 0, false, [⟨0, 32, R.MESH_NEXT_TIME_TIME, 32⟩]⟩,
  ⟨"MESH_SEEN_LO", 0x1C00028, 0x0, 1, 0x0, 0, false, [⟨0, 32, R.MESH_SEEN_NODES, 0⟩]⟩,
  ⟨"MESH_SEEN_HI", 0x1C0002C, 0x0, 1, 0x0, 0, false, [⟨0, 32, R.MESH_SEEN_NODES, 32⟩]⟩,
  ⟨"MESH_LOST_LO", 0x1C00030, 0x0, 1, 0x0, 0, false, [⟨0, 32, R.MESH_LOST_NODES, 0⟩]⟩,
  ⟨"MESH_LOST_HI", 0x1C00034, 0x0, 1, 0x0, 0, false, [⟨0, 32, R.MESH_LOST_NODES, 32⟩]⟩,
  ⟨"MESH_BASE_SPAN_LO", 0x1C00038, 0x0, 1, 0x0, 0, false, [⟨0, 32, R.MESH_BASE_SPAN_SPAN, 0⟩]⟩,
  ⟨"MESH_BASE_SPAN_HI", 0x1C0003C, 0x0, 1, 0x0, 0, false, [⟨0, 32, R.MESH_BASE_SPAN_SPAN, 32⟩]⟩,
  ⟨"MESH_EVT", 0x1C00040, 0x0, 1, 0x0, 0, false, [⟨0, 6, R.MESH_EVT_CAUSE, 0⟩]⟩
]

/-- Registers of block MEM (R408). -/
def regsMEM : List Reg := [
  ⟨"MEM_CTL", 0x2000000, 0x10000, 6, 0x0, 0, true, [⟨8, 8, R.MEM_CTL_MIG_RATE, 0⟩, ⟨6, 1, R.MEM_CTL_SCRUB_EN, 0⟩, ⟨4, 2, R.MEM_CTL_RETIRE_SID, 0⟩, ⟨3, 1, R.MEM_CTL_RETIRE, 0⟩, ⟨2, 1, R.MEM_CTL_TRAIN_FAIL, 0⟩, ⟨1, 1, R.MEM_CTL_TRAIN_COMMIT, 0⟩]⟩,
  ⟨"MEM_STATUS", 0x2000004, 0x10000, 6, 0x0, 0, true, [⟨24, 8, R.MEM_STATUS_TEMP, 0⟩, ⟨20, 2, R.MEM_STATUS_MULT, 0⟩, ⟨18, 2, R.MEM_STATUS_SPARE, 0⟩, ⟨16, 2, R.MEM_STATUS_RETIRED_SID, 0⟩, ⟨15, 1, R.MEM_STATUS_RETIRED, 0⟩, ⟨12, 3, R.MEM_STATUS_SHED, 0⟩, ⟨0, 3, R.MEM_STATUS_STATE, 0⟩]⟩,
  ⟨"MEM_EVT", 0x2000008, 0x10000, 6, 0x0, 0, true, [⟨8, 1, R.MEM_EVT_SHED_GUAR, 0⟩, ⟨7, 1, R.MEM_EVT_SHED_ASSURED, 0⟩, ⟨6, 1, R.MEM_EVT_SHED_BE, 0⟩, ⟨5, 1, R.MEM_EVT_THROTTLE, 0⟩, ⟨4, 1, R.MEM_EVT_MIG_DONE, 0⟩, ⟨3, 1, R.MEM_EVT_MIG_START, 0⟩, ⟨2, 1, R.MEM_EVT_CA_FAIL, 0⟩, ⟨1, 1, R.MEM_EVT_UE, 0⟩, ⟨0, 1, R.MEM_EVT_CE, 0⟩]⟩,
  ⟨"MEM_CE_COUNT", 0x200000C, 0x10000, 6, 0x0, 0, true, [⟨0, 8, R.MEM_CE_COUNT_SID0, 0⟩, ⟨8, 8, R.MEM_CE_COUNT_SID1, 0⟩, ⟨16, 8, R.MEM_CE_COUNT_SID2, 0⟩, ⟨24, 8, R.MEM_CE_COUNT_SID3, 0⟩]⟩,
  ⟨"MEM_UE_COUNT", 0x2000010, 0x10000, 6, 0x0, 0, true, [⟨0, 8, R.MEM_UE_COUNT_SID0, 0⟩, ⟨8, 8, R.MEM_UE_COUNT_SID1, 0⟩, ⟨16, 8, R.MEM_UE_COUNT_SID2, 0⟩, ⟨24, 8, R.MEM_UE_COUNT_SID3, 0⟩]⟩,
  ⟨"MEM_ERR_WHERE", 0x2000014, 0x10000, 6, 0x0, 0, true, [⟨30, 2, R.MEM_ERR_WHERE_SID, 0⟩, ⟨26, 4, R.MEM_ERR_WHERE_BANK, 0⟩, ⟨11, 15, R.MEM_ERR_WHERE_ROW, 0⟩, ⟨6, 5, R.MEM_ERR_WHERE_PCH, 0⟩, ⟨4, 2, R.MEM_ERR_WHERE_KIND, 0⟩]⟩,
  ⟨"MEM_MIG", 0x2000018, 0x10000, 6, 0x0, 0, true, [⟨0, 16, R.MEM_MIG_PROGRESS, 0⟩]⟩,
  ⟨"MEM_RD_CTL", 0x200001C, 0x10000, 6, 0x0, 0, true, [⟨28, 4, R.MEM_RD_CTL_FRAC, 0⟩, ⟨0, 16, R.MEM_RD_CTL_LIMIT, 0⟩]⟩,
  ⟨"MEM_RD_LAST", 0x2000020, 0x10000, 6, 0x0, 0, true, [⟨26, 6, R.MEM_RD_LAST_PORT, 0⟩, ⟨21, 5, R.MEM_RD_LAST_PCH, 0⟩, ⟨19, 2, R.MEM_RD_LAST_SID, 0⟩, ⟨15, 4, R.MEM_RD_LAST_BANK, 0⟩, ⟨0, 15, R.MEM_RD_LAST_ROW, 0⟩]⟩,
  ⟨"MEM_RD_FLAGS", 0x2000024, 0x10000, 6, 0x0, 0, true, [⟨0, 32, R.MEM_RD_FLAGS_COUNT, 0⟩]⟩,
  ⟨"MEM_SHED_TIME", 0x2000028, 0x10000, 6, 0x0, 0, true, [⟨16, 16, R.MEM_SHED_TIME_GUAR_MS, 0⟩, ⟨0, 16, R.MEM_SHED_TIME_ASSURED_MS, 0⟩]⟩,
  ⟨"MEM_SCRUB", 0x200002C, 0x10000, 6, 0x0, 0, true, [⟨16, 16, R.MEM_SCRUB_PASSES, 0⟩, ⟨0, 16, R.MEM_SCRUB_HOURS, 0⟩]⟩,
  ⟨"MEM_TRAIN_SEL", 0x2000040, 0x10000, 6, 0x0, 0, true, [⟨16, 3, R.MEM_TRAIN_SEL_KIND, 0⟩, ⟨8, 6, R.MEM_TRAIN_SEL_BIT, 0⟩, ⟨4, 1, R.MEM_TRAIN_SEL_PC, 0⟩, ⟨0, 4, R.MEM_TRAIN_SEL_CH, 0⟩]⟩,
  ⟨"MEM_TRAIN_DLY", 0x2000044, 0x10000, 6, 0x0, 0, true, [⟨8, 1, R.MEM_TRAIN_DLY_ALL, 0⟩, ⟨0, 7, R.MEM_TRAIN_DLY_DLY, 0⟩]⟩,
  ⟨"MEM_TRAIN_CMD", 0x2000048, 0x10000, 6, 0x0, 0, true, [⟨0, 1, R.MEM_TRAIN_CMD_PROBE, 0⟩]⟩,
  ⟨"MEM_TRAIN_STATUS", 0x200004C, 0x10000, 6, 0x0, 0, true, [⟨24, 8, R.MEM_TRAIN_STATUS_REFUSED, 0⟩, ⟨0, 1, R.MEM_TRAIN_STATUS_BUSY, 0⟩]⟩,
  ⟨"MEM_TRAIN_RESULT_LO", 0x2000050, 0x10000, 6, 0x0, 0, true, [⟨0, 32, R.MEM_TRAIN_RESULT_PASS, 0⟩]⟩,
  ⟨"MEM_TRAIN_RESULT_HI", 0x2000054, 0x10000, 6, 0x0, 0, true, [⟨0, 8, R.MEM_TRAIN_RESULT_PASS, 32⟩]⟩,
  ⟨"MEM_PORT_CFG", 0x2080000, 0x20, 64, 0x0, 0, false, [⟨16, 2, R.MEM_PORT_CFG_CLASS, 0⟩, ⟨0, 16, R.MEM_PORT_CFG_LATENCY, 0⟩]⟩,
  ⟨"MEM_PORT_SERVED_LO", 0x2080004, 0x20, 64, 0x0, 0, false, [⟨0, 32, R.MEM_PORT_SERVED_UNITS, 0⟩]⟩,
  ⟨"MEM_PORT_SERVED_HI", 0x2080008, 0x20, 64, 0x0, 0, false, [⟨0, 32, R.MEM_PORT_SERVED_UNITS, 32⟩]⟩,
  ⟨"MEM_PORT_DELAYED", 0x208000C, 0x20, 64, 0x0, 0, false, [⟨0, 32, R.MEM_PORT_DELAYED_UNITS, 0⟩]⟩,
  ⟨"MEM_PORT_DELAY_CYC", 0x2080010, 0x20, 64, 0x0, 0, false, [⟨0, 32, R.MEM_PORT_DELAY_CYC_CYCLES, 0⟩]⟩,
  ⟨"MEM_PORT_REFUSED", 0x2080014, 0x20, 64, 0x0, 0, false, [⟨16, 16, R.MEM_PORT_REFUSED_SHED, 0⟩, ⟨0, 16, R.MEM_PORT_REFUSED_OTHER, 0⟩]⟩,
  ⟨"MEM_PORT_THROTTLE", 0x2080018, 0x20, 64, 0x0, 0, false, [⟨0, 32, R.MEM_PORT_THROTTLE_CYCLES, 0⟩]⟩
]

/-- Registers of block STORE (R408). -/
def regsSTORE : List Reg := [
  ⟨"STORE_STATUS", 0x2100000, 0x0, 1, 0x0, 0, false, [⟨24, 8, R.STORE_STATUS_IGNORED, 0⟩, ⟨8, 1, R.STORE_STATUS_INV_BUSY, 0⟩, ⟨4, 1, R.STORE_STATUS_DEFAULT, 0⟩, ⟨0, 2, R.STORE_STATUS_STATE, 0⟩]⟩,
  ⟨"STORE_ROOT", 0x2100004, 0x0, 1, 0x0, 0, false, [⟨31, 1, R.STORE_ROOT_VALID, 0⟩, ⟨12, 19, R.STORE_ROOT_L1_COUNT, 0⟩, ⟨0, 10, R.STORE_ROOT_REGION, 0⟩]⟩,
  ⟨"STORE_INV", 0x2100008, 0x0, 1, 0x0, 0, false, [⟨9, 1, R.STORE_INV_ALL, 0⟩, ⟨8, 1, R.STORE_INV_GO, 0⟩, ⟨0, 8, R.STORE_INV_GEN, 0⟩]⟩,
  ⟨"STORE_BAR2", 0x210000C, 0x0, 1, 0x0, 0, false, [⟨0, 12, R.STORE_BAR2_BASE, 0⟩]⟩,
  ⟨"STORE_EVT", 0x2100010, 0x0, 1, 0x0, 0, false, [⟨0, 5, R.STORE_EVT_CAUSE, 0⟩]⟩,
  ⟨"STORE_CACHE_HIT", 0x2100014, 0x0, 1, 0x0, 0, false, [⟨0, 32, R.STORE_CACHE_HIT_COUNT, 0⟩]⟩,
  ⟨"STORE_CACHE_MISS", 0x2100018, 0x0, 1, 0x0, 0, false, [⟨0, 32, R.STORE_CACHE_MISS_COUNT, 0⟩]⟩,
  ⟨"STORE_FAULT_COUNT", 0x210001C, 0x0, 1, 0x0, 0, false, [⟨0, 32, R.STORE_FAULT_COUNT_COUNT, 0⟩]⟩,
  ⟨"STORE_BAR2_DROP", 0x2100020, 0x0, 1, 0x0, 0, false, [⟨0, 32, R.STORE_BAR2_DROP_COUNT, 0⟩]⟩,
  ⟨"STORE_FAULT", 0x2100040, 0x4, 8, 0x0, 0, false, [⟨0, 32, R.STORE_FAULT_WORD, 0⟩]⟩,
  ⟨"STORE_FAULT_CTL", 0x2100060, 0x0, 1, 0x0, 0, false, [⟨31, 1, R.STORE_FAULT_CTL_POP, 0⟩, ⟨8, 8, R.STORE_FAULT_CTL_DROPPED, 0⟩, ⟨0, 5, R.STORE_FAULT_CTL_COUNT, 0⟩]⟩
]

/-- Registers of block CAPTURE (R408). -/
def regsCAPTURE : List Reg := [
  ⟨"TRIG_CTL", 0x2200000, 0x40, 16, 0x0, 0, true, [⟨16, 16, R.TRIG_CTL_STREAMS, 0⟩, ⟨10, 6, R.TRIG_CTL_SHIFT, 0⟩, ⟨9, 1, R.TRIG_CTL_IMAG, 0⟩, ⟨4, 2, R.TRIG_CTL_PIN, 0⟩, ⟨0, 3, R.TRIG_CTL_KIND, 0⟩]⟩,
  ⟨"TRIG_SRC", 0x2200004, 0x40, 16, 0x0, 0, true, [⟨0, 12, R.TRIG_SRC_INDEX, 0⟩]⟩,
  ⟨"TRIG_CHAN", 0x2200008, 0x40, 16, 0x0, 0, true, [⟨16, 10, R.TRIG_CHAN_NCHM1, 0⟩, ⟨0, 13, R.TRIG_CHAN_FIRST, 0⟩]⟩,
  ⟨"TRIG_STATUS", 0x220000C, 0x40, 16, 0x0, 0, true, [⟨8, 4, R.TRIG_STATUS_STATE, 0⟩, ⟨7, 1, R.TRIG_STATUS_PENDING, 0⟩, ⟨4, 3, R.TRIG_STATUS_KIND, 0⟩, ⟨0, 1, R.TRIG_STATUS_RUN, 0⟩]⟩,
  ⟨"TRIG_EVT", 0x2200010, 0x40, 16, 0x0, 0, true, [⟨2, 1, R.TRIG_EVT_TAP_INVALID, 0⟩, ⟨1, 1, R.TRIG_EVT_WITHDRAWN, 0⟩, ⟨0, 1, R.TRIG_EVT_MARK_EVT, 0⟩]⟩,
  ⟨"TRIG_MSEQ", 0x2200014, 0x40, 16, 0x0, 0, true, [⟨0, 32, R.TRIG_MSEQ_NEXT, 0⟩]⟩,
  ⟨"TRIG_WITHDRAWN", 0x2200018, 0x40, 16, 0x0, 0, true, [⟨0, 32, R.TRIG_WITHDRAWN_COUNT, 0⟩]⟩,
  ⟨"CAP_CTL", 0x2210000, 0x40, 16, 0x0, 0, false, [⟨24, 8, R.CAP_CTL_DEST, 0⟩, ⟨20, 4, R.CAP_CTL_UNIT, 0⟩, ⟨12, 8, R.CAP_CTL_GROUP, 0⟩, ⟨2, 1, R.CAP_CTL_DEST_EN, 0⟩, ⟨0, 2, R.CAP_CTL_SOURCE, 0⟩]⟩,
  ⟨"CAP_CHAN", 0x2210004, 0x40, 16, 0x0, 0, false, [⟨16, 10, R.CAP_CHAN_NCHM1, 0⟩, ⟨0, 13, R.CAP_CHAN_FIRST, 0⟩]⟩,
  ⟨"CAP_STATUS", 0x2210008, 0x40, 16, 0x0, 0, false, [⟨31, 1, R.CAP_STATUS_RUN, 0⟩, ⟨30, 1, R.CAP_STATUS_PENDING, 0⟩, ⟨28, 2, R.CAP_STATUS_SOURCE, 0⟩, ⟨10, 11, R.CAP_STATUS_SPS, 0⟩, ⟨0, 10, R.CAP_STATUS_REGION, 0⟩]⟩,
  ⟨"CAP_WPTR_LO", 0x221000C, 0x40, 16, 0x0, 0, false, [⟨0, 32, R.CAP_WPTR_OFFSET, 0⟩]⟩,
  ⟨"CAP_WPTR_HI", 0x2210010, 0x40, 16, 0x0, 0, false, [⟨0, 24, R.CAP_WPTR_OFFSET, 32⟩]⟩,
  ⟨"CAP_LOSS", 0x2210014, 0x40, 16, 0x0, 0, false, [⟨16, 16, R.CAP_LOSS_MARKS_LOST, 0⟩, ⟨0, 16, R.CAP_LOSS_FRAME_SKIP, 0⟩]⟩,
  ⟨"CAP_GAP_SAMPLES", 0x2210018, 0x40, 16, 0x0, 0, false, [⟨0, 32, R.CAP_GAP_SAMPLES_COUNT, 0⟩]⟩,
  ⟨"CAP_EVT", 0x221001C, 0x40, 16, 0x0, 0, false, [⟨3, 1, R.CAP_EVT_CONFIG_INVALID, 0⟩, ⟨2, 1, R.CAP_EVT_FRAME_SKIP, 0⟩, ⟨1, 1, R.CAP_EVT_MARK_LOST, 0⟩, ⟨0, 1, R.CAP_EVT_GAP, 0⟩]⟩
]

/-- Registers of block DMA (R408). -/
def regsDMA : List Reg := [
  ⟨"DMA_CTL", 0x2300000, 0x100, 32, 0x0, 0, true, [⟨1, 1, R.DMA_CTL_DISABLE, 0⟩, ⟨0, 1, R.DMA_CTL_ARM, 0⟩]⟩,
  ⟨"DMA_STATUS", 0x2300004, 0x100, 32, 0x0, 0, true, [⟨24, 8, R.DMA_STATUS_IGNORED, 0⟩, ⟨8, 1, R.DMA_STATUS_POISON, 0⟩, ⟨4, 4, R.DMA_STATUS_ERR, 0⟩, ⟨0, 3, R.DMA_STATUS_STATE, 0⟩]⟩,
  ⟨"DMA_DESC_LO", 0x2300008, 0x100, 32, 0x0, 0, true, [⟨6, 26, R.DMA_DESC_ADDR, 6⟩]⟩,
  ⟨"DMA_DESC_HI", 0x230000C, 0x100, 32, 0x0, 0, true, [⟨0, 16, R.DMA_DESC_ADDR, 32⟩]⟩,
  ⟨"DMA_CUR_LO", 0x2300010, 0x100, 32, 0x0, 0, true, [⟨0, 32, R.DMA_CUR_ADDR, 0⟩]⟩,
  ⟨"DMA_CUR_HI", 0x2300014, 0x100, 32, 0x0, 0, true, [⟨0, 32, R.DMA_CUR_ADDR, 32⟩]⟩,
  ⟨"DMA_REMAIN", 0x2300018, 0x100, 32, 0x0, 0, true, [⟨0, 32, R.DMA_REMAIN_BYTES, 0⟩]⟩,
  ⟨"DMA_EVT", 0x230001C, 0x100, 32, 0x0, 0, true, [⟨2, 1, R.DMA_EVT_DESC, 0⟩, ⟨1, 1, R.DMA_EVT_ERROR, 0⟩, ⟨0, 1, R.DMA_EVT_DONE, 0⟩]⟩
]

/-- Registers of block CHECK (R408). -/
def regsCHECK : List Reg := [
  ⟨"CHECK_CTL", 0x2400000, 0x40, 16, 0x0, 0, false, [⟨8, 1, R.CHECK_CTL_EVT_EN, 0⟩, ⟨4, 2, R.CHECK_CTL_BYTES, 0⟩, ⟨3, 1, R.CHECK_CTL_INIT, 0⟩, ⟨0, 2, R.CHECK_CTL_POLY, 0⟩]⟩,
  ⟨"CHECK_DATA", 0x2400004, 0x40, 16, 0x0, 0, false, [⟨0, 32, R.CHECK_DATA_DATA, 0⟩]⟩,
  ⟨"CHECK_STATE_LO", 0x2400008, 0x40, 16, 0x0, 0, false, [⟨0, 32, R.CHECK_STATE_STATE, 0⟩]⟩,
  ⟨"CHECK_STATE_HI", 0x240000C, 0x40, 16, 0x0, 0, false, [⟨0, 32, R.CHECK_STATE_STATE, 32⟩]⟩,
  ⟨"CHECK_RESULT_LO", 0x2400010, 0x40, 16, 0x0, 0, false, [⟨0, 32, R.CHECK_RESULT_RESULT, 0⟩]⟩,
  ⟨"CHECK_RESULT_HI", 0x2400014, 0x40, 16, 0x0, 0, false, [⟨0, 32, R.CHECK_RESULT_RESULT, 32⟩]⟩,
  ⟨"CHECK_ALIVE_IN", 0x2400018, 0x40, 16, 0x0, 0, false, [⟨0, 16, R.CHECK_ALIVE_IN_VALUE, 0⟩]⟩,
  ⟨"CHECK_ALIVE_LAST", 0x240001C, 0x40, 16, 0x0, 0, false, [⟨16, 1, R.CHECK_ALIVE_LAST_VALID, 0⟩, ⟨0, 16, R.CHECK_ALIVE_LAST_LAST, 0⟩]⟩,
  ⟨"CHECK_STATUS", 0x2400020, 0x40, 16, 0x0, 0, false, [⟨16, 16, R.CHECK_STATUS_MISSED, 0⟩, ⟨1, 1, R.CHECK_STATUS_JUMP, 0⟩, ⟨0, 1, R.CHECK_STATUS_DUP, 0⟩]⟩,
  ⟨"CHECK_COUNT", 0x2400024, 0x40, 16, 0x0, 0, false, [⟨16, 16, R.CHECK_COUNT_DUPS, 0⟩, ⟨0, 16, R.CHECK_COUNT_JUMPS, 0⟩]⟩
]

/-- Registers of block HOSTIF (R408). -/
def regsHOSTIF : List Reg := [
  ⟨"PCIE_ID", 0x2500000, 0x0, 1, 0x0, 0, false, [⟨16, 16, R.PCIE_ID_DEVICE, 0⟩, ⟨0, 16, R.PCIE_ID_VENDOR, 0⟩]⟩,
  ⟨"PCIE_STATUS", 0x2500004, 0x0, 1, 0x0, 0, false, [⟨16, 16, R.PCIE_STATUS_DOWNS, 0⟩, ⟨4, 5, R.PCIE_STATUS_WIDTH, 0⟩, ⟨1, 3, R.PCIE_STATUS_SPEED, 0⟩, ⟨0, 1, R.PCIE_STATUS_UP, 0⟩]⟩,
  ⟨"PCIE_ERR", 0x2500008, 0x0, 1, 0x0, 0, false, [⟨16, 16, R.PCIE_ERR_PARTIAL, 0⟩, ⟨8, 8, R.PCIE_ERR_CTO, 0⟩, ⟨0, 8, R.PCIE_ERR_POISON, 0⟩]⟩,
  ⟨"PCIE_EVT", 0x250000C, 0x0, 1, 0x0, 0, false, [⟨0, 6, R.PCIE_EVT_CAUSE, 0⟩]⟩,
  ⟨"MGMT_CTL", 0x2510000, 0x0, 1, 0x0, 0, false, [⟨1, 1, R.MGMT_CTL_REG_EN, 0⟩, ⟨0, 1, R.MGMT_CTL_EN, 0⟩]⟩,
  ⟨"MGMT_MAC_LO", 0x2510004, 0x0, 1, 0x0, 0, false, [⟨0, 32, R.MGMT_MAC_ADDR, 0⟩]⟩,
  ⟨"MGMT_MAC_HI", 0x2510008, 0x0, 1, 0x0, 0, false, [⟨0, 16, R.MGMT_MAC_ADDR, 32⟩]⟩,
  ⟨"MGMT_MCAST_0", 0x251000C, 0x8, 2, 0x0, 0, false, [⟨0, 32, R.MGMT_MCAST_ADDR, 0⟩]⟩,
  ⟨"MGMT_MCAST_1", 0x2510010, 0x8, 2, 0x0, 0, false, [⟨0, 16, R.MGMT_MCAST_ADDR, 32⟩, ⟨31, 1, R.MGMT_MCAST_EN, 0⟩]⟩,
  ⟨"MGMT_VLAN", 0x251001C, 0x0, 1, 0x0, 0, false, [⟨18, 1, R.MGMT_VLAN_RX_UNTAGGED, 0⟩, ⟨17, 1, R.MGMT_VLAN_RX_MATCH, 0⟩, ⟨16, 1, R.MGMT_VLAN_TX_TAG, 0⟩, ⟨13, 3, R.MGMT_VLAN_PCP, 0⟩, ⟨0, 12, R.MGMT_VLAN_VID, 0⟩]⟩,
  ⟨"MGMT_RX", 0x2510020, 0x0, 1, 0x0, 0, false, [⟨24, 8, R.MGMT_RX_RUNT, 0⟩, ⟨16, 8, R.MGMT_RX_OVERSIZE, 0⟩, ⟨8, 8, R.MGMT_RX_BAD, 0⟩, ⟨0, 8, R.MGMT_RX_FOREIGN, 0⟩]⟩,
  ⟨"MGMT_TX", 0x2510024, 0x0, 1, 0x0, 0, false, [⟨16, 16, R.MGMT_TX_HB_REPLACED, 0⟩, ⟨8, 8, R.MGMT_TX_EXCESS, 0⟩, ⟨0, 8, R.MGMT_TX_LATE, 0⟩]⟩,
  ⟨"MGMT_TS_LAT", 0x2510028, 0x0, 1, 0x0, 0, false, [⟨16, 16, R.MGMT_TS_LAT_TX, 0⟩, ⟨0, 16, R.MGMT_TS_LAT_RX, 0⟩]⟩,
  ⟨"MGMT_TS_CTL", 0x251002C, 0x0, 1, 0x0, 0, false, [⟨31, 1, R.MGMT_TS_CTL_POP, 0⟩, ⟨30, 1, R.MGMT_TS_CTL_DIR, 0⟩, ⟨8, 8, R.MGMT_TS_CTL_DROPPED, 0⟩, ⟨0, 4, R.MGMT_TS_CTL_COUNT, 0⟩]⟩,
  ⟨"MGMT_TS_TIME_LO", 0x2510030, 0x0, 1, 0x0, 0, false, [⟨0, 32, R.MGMT_TS_TIME_TIME, 0⟩]⟩,
  ⟨"MGMT_TS_TIME_HI", 0x2510034, 0x0, 1, 0x0, 0, false, [⟨0, 32, R.MGMT_TS_TIME_TIME, 32⟩]⟩,
  ⟨"MGMT_TS_INFO", 0x2510038, 0x0, 1, 0x0, 0, false, [⟨16, 4, R.MGMT_TS_INFO_MSGTYPE, 0⟩, ⟨0, 16, R.MGMT_TS_INFO_SEQ, 0⟩]⟩,
  ⟨"MGMT_EVT", 0x251003C, 0x0, 1, 0x0, 0, false, [⟨0, 5, R.MGMT_EVT_CAUSE, 0⟩]⟩,
  ⟨"SCP_STATUS", 0x2520000, 0x0, 1, 0x0, 0, false, [⟨16, 16, R.SCP_STATUS_PARTIAL, 0⟩, ⟨8, 8, R.SCP_STATUS_REFUSED, 0⟩, ⟨0, 7, R.SCP_STATUS_AVAIL, 0⟩]⟩,
  ⟨"SCP_EVT", 0x2520004, 0x0, 1, 0x0, 0, false, [⟨0, 3, R.SCP_EVT_CAUSE, 0⟩]⟩,
  ⟨"FLASH_CTL", 0x2520010, 0x0, 1, 0x0, 0, false, [⟨31, 1, R.FLASH_CTL_GO, 0⟩, ⟨30, 1, R.FLASH_CTL_BUSY, 0⟩, ⟨29, 1, R.FLASH_CTL_WRITE, 0⟩, ⟨28, 1, R.FLASH_CTL_QUAD, 0⟩, ⟨24, 4, R.FLASH_CTL_ERRORS, 0⟩, ⟨20, 4, R.FLASH_CTL_IGNORED, 0⟩, ⟨18, 2, R.FLASH_CTL_ABYTES, 0⟩, ⟨9, 9, R.FLASH_CTL_LEN, 0⟩, ⟨0, 8, R.FLASH_CTL_OPCODE, 0⟩]⟩,
  ⟨"FLASH_ADDR", 0x2520014, 0x0, 1, 0x0, 0, false, [⟨0, 32, R.FLASH_ADDR_ADDR, 0⟩]⟩,
  ⟨"FLASH_DUMMY", 0x2520018, 0x0, 1, 0x0, 0, false, [⟨0, 5, R.FLASH_DUMMY_CLOCKS, 0⟩]⟩,
  ⟨"FLASH_BUF", 0x2520100, 0x4, 64, 0x0, 0, false, [⟨0, 32, R.FLASH_BUF_DATA, 0⟩]⟩,
  ⟨"MON_CTL", 0x2530000, 0x100, 4, 0x0, 0, false, [⟨12, 10, R.MON_CTL_DELAY, 0⟩, ⟨4, 1, R.MON_CTL_GANG, 0⟩, ⟨3, 1, R.MON_CTL_SLAVE, 0⟩, ⟨1, 2, R.MON_CTL_RATE, 0⟩, ⟨0, 1, R.MON_CTL_EN, 0⟩]⟩,
  ⟨"MON_SLOT", 0x2530010, 0x100, 4, 0x4, 8, false, [⟨30, 2, R.MON_SLOT_KIND, 0⟩, ⟨29, 1, R.MON_SLOT_IMAG, 0⟩, ⟨24, 5, R.MON_SLOT_SCALE, 0⟩, ⟨12, 12, R.MON_SLOT_INDEX, 0⟩, ⟨0, 12, R.MON_SLOT_CHAN, 0⟩]⟩,
  ⟨"MON_SLOT_STATUS", 0x2530030, 0x100, 4, 0x4, 8, false, [⟨1, 5, R.MON_SLOT_STATUS_CAUSE, 0⟩, ⟨0, 1, R.MON_SLOT_STATUS_MUTED, 0⟩]⟩,
  ⟨"MON_STATUS", 0x2530050, 0x100, 4, 0x0, 0, false, [⟨16, 16, R.MON_STATUS_SLIPS, 0⟩, ⟨0, 16, R.MON_STATUS_SAT, 0⟩]⟩,
  ⟨"MON_BLOCK_TIME_LO", 0x2530054, 0x100, 4, 0x0, 0, false, [⟨0, 32, R.MON_BLOCK_TIME_TIME, 0⟩]⟩,
  ⟨"MON_BLOCK_TIME_HI", 0x2530058, 0x100, 4, 0x0, 0, false, [⟨0, 32, R.MON_BLOCK_TIME_TIME, 32⟩]⟩,
  ⟨"MON_BLOCK_SEQ", 0x253005C, 0x100, 4, 0x0, 0, false, [⟨0, 32, R.MON_BLOCK_SEQ_SEQ, 0⟩]⟩,
  ⟨"MON_EVT", 0x2530060, 0x100, 4, 0x0, 0, false, [⟨2, 1, R.MON_EVT_LIMITED, 0⟩, ⟨1, 1, R.MON_EVT_INVALID, 0⟩, ⟨0, 1, R.MON_EVT_SLIP, 0⟩]⟩
]

/-- Registers of block TRUST (R408). -/
def regsTRUST : List Reg := [
  ⟨"TRUST_CTL", 0x2600000, 0x0, 1, 0x0, 0, false, [⟨8, 8, R.TRUST_CTL_MCTP_EID, 0⟩]⟩,
  ⟨"TRUST_ROM", 0x2600004, 0x0, 1, 0x0, 0, false, [⟨0, 32, R.TRUST_ROM_VERSION, 0⟩]⟩,
  ⟨"TRUST_DEVICE_ID_LO", 0x2600008, 0x0, 1, 0x0, 0, false, [⟨0, 32, R.TRUST_DEVICE_ID_ID, 0⟩]⟩,
  ⟨"TRUST_DEVICE_ID_HI", 0x260000C, 0x0, 1, 0x0, 0, false, [⟨0, 32, R.TRUST_DEVICE_ID_ID, 32⟩]⟩,
  ⟨"TRUST_SLOT_SEL", 0x2600010, 0x0, 1, 0x0, 0, false, [⟨16, 16, R.TRUST_SLOT_SEL_EXTENDS, 0⟩, ⟨0, 3, R.TRUST_SLOT_SEL_SLOT, 0⟩]⟩,
  ⟨"TRUST_SLOT_VAL", 0x2600020, 0x4, 12, 0x0, 0, false, [⟨0, 32, R.TRUST_SLOT_VAL_WORD, 0⟩]⟩,
  ⟨"TRUST_LOG_STATUS", 0x2600050, 0x0, 1, 0x0, 0, false, [⟨16, 16, R.TRUST_LOG_STATUS_DROPPED, 0⟩, ⟨15, 1, R.TRUST_LOG_STATUS_FULL, 0⟩, ⟨0, 9, R.TRUST_LOG_STATUS_ENTRIES, 0⟩]⟩,
  ⟨"TRUST_LOG_SEL", 0x2600054, 0x0, 1, 0x0, 0, false, [⟨0, 8, R.TRUST_LOG_SEL_ENTRY, 0⟩]⟩,
  ⟨"TRUST_LOG_DATA", 0x2600080, 0x4, 32, 0x0, 0, false, [⟨0, 32, R.TRUST_LOG_DATA_WORD, 0⟩]⟩,
  ⟨"TRUST_FW_ADDR_LO", 0x2600100, 0x0, 1, 0x0, 0, false, [⟨6, 26, R.TRUST_FW_ADDR_ADDR, 6⟩]⟩,
  ⟨"TRUST_FW_ADDR_HI", 0x2600104, 0x0, 1, 0x0, 0, false, [⟨0, 16, R.TRUST_FW_ADDR_ADDR, 32⟩]⟩,
  ⟨"TRUST_FW_CTL", 0x2600108, 0x0, 1, 0x0, 0, false, [⟨2, 1, R.TRUST_FW_CTL_YIELD, 0⟩, ⟨1, 1, R.TRUST_FW_CTL_READY, 0⟩, ⟨0, 1, R.TRUST_FW_CTL_UPDATE, 0⟩]⟩,
  ⟨"TRUST_FW_STATUS", 0x260010C, 0x0, 1, 0x0, 0, false, [⟨24, 8, R.TRUST_FW_STATUS_IGNORED, 0⟩, ⟨20, 4, R.TRUST_FW_STATUS_ERR, 0⟩, ⟨0, 3, R.TRUST_FW_STATUS_STATE, 0⟩]⟩,
  ⟨"TRUST_FW_VERSION", 0x2600110, 0x0, 1, 0x0, 0, false, [⟨0, 32, R.TRUST_FW_VERSION_VERSION, 0⟩]⟩,
  ⟨"TRUST_MBOX_CTL", 0x2600200, 0x0, 1, 0x0, 0, false, [⟨31, 1, R.TRUST_MBOX_CTL_GO, 0⟩, ⟨30, 1, R.TRUST_MBOX_CTL_DONE, 0⟩, ⟨29, 1, R.TRUST_MBOX_CTL_BUSY, 0⟩, ⟨0, 13, R.TRUST_MBOX_CTL_LEN, 0⟩]⟩,
  ⟨"TRUST_MBOX_DATA", 0x2600204, 0x0, 1, 0x0, 0, false, [⟨0, 32, R.TRUST_MBOX_DATA_DATA, 0⟩]⟩,
  ⟨"TRUST_EVT", 0x2600300, 0x0, 1, 0x0, 0, false, [⟨16, 16, R.TRUST_EVT_ERRORS, 0⟩, ⟨0, 4, R.TRUST_EVT_CAUSE, 0⟩]⟩
]

/-- Registers of block LEDGER (R408). -/
def regsLEDGER : List Reg := [
  ⟨"LEDGER_CTL", 0x2700000, 0x0, 1, 0x0, 0, false, [⟨0, 1, R.LEDGER_CTL_COMMIT, 0⟩]⟩,
  ⟨"LEDGER_STATUS", 0x2700004, 0x0, 1, 0x0, 0, false, [⟨24, 8, R.LEDGER_STATUS_REFUSED, 0⟩, ⟨16, 8, R.LEDGER_STATUS_FAILS, 0⟩, ⟨9, 1, R.LEDGER_STATUS_FAIL, 0⟩, ⟨8, 1, R.LEDGER_STATUS_BUSY, 0⟩, ⟨0, 6, R.LEDGER_STATUS_COPY, 0⟩]⟩,
  ⟨"LEDGER_ADDR", 0x2700008, 0x0, 1, 0x0, 0, false, [⟨2, 14, R.LEDGER_ADDR_WORD, 0⟩]⟩,
  ⟨"LEDGER_DATA", 0x270000C, 0x0, 1, 0x0, 0, false, [⟨0, 32, R.LEDGER_DATA_DATA, 0⟩]⟩,
  ⟨"LEDGER_EVT", 0x2700010, 0x0, 1, 0x0, 0, false, [⟨0, 4, R.LEDGER_EVT_CAUSE, 0⟩]⟩
]

/-- Registers of block XBAR (R408). -/
def regsXBAR : List Reg := [
  ⟨"XBAR_STATUS", 0x2800000, 0x0, 1, 0x0, 0, false, [⟨24, 8, R.XBAR_STATUS_TIMEOUT, 0⟩, ⟨16, 8, R.XBAR_STATUS_LOCK_EXPIRED, 0⟩, ⟨8, 8, R.XBAR_STATUS_LOCK_REFUSED, 0⟩, ⟨0, 8, R.XBAR_STATUS_GROUP_MISS, 0⟩]⟩,
  ⟨"XBAR_LOCK", 0x2800100, 0x0, 1, 0x0, 0, false, [⟨31, 1, R.XBAR_LOCK_ACQUIRE, 0⟩, ⟨30, 1, R.XBAR_LOCK_RELEASE, 0⟩, ⟨16, 5, R.XBAR_LOCK_TARGET, 0⟩, ⟨1, 1, R.XBAR_LOCK_HELD, 0⟩, ⟨0, 1, R.XBAR_LOCK_WAIT, 0⟩]⟩,
  ⟨"XBAR_LOCK_LIMIT", 0x2800104, 0x0, 1, 0x0, 0, false, [⟨0, 11, R.XBAR_LOCK_LIMIT_US, 0⟩]⟩,
  ⟨"XBAR_GROUP", 0x2810000, 0x4, 14336, 0x0, 0, false, [⟨0, 32, R.XBAR_GROUP_MEMBERS, 0⟩]⟩
]

/-- Registers of block PAIR (R408). -/
def regsPAIR : List Reg := [
  ⟨"PAIR_CTL", 0x2900000, 0x0, 1, 0x0, 0, false, [⟨24, 8, R.PAIR_CTL_ARB, 0⟩, ⟨8, 1, R.PAIR_CTL_PREFER, 0⟩, ⟨4, 1, R.PAIR_CTL_RESYNC, 0⟩, ⟨3, 1, R.PAIR_CTL_SOLO, 0⟩, ⟨2, 1, R.PAIR_CTL_SIDE, 0⟩, ⟨0, 2, R.PAIR_CTL_MODE, 0⟩]⟩,
  ⟨"PAIR_STATUS", 0x2900004, 0x0, 1, 0x0, 0, false, [⟨24, 8, R.PAIR_STATUS_STBY_IGNORED, 0⟩, ⟨8, 3, R.PAIR_STATUS_STATE, 0⟩, ⟨6, 1, R.PAIR_STATUS_LEASE, 0⟩, ⟨5, 1, R.PAIR_STATUS_PAIR_ACTIVE, 0⟩, ⟨4, 1, R.PAIR_STATUS_WITNESS, 0⟩]⟩,
  ⟨"PAIR_HEALTH", 0x2900008, 0x0, 1, 0x0, 0, false, [⟨0, 32, R.PAIR_HEALTH_HEALTH, 0⟩]⟩,
  ⟨"PAIR_PEER_HEALTH", 0x290000C, 0x0, 1, 0x0, 0, false, [⟨0, 32, R.PAIR_PEER_HEALTH_HEALTH, 0⟩]⟩,
  ⟨"PAIR_LEASE_END_LO", 0x2900010, 0x0, 1, 0x0, 0, false, [⟨0, 32, R.PAIR_LEASE_END_TIME, 0⟩]⟩,
  ⟨"PAIR_LEASE_END_HI", 0x2900014, 0x0, 1, 0x0, 0, false, [⟨0, 32, R.PAIR_LEASE_END_TIME, 32⟩]⟩,
  ⟨"PAIR_HB_SENT", 0x2900018, 0x0, 1, 0x0, 0, false, [⟨0, 32, R.PAIR_HB_SENT_COUNT, 0⟩]⟩,
  ⟨"PAIR_GRANT_NODE", 0x290001C, 0x0, 1, 0x0, 0, false, [⟨0, 8, R.PAIR_GRANT_NODE_NODE, 0⟩]⟩,
  ⟨"PAIR_GRANT_END_LO", 0x2900020, 0x0, 1, 0x0, 0, false, [⟨0, 32, R.PAIR_GRANT_END_TIME, 0⟩]⟩,
  ⟨"PAIR_GRANT_END_HI", 0x2900024, 0x0, 1, 0x0, 0, false, [⟨0, 32, R.PAIR_GRANT_END_TIME, 32⟩]⟩,
  ⟨"PAIR_MSEQ_TX", 0x2900028, 0x0, 1, 0x0, 0, false, [⟨0, 32, R.PAIR_MSEQ_TX_MSEQ, 0⟩]⟩,
  ⟨"PAIR_MSEQ_RX", 0x290002C, 0x0, 1, 0x0, 0, false, [⟨0, 32, R.PAIR_MSEQ_RX_MSEQ, 0⟩]⟩,
  ⟨"PAIR_DIV_WHERE", 0x2900030, 0x0, 1, 0x0, 0, false, [⟨16, 16, R.PAIR_DIV_WHERE_CHANNEL, 0⟩, ⟨0, 10, R.PAIR_DIV_WHERE_PLY, 0⟩]⟩,
  ⟨"PAIR_DIV_COUNT", 0x2900034, 0x0, 1, 0x0, 0, false, [⟨0, 32, R.PAIR_DIV_COUNT_COUNT, 0⟩]⟩,
  ⟨"PAIR_EVT", 0x2900038, 0x0, 1, 0x0, 0, false, [⟨0, 9, R.PAIR_EVT_CAUSE, 0⟩]⟩,
  ⟨"PAIR_FAILOVERS", 0x290003C, 0x0, 1, 0x0, 0, false, [⟨16, 16, R.PAIR_FAILOVERS_FAILOVERS, 0⟩, ⟨0, 16, R.PAIR_FAILOVERS_RELEASED, 0⟩]⟩,
  ⟨"PAIR_BADGER", 0x2900040, 0x0, 1, 0x0, 0, false, [⟨16, 16, R.PAIR_BADGER_TAKEOVERS, 0⟩, ⟨3, 1, R.PAIR_BADGER_RESTART, 0⟩, ⟨2, 1, R.PAIR_BADGER_FAILED, 0⟩, ⟨1, 1, R.PAIR_BADGER_STANDBY_OK, 0⟩, ⟨0, 1, R.PAIR_BADGER_ACTIVE_CORE, 0⟩]⟩,
  ⟨"PAIR_OWL_TABLE", 0x2900100, 0x4, 64, 0x0, 0, false, [⟨0, 32, R.PAIR_OWL_TABLE_WORD, 0⟩]⟩
]

/-- Registers of block POWER (R408). -/
def regsPOWER : List Reg := [
  ⟨"POWER_CTL", 0x2A00000, 0x0, 1, 0x0, 0, false, [⟨15, 1, R.POWER_CTL_WARM_RESET, 0⟩, ⟨8, 1, R.POWER_CTL_FW_READY, 0⟩, ⟨7, 1, R.POWER_CTL_LEDGER_DONE, 0⟩, ⟨6, 1, R.POWER_CTL_KEEP_HANKS, 0⟩, ⟨5, 1, R.POWER_CTL_FORCE, 0⟩, ⟨4, 1, R.POWER_CTL_GO, 0⟩, ⟨0, 2, R.POWER_CTL_TARGET, 0⟩]⟩,
  ⟨"POWER_STATUS", 0x2A00004, 0x0, 1, 0x0, 0, false, [⟨24, 8, R.POWER_STATUS_REFUSED, 0⟩, ⟨16, 3, R.POWER_STATUS_WAKE_SRC, 0⟩, ⟨0, 3, R.POWER_STATUS_STATE, 0⟩]⟩,
  ⟨"POWER_WAKE_EN", 0x2A00008, 0x0, 1, 0x0, 0, false, [⟨0, 5, R.POWER_WAKE_EN_EN, 0⟩]⟩,
  ⟨"POWER_WAKE_TIME_LO", 0x2A0000C, 0x0, 1, 0x0, 0, false, [⟨0, 32, R.POWER_WAKE_TIME_TIME, 0⟩]⟩,
  ⟨"POWER_WAKE_TIME_HI", 0x2A00010, 0x0, 1, 0x0, 0, false, [⟨0, 32, R.POWER_WAKE_TIME_TIME, 32⟩]⟩,
  ⟨"POWER_TEMP", 0x2A00014, 0x0, 1, 0x0, 0, false, [⟨24, 8, R.POWER_TEMP_STACK_MAX, 0⟩, ⟨16, 8, R.POWER_TEMP_DIE_MAX, 0⟩, ⟨8, 8, R.POWER_TEMP_DEN, 0⟩]⟩,
  ⟨"POWER_THERM_CTL", 0x2A00018, 0x0, 1, 0x0, 0, false, [⟨0, 8, R.POWER_THERM_CTL_WARN, 0⟩]⟩,
  ⟨"POWER_SUPPLY", 0x2A0001C, 0x0, 1, 0x0, 0, false, [⟨24, 8, R.POWER_SUPPLY_VCORE_REQ, 0⟩, ⟨0, 8, R.POWER_SUPPLY_OUT, 0⟩]⟩,
  ⟨"POWER_CAUSE", 0x2A00020, 0x0, 1, 0x0, 0, false, [⟨31, 1, R.POWER_CAUSE_CLEAR, 0⟩, ⟨16, 8, R.POWER_CAUSE_WAKES_REFUSED, 0⟩, ⟨12, 4, R.POWER_CAUSE_RAIL, 0⟩, ⟨8, 1, R.POWER_CAUSE_LEDGER_SKIPPED, 0⟩, ⟨0, 8, R.POWER_CAUSE_CAUSE, 0⟩]⟩,
  ⟨"POWER_EVT", 0x2A00024, 0x0, 1, 0x0, 0, false, [⟨0, 8, R.POWER_EVT_CAUSE, 0⟩]⟩
]

/-- The blocks of R408: first offset, last offset, registers; the place in the list is the target number. -/
def blocks : List (Nat × Nat × List Reg) := [
  (0x0000000, 0x00FFFFF, regsSYS),
  (0x0100000, 0x01FFFFF, regsEVT),
  (0x0200000, 0x02FFFFF, regsTIME),
  (0x0300000, 0x03FFFFF, regsDRAFT),
  (0x0400000, 0x04FFFFF, regsPASS),
  (0x0500000, 0x05FFFFF, regsFOX),
  (0x0600000, 0x07FFFFF, regsBEAM),
  (0x0800000, 0x0FFFFFF, regsLOOM),
  (0x1000000, 0x13FFFFF, regsSPIN),
  (0x1400000, 0x17FFFFF, regsZOOM),
  (0x1800000, 0x19FFFFF, regsLANE),
  (0x1A00000, 0x1BFFFFF, regsFRAME),
  (0x1C00000, 0x1FFFFFF, regsMESH),
  (0x2000000, 0x20FFFFF, regsMEM),
  (0x2100000, 0x21FFFFF, regsSTORE),
  (0x2200000, 0x22FFFFF, regsCAPTURE),
  (0x2300000, 0x23FFFFF, regsDMA),
  (0x2400000, 0x24FFFFF, regsCHECK),
  (0x2500000, 0x25FFFFF, regsHOSTIF),
  (0x2600000, 0x26FFFFF, regsTRUST),
  (0x2700000, 0x27FFFFF, regsLEDGER),
  (0x2800000, 0x28FFFFF, regsXBAR),
  (0x2900000, 0x29FFFFF, regsPAIR),
  (0x2A00000, 0x2AFFFFF, regsPOWER)
]

/-- The key of a field of one instance: its bit address in register space. -/
def Field.key (f : Field) (i j : Nat) : Nat := (f.addr + i * f.s1 + j * f.s2) * 8 + f.lo

/-- A field's value is its width's low bits. -/
def Field.trunc (f : Field) (v : Nat) : Nat := v % 2 ^ f.w

/-- The instance indices at which a register answers an offset. -/
def Reg.hit (r : Reg) (off : Nat) : Option (Nat × Nat) :=
  if off < r.addr then none
  else
    let d := off - r.addr
    let i := if r.s1 = 0 then 0 else min (d / r.s1) (r.n1 - 1)
    let e := d - i * r.s1
    if r.s2 = 0 then (if e = 0 then some (i, 0) else none)
    else
      let j := e / r.s2
      if e % r.s2 = 0 ∧ j < r.n2 then some (i, j) else none

/-- The target (block) number of a unicast offset (R408). -/
def targetOf (off : Nat) : Option Nat := findIdx? (fun b => decide (b.1 ≤ off ∧ off ≤ b.2.1)) blocks

/-- The register at an aligned unicast offset, with its instance indices; none where nothing is assigned (R14). -/
def regAt (off : Nat) : Option (Reg × Nat × Nat) :=
  match blocks.find? (fun b => decide (b.1 ≤ off ∧ off ≤ b.2.1)) with
  | none => none
  | some b => b.2.2.findSome? (fun r => (r.hit off).map (fun ij => (r, ij.1, ij.2)))

end Sys2Proof.Machine
end

