-- ==== Sys2Proof/Machine/State.lean ====
section
/-!
DEFINITION. The state of the part, as plain data: every register field (in `regs`, R12 to R15), every memory, queue,
buffer and engine the spec gives it, and the queue of commands that wait. INVENTORY.md lists each with its rule.
-/

namespace Sys2Proof.Machine

/-- Why a step can stop with a fault. The spec gives every command an effect in every state, so no meaning raises one:
the type has the one constructor that keeps it inhabited. -/
inductive Fault where
  /-- Raised by no meaning of this model. Safe: a stop proves nothing about a next state. -/
  | none
deriving DecidableEq, Repr

/-- Why a step can be refused. -/
inductive Refusal where
  /-- Raised only by an arm of `exec` whose command has no meaning yet. Safe. -/
  | notModelled (mnemonic : String)
deriving DecidableEq, Repr

/-- A MEMPLAN region (R51): number, BASE and SIZE in bytes, USE, SITES mask. -/
structure Region where
  num : Nat
  base : Nat
  size : Nat
  use : Nat
  sites : Nat
deriving DecidableEq, Repr

/-- A placement (R326): GRAIN, SPARING and the regions in ascending number. -/
structure Placement where
  grain : Nat
  sparing : Bool
  regions : List Region
deriving DecidableEq, Repr

/-- One access unit waiting for a stack (R330, R331): requester port, class, latency target in ns, write or read, byte
key of the unit, the bank's row, the array time it entered the controller. Of a write also the store address of its unit, the unit's bytes
and poison before it (R342, R346), and whether it wrote the unit whole (R341). -/
structure MemReq where
  port : Nat
  cls : Nat
  lat : Nat
  write : Bool
  key : Nat
  row : Nat
  t : Nat
  addr : Nat
  old : List Byte
  oldBad : Bool
  whole : Bool
deriving DecidableEq, Repr

/-- A bank's open row (R331): whether one is open, the row, controller cycle of its last access, hits in a row while
a miss waited. -/
structure OpenRow where
  isOpen : Bool
  row : Nat
  last : Nat
  hits : Nat
deriving DecidableEq, Repr

/-- A row-disturbance throttle of a port (R334): when its duration ends, the units it may issue per 512,000 µs
(FRAC × served over the 32 ms window, both scaled by 16), when it may issue the next one, the instant up to which its cycles are counted
(R332). -/
structure Throttle where
  on : Bool
  ends : Nat
  cap : Nat
  nextAt : Nat
  counted : Nat
deriving DecidableEq, Repr

/-- What a stack site holds beside its registers: the line delays (R336), the rank migrating and when it began (R344),
whether its sweep must run again (R363), when its shed level began (R346), for each multiplier code one more than the instant since
which it is 2 °C below the points that call for it (R339), the next unit of the patrol
scrub and when it is due (R340). A migration had copied `migBase` bytes of each pseudo-channel at
`migStart`, and has copied `migDone` so far. The last instants at which the site served or refused a pressed request, a class-0 request at
step 3, and one at step 2 or more, and the instant up to which its time in a level is counted (R346, R349). -/
structure Site where
  dly : Tab Nat
  migSid : Option Nat
  migStart : Nat
  migBase : Nat
  migDone : Nat
  resweep : Bool
  shedSince : Nat
  coolSince : Tab Nat
  scrubPos : Nat
  scrubAt : Nat
  pressedAt : Nat
  lateAt : Nat
  firmAt : Nat
  msAt : Nat
deriving DecidableEq, Repr

/-- The memory controller (R329 to R334). Banks are numbered ((site·32 + pch)·4 + sid)·16 + bank. -/
structure StackState where
  sites : Tab Site
  bankQ : Tab (List MemReq)
  ingress : Tab (List MemReq)
  openRows : Tab OpenRow
  ptr : Tab Nat
  postponed : Tab Nat
  /-- Activates per (bank·32768 + row)·64 + port in the window (R333, R334). -/
  acts : Tab Nat
  /-- Units served per port, at all sites, in a site's window: by site·64 + port (R334). -/
  winServed : Tab Nat
  winStart : Tab Nat
  throttle : Tab Throttle
  /-- A second rank failure could not be spared (R343: HEALTH.STACKS_OK falls). -/
  secondFail : Bool
  /-- Flagged rows that wait for refresh management before their next activate: bank, row (R334). -/
  refreshDue : List (Nat × Nat)
  /-- Units that reads of ports 1, 2 and 4 found uncorrectable after their pass had them (port, unit), while they are poisoned (R341). -/
  lateBad : List (Nat × Nat)
  /-- Rows flagged in the window: bank, row (R333). -/
  flagged : List (Nat × Nat)
  /-- Units whose cells hold an uncorrectable error, or a parity failure (true), that no read has met yet: unit, kind (R341, R342). -/
  latent : List (Nat × Bool)
deriving DecidableEq, Repr

/-- A cached translation (R361): store page (address in units of 2 MiB), level of the leaf, leaf entry, recorded
generation, the level-1 entry of a level-2 leaf (its generation and RO; 0 for a level-1 leaf), use stamp. -/
structure CacheLine where
  set : Nat
  page : Nat
  level : Nat
  entry : Nat
  gen : Nat
  entry1 : Nat
  stamp : Nat
deriving DecidableEq, Repr

/-- A store access in a walk (R361), or one that waits for a register whose target is locked (R416): requester port, write, address, length,
data of a write and whether it is poisoned (R437), whether it was in flight at an invalidate (its result is then not cached), and whether
the store has left OPEN since (R364). -/
structure Walk where
  port : Nat
  write : Bool
  addr : Nat
  len : Nat
  data : List Byte
  bad : Bool
  uncached : Bool
  dead : Bool
deriving DecidableEq, Repr

/-- The store map engine (R353 to R370): cache, walks in flight, fault log; whether the creel has been swept (R363), and whether a
map build of R358 is under way; port and segment address of the records under retry whose fault has been logged (R368); reads of host memory
that no completion has ended (R437): port, segment address, when they were issued. -/
structure StoreState where
  cache : List CacheLine
  stamp : Nat
  walks : List Walk
  faults : List (List Byte)
  creelSwept : Bool
  building : Bool
  logged : List (Nat × Nat)
  hostReads : List (Nat × Nat × Nat)
deriving DecidableEq, Repr

/-- One item of a Draft (R37): section type, KIND, INDEX, its bytes from its header on. -/
structure Item where
  sec : Nat
  kind : Nat
  idx : Nat
  body : List Byte
deriving DecidableEq, Repr

/-- A checked stream: its items and the IDENT values and digests that its application needs (R39, R62). -/
structure Stream where
  items : List Item
  serial : Nat
  baseSerial : Nat
  effSpan : Nat
  digest : List Byte
  tablesDigest : List Byte
deriving DecidableEq, Repr

/-- The Draft controller beside its registers (R64 to R76): the structure in force, the structures that passes of the spans before a patch's
still use, each with the first span that does not (R74), the admitted stream, pending patches in admission order, the protected staging
range, span of a STOP, spans started, DRAFT_START and MESH_BASE_SPAN in force (R297), digest in force. `pre` is the code and DETAIL with
which the stream of the last ADMIT fails before step 1, as the ADMIT found it (R65, R68). `bounds` are the spans that begin new integrations
on a ply because of a patch (R75); `tags` the outputs whose first pass from a span on is tagged "route changed" (R74). -/
structure DraftState where
  struct : List Item
  olds : List (Nat × List Item)
  bounds : List (Nat × Nat)
  tags : List (Nat × Nat)
  admitted : Option Stream
  patches : List Stream
  prot : Option (Nat × Nat)
  pre : Option (Nat × Nat)
  stopSpan : Option Nat
  started : Nat
  t0 : Nat
  base : Nat
  structDigest : List Byte
  everApplied : Bool
deriving DecidableEq, Repr

/-- The event router beside its registers (R429 to R434): MSI-X table words (64 × 4), PBA, vectors pending, Function
Mask and MSI-X Enable of the function's capability; queue and sequence of event frames. -/
structure EvtState where
  msix : Tab Nat
  pba : Tab Bool
  vecPend : Tab Bool
  fmask : Bool
  enable : Bool
  frames : List (List Byte)
  eseq : Nat
  /-- DETAIL of the last raise of the events that have one (R433). -/
  details : Tab (List Byte)
deriving DecidableEq, Repr

/-- A bank-swap extension that waits for the end of its span (R473): kind, digest, instance bits. -/
structure PendExt where
  kind : Nat
  digest : List Byte
  inst : Nat
deriving DecidableEq, Repr

/-- An SPDM request accepted for signing (R476, R477): transport (0 DOE, 1 MCTP, 2 mailbox), where its answer goes (Ethernet source
and MCTP header), its bytes, the snapshot of slots and log. -/
structure SpdmReq where
  transport : Nat
  back : List Byte
  req : List Byte
  slots : List (List Byte)
  log : List (List Byte)
deriving DecidableEq, Repr

/-- Measurement slots, their log (R472 to R474), SPDM and mailbox (R475 to R477), live update (R480): requests in arrival order, connection
states by transport (0 none, 1 after GET_VERSION, 2 after GET_CAPABILITIES, 3 negotiated), the mailbox's request bytes, its response (the
request submitted, while BUSY) and the bytes of it read, MCTP bytes being assembled; when the update's state began, its image (VERSION,
digest), the core that a restart or an update waits for (0 none, 1 restart, 2 starting target, 3 reloading core). -/
structure TrustState where
  slots : List (List Byte)
  extends_ : List Nat
  log : List (List Byte)
  eseq : Nat
  pendExt : List PendExt
  spdm : List SpdmReq
  conns : Tab Nat
  mboxReq : List Byte
  mboxResp : List Byte
  mboxRead : Nat
  mctp : List (List Byte)
  fwAt : Nat
  fwVersion : Nat
  awaits : Nat
deriving DecidableEq, Repr

/-- The Ledger (R482 to R484): the live image's bytes that are not zero, the 63 copies in MRAM, the emergency ring (the newest 1,024
records), those written since the last good commit; the image that a commit writes, the copy it writes to, its failed tries;
invalid headers by lane in the second that runs, lanes LOCKED since it began. -/
structure LedgerState where
  image : Tab Byte
  copies : Tab (Tab Byte)
  ring : List (List Byte)
  since : List (List Byte)
  commit : Option (Tab Byte)
  next : Nat
  tries : Nat
  hdr : Tab Nat
  lockedAll : List Nat
deriving DecidableEq, Repr

/-- A drained short-accumulator sum (R108, R112): the coordinates of its cell (knot, ply-local row and column), the two slots of
the cell's operands (weft or first, then the conjugated one), real and imaginary sum, overflow bit. -/
structure Drained where
  knot : Nat
  row : Nat
  col : Nat
  s : Nat
  t : Nat
  re : Int
  im : Int
  ovf : Bool
deriving DecidableEq, Repr

/-- A pass of a correlating ply (R134): ply, fine channel, span of the channel, last regular span it covers (the same but for zoom bands,
R238), its number n among the ply's passes of the span, state, whether it is speculative was replayed, held, or waited for remote blocks
(R299); operand blocks (slot, samples), working copy by baseline i·4096 + j, drained sums, slots excluded with their class bits, marks made,
its end instant, the slots whose stale class 6 came after its start (R171); `t0` and `heldAt` are when its injection and its hold began
(R109), `fetched` whether its reads were prefetched (R161), `runs` the parts of its injection before its holds: start, cycles (R126, R127);
SEQ of the dump that it gave (R151), and whether, abandoned, it owes one that an earlier channel's must precede (R29). -/
structure Pass where
  ply : Nat
  chan : Nat
  span : Nat
  last : Nat
  ord : Nat
  state : Nat
  spec : Bool
  replayed : Bool
  held : Bool
  waited : Bool
  ops : List (Nat × List Byte)
  work : Tab (Int × Int)
  drained : List Drained
  excl : List (Nat × Nat)
  nmarked : Nat
  commitTime : Nat
  skip6 : List Nat
  t0 : Nat
  heldAt : Nat
  fetched : Bool
  runs : List (Nat × Nat)
  dumpSeq : Option Nat
  owes : Bool
deriving DecidableEq, Repr

/-- A channel's integration (R27, R28): its first span, the pass records so far, its sequence number; `open_` while it
has a committed copy beyond the preload. -/
structure Integ where
  open_ : Bool
  first : Nat
  records : List (List Byte)
  seq : Nat
deriving DecidableEq, Repr

/-- A store dump whose header is to be written with STATE 1 (R153): its destination and output item, slot address, header with
STATE 0; the bytes of the slot ahead of its entries, of one entry, and of the whole slot. -/
structure StoreDump where
  dest : Nat
  item : Nat
  addr : Nat
  header : List Byte
  head : Nat
  per : Nat
  size : Nat
deriving DecidableEq, Repr

/-- A dump for a store destination, whole (R151, R153): destination, number of the output item, place among the items that a standby
holds (R308), slot address, header with STATE 0 and DFLAGS and LOST as formed, bytes reserved ahead of the entries, pass records,
entries, bytes per entry. -/
structure StoreItem where
  dest : Nat
  item : Nat
  made : Nat
  base : Nat
  header : List Byte
  head : Nat
  records : List Byte
  entries : List Byte
  per : Nat
deriving DecidableEq, Repr

/-- The pass engine (R129 to R158). `excl` holds the exclusion causes (class bits) and `autos` the auto-correlations by
(span, channel, slot); remote operand blocks held by the same key (R299);
`stale6` marks the class 6 exclusions of a stale span (R171), by (span, all channels, slot);
`held` are a standby's dumps for
store destinations (R308); slack of the most recent span and the smallest since its last read, by ply; span of the last
committed pass; the places of the plies' long accumulators (ply, offset, bytes), each with the first span that uses them; items that a
standby has formed. -/
structure PassState where
  passes : List Pass
  integs : Tab Integ
  excl : Tab Nat
  autos : Tab Nat
  slack : Tab Nat
  slackMin : Tab Nat
  spanAband : Tab Nat
  blocks : Tab Bool
  stale6 : Tab Bool
  dumps : List StoreDump
  held : List StoreItem
  commitSpan : Nat
  layouts : List (Nat × List (Nat × Nat × Nat))
  heldSeq : Nat
deriving DecidableEq, Repr

/-- What the loom's cells hold that no register shows: the knots whose pair B is the active short-accumulator pair (R101, R108); the
registers of each pair, by (knot·1024 + local position)·2 + 1 for pair B: real, imaginary, overflow bit (R101, R103); the
active and the shadow weight of each cell by knot·1024 + local position, as real + 256 × imaginary (R116); by section its drain queue, each
entry with the ply it is of (R108, R109), and the runs of busy cycles counted, first and end (R127); when each knot's self-test began
(R125). -/
structure LoomState where
  pairB : Tab Bool
  pairs : Tab (Int × Int × Bool)
  active : Tab Nat
  shadow : Tab Nat
  queue : Tab (List (Nat × Drained))
  busy : Tab (List (Nat × Nat))
  testAt : Tab Nat
deriving DecidableEq, Repr


/-- A frame that waits to be sent (R268, R279): SOURCE_ID, TYPE, TIME (`stamp`: the time of sending instead), FIRST, COUNT,
AUX, payload, TWORD, the number of the output item it is part of (R308) and the hanks of its destination when formed (R74); on a mesh or
mirror lane, in place of the hanks, the node byte it is for plus 1 (R294); for a non-posted frame `item` counts the posted
frames queued before it on its lane (R286). ALIVE, NODE, EPOCH and the checks are added when a lane sends it. -/
structure OutFrame where
  src : Nat
  type : Nat
  time : Nat
  stamp : Bool
  first : Nat
  count : Nat
  aux : Nat
  payload : List Byte
  tword : Nat
  item : Nat
  hanks : Nat
deriving DecidableEq, Repr

/-- Placement state of a classification entry (R274): last ALIVE, last TIME, E. -/
structure Place where
  alive : Nat
  time : Nat
  next : Nat
deriving DecidableEq, Repr

/-- A frame in reception on a lane (R271, R276, R278): its header and when it arrived; whether it was accepted; for an accepted
sample frame its entry number, the entry and decoder it matched, its generation, coarse index, the structure it fell under,
sample sets decoded so far and the expected ALIVE; for a credited frame its class (3 for management). -/
structure RxFrame where
  hdr : List Byte
  t : Nat
  accepted : Bool
  idx : Nat
  entry : List Byte
  decoder : List Byte
  gen : Nat
  n : Nat
  sets : Nat
  aliveExp : Nat
  cls : Nat
deriving DecidableEq, Repr

/-- A request without its completion yet (R284): hank, TAG, OP, address, length in bytes, requester port, node, when it was
sent plus 1 (0 while it is queued), whether an invalidate that is under way removed its translation (R362). -/
structure Outstanding where
  hank : Nat
  tag : Nat
  op : Nat
  addr : Nat
  len : Nat
  port : Nat
  node : Nat
  t : Nat
  inv : Bool
deriving DecidableEq, Repr

/-- A run of data blocks as the frame unit sees it (R258): bytes not yet taken, whether it has ended, whether the rest of it is
discarded (R271 step 1), whether a lock loss or slip ended it, which has started a new epoch (R291). -/
structure Run where
  bytes : List Byte
  ended : Bool
  dead : Bool
  broken : Bool
deriving DecidableEq, Repr

/-- A lane beside its registers (R254 to R263). Receiver: commas seen in VERIFY, blocks since the last comma place, commas
missed in a row, invalid headers of the interval, last 58 scrambled bits, elastic buffer (kind, payload), runs, CREDIT blocks
not yet taken, PRBS31 bits seen and the last 31. Transmitter: block number, last 58 scrambled bits, bytes of the run to send,
frames put into the run, whether an IDLE is due, CREDIT blocks to send, FFE taps in force, last 31 PRBS bits, where among the
bytes to send the time beacons begin (R285). When the signal of a receiver in NO_SIGNAL came (R260). -/
structure Lane where
  count : Nat
  pos : Nat
  misses : Nat
  hdrErr : Nat
  descr : Nat
  eb : List (Nat × Nat)
  runs : List Run
  credits : List (List Byte)
  prbsN : Nat
  prbs : Nat
  txB : Nat
  scr : Nat
  txBytes : List Byte
  txFrames : Nat
  txIdle : Bool
  txCredit : List (List Byte)
  ffe : Nat × Nat
  txPrbs : Nat
  stamps : List Nat
  sigAt : Nat
deriving DecidableEq, Repr

/-- A frame received whole, its FCRC good: class, header, payload, trailer word. -/
structure RxDone where
  cls : Nat
  hdr : List Byte
  payload : List Byte
  tword : Nat
deriving DecidableEq, Repr

/-- A sample frame in an input buffer (R277, R278): slot, last coarse sample, bytes, entry number and generation. -/
structure InFrame where
  slot : Nat
  last : Nat
  size : Nat
  idx : Nat
  gen : Nat
deriving DecidableEq, Repr

/-- A non-posted request without a TAG yet (R284): lane, TYPE, OP, address in its frame, address and length of the access, port,
node, and `inv` as in an outstanding request. -/
structure WaitReq where
  lane : Nat
  type : Nat
  op : Nat
  aux : Nat
  addr : Nat
  len : Nat
  port : Nat
  node : Nat
  inv : Bool
deriving DecidableEq, Repr

/-- The frame unit (R268 to R292). Destination queues with their output items formed, items completely sent, ALIVE and next lane; lane
queues by lane·4 + class (0 management, 1 completion, 2 posted, 3 non-posted); ALIVE per lane, writes since its last flush; credits by
lane·4 + class: consumed, limit; epoch, whether a CREDIT has come; receiver limits, units held, epoch, last ALIVE, units freed since the
last CREDIT; generations and placement states of the entries; frames in reception and frames received by lane; superseded generations still
inside; input buffers by hank; gap log; requests; lanes; entries that give their slot another source and have not had a frame yet (R239);
since when plus 1 a lane waits for credits; requests without a TAG, oldest first. -/
structure FrameState where
  destQ : Tab (List OutFrame)
  destItem : Tab Nat
  destDone : Tab Nat
  destAlive : Tab Nat
  destLane : Tab Nat
  laneQ : Tab (List OutFrame)
  laneAlive : Tab Nat
  laneWrote : Tab Bool
  txUsed : Tab Nat
  txLimit : Tab Nat
  txEpoch : Tab Nat
  txHas : Tab Bool
  rxLimit : Tab Nat
  rxHeld : Tab Nat
  rxEpoch : Tab Nat
  rxAlive : Tab (Option Nat)
  freed : Tab Nat
  gens : Tab Nat
  places : Tab (Option Place)
  rx : Tab (Option RxFrame)
  rxQ : Tab (List RxDone)
  inbuf : Tab (List InFrame)
  gaps : List (List Byte)
  outst : List Outstanding
  lanes : Tab Lane
  newSrc : List Nat
  waitAt : Tab Nat
  reqQ : List WaitReq
deriving DecidableEq, Repr

/-- An announce received on a lane (R285, R294): node byte, STATE, DRAFT_SERIAL, DEVICE_ID, when. -/
structure Announce where
  node : Nat
  state : Nat
  serial : Nat
  device : Nat
  t : Nat
deriving DecidableEq, Repr

/-- The mesh beside its registers (R293 to R303): last announce by lane; by node byte the last DEVICE_ID and when; node bytes
in conflict; time of an armed layout; when each lane last sent an announce; byte ranges of remote blocks received, by (span, channel,
slot); summaries received, by (span, channel)·64 + node; home node of a remote slot plus 1, as learned; spans whose operand
blocks and summaries have been sent. -/
structure MeshState where
  ann : Tab Announce
  devs : Tab (Nat × Nat)
  conflict : List Nat
  armed : Option Nat
  annSent : Tab Nat
  got : Tab (List (Nat × Nat))
  summaries : Tab Bool
  home : Tab Nat
  sent : Tab Bool
deriving DecidableEq, Repr


/-- A beam pass (R180, R182): ply, fine channel, span of the channel, last regular span, number among the ply's passes of
the span, state (0 QUEUED to 4 ABANDONED), speculative, waited for its matrix, slots excluded when it started, operand
blocks, beams complete with their sums, the blocks emitted, slots whose stale class 6 came after its start; when its injection and its
hold began, whether it is held, the window of each beam before the pass added to it (R187), whether a beam has begun to emit; whether its
reads were prefetched (R161), the parts of its injection before its holds (R126, R127). -/
structure BeamPass where
  ply : Nat
  chan : Nat
  span : Nat
  last : Nat
  ord : Nat
  state : Nat
  spec : Bool
  waited : Bool
  ops : List (Nat × List Byte)
  sums : List (Nat × List (Int × Int))
  data : List Byte
  skip6 : List Nat
  t0 : Nat
  heldAt : Nat
  held : Bool
  wins : List (Nat × Nat × Nat)
  out : Bool
  fetched : Bool
  runs : List (Nat × Nat)
deriving DecidableEq, Repr

/-- A retraction record that is owed (R172, R173), without its RSEQ and SEND_TIME: destination, and the destination's item when it
carried the samples. -/
structure Owed where
  dest : Nat
  db : List Byte
  start : Nat
  nsamp : Nat
  beam : Nat
  first : Nat
  nch : Nat
  classes : Nat
  slots : List Nat
  span : Nat
  rflags : Nat
deriving DecidableEq, Repr

/-- A page whose header waits until its content is visible (R189): destination, its output item (R308), store address, PSEQ, header without
WRITE_TIME and HCRC, the beam pass it is of (ply, channel, span). -/
structure BeamPage where
  dest : Nat
  item : Nat
  addr : Nat
  pseq : Nat
  hdr : List Byte
  own : Option (Nat × Nat × Nat)
deriving DecidableEq, Repr

/-- A standby's page for a store destination (R308): destination and its item, output item, place among the items held, PTYPE,
COUNT, content, the beam pass it is of. -/
structure HeldPage where
  dest : Nat
  db : List Byte
  item : Nat
  made : Nat
  ptype : Nat
  count : Nat
  content : List Byte
  own : Option (Nat × Nat × Nat)
deriving DecidableEq, Repr

/-- A steering matrix (R184): ply, first span it serves, and for each tile-step, row that carries a beam and warp line with a steering
entry its AMP and DELAY. -/
structure SteerMatrix where
  ply : Nat
  span : Nat
  ents : List (Nat × Nat × Nat × Nat × Int)
deriving DecidableEq, Repr

/-- The beam unit (R180 to R191): passes, open detected windows (beam·16384 + channel: window number, and its sum plus 1), the fine
samples that a beam's windows count from after patches, records owed, pages, PSEQ and RSEQ per destination, last header written
(PSEQ + 1), steering matrices being built and those built (R184); a standby's pages; destinations whose last retraction page
was refused, 65,536 for a refused header (R368); the beam samples emitted before their span was final, by (span, channel, beam); the beam
passes abandoned (ply, channel, last span; R190). -/
structure BeamState where
  passes : List BeamPass
  windows : Tab (Nat × Nat)
  winBase : Tab (List Nat)
  owed : List Owed
  pages : List BeamPage
  pseq : Tab Nat
  shown : Tab Nat
  rseq : Tab Nat
  builds : List SteerMatrix
  matrices : List SteerMatrix
  held : List HeldPage
  retry : List Nat
  early : Tab Bool
  gone : List (Nat × Nat × Nat)
deriving DecidableEq, Repr


/-- A stored delay model (R163, R165): slot, t_eff and the application interval, T_REF, T_END, C0 to C3; the interval in use when it was
accepted, 64 ones for none (R178). -/
structure FoxModel where
  slot : Nat
  eff : Nat
  app : Nat
  tref : Nat
  tend : Nat
  c0 : Int
  c1 : Int
  c2 : Int
  c3 : Int
  acc : Nat
deriving DecidableEq, Repr

/-- The tables of an interval (R167, R168): slots computed, D by slot, (PHASE, STEP) by slot·16384 + channel, slots served by
no usable model, slots to be computed again under R170. -/
structure FoxTable where
  n : Nat
  done : List Nat
  dly : Tab Nat
  ents : Tab (Nat × Nat)
  bad : List Nat
  redo : List Nat
deriving DecidableEq, Repr

/-- Fox (R163 to R171): models in order of acceptance, address of the batch being checked, tables held, j, whether an
interval is in use, queued stale records; tables as they were before a patch within their interval, each with the first fine sample that it
does not serve (R74, R167). -/
structure FoxState where
  models : List FoxModel
  batch : Nat
  tables : List FoxTable
  j : Nat
  begun : Bool
  stale : List (List Byte)
  olds : List (Nat × FoxTable)
deriving DecidableEq, Repr


/-- Pairing and Owl beside their registers (R304 to R321): health bits kept here, when the partner and the arbiter were last
heard; mirror records to send, and those of received frames not yet applied; digests of both sides not yet compared ([ply,
channel, span, crc]); first span of a resync; Fox chunks received; the arbiter's holder, its lease, the last heartbeat (TIME,
READY) by node byte, a decided new holder; the next knot to test, when the last test began, when self-tests ended within the
last second, whether one has failed; heartbeats sent and the time of the last plus 1, of the last EMITTED records plus 1;
the lease holder as seen and the end of its lease; the heartbeat that waits for the management port
(R444). -/
structure PairState where
  inStep : Bool
  mirrorOk : Bool
  partnerSeen : Bool
  arbSeen : Bool
  partnerAt : Nat
  arbAt : Nat
  mirrorQ : List (List Byte)
  rxRecs : List (List Byte)
  mine : List (List Nat)
  theirs : List (List Nat)
  resyncR : Option Nat
  chunks : List (List Byte)
  holder : Option Nat
  lease : Nat
  beats : Tab (Nat × Bool)
  decided : Option Nat
  nextKnot : Nat
  testAt : Nat
  tests : List Nat
  testFailed : Bool
  hseq : Nat
  hbAt : Nat
  emitAt : Nat
  leaseNode : Nat
  leaseSeen : Nat
  hbQueue : Option (List Byte)
  /-- One more than the instant at which the side's lease last ended (R321). -/
  fencedAt : Nat
  /-- Ranges of the store that mirrored writes set: address, bytes (R311). -/
  stores : List (Nat × Nat)
  /-- The partner has asked for a resync that has not completed (R311). -/
  peerOut : Bool
deriving DecidableEq, Repr


/-- m·2^e, exactly: a part of a float accumulator (R198). -/
structure Dy where
  m : Int
  e : Int
deriving DecidableEq, Repr

/-- One lane of an accumulator (R198): its parts (exponent 0 in integer mode), TERMS, SAT, the largest ⌊log2⌋ of a partial sum of
each part (R150), x0 of VSTATF (R221), whether a part is a NaN (R216). -/
structure AccLane where
  re : Dy
  im : Dy
  terms : Nat
  sat : Bool
  reTop : Option Int
  imTop : Option Int
  x0 : Option (Nat × Nat)
  reNan : Bool
  imNan : Bool
deriving DecidableEq, Repr

/-- A tally record (R200). -/
structure Tally where
  s1re : Int
  s1im : Int
  s2 : Nat
  auto : Nat
  n : Nat
deriving DecidableEq, Repr

/-- A program bank (R223): words, entry, where and which DATA an image of the Draft brings, its FLAGS. -/
structure ProgBank where
  words : Tab Nat
  entry : Nat
  dataAt : Nat
  data : List Byte
  flags : Nat
deriving DecidableEq, Repr

/-- A spindle (R196 to R207, R215, R222 to R226). Registers; search values and indices by lane; local memory by 32-bit word;
tally, gains and spill window; banks; stall code and since when; repeat iterations left and done; IN vectors (block, vector),
the block and index of the next to arrive, blocks dropped and from which vector; current block, its pops and pushes, first
pop; last span flushed and when the flush began; whether it executes, and from when a forced image may start; the span of the
patch swap whose image the inactive bank holds; the block at which a mirrored forced swap aborts (R305); every pending patch
image by the span of its swap, the first in the inactive bank (R74); vectors pushed to port 1 since START, at most 64 (R203); the first block
whose output counts, the blocks before it filling the filter memory (R74). -/
structure Spindle where
  sreg : Tab Nat
  areg : Tab Nat
  qreg : Tab Nat
  mreg : Tab Nat
  vreg : Tab Nat
  acc : Tab AccLane
  srch : Tab (Int × Nat)
  pc : Nat
  lmem : Tab Nat
  tally : Tab Tally
  gains : Tab Nat
  spill : Tab Nat
  spr : Nat
  spw : Nat
  bank0 : ProgBank
  bank1 : ProgBank
  stall : Nat
  stallAt : Nat
  left : Nat
  iter : Nat
  inq : List (Nat × Nat)
  inBlk : Nat
  inIdx : Nat
  drops : List (Nat × Nat)
  blk : Nat
  pops : Nat
  pushes : List Nat
  firstPop : Option Nat
  flushed : Option Nat
  forced : Option Nat
  flushAt : Nat
  run : Bool
  restart : Option Nat
  swapSpan : Option Nat
  abortAt : Option Nat
  images : List (Nat × ProgBank)
  outs : Nat
  first : Nat
deriving DecidableEq, Repr

/-- The spindle array: spindles; decoded coarse samples that wait, by (sample·4096 + slot)·65536 + channel (1 + real + 65536 ×
imaginary); corner-turn units being gathered, by (buffer·16384 + channel)·4096 + slot (R328); PASS_LIMIT fields in force
when the span they are for ended (R147). -/
structure SpinState where
  sp : Tab Spindle
  samples : Tab Nat
  gather : Tab (List Byte)
  limitSpan : Nat
  limits : Tab Nat
deriving DecidableEq, Repr


/-- One position of a zoom engine (R232 to R240): delay line, integrators, the last D inputs of each comb, FIR line (the newest
first in each); first output after the suppressed ones, first after the zeroed ones. -/
structure ZoomPos where
  line : List (Int × Int)
  integ : List (Int × Int)
  comb : List (List (Int × Int))
  fir : List (Int × Int)
  supEnd : Nat
  missEnd : Nat
deriving DecidableEq, Repr

/-- A coefficient bank that a patch replaces from a span on (R243). -/
structure NewBank where
  engine : Nat
  bank : Nat
  span : Nat
  coefs : List Int
deriving DecidableEq, Repr

/-- The zoom engines (R230 to R244): positions by slot; next coarse index by engine; coefficients by
(engine·2 + bank)·64 + k; swap time of an armed swap plus 1, 0 for one armed late; banks that wait for their span; restarts
that wait (slot, coarse index); outputs that wait for the IN ports, by output·4096 + slot. -/
structure ZoomState where
  pos : Tab ZoomPos
  next : Tab Nat
  coef : Tab Nat
  armed : Tab Nat
  newBanks : List NewBank
  restarts : List (Nat × Nat)
  out : Tab Nat
deriving DecidableEq, Repr


/-- Beacons of a lane in the second that runs (R383): HOPS, ERR_NS of the last usable one, sum of the offsets in 2^-32 s, how many. -/
structure Beacon where
  hops : Nat
  err : Nat
  sum : Int
  n : Nat
deriving DecidableEq, Repr

/-- A TRIGOUT unit's schedule (R386): next instant, MODE 1, PERIOD, endless, end of the pulse in progress. -/
structure TrigOut where
  next : Nat
  periodic : Bool
  period : Nat
  endless : Bool
  busyTo : Nat
deriving DecidableEq, Repr

/-- The timebase beside its registers (R372 to R387): 16 fraction bits of array time below 2^-32 s; remaining Δ of a pull in
2^-48 s as of `pullAt` and its rate in ns/s; the rate that the last gate of each input measured against TB_XO, in 2^-48 s/s; the rates that
carried array time since the last entry to LOCKED, with their instants; the holdover rate, and when HOLDOVER began; inputs disqualified since
the last cold reset or wake, and the last second of a running wait-to-restore plus 1; PPS inputs: last edge plus 1, good intervals in a
row, Δ at the last qualified edge; last delivery of the network source plus 1 (0: not live); a set that waits for a PPS edge; beacons by lane, time of the last choice, ERR_NS followed, last beacon sent by lane
plus 1; TRIGOUT schedules; TRIGIN queue (pin, stamp) and last edges plus 1; the den's time base, ticks since, copies of OFS and
last PPSA edge plus 1. -/
structure TimeState where
  frac : Nat
  pull : Int
  pullAt : Nat
  pullNs : Nat
  gated : Tab Int
  rates : List (Nat × Int)
  holdover : Option Int
  hoAt : Nat
  lost : Tab Bool
  wtrAt : Tab Nat
  ppsAt : Tab Nat
  ppsGood : Tab Nat
  ppsDelta : Tab Int
  netAt : Nat
  setAt : Option Nat
  beacons : Tab Beacon
  choiceAt : Nat
  followErr : Nat
  beaconAt : Tab Nat
  trig : Tab TrigOut
  stamps : List (Nat × Nat)
  edgeAt : Tab Nat
  denBase : Nat
  denTicks : Nat
  denOfs : Nat × Nat
  denA : Nat
deriving DecidableEq, Repr

/-- The configuration of a trigger unit from a fine sample on (R390, R391): KIND (0 when invalid), INDEX, FIRST, NCH, SHIFT, IMAG,
PIN, STREAMS, the bytes of its machine (R58; none: the unit does not run), applied as invalid. -/
structure TapCfg where
  start : Nat
  kind : Nat
  idx : Nat
  first : Nat
  nch : Nat
  shift : Nat
  imag : Bool
  pin : Nat
  streams : Nat
  mach : List Byte
  bad : Bool
deriving DecidableEq, Repr

/-- A trigger unit (R392 to R394): its next tap sample; the configuration in force and those that follow; state; sample of the last
timer restart; for each parameter set the start of a pulse, and of a run above LOW with whether it reached HIGH; the
last tap values, the newest first. -/
structure TrigUnit where
  n : Nat
  cfgs : List TapCfg
  st : Nat
  timer : Nat
  dets : List (Option Nat × Option (Nat × Bool))
  hist : List Int
deriving DecidableEq, Repr

/-- A mark (R174, R394): unit, MSEQ, its sample and the first of its evidence, MARK_TIME, the tap (KIND, INDEX, FIRST, NCH), the
streams it went to, withdrawn. -/
structure Mark where
  unit : Nat
  mseq : Nat
  n : Nat
  lo : Nat
  time : Nat
  kind : Nat
  idx : Nat
  first : Nat
  nch : Nat
  streams : List Nat
  withdrawn : Bool
deriving DecidableEq, Repr

/-- The configuration of a capture stream from a fine sample on (R398, R405): SOURCE, UNIT, GROUP, FIRST, NCH, SPS, destination of frames. -/
structure CapCfg where
  start : Nat
  source : Nat
  unit : Nat
  group : Nat
  first : Nat
  nch : Nat
  sps : Nat
  dest : Option Nat
deriving DecidableEq, Repr

/-- A record in staging (R399): its bytes; for DATA its first sample and how many. -/
structure CapRec where
  bytes : List Byte
  first : Nat
  count : Nat
deriving DecidableEq, Repr

/-- A capture stream (R397 to R405): next fine sample of SOURCE 2; configurations; the open DATA record (first sample, samples, SPS, bytes);
closed DATA records; control queue; pending gap (CAUSES, samples, first sample); stream offset written; a control record was
refused and waits for its retry; next span to settle; records in the frame queue (offset, when they entered, the destination they entered it
for, bytes). -/
structure CapStream where
  n : Nat
  cfgs : List CapCfg
  data : Option (Nat × Nat × Nat × List Byte)
  closed : List CapRec
  ctl : List CapRec
  gap : Option (Nat × Nat × Nat)
  off : Nat
  blocked : Bool
  settled : Nat
  fq : List (Nat × Nat × Nat × List Byte)
deriving DecidableEq, Repr

/-- Triggers and capture (R390 to R407): whether units and streams run, units, streams, marks whose evidence is not all settled; fine samples
for taps and streams as the corner-turn writer got them, by (sample·16384 + channel)·4096 + slot (R390); beam samples for taps by
the same key with the beam; stamped TRIGIN edges for external taps; the values of the configuration registers as last applied, of unit u
under u and of stream k under 16 + k. -/
structure CapState where
  run : Bool
  units : Tab TrigUnit
  streams : Tab CapStream
  marks : List Mark
  fine : Tab Nat
  beam : Tab (Option (Int × Int))
  edges : List (Nat × Nat)
  applied : Tab (List Nat)
deriving DecidableEq, Repr

/-- A register access that waits at the crossbar (R410, R414, R416): master, offset, value of a write, the members
of its group as they were when it was accepted. -/
structure XReq where
  master : Nat
  off : Nat
  value : Option Nat
  members : List Nat
deriving DecidableEq, Repr

/-- The crossbar beside its registers (R13, R416): latches by master·2^40 + key of the pair; TARGET by master; target wanted plus 1;
target held plus 1 and since when; accesses that wait, oldest first; by target one more than the master served last, on which the target
parks and behind which its pointer stands (R415); a START whose register writes wait for a lock (R413, R416). -/
structure XbarState where
  latch : Tab Nat
  target : Tab Nat
  wait : Tab Nat
  held : Tab (Nat × Nat)
  queue : List XReq
  last : Tab Nat
  armWaits : Bool
deriving DecidableEq, Repr

/-- A DMA channel beside its registers (R418 to R423): the descriptor in progress (empty while its fetch is due), bytes moved, a
poisoned unit moved by the descriptor, and, while its writes are being made visible (R421), the check value and the bytes moved. -/
structure DmaChan where
  desc : List Byte
  moved : Nat
  poison : Bool
  held : Option (Nat × Nat)
deriving DecidableEq, Repr

/-- A frame on the management MAC (R439): its bytes without FCS, when its attempt began, collisions so far, when back-off ends plus 1,
whether it carries a heartbeat or an IEEE 1588 message, whether its stamp was queued. -/
structure MgmtTx where
  frame : List Byte
  start : Nat
  tries : Nat
  backoff : Nat
  ptp : Bool
  stamped : Bool
deriving DecidableEq, Repr

/-- The management port (R439 to R445): frame in transmission, responses queued (whole frames), register requests waiting (source,
payload) with the MCTP control requests behind them, heartbeats received, stamps received and sent (time, messageType, sequenceId), the end of
the last carrier on the medium plus 1. -/
structure MgmtState where
  tx : Option MgmtTx
  resps : List (List Byte)
  reqs : List (List Byte × List Byte)
  beats : List (List Byte)
  rxTs : List (Nat × Nat × Nat)
  txTs : List (Nat × Nat × Nat)
  carrier : Nat
deriving DecidableEq, Repr

/-- SCP (R446, R447): what the transaction awaits (0 none or a command, 1 WRITE data, 2 nothing more, 3 the COUNT word, 4 FETCH data, 5 the
rest of FETCH's status), read buffer, words of a READ that are not in it yet, whether a word of the last READ ended with an error; flash
(R448): GO waits for the boot sequencer, when the command began, its FLASH_CTL. -/
structure ScpState where
  mode : Nat
  buf : List Nat
  due : Nat
  err : Bool
  flashWait : Bool
  flashAt : Nat
  flashCtl : Nat
deriving DecidableEq, Repr

/-- A monitor port beside its registers (R449 to R452): CTL word in force, slot words in force, slots muted for this block, frame
number in the block, blocks' first edge, enabled and started; FIFO of frames, frames formed for it, when it began, the last
frame sent. -/
structure MonPort where
  ctl : Nat
  slots : List Nat
  mute : List Nat
  frame : Nat
  edge : Nat
  run : Bool
  fifo : List (List Nat)
  formed : Nat
  since : Nat
  last : List Nat
deriving DecidableEq, Repr

/-- Power (R455 to R471, R489): state 0 to 3; an entry to D2 that waits for the Ledger, and since when; FAULT_N asserted; HP_EN, and when
outputs are released after its rise; den sensor; scheduled wake armed; HANK_CTL fields saved (key, value); the management
address in force at D2 entry; start of the weave-up; image being fetched (0 primary, 1 secondary, 2 none); a wake from D2, not a power-on;
events 0x184 and 0x185 owed at the first D0; when D2 began; D3hot of the PCIe function. -/
structure PowerState where
  d : Nat
  waits : Bool
  waitAt : Nat
  fault : Bool
  hpEn : Bool
  hpAt : Nat
  denTemp : Int
  armed : Bool
  hanks : Tab Nat
  mac : Nat
  bootAt : Nat
  image : Nat
  wake : Bool
  owed : Nat
  denAt : Nat
  d3hot : Bool
deriving DecidableEq, Repr

/-- What the part has sent out, in order (the model's own record of its outputs, so that a statement can say what
leaves the part). -/
inductive Sent where
  /-- The MSI-X message of a vector (R432). -/
  | msix (v : Nat)
  /-- A unit of stack data returned to a requester port, poisoned or not (R330, R341). -/
  | memData (port key : Nat) (data : List Byte) (poisoned : Bool)
  /-- The completion of a store segment: port, address, status, data, poisoned (R284, R364). -/
  | storeDone (port addr status : Nat) (data : List Byte) (poisoned : Bool)
  /-- The answer to a register read: master, offset, value (R13). -/
  | regRead (master off value : Nat)
  /-- A write to host memory through PCIe (R356): address, data, whether its TLP is poisoned (R422, R437). -/
  | extWrite (addr : Nat) (data : List Byte) (poisoned : Bool)
  /-- A read of host memory through PCIe (R356): address, length. -/
  | extRead (addr len : Nat)
  /-- The zero-length PCIe read behind the writes of a descriptor with BARRIER (R421). -/
  | extFlush
  /-- A block on a lane: its 130 bits, bit 0 first (R253), and the levels of its symbols in order (R250). -/
  | block (lane bits : Nat) (levels : List Int)
  /-- A pulse on a TRIGOUT pin: unit, start and end, active low (R386). -/
  | pulse (unit start stop : Nat) (low : Bool)
  /-- A frame on the management port, without preamble and FCS (R441, R444). -/
  | mgmt (data : List Byte)
  /-- A received frame that goes to Badger (R442): its EtherType, source, payload. -/
  | badger (etherType : Nat) (src payload : List Byte)
  /-- Words on SCP_MISO (R446). -/
  | scp (words : List Nat)
  /-- A command on the flash pins (R448): opcode, address bytes, address, dummy clocks, length, quad, data written. -/
  | flash (opcode abytes addr dummy len quad : Nat) (data : List Byte)
  /-- A frame of a monitor port: its eight slots (R449). -/
  | mon (port : Nat) (slots : List Nat)
  /-- An SPDM response (R477): transport, where it goes, its bytes. -/
  | spdm (transport : Nat) (back data : List Byte)
  /-- A register access of a master ended by the limit of 2 ms, or a read of a unit off line (R417, R463). -/
  | regError (master off : Nat)
deriving DecidableEq, Repr

/-- The machine. -/
structure State where
  /-- Ordering code of the part (R2); nothing writes it. -/
  part : Part
  /-- Array time in units of 2^-32 s (R6). -/
  now : Nat
  /-- Every register field that differs from its reset value, by bit address (R12). -/
  regs : Tab Nat
  /-- The stacks' bytes that are not zero, by byte key (R325, R345). -/
  mem : List Host.Cell
  /-- The poisoned access units, by unit key (R323). -/
  poison : Tab Bool
  /-- The placement in force (R326). -/
  place : Placement
  stk : StackState
  store : StoreState
  draft : DraftState
  evt : EvtState
  trust : TrustState
  ledger : LedgerState
  pass : PassState
  loom : LoomState
  frames : FrameState
  beam : BeamState
  fox : FoxState
  pair : PairState
  spin : SpinState
  zoom : ZoomState
  mesh : MeshState
  time : TimeState
  cap : CapState
  xbar : XbarState
  dma : (Tab DmaChan)
  mgmt : MgmtState
  scp : ScpState
  mon : (Tab MonPort)
  power : PowerState
  /-- Check (POLY) that each check-value unit computes, from its last INIT (R426). -/
  checkPoly : Tab Nat
  /-- Coarse samples of accepted TEST or CAL frames (slot, first, last), while a port may need them (R452). -/
  monTest : List (Nat × Nat × Nat)
  /-- Retracted beam samples by (span·16384 + channel)·4096 + beam, as the monitor ports know them (R452). -/
  monBad : Tab Bool
  /-- What has left the part. -/
  sent : List Sent
  /-- Free values used so far (the model's own: `Config.freeValue` is applied to it). -/
  free : Nat
  /-- The commands that wait, first in, first out. -/
  pending : List Instr
deriving DecidableEq, Repr

def Site.init : Site := ⟨[], none, 0, 0, 0, false, 0, [], 0, 0, 0, 0, 0, 0⟩
def OpenRow.init : OpenRow := ⟨false, 0, 0, 0⟩
def Throttle.init : Throttle := ⟨false, 0, 0, 0, 0⟩
def PassState.init : PassState := ⟨[], [], [], [], [], [], [], [], [], [], [], 0, [], 0⟩
def LoomState.init : LoomState := ⟨[], [], [], [], [], [], []⟩
def BeamState.init : BeamState := ⟨[], [], [], [], [], [], [], [], [], [], [], [], [], []⟩
def Integ.init : Integ := ⟨false, 0, [], 0⟩
def Dy.zero : Dy := ⟨0, 0⟩
def AccLane.zero : AccLane := ⟨Dy.zero, Dy.zero, 0, false, none, none, none, false, false⟩
def Tally.zero : Tally := ⟨0, 0, 0, 0, 0⟩
def ProgBank.empty : ProgBank := ⟨[], 0, 0, [], 0⟩
def Spindle.init : Spindle :=
  ⟨[], [], [], [], [], [], [], 0, [], [], [], [], 0, 0, .empty, .empty, 0, 0, 0, 0, [], 0, 0, [], 0, 0, [], none, none, none,
    0, false, none, none, none, [], 0, 0⟩
def ZoomPos.init : ZoomPos := ⟨[], [], [], [], 0, 0⟩
def Announce.init : Announce := ⟨255, 0, 0, 0, 0⟩
def Lane.init : Lane := ⟨0, 0, 0, 0, 0, [], [], [], 0, 0, 0, 0, [], 0, false, [], (4, 8), 0, [], 0⟩
def PairState.init : PairState :=
  ⟨true, true, false, false, 0, 0, [], [], [], [], none, [], none, 0, [], none, 0, 0, [], false, 0, 0, 0, 255, 0, none, 0, [], false⟩
def Beacon.init : Beacon := ⟨15, 0, 0, 0⟩
def TrigOut.init : TrigOut := ⟨0, false, 0, false, 0⟩
def TimeState.init : TimeState :=
  ⟨0, 0, 0, 0, [], [], none, 0, [], [], [], [], [], 0, none, [], 0, 0, [], [], [], [], 0, 0, (0, 0), 0⟩
def TrigUnit.init : TrigUnit := ⟨0, [], 0, 0, [], []⟩
def CapStream.init : CapStream := ⟨0, [], none, [], [], none, 0, false, 0, []⟩
def CapState.init : CapState := ⟨false, [], [], [], [], [], [], []⟩
def DmaChan.init : DmaChan := ⟨[], 0, false, none⟩
def MonPort.init : MonPort := ⟨0, List.replicate 8 0, [], 0, 0, false, [], 0, 0, List.replicate 8 0⟩
def PowerState.init : PowerState := ⟨3, false, 0, false, false, 0, 25, false, [], 0, 0, 2, false, 0, 0, false⟩
def TrustState.init : TrustState :=
  ⟨List.replicate 6 (List.replicate 48 0#8), List.replicate 6 0, [], 0, [], [], [], [], [], 0, [], 0, 0, 0⟩

/-- 48 GiB, the capacity of a stack site (R77). -/
def siteBytes : Nat := 51539607552

/-- Number of populated stack sites (R2, R4). -/
def nStacks : Part → Nat
  | .x6 => 6
  | .x4 => 4

/-- The default placement over the sites of a mask that each offer `cap` bytes (R326): one region, GRAIN 12, sparing off, whole capacity. -/
def defaultPlacementOf (mask cap : Nat) : Placement :=
  ⟨12, false, [⟨0, 0, popcount 6 mask * cap, 7, mask⟩]⟩

/-- The same over sites with every rank in service. -/
def defaultPlacement (mask : Nat) : Placement := defaultPlacementOf mask siteBytes

/-- The machine right after reset: power applied, POR_N not yet released, every register field at its reset value,
stacks off, store closed, no Draft (R68, R335, R360, R363, R489). The part is a YV4096-X6 (DESIGN CHOICE, notes 2). -/
def State.reset : State where
  part := .x6
  now := 0
  regs := []
  mem := []
  poison := []
  place := defaultPlacement 63
  stk := ⟨[], [], [], [], [], [], [], [], [], [], false, [], [], [], []⟩
  store := ⟨[], 0, [], [], false, false, [], []⟩
  draft := ⟨[], [], [], [], none, [], none, none, none, 0, 0, 0, [], false⟩
  evt := ⟨[], [], [], false, false, [], 0, []⟩
  trust := TrustState.init
  ledger := ⟨[], [], [], [], none, 0, 0, [], []⟩
  pass := PassState.init
  loom := LoomState.init
  frames := ⟨[], [], [], [], [], [], [], [], [], [], [], [], [], [], [], [], [], [], [], [], [], [], [], [], [], [], [], []⟩
  beam := BeamState.init
  fox := ⟨[], 0, [], 0, false, [], []⟩
  pair := PairState.init
  spin := ⟨[], [], [], 0, []⟩
  zoom := ⟨[], [], [], [], [], [], []⟩
  mesh := ⟨[], [], [], none, [], [], [], [], []⟩
  time := TimeState.init
  cap := CapState.init
  xbar := ⟨[], [], [], [], [], [], false⟩
  dma := []
  mgmt := ⟨none, [], [], [], [], [], 0⟩
  scp := ⟨0, [], 0, false, false, 0, 0⟩
  mon := []
  power := PowerState.init
  checkPoly := []
  monTest := []
  monBad := []
  sent := []
  free := 0
  pending := []

end Sys2Proof.Machine
end

