-- ==== Sys2Proof/Machine/DraftItems.lean ====
section
/-!
DEFINITION. The items of a Draft as the spec lays them out (R37 to R62): where each field of each item is, and the
quantities of a structure that many families use (R42, R47, R77's derived quantities).
-/

namespace Sys2Proof.Machine

/-! ## Section types (R36) -/

def secIdent : Nat := 1
def secThreading : Nat := 2
def secTieup : Nat := 3
def secTreadling : Nat := 4
def secRoutes : Nat := 5
def secMemplan : Nat := 6
def secTables : Nat := 7
def secPrograms : Nat := 8
def secZoom : Nat := 9
def secBeams : Nat := 10
def secCheck : Nat := 15

/-- The items of a section and kind, in order. -/
def itemsOf (l : List Item) (sec kind : Nat) : List Item := l.filter (fun x => x.sec == sec && x.kind == kind)

/-- The item of a section, kind and INDEX. -/
def itemAt (l : List Item) (sec kind idx : Nat) : Option Item :=
  l.find? (fun x => x.sec == sec && x.kind == kind && x.idx == idx)

/-- Its bytes, empty where there is none. -/
def bodyAt (l : List Item) (sec kind idx : Nat) : List Byte := ((itemAt l sec kind idx).map (·.body)).getD []

/-- Item bytes past the 8-byte item header. -/
def Item.rest (x : Item) : List Byte := x.body.drop 8

/-! ## THREADING -/

/-- The classification entries (R41): 8,192 of 16 bytes. -/
def classEntries (l : List Item) : List (List Byte) := chunks 16 ((bodyAt l secThreading 1 0).drop 8)

/-- Classification entry `n`. -/
def classEntry (l : List Item) (n : Nat) : List Byte := ((bodyAt l secThreading 1 0).drop (8 + 16 * n)).take 16

def ceSlot (e : List Byte) : Nat := fld e 0 2 % 4096
def ceValid (e : List Byte) : Bool := bit (fld e 0 2) 15
def ceTag (e : List Byte) : Nat := byteAt e 2 % 8
def ceDecoder (e : List Byte) : Nat := byteAt e 3 % 16
def ceFirst (e : List Byte) : Nat := fld e 4 2
def ceNch (e : List Byte) : Nat := fld e 6 2
def cePnum (e : List Byte) : Nat := fld e 8 4
def cePden (e : List Byte) : Nat := fld e 12 4

/-- The slot-map entries (R42): 4,096 of 8 bytes. -/
def slotEntries (l : List Item) : List (List Byte) := chunks 8 ((bodyAt l secThreading 2 0).drop 8)

/-- Slot-map entry `i`. -/
def slotEntry (l : List Item) (i : Nat) : List Byte := ((bodyAt l secThreading 2 0).drop (8 + 8 * i)).take 8

def seSpindle (e : List Byte) : Nat := fld e 0 2 % 512
def sePos (e : List Byte) : Nat := bits (fld e 0 2) 9 3
def seEnable (e : List Byte) : Bool := bit (fld e 0 2) 15
def seImage (e : List Byte) : Nat := byteAt e 2
def seCurve (e : List Byte) : Nat := byteAt e 3 % 64
def seNcoarse (e : List Byte) : Nat := fld e 4 2
def seSplit (e : List Byte) : Nat := byteAt e 6 % 16
def seTransient (e : List Byte) : Bool := byteAt e 7 % 2 == 1

/-- The enabled slots, ascending. -/
def enabledSlots (l : List Item) : List Nat :=
  ((List.range 4096).zip (slotEntries l)).filterMap (fun p => if seEnable p.2 then some p.1 else none)

/-- Is a slot enabled? -/
def slotEnabled (l : List Item) (i : Nat) : Bool := seEnable (slotEntry l i)

/-- The slots of a line group, in line order (R43). -/
def groupSlotsOf (b : List Byte) : List Nat :=
  let first := fld b 8 2
  let count := fld b 10 2
  let stride := fld b 12 2
  if stride = 0 then (List.range count).map (fun k => fld b (16 + 2 * k) 2)
  else (List.range count).map (fun k => first + k * stride)

/-- The slots of line group `g` of a structure. -/
def groupSlots (l : List Item) (g : Nat) : List Nat := groupSlotsOf (bodyAt l secThreading 3 g)

/-! ## TIEUP -/

def plyLevel (b : List Byte) : Nat := bits (fld b 8 4) 28 4
def plyNode (b : List Byte) : Nat := bits (fld b 8 4) 22 6
def plyIndex (b : List Byte) : Nat := bits (fld b 8 4) 0 10
def plyFunction (b : List Byte) : Nat := byteAt b 12
def plyMode (b : List Byte) : Nat := byteAt b 13
def plyDest (b : List Byte) : Nat := fld b 14 2
def plyFirst (b : List Byte) : Nat := fld b 16 2
def plyNfine (b : List Byte) : Nat := fld b 18 2

/-- The ply items of a structure. -/
def plies (l : List Item) : List Item := itemsOf l secTieup 1

/-- Ply item `p`. -/
def plyBody (l : List Item) (p : Nat) : List Byte := bodyAt l secTieup 1 p

/-- The integration item (R47). -/
def integration (l : List Item) : List Byte := bodyAt l secTieup 2 0

def tOf (l : List Item) : Nat := fld (integration l) 8 4
def kOf (l : List Item) : Nat := fld (integration l) 12 2
def pOf (l : List Item) : Nat := fld (integration l) 14 2
def accFmt (l : List Item) : Nat := byteAt (integration l) 16
def outFmt (l : List Item) : Nat := byteAt (integration l) 17
def preloadOf (l : List Item) : Nat := byteAt (integration l) 18
def biasRe (l : List Item) : Int := fldI (integration l) 20 4
def biasIm (l : List Item) : Int := fldI (integration l) 24 4
def residualOf (l : List Item) : Nat := fld (integration l) 28 2

/-! ## TREADLING -/

/-- A tile-step entry (R49). -/
structure TileStep where
  kind : Nat
  a : Nat
  b : Nat
  beamBase : Nat
deriving DecidableEq, Repr

def tileStep (e : List Byte) : TileStep := ⟨byteAt e 0 % 4, byteAt e 1, byteAt e 2, fld e 4 2⟩

/-- The tile-steps of ply `p`, in order (R48). -/
def tileSteps (l : List Item) (p : Nat) : List TileStep :=
  let b := bodyAt l secTreadling 1 p
  ((chunks 8 (b.drop 16)).take (fld b 8 2)).map tileStep

/-! ## ROUTES -/

/-- Hank entry `h` (R50). -/
def hankEntry (l : List Item) (h : Nat) : Nat := fld (bodyAt l secRoutes 1 0) (8 + 4 * h) 4
def hankRole (l : List Item) (h : Nat) : Nat := bits (hankEntry l h) 0 4
def hankRate (l : List Item) (h : Nat) : Nat := bits (hankEntry l h) 4 4
def hankLanes (l : List Item) (h : Nat) : Nat := bits (hankEntry l h) 8 8

def destBody (l : List Item) (d : Nat) : List Byte := bodyAt l secRoutes 2 d
def destKind (b : List Byte) : Nat := byteAt b 8
def destHanks (b : List Byte) : Nat := fld b 10 2 % 4096
def destSourceId (b : List Byte) : Nat := fld b 12 2
def destRegion (b : List Byte) : Nat := fld b 14 2

/-! ## MEMPLAN -/

def memHeader (l : List Item) : List Byte := bodyAt l secMemplan 1 0
def tempMax (l : List Item) : Int := fldI (memHeader l) 8 2
def sparingOf (l : List Item) : Bool := byteAt (memHeader l) 10 == 1
def grainOf (l : List Item) : Nat := byteAt (memHeader l) 11

/-- A region item (R51). -/
def regionOf (x : Item) : Region := ⟨x.idx, fld x.body 8 8, fld x.body 16 8, byteAt x.body 24, fld x.body 26 2 % 64⟩

/-- The regions of a structure, ascending. -/
def regionsOf (l : List Item) : List Region := (itemsOf l secMemplan 2).map regionOf

def portCls (b : List Byte) : Nat := byteAt b 8
def portLat (b : List Byte) : Nat := fld b 10 2
def portBw (b : List Byte) : Nat := fld b 12 4

/-! ## TABLES -/

def decoderBody (l : List Item) (d : Nat) : List Byte := bodyAt l secTables 1 d
def decGrain (b : List Byte) : Nat := fld b 8 2
def decEntries (b : List Byte) : Nat := byteAt b 10
def decMode (b : List Byte) : Nat := byteAt b 11
def decCg (b : List Byte) : Nat := byteAt b 12
def decSg (b : List Byte) : Nat := byteAt b 13

/-- Decoder entry `k`, as its 64-bit value (R54). -/
def decEntry (b : List Byte) (k : Nat) : Nat := fld b (16 + 8 * k) 8

def curveBody (l : List Item) (c : Nat) : List Byte := bodyAt l secTables 2 c
def curveMode (b : List Byte) : Nat := byteAt b 8
def curveWidth (b : List Byte) : Nat := byteAt b 9

/-- The 256 points of a curve, as (THRESH, LEVEL). -/
def curvePoints (b : List Byte) : List (Nat × Nat) := (chunks 4 ((b.drop 16).take 1024)).map (fun p => (fld p 0 2, fld p 2 2))

/-- LEVEL of the last point whose THRESH is at most `m` (the first where none is). -/
def curveLevel (m : Nat) : List (Nat × Nat) → Nat → Nat
  | [], acc => acc
  | p :: r, acc => curveLevel m r (if p.1 ≤ m then p.2 else acc)

/-- A curve applied to a component (R56). -/
def curveMap (b : List Byte) (v : Int) : Int :=
  let m := v.natAbs
  let pts := curvePoints b
  let half := if curveMode b = 0 then pts else if v ≥ 0 then pts.take 128 else pts.drop 128
  let lv := (curveLevel m half ((half.headD (0, 0)).2) : Nat)
  if v ≥ 0 then (lv : Int) else -(lv : Int)

/-- The largest LEVEL of a curve on either side (R77). -/
def curveMax (b : List Byte) : Nat := (curvePoints b).foldl (fun m p => max m p.2) 0

def trigBody (l : List Item) (u : Nat) : List Byte := bodyAt l secTables 3 u

/-- The refresh curve's points (R59): TEMP in °C, MULT. -/
def refreshPoints (l : List Item) : List (Int × Nat) :=
  (chunks 4 (((bodyAt l secTables 4 0).drop 8).take 32)).map (fun p => (fldI p 0 2, byteAt p 2))

/-- MULT of the first point with TEMP ≥ t, the last point's where there is none; 4 without a curve. -/
def refreshMult (pts : List (Int × Nat)) (t : Int) : Nat :=
  match pts with
  | [] => 4
  | [p] => p.2
  | p :: q :: r => if t ≤ p.1 then p.2 else refreshMult (q :: r) t

/-- The built-in curve before any Draft (R339). -/
def builtinRefresh : List (Int × Nat) := [(85, 1), (105, 2), (32767, 4)]

/-! ## PROGRAMS, ZOOM, BEAMS -/

def imageBody (l : List Item) (n : Nat) : List Byte := bodyAt l secPrograms 1 n
def imgWords (b : List Byte) : Nat := fld b 8 2
def imgEntry (b : List Byte) : Nat := fld b 10 2
def imgCycles (b : List Byte) : Nat := fld b 12 2
def imgFlags (b : List Byte) : Nat := byteAt b 14
def imgDataOff (b : List Byte) : Nat := fld b 16 4
def imgDataLen (b : List Byte) : Nat := fld b 20 4
def imgCode (b : List Byte) : List Nat := (chunks 4 ((b.drop 32).take (4 * imgWords b))).map leNat
def imgData (b : List Byte) : List Byte := (b.drop (32 + 4 * imgWords b)).take (imgDataLen b)

def zoomBody (l : List Item) (e : Nat) : List Byte := bodyAt l secZoom 1 e
def zM (b : List Byte) : Nat := byteAt b 8
def zD (b : List Byte) : Nat := byteAt b 9
def zR (b : List Byte) : Nat := fld b 10 2
def zL (b : List Byte) : Nat := byteAt b 12
def zShift (b : List Byte) : Nat := byteAt b 13
def zBank (b : List Byte) : Nat := byteAt b 14
def zCoarse (b : List Byte) (q : Nat) : Nat := fld b (16 + 8 * q) 2
def zFreq (b : List Byte) (q : Nat) : Nat := fld b (20 + 8 * q) 4

/-- The coefficients of bank `n` = 2e + bank (R61). -/
def coefBank (l : List Item) (n : Nat) : List Int :=
  (chunks 4 ((bodyAt l secZoom 2 n).drop 8)).map (fun c => fldI c 0 4)

def beamBody (l : List Item) (b : Nat) : List Byte := bodyAt l secBeams 1 b
def bmPly (b : List Byte) : Nat := fld b 8 2
def bmOutput (b : List Byte) : Nat := byteAt b 10
def bmAvg (b : List Byte) : Nat := byteAt b 11
def bmDest (b : List Byte) : Nat := fld b 12 2

/-- The steering entries of a beam: slot, AMP, DELAY (R61). -/
def steering (l : List Item) (b : Nat) : List (Nat × Nat × Int) :=
  (chunks 8 ((bodyAt l secBeams 2 b).drop 8)).map (fun e => (fld e 0 2, fld e 2 2, fldI e 4 4))

/-! ## Quantities of a structure (R42, R77) -/

/-- NCOARSE and SPLIT of the enabled slots (they agree in an admitted Draft, R42); 0 where none is enabled. -/
def ncoarseOf (l : List Item) : Nat := (((slotEntries l).find? seEnable).map seNcoarse).getD 0
def splitOf (l : List Item) : Nat := (((slotEntries l).find? seEnable).map seSplit).getD 0

/-- C, fine channels per slot. -/
def fineChannels (l : List Item) : Nat := ncoarseOf l * 2 ^ splitOf l

/-- The rate-bearing classification entries (R79). -/
def rateEntries (l : List Item) : List (List Byte) :=
  let v := (classEntries l).filter ceValid
  let se := slotEntries l
  let en := v.filter (fun e => seEnable (se.getD (ceSlot e) []))
  if en.isEmpty then v else en

/-- P_c as a fraction of seconds (R77); 0/1 where no entry bears a rate. -/
def periodOf (l : List Item) : Nat × Nat :=
  match rateEntries l with
  | [] => (0, 1)
  | e :: _ => (cePnum e, cePden e)

/-- t_span as a fraction of seconds: T × 2^SPLIT × P_c. -/
def spanLen (l : List Item) : Nat × Nat :=
  let p := periodOf l
  (tOf l * 2 ^ splitOf l * p.1, p.2)

/-- Line count of a group. -/
def groupCount (l : List Item) (g : Nat) : Nat := fld (bodyAt l secThreading 3 g) 10 2

/-- Line groups that a tile-step entry stands for on a ply of a level (R115). -/
def runLen (level : Nat) : Nat := if level ≤ 5 then 1 else 2 ^ (level - 5)

/-- The slots of the run that starts at group `g`, in ply-local line order (R43, R115). -/
def runSlots (l : List Item) (level g : Nat) : List Nat :=
  (List.range (runLen level)).flatMap (fun q => groupSlots l (g + q))

/-- The run's COUNT (R115). -/
def runCount (l : List Item) (level g : Nat) : Nat :=
  ((List.range (runLen level)).map (fun q => groupCount l (g + q))).foldl (· + ·) 0

/-- The groups a tile-step names. -/
def stepGroups (t : TileStep) : List Nat := if t.kind = 2 then [t.a] else [t.a, t.b]

/-- The distinct slots on the line groups that a ply's treadling names, ascending (R77). -/
def plySlots (l : List Item) (p : Nat) : List Nat :=
  let lv := plyLevel (plyBody l p)
  sortN ((((tileSteps l p).flatMap stepGroups).dedup).flatMap (runSlots l lv))

/-- B_p, baselines per pass (R77). -/
def baselines (l : List Item) (p : Nat) : Nat :=
  let lv := plyLevel (plyBody l p)
  (tileSteps l p).foldl (fun acc t =>
    let ca := runCount l lv t.a
    let cb := runCount l lv t.b
    if t.kind = 0 then acc + ca * cb
    else if t.kind = 1 then acc + ca * (ca - 1) / 2 + cb * (cb - 1) / 2
    else acc) 0

/-- E_p, long-accumulator entries per channel (R77). -/
def entriesPer (l : List Item) (p : Nat) : Nat := baselines l p + (plySlots l p).length

/-- a, bytes per long-accumulator entry; b, dump bytes per entry (R77). -/
def accBytes (l : List Item) : Nat := if accFmt l = 0 then 8 else 12
def dumpBytes (l : List Item) : Nat := if outFmt l = 0 then accBytes l else 4

/-- m, loom cycles per sample of a mode (R77). -/
def modeCycles (mode : Nat) : Nat := if mode = 0 then 1 else if mode = 1 then 4 else 2

/-- n_p, loom cycles per pass (R77). -/
def passCycles (l : List Item) (p : Nat) : Nat :=
  (tileSteps l p).length * modeCycles (plyMode (plyBody l p)) * tOf l

/-- w, operand bytes per sample of a slot (R77). -/
def operandBytes (l : List Item) (slot : Nat) : Nat :=
  if curveWidth (curveBody l (seCurve (slotEntry l slot))) = 8 then 2 else 1

/-- Does a ply item cover cells of chip `node` (R78)? -/
def plyLocal (node : Nat) (b : List Byte) : Bool :=
  if plyLevel b ≤ 5 then plyNode b == node
  else decide (plyNode b ≤ node ∧ node < plyNode b + 4 ^ (plyLevel b - 5))

/-- Is a ply correlating (FUNCTION 1 or 2), is it a beam ply (3)? -/
def plyCorr (b : List Byte) : Bool := plyFunction b == 1 || plyFunction b == 2
def plyBeam (b : List Byte) : Bool := plyFunction b == 3

end Sys2Proof.Machine
end

