-- ==== Sys2Proof/Machine/Ops.lean ====
section
/-!
DEFINITION. The named operations over the state: register fields (R13 to R16), array time, the stacks' bytes
(R323 to R325, R341), what leaves the part.
-/

namespace Sys2Proof.Machine

/-- What a meaning answers. -/
abbrev Out := Host.Outcome State Fault Refusal

/-- Value of a field of instance (i, j). -/
def State.get2 (s : State) (f : Field) (i j : Nat) : Nat := Tab.get f.rst s.regs (f.key i j)

/-- Value of a field of instance i. -/
def State.get1 (s : State) (f : Field) (i : Nat) : Nat := s.get2 f i 0

/-- Value of a field of a register without instances. -/
def State.get (s : State) (f : Field) : Nat := s.get2 f 0 0

/-- A field of instance (i, j) written by hardware, truncated to its width. -/
def State.put2 (s : State) (f : Field) (i j v : Nat) : State :=
  { s with regs := Tab.set f.rst s.regs (f.key i j) (f.trunc v) }

/-- A field of instance i written by hardware. -/
def State.put1 (s : State) (f : Field) (i v : Nat) : State := s.put2 f i 0 v

/-- A field of a register without instances written by hardware. -/
def State.put (s : State) (f : Field) (v : Nat) : State := s.put2 f 0 0 v

/-- A counter advanced by `n`, saturating at its maximum (R14). -/
def State.bump2 (s : State) (f : Field) (i j n : Nat) : State :=
  s.put2 f i j (min (2 ^ f.w - 1) (s.get2 f i j + n))
def State.bump1 (s : State) (f : Field) (i n : Nat) : State := s.bump2 f i 0 n
def State.bump (s : State) (f : Field) (n : Nat) : State := s.bump2 f 0 0 n

/-- A counter that wraps advanced by `n` (registers that say "Wraps"). -/
def State.wrap1 (s : State) (f : Field) (i n : Nat) : State := s.put1 f i (s.get1 f i + n)
def State.wrap (s : State) (f : Field) (n : Nat) : State := s.put f (s.get f + n)

/-- Is a one-bit field set? -/
def State.is (s : State) (f : Field) : Bool := s.get f == 1
def State.is1 (s : State) (f : Field) (i : Nat) : Bool := s.get1 f i == 1

/-- Bit `k` of a field. -/
def State.bitOf1 (s : State) (f : Field) (i k : Nat) : Bool := bit (s.get1 f i) k
def State.bitOf (s : State) (f : Field) (k : Nat) : Bool := bit (s.get f) k

/-- Bit `k` of a field set. -/
def State.setBit1 (s : State) (f : Field) (i k : Nat) : State := s.put1 f i (putBits (s.get1 f i) k 1 1)
def State.setBit (s : State) (f : Field) (k : Nat) : State := s.setBit1 f 0 k

/-- Array time reaches `t` (a time already past leaves it as it is). -/
def State.upTo (s : State) (t : Nat) : State := { s with now := max s.now t }

/-- Do the outputs drive (R467): HP_EN high, 10 µs after its rise? -/
def State.outputs (s : State) : Bool := s.power.hpEn && decide (s.power.hpAt ≤ s.now)

/-- Does it leave through a pin that HP_EN low keeps quiet (R467)? -/
def Sent.pin : Sent → Bool
  | .block _ _ _ => true
  | .pulse _ _ _ _ => true
  | .mgmt _ => true
  | .scp _ => true
  | .flash _ _ _ _ _ _ _ => true
  | .mon _ _ => true
  | .msix _ => false
  | .memData _ _ _ _ => false
  | .storeDone _ _ _ _ _ => false
  | .regRead _ _ _ => false
  | .extWrite _ _ _ => false
  | .extRead _ _ => false
  | .extFlush => false
  | .badger _ _ _ => false
  | .spdm _ _ _ => false
  | .regError _ _ => false

/-- Something leaves the part; quiet outputs send nothing. -/
def State.emit (s : State) (o : Sent) : State := if o.pin && !s.outputs then s else { s with sent := s.sent ++ [o] }

/-- A free value, and the state that has used it (notes/assumptions/3.md). -/
def State.takeFree (s : State) : Nat × State := (Config.freeValue s.free, { s with free := s.free + 1 })

/-- Array time in ns to units of 2^-32 s, rounded up. -/
def nsToT (ns : Nat) : Nat := cdiv (ns * 4294967296) 1000000000

/-- A difference of array times in whole ns. -/
def tToNs (d : Nat) : Nat := d * 1000000000 / 4294967296

/-- Is a Draft running, for RWL fields (R68: from ARMED through STOPPING)? -/
def State.draftRuns (s : State) : Bool :=
  let st := s.get R.DRAFT_STATUS_STATE
  decide (3 ≤ st ∧ st ≤ 5)

/-! ## The stacks -/

/-- Bytes of one SID of a pseudo-channel: 24,576 rows × 16 banks × 1 KiB (R325). -/
def sidBytes : Nat := 402653184

/-- A stack location: site, pseudo-channel 0 to 31, address within it (R325). -/
structure Loc where
  site : Nat
  pch : Nat
  a : Nat
deriving DecidableEq, Repr

/-- The sites of a mask, ascending. -/
def sitesOf (mask : Nat) : List Nat := bitList 6 mask

/-- Per-channel size of a region at an interleave grain of `g` bytes (R324). -/
def perChannel (g : Nat) (r : Region) : Nat :=
  let p := 32 * popcount 6 r.sites
  if p = 0 then 0 else cdiv r.size (p * g) * g

/-- Pseudo-channel base of region `n` on a site: the regions below it there (R324). -/
def regionBase (pl : Placement) (n site : Nat) : Nat :=
  (pl.regions.filter (fun r => decide (r.num < n) && bit r.sites site)).foldl
    (fun acc r => acc + perChannel (2 ^ pl.grain) r) 0

/-- The region of a number in the placement in force. -/
def Placement.region (pl : Placement) (n : Nat) : Option Region := pl.regions.find? (fun r => r.num == n)

/-- The location of byte `o` of a region (R325). -/
def locate (pl : Placement) (r : Region) (o : Nat) : Loc :=
  let g := 2 ^ pl.grain
  let p := 32 * popcount 6 r.sites
  let u := o / g
  let k := u % p
  let site := (sitesOf r.sites).getD (k / 32) 0
  ⟨site, k % 32, regionBase pl r.num site + u / p * g + o % g⟩

/-- The bytes of the rank that a migration has copied on each pseudo-channel by array time `t` (R344). The rate is MIG_RATE × 10^9 bytes
per second over 32 pseudo-channels. -/
def State.watermark (s : State) (site t : Nat) : Nat :=
  let st := Tab.get Site.init s.stk.sites site
  let rate := s.get1 R.MEM_CTL_MIG_RATE site
  min sidBytes (st.migBase + (t - st.migStart) * (rate * 1000000000) / 4294967296 / 32)

/-- The whole rows below a watermark: a row is in the spare once it is copied. -/
def wholeRows (n : Nat) : Nat := n / 16384 * 16384

/-- The rank that holds an address: the spare for a retired rank in use, or below a migration's watermark (R343,
R344). -/
def State.physSid (s : State) (site a : Nat) : Nat :=
  let sid := a / sidBytes
  let spare := s.get1 R.MEM_STATUS_SPARE site
  if s.get1 R.MEM_STATUS_RETIRED_SID site = sid ∧ s.is1 R.MEM_STATUS_RETIRED site then
    if spare = 3 then 3
    else if spare = 2 ∧ a % sidBytes < wholeRows (Tab.get Site.init s.stk.sites site).migDone then 3
    else sid
  else sid

/-- The byte key of a location: ((site·32 + pch)·4 + rank)·2^29 + address in the rank. -/
def State.keyOf (s : State) (l : Loc) : Nat :=
  ((l.site * 32 + l.pch) * 4 + s.physSid l.site l.a) * 536870912 + l.a % sidBytes

/-- The site, the bank number and the row of a byte key (R325). -/
def siteOfKey (k : Nat) : Nat := k / 536870912 / 128
def pchOfKey (k : Nat) : Nat := k / 536870912 / 4
def bankOfKey (k : Nat) : Nat := k / 536870912 * 16 + k % 536870912 / 1024 % 16
def rowOfKey (k : Nat) : Nat := k % 536870912 / 16384

/-- Byte at a key; a byte never written since the sweep reads zero (R345). -/
def State.rd (s : State) (k : Nat) : Byte := Tab.get 0#8 s.mem k

/-- One byte written at a key; zero is what an unlisted key reads as, so it is not listed. -/
def State.wr (s : State) (k : Nat) (b : Byte) : State := { s with mem := Tab.set 0#8 s.mem k b }

/-- The bytes at a list of keys. -/
def State.rdKeys (s : State) (ks : List Nat) : List Byte := ks.map s.rd

/-- Bytes written at a list of keys. -/
def State.wrKeys (s : State) : List Nat → List Byte → State
  | k :: ks, b :: bs => (s.wr k b).wrKeys ks bs
  | _, _ => s

/-- The keys of `n` bytes of a region from offset `o`. -/
def State.regionKeys (s : State) (r : Region) (o n : Nat) : List Nat :=
  (List.range n).map (fun d => s.keyOf (locate s.place r (o + d)))

/-- Is a unit poisoned (R323)? Units are numbered by key / 64. -/
def State.poisoned (s : State) (u : Nat) : Bool := Tab.get false s.poison u

/-- The poison mark of a unit set or cleared: what its cells held that no read had met is gone. -/
def State.setPoison (s : State) (u : Nat) (b : Bool) : State :=
  { s with poison := Tab.set false s.poison u b, stk := { s.stk with latent := s.stk.latent.filter (fun e => e.1 != u) } }

/-- The distinct units of a list of keys, in order. -/
def unitsOf (ks : List Nat) : List Nat := (ks.map (· / 64)).dedup

/-- Bytes written to a region, with the poison rules: a unit written whole loses its poison (R341), one written in part
keeps it (R347). -/
def State.writeRegion (s : State) (r : Region) (o : Nat) (d : List Byte) : State :=
  let ks := s.regionKeys r o d.length
  let whole := (unitsOf ks).filter (fun u => (ks.filter (fun k => k / 64 == u)).length == 64)
  whole.foldl (fun a u => a.setPoison u false) (s.wrKeys ks d)

/-- Bytes read from a region, and whether any of their units is poisoned. -/
def State.readRegion (s : State) (r : Region) (o n : Nat) : List Byte × Bool :=
  let ks := s.regionKeys r o n
  (s.rdKeys ks, (unitsOf ks).any s.poisoned)

/-- The contents of a site lost (R335): its bytes and poison marks. -/
def State.loseSite (s : State) (site : Nat) : State :=
  { s with
    mem := s.mem.filter (fun c => siteOfKey c.1 != site)
    poison := s.poison.filter (fun c => siteOfKey (c.1 * 64) != site)
    stk := { s.stk with latent := s.stk.latent.filter (fun e => siteOfKey (e.1 * 64) != site) } }

/-- A site's own record changed. -/
def State.updSite (s : State) (site : Nat) (f : Site → Site) : State :=
  { s with stk := { s.stk with sites := Tab.upd Site.init s.stk.sites site f } }

def State.site (s : State) (site : Nat) : Site := Tab.get Site.init s.stk.sites site

/-- States of a site (R335). -/
def siteOff : Nat := 0
def sitePowering : Nat := 1
def siteTraining : Nat := 2
def siteSweeping : Nat := 3
def siteReady : Nat := 4
def siteSelfRefresh : Nat := 5
def siteFault : Nat := 6

/-- State of a site; an absent one reads zero (R3). -/
def State.siteState (s : State) (site : Nat) : Nat := s.get1 R.MEM_STATUS_STATE site

/-- Populated sites (R2). -/
def State.populated (s : State) : List Nat := List.range (nStacks s.part)

/-- Is a site present and not in FAULT (R335, R356)? -/
def State.siteUsable (s : State) (site : Nat) : Bool :=
  decide (site < (nStacks s.part)) && s.siteState site != siteFault

/-- Is every site of a mask READY, so that its stacks can be accessed (R326, R345)? -/
def State.sitesReady (s : State) (mask : Nat) : Bool := (sitesOf mask).all (fun x => s.siteState x == siteReady)

/-- Units of a port counted as served (R332; wraps modulo 2^64). -/
def State.served (s : State) (port n : Nat) : State := s.wrap1 R.MEM_PORT_SERVED_UNITS port n

/-- Is a rank of a site retired in the Ledger (R343, R483)? -/
def State.spared (s : State) (site : Nat) : Bool := bit (Tab.get 0#8 s.ledger.image (0x2C0 + site)).toNat 7

/-- The default placement over the sites of a mask as they are: a site with a retired rank offers 36 GiB, and one region takes as much of
each of its sites (R326, R343; notes/assumptions/107.md). -/
def State.defaultOver (s : State) (mask : Nat) : Placement :=
  defaultPlacementOf mask (if (sitesOf mask).any s.spared then siteBytes / 4 * 3 else siteBytes)

/-- The default placement over the populated sites that are not in FAULT, brought into force (R326). -/
def State.defaultPlace (s : State) : State :=
  { s with place := s.defaultOver ((s.populated.filter s.siteUsable).foldl (fun m x => m + 2 ^ x) 0) }

/-- A site enters FAULT (R335). The default placement in force leaves it out (R326). -/
def State.siteFaults (s : State) (site : Nat) : State :=
  let s1 := s.put1 R.MEM_STATUS_STATE site siteFault
  if s1.draft.everApplied then s1 else s1.defaultPlace

/-! ## Requests to the stacks (R329 to R331) -/

/-- Class of a port in force (R329): internal ports are class 3. -/
def State.portClass (s : State) (port : Nat) : Nat :=
  if 36 ≤ port ∧ port ≤ 39 then 3 else s.get1 R.MEM_PORT_CFG_CLASS port

/-- A request put on its bank's queue of 16, or at the port's ingress when it is full (R331). -/
def State.enqueue (s : State) (r : MemReq) : State :=
  let b := bankOfKey r.key
  if (Tab.get [] s.stk.bankQ b).length < 16 then
    { s with stk := { s.stk with bankQ := Tab.upd [] s.stk.bankQ b (· ++ [r]) } }
  else { s with stk := { s.stk with ingress := Tab.upd [] s.stk.ingress b (· ++ [r]) } }

/-- Number of access units that bytes o .. o+n-1 of a region touch. -/
def unitSpan (o n : Nat) : Nat := if n = 0 then 0 else (o + n - 1) / 64 - o / 64 + 1

/-- The keys of the access units that bytes of a region touch. -/
def State.unitKeys (s : State) (r : Region) (o n : Nat) : List Nat :=
  (List.range (unitSpan o n)).map (fun k => s.keyOf (locate s.place r ((o / 64 + k) * 64)))

/-! ## The crossbar (R415, R416) -/

/-- Does another master hold the lock of a target (R416)? -/
def State.lockedOut (s : State) (m : Nat) (target : Option Nat) : Bool :=
  match target with
  | none => false
  | some k => s.xbar.held.any (fun e => e.1 != m && e.2.1 == k + 1)

/-- A target grants a master (R415). -/
def State.grantedTo (s : State) (m k : Nat) : State := { s with xbar := { s.xbar with last := Tab.set 0 s.xbar.last k (m + 1) } }

/-- Targets that the Draft controller writes as crossbar master 6 when a Draft enters ARMED and when patches apply (R413): SPIN, ZOOM, LANE,
MEM. -/
def armTargets : List Nat := [8, 9, 10, 13]

/-- Does another master hold the lock of one of them? -/
def State.armLocked (s : State) : Bool := armTargets.any (fun k => s.lockedOut 6 (some k))

/-- Each of them grants the Draft controller. -/
def State.grantDraft (s : State) : State := armTargets.foldl (fun a k => a.grantedTo 6 k) s

end Sys2Proof.Machine
end

