-- ==== Sys2Proof/Machine/Events.lean ====
section
/-!
DEFINITION. The event router (R429 to R434): levels, raises, pending bits, MSI-X messages, event frames and pins.
-/

namespace Sys2Proof.Machine

/-- Where a source's cause bits are: the field, its instance, the mask of its bits that count now. -/
structure Cause where
  fld : Field
  inst : Nat
  mask : Nat
deriving DecidableEq, Repr

/-- One bit of a one-cause-per-event register. -/
def one (f : Field) (k : Nat) : List Cause := [⟨f, 0, 2 ^ k⟩]

/-- Bits of SPIN_EVT (R228): FAULT, VOID, IN_DROP, SAT, PROG_REFUSED, SWAPPED, PROG_EVT, LATE_SWAP. -/
def spinCauses (s : State) (n : Nat) : List Cause :=
  [⟨R.SPIN_EVT_FAULT, n, 1⟩, ⟨R.SPIN_EVT_VOID, n, 1⟩, ⟨R.SPIN_EVT_IN_DROP, n, 1⟩,
   ⟨R.SPIN_EVT_SAT, n, s.get1 R.SPIN_CTL_EVT_SAT_EN n⟩, ⟨R.SPIN_EVT_PROG_REFUSED, n, 1⟩,
   ⟨R.SPIN_EVT_SWAPPED, n, 1⟩, ⟨R.SPIN_EVT_PROG_EVT, n, 1⟩, ⟨R.SPIN_EVT_LATE_SWAP, n, 1⟩]

/-- The cause bits whose rise raises source `n`, with the enables their chapters name (R429, R430). A source with no
cause bits has the empty list: its occurrences are raises. -/
def causesOf (s : State) (n : Nat) : List Cause :=
  if n < 0x060 then
    [⟨R.LANE_EVT_LOCK_LOST, n, 1⟩, ⟨R.LANE_EVT_ESLIP, n, 1⟩, ⟨R.LANE_EVT_ERR_HIGH, n, 1⟩,
     ⟨R.LANE_EVT_LOCK_GAINED, n, s.get1 R.LANE_CTL_EVT_LOCK_EN n⟩]
  else if n < 0x06C then
    let h := n - 0x060
    [⟨R.HANK_EVT_DOWN, h, 1⟩, ⟨R.HANK_EVT_UP, h, 1⟩, ⟨R.HANK_EVT_PLL_FAULT, h, 1⟩]
  else if 0x070 ≤ n ∧ n < 0x088 then
    let k := (n - 0x070) / 4
    match (n - 0x070) % 4 with
    | 0 => [⟨R.MEM_EVT_CE, k, 1⟩]
    | 1 => [⟨R.MEM_EVT_UE, k, 1⟩, ⟨R.MEM_EVT_CA_FAIL, k, 1⟩]
    | 2 => [⟨R.MEM_EVT_MIG_START, k, 1⟩, ⟨R.MEM_EVT_MIG_DONE, k, 1⟩]
    | _ => [⟨R.MEM_EVT_THROTTLE, k, 1⟩, ⟨R.MEM_EVT_SHED_BE, k, 1⟩, ⟨R.MEM_EVT_SHED_ASSURED, k, 1⟩,
            ⟨R.MEM_EVT_SHED_GUAR, k, 1⟩]
  else if 0x090 ≤ n ∧ n < 0x0A0 then
    let k := n - 0x090
    [⟨R.SECTION_EVT_POWER_FAULT, k, 1⟩, ⟨R.SECTION_EVT_TEST_FAIL, k, 1⟩, ⟨R.SECTION_EVT_OVF, k, 1⟩,
     ⟨R.SECTION_EVT_HOLD, k, s.get1 R.SECTION_CTL_EVT_HOLD_EN k⟩]
  else if 0x0A0 ≤ n ∧ n < 0x0A8 then
    let b := n - 0x0A0
    ⟨R.SPIN_BANK_EVT_FLUSH_LATE, b, 1⟩ ::
      (if s.is1 R.SPIN_BANK_CTL_SUMMARY b then (List.range 64).flatMap (fun k => spinCauses s (64 * b + k)) else [])
  else if 0x0B0 ≤ n ∧ n ≤ 0x0B6 then
    if n = 0x0B6 then [⟨R.PASS_EVT_CAUSE, 0, 64 * s.get R.PASS_CTL_EVT_SLACK_EN⟩] else one R.PASS_EVT_CAUSE (n - 0x0B0)
  else if 0x0C0 ≤ n ∧ n ≤ 0x0C6 then one R.FOX_EVT_CAUSE (n - 0x0C0)
  else if 0x0D0 ≤ n ∧ n ≤ 0x0D3 then one R.BEAM_EVT_CAUSE (n - 0x0D0)
  else if 0x0E0 ≤ n ∧ n < 0x0F0 then
    let k := n - 0x0E0
    [⟨R.TRIG_EVT_MARK_EVT, k, 1⟩, ⟨R.TRIG_EVT_WITHDRAWN, k, 1⟩, ⟨R.TRIG_EVT_TAP_INVALID, k, 1⟩,
     ⟨R.CAP_EVT_GAP, k, 1⟩, ⟨R.CAP_EVT_MARK_LOST, k, 1⟩, ⟨R.CAP_EVT_FRAME_SKIP, k, 1⟩, ⟨R.CAP_EVT_CONFIG_INVALID, k, 1⟩]
  else if 0x0F0 ≤ n ∧ n ≤ 0x0FA then one R.TIME_EVT_CAUSE (n - 0x0F0)
  else if 0x100 ≤ n ∧ n < 0x120 then
    let k := n - 0x100
    [⟨R.DMA_EVT_DONE, k, 1⟩, ⟨R.DMA_EVT_ERROR, k, 1⟩, ⟨R.DMA_EVT_DESC, k, 1⟩]
  else if 0x120 ≤ n ∧ n < 0x130 then
    let u := n - 0x120
    let e := s.get1 R.CHECK_CTL_EVT_EN u
    [⟨R.CHECK_STATUS_DUP, u, e⟩, ⟨R.CHECK_STATUS_JUMP, u, e⟩]
  else if 0x140 ≤ n ∧ n ≤ 0x145 then one R.MESH_EVT_CAUSE (n - 0x140)
  else if 0x148 ≤ n ∧ n ≤ 0x150 then one R.PAIR_EVT_CAUSE (n - 0x148)
  else if 0x160 ≤ n ∧ n ≤ 0x165 then one R.PCIE_EVT_CAUSE (n - 0x160)
  else if 0x168 ≤ n ∧ n ≤ 0x16C then one R.MGMT_EVT_CAUSE (n - 0x168)
  else if 0x170 ≤ n ∧ n ≤ 0x172 then one R.SCP_EVT_CAUSE (n - 0x170)
  else if 0x174 ≤ n ∧ n ≤ 0x177 then
    let p := n - 0x174
    [⟨R.MON_EVT_SLIP, p, 1⟩, ⟨R.MON_EVT_INVALID, p, 1⟩, ⟨R.MON_EVT_LIMITED, p, 1⟩]
  else if 0x180 ≤ n ∧ n ≤ 0x187 then one R.POWER_EVT_CAUSE (n - 0x180)
  else if 0x1A0 ≤ n ∧ n ≤ 0x1A3 then one R.TRUST_EVT_CAUSE (n - 0x1A0)
  else if n = 0x1A9 then [⟨R.SYS_BOOT_SECONDARY_EVT, 0, 1⟩]
  else if n = 0x1AA then [⟨R.SYS_BOOT_FAILED_EVT, 0, 1⟩]
  else if 0x1B0 ≤ n ∧ n ≤ 0x1B3 then one R.LEDGER_EVT_CAUSE (n - 0x1B0)
  else if 0x1D0 ≤ n ∧ n ≤ 0x1D7 then one R.FRAME_EVT_CAUSE (n - 0x1D0)
  else if 0x1E0 ≤ n ∧ n ≤ 0x1E4 then one R.STORE_EVT_CAUSE (n - 0x1E0)
  else if 0x200 ≤ n ∧ n < 0x400 then spinCauses s (n - 0x200)
  else []

/-- Level of a source (R429). -/
def State.level (s : State) (n : Nat) : Bool :=
  (causesOf s n).any (fun c => andN 32 (s.get1 c.fld c.inst) c.mask != 0)

/-- Pending bit of a source. -/
def State.pend (s : State) (n : Nat) : Bool := s.bitOf1 R.EVT_PEND_PEND (n / 32) (n % 32)

/-- The sources routed to a vector that are pending, ascending (R432). -/
def State.vecSources (s : State) (v : Nat) : List Nat :=
  (List.range 1024).filter (fun n =>
    s.pend n && s.is1 R.EVT_ROUTE_MSIX n && s.get1 R.EVT_ROUTE_VECTOR n == v)

/-- Is a vector's own mask bit set? Bit 0 of the fourth word of its table entry; set at reset (PRESUMED, the PCI
Express value, notes/assumptions/4.md). -/
def State.vecMasked (s : State) (v : Nat) : Bool := Tab.get 1 s.evt.msix (4 * v + 3) % 2 == 1

/-- May a vector's message be sent now (R432, R438)? -/
def State.vecOpen (s : State) (v : Nat) : Bool := s.evt.enable && !s.evt.fmask && !s.vecMasked v && s.is R.PCIE_STATUS_UP

/-- A vector becomes pending: its message, or its PBA bit (R432). A vector already pending sends nothing more. -/
def State.vecRise (s : State) (v : Nat) : State :=
  if Tab.get false s.evt.vecPend v then s
  else
    let s1 := { s with evt := { s.evt with vecPend := Tab.set false s.evt.vecPend v true } }
    if s.vecOpen v then s1.emit (.msix v)
    else { s1 with evt := { s1.evt with pba := Tab.set false s1.evt.pba v true } }

/-- A vector whose sources have all been cleared is pending no more (R432). -/
def State.vecFall (s : State) (v : Nat) : State :=
  if (s.vecSources v).isEmpty then
    { s with evt := { s.evt with
        vecPend := Tab.set false s.evt.vecPend v false
        pba := Tab.set false s.evt.pba v false } }
  else s

/-- The messages of vectors that became pending while they could not be sent, sent now (R432). -/
def State.vecFlush (s : State) : State :=
  forN 64 (fun v a =>
    if a.vecOpen v && Tab.get false a.evt.vecPend v && Tab.get false a.evt.pba v then
      ({ a with evt := { a.evt with pba := Tab.set false a.evt.pba v false } }).emit (.msix v)
    else a) s

/-- The register that an event frame reports as the cause: the whole register of the source's cause bits (R433). -/
def State.causeWord (s : State) (n : Nat) : Nat :=
  match causesOf s n with
  | [] => 0
  | c :: _ =>
    match regAt (c.fld.addr + c.inst * c.fld.s1) with
    | none => 0
    | some (r, i, j) => r.parts.foldl (fun acc p => acc + bits (s.get2 p.fld i j) p.sh p.w * 2 ^ p.lo) 0

/-- The node byte (R293): bits [5:0] the node ID, bit 6 the pair side (0 for an unpaired chip). -/
def State.nodeByte (s : State) : Nat :=
  s.get R.MESH_NODE_ID + 64 * (if s.get R.PAIR_CTL_MODE = 0 then 0 else s.get R.PAIR_CTL_SIDE)

/-- The payload of an event frame (R433). -/
def State.eventFrame (s : State) (n : Nat) (detail : List Byte) : List Byte :=
  leBytes 2 n ++ leBytes 1 s.nodeByte ++ zeros 1 ++ leBytes 4 s.evt.eseq ++ leBytes 8 s.now ++
    leBytes 4 (s.causeWord n) ++ zeros 12 ++ padTo 32 detail

/-- The pending bit of a source set, and its destinations acted on, with an event frame's DETAIL (R429, R431). Event
0x17F is never sent as a frame; a frame that finds the queue of 8 full is dropped, counted, and raises 0x17F (R433). -/
def State.raiseWith (s : State) (n : Nat) (detail : List Byte) : State :=
  let s1 := s.setBit1 R.EVT_PEND_PEND (n / 32) (n % 32)
  let s2 := if s1.is1 R.EVT_ROUTE_MSIX n then s1.vecRise (s1.get1 R.EVT_ROUTE_VECTOR n) else s1
  if s2.is1 R.EVT_ROUTE_MGMT n && n != 0x17F then
    let s3 := { s2 with evt := { s2.evt with eseq := s2.evt.eseq + 1 } }
    if s2.evt.frames.length < 8 then
      let s4 := { s3 with evt := { s3.evt with frames := s3.evt.frames ++ [s2.eventFrame n detail] } }
      s4.put R.EVT_MGMT_QUEUED s4.evt.frames.length
    else
      let s4 := (s3.bump R.EVT_MGMT_DROPPED 1).setBit1 R.EVT_PEND_PEND (0x17F / 32) (0x17F % 32)
      if s4.is1 R.EVT_ROUTE_MSIX 0x17F then s4.vecRise (s4.get1 R.EVT_ROUTE_VECTOR 0x17F) else s4
  else s2

/-- A raise of a source (R429), with the DETAIL that stands for it (R433). -/
def State.raise (s : State) (n : Nat) : State := s.raiseWith n (Tab.get [] s.evt.details n)

/-- The DETAIL of a source's next raise (R433), unless its level is up already and the raise has been. -/
def State.noteDetail (s : State) (n : Nat) (d : List Byte) : State :=
  if s.level n then s else { s with evt := { s.evt with details := Tab.set [] s.evt.details n d } }

/-- A change of the state with the raises of those of the given sources whose level rises (R429). -/
def State.withLevels (s : State) (srcs : List Nat) (f : State → State) : State :=
  let s' := f s
  srcs.foldl (fun a n => if !s.level n && s'.level n then a.raise n else a) s'

/-- A cause bit set by hardware, with the raise of its source when the level rises. -/
def State.cause1 (s : State) (f : Field) (i k src : Nat) : State := s.withLevels [src] (fun a => a.setBit1 f i k)

/-- A cause bit of a register whose bit k raises event `base + k`. -/
def State.causeBase (s : State) (f : Field) (base k : Nat) : State := s.cause1 f 0 k (base + k)

/-- The pins driven low (R434): bit k while a pending source is routed to EVT_N[k] and EN[k] is 1, while powered. -/
def State.evtPins (s : State) : Nat :=
  let en := s.get R.EVT_PIN_EN
  if en = 0 then 0
  else
    let any := (List.range 1024).foldl
      (fun acc n => if s.pend n then orN 4 acc (s.get1 R.EVT_ROUTE_PINS n) else acc) 0
    andN 4 any en

/-- The lowest pending source of a vector, with ANY in bit 31 (EVT_VEC_FIRST). -/
def State.vecFirst (s : State) (v : Nat) : Nat :=
  match s.vecSources v with
  | [] => 0
  | n :: _ => 2147483648 + n

/-- Pass, Fox, beam, timebase, mesh, pair and store causes, by bit. -/
def State.passEvt (s : State) (k : Nat) : State := s.causeBase R.PASS_EVT_CAUSE 0x0B0 k
def State.foxEvt (s : State) (k : Nat) : State := s.causeBase R.FOX_EVT_CAUSE 0x0C0 k
def State.beamEvt (s : State) (k : Nat) : State := s.causeBase R.BEAM_EVT_CAUSE 0x0D0 k
def State.timeEvt (s : State) (k : Nat) : State := s.causeBase R.TIME_EVT_CAUSE 0x0F0 k
def State.meshEvt (s : State) (k : Nat) : State := s.causeBase R.MESH_EVT_CAUSE 0x140 k
def State.pairEvt (s : State) (k : Nat) : State := s.causeBase R.PAIR_EVT_CAUSE 0x148 k
def State.storeEvt (s : State) (k : Nat) : State := s.causeBase R.STORE_EVT_CAUSE 0x1E0 k
def State.frameEvt (s : State) (k : Nat) : State := s.causeBase R.FRAME_EVT_CAUSE 0x1D0 k
def State.powerEvt (s : State) (k : Nat) : State := s.causeBase R.POWER_EVT_CAUSE 0x180 k
def State.trustEvt (s : State) (k : Nat) : State := s.causeBase R.TRUST_EVT_CAUSE 0x1A0 k
def State.ledgerEvt (s : State) (k : Nat) : State := s.causeBase R.LEDGER_EVT_CAUSE 0x1B0 k
def State.pcieEvt (s : State) (k : Nat) : State := s.causeBase R.PCIE_EVT_CAUSE 0x160 k
def State.mgmtEvt (s : State) (k : Nat) : State := s.causeBase R.MGMT_EVT_CAUSE 0x168 k
def State.scpEvt (s : State) (k : Nat) : State := s.causeBase R.SCP_EVT_CAUSE 0x170 k

/-- A one-bit cause of a stack site (R348), by the offset of its event from 0x070 + 4s: each bit that rises raises the event, as in the
example of R344 (notes/assumptions/108.md). -/
def State.memEvt (s : State) (f : Field) (site k : Nat) : State :=
  if s.bitOf1 f site 0 then s else (s.setBit1 f site 0).raise (0x070 + 4 * site + k)

/-- A cause of section S, lane L, hank h. -/
def State.sectionEvt (s : State) (f : Field) (x : Nat) : State := s.cause1 f x 0 (0x090 + x)
def State.laneEvt (s : State) (f : Field) (l : Nat) : State := s.cause1 f l 0 l
def State.hankEvt (s : State) (f : Field) (h : Nat) : State := s.cause1 f h 0 (0x060 + h)

/-- A cause of spindle n: its own event and, when summarised, its bank's (R228). -/
def State.spinEvt (s : State) (f : Field) (n : Nat) : State :=
  s.withLevels [0x200 + n, 0x0A0 + n / 64] (fun a => a.setBit1 f n 0)

/-- What a pending source does at the destinations that it gains. -/
def State.gain (s : State) (n : Nat) (oldMsix oldMgmt : Bool) (oldVec : Nat) : State :=
  let gainV := s.is1 R.EVT_ROUTE_MSIX n && (!oldMsix || s.get1 R.EVT_ROUTE_VECTOR n != oldVec)
  let gainM := s.is1 R.EVT_ROUTE_MGMT n && !oldMgmt
  let s1 := if gainV then s.vecRise (s.get1 R.EVT_ROUTE_VECTOR n) else s
  if gainM && n != 0x17F then
    let s2 := { s1 with evt := { s1.evt with eseq := s1.evt.eseq + 1 } }
    if s1.evt.frames.length < 8 then
      let s3 := { s2 with evt := { s2.evt with frames := s2.evt.frames ++ [s1.eventFrame n (Tab.get [] s.evt.details n)] } }
      s3.put R.EVT_MGMT_QUEUED s3.evt.frames.length
    else (s2.bump R.EVT_MGMT_DROPPED 1).raise 0x17F
  else s1

/-- A pending source that gains a destination acts on it as if it had just risen (R431); the vector that it leaves may be pending no
more (R432). -/
def State.routeGain (s : State) (n : Nat) (oldMsix oldMgmt : Bool) (oldVec : Nat) : State :=
  if !s.pend n then s
  else if oldMsix && (!s.is1 R.EVT_ROUTE_MSIX n || s.get1 R.EVT_ROUTE_VECTOR n != oldVec) then
    (s.vecFall oldVec).gain n oldMsix oldMgmt oldVec
  else s.gain n oldMsix oldMgmt oldVec

/-- EVT_PEND (R429): a W1C write to word `w` clears pending bits; a source whose level is still 1 pends again at once,
as a new raise; a vector left without a pending source is pending no more. -/
def clearPend (w v : Nat) (s : State) : State :=
  let s1 := s.put1 R.EVT_PEND_PEND w (clearN 32 (s.get1 R.EVT_PEND_PEND w) v)
  let cleared := (bitList 32 v).map (fun k => 32 * w + k) |>.filter s.pend
  let vecs := ((cleared.filter (fun n => s.is1 R.EVT_ROUTE_MSIX n)).map (fun n => s.get1 R.EVT_ROUTE_VECTOR n)).dedup
  let s2 := vecs.foldl State.vecFall s1
  cleared.foldl (fun a n => if a.level n then a.raise n else a) s2

end Sys2Proof.Machine
end

