-- ==== Sys2Proof/Machine/Link.lean ====
section
/-!
DEFINITION. Lanes, hanks and frame queues as every unit uses them (R246, R279, R283, R286 to R290, R294).
-/

namespace Sys2Proof.Machine

/-- Node ID of the part (R293). -/
def State.node (s : State) : Nat := s.get R.MESH_NODE_ID

def State.lane (s : State) (l : Nat) : Lane := Tab.get Lane.init s.frames.lanes l

def State.setLane (s : State) (l : Nat) (x : Lane) : State :=
  { s with frames := { s.frames with lanes := Tab.set Lane.init s.frames.lanes l x } }

/-- Lock state of a lane (R260). -/
def State.laneState (s : State) (l : Nat) : Nat := s.get1 R.LANE_STATUS_STATE l
def State.locked (s : State) (l : Nat) : Bool := s.laneState l == 5

/-- Role in force of a lane's hank (R247). -/
def State.laneRole (s : State) (l : Nat) : Nat := s.get1 R.HANK_STATUS_ROLE (l / 8)

/-! ## Frame classes (R286) -/

def clsMgmt : Nat := 0
def clsCompl : Nat := 1
def clsPosted : Nat := 2
def clsNonPosted : Nat := 3

/-- Class of a frame by TYPE and FIRST (R270, R283). -/
def frameClass (type first : Nat) : Nat :=
  if type = 0x0C ∨ type = 0x0D ∨ type = 0x0E then clsMgmt
  else if type = 0x0A then clsCompl
  else if type = 0x09 ∨ type = 0x0B then
    (if first = 1 ∨ first = 3 then clsNonPosted else if first = 8 ∧ type = 0x0B then clsCompl else clsPosted)
  else clsPosted

/-- Units of a frame (R288). -/
def frameUnits (len : Nat) : Nat := cdiv (40 + len) 64

/-- Units of each class buffer (R286). -/
def classUnits (cls : Nat) : Nat := if cls = clsNonPosted then 256 else 1024

/-- Key of a lane's class. -/
def laneCls (l cls : Nat) : Nat := l * 4 + cls

/-- The last announce of a lane. -/
def State.announce (s : State) (l : Nat) : Announce := Tab.get Announce.init s.mesh.ann l

/-- A frame queued on a lane (R286), for the node byte that the lane reaches (R294): a non-posted frame remembers the posted ones
before it. -/
def State.queueLane (s : State) (l : Nat) (f : OutFrame) : State :=
  let c := frameClass f.type f.first
  let k := laneCls l c
  let ahead := if c = clsNonPosted then (Tab.get [] s.frames.laneQ (laneCls l clsPosted)).length else 0
  { s with frames := { s.frames with
      laneQ := Tab.set [] s.frames.laneQ k
        (Tab.get [] s.frames.laneQ k ++ [{ f with item := ahead, hanks := (s.announce l).node + 1 }]) } }

/-- SOURCE_ID on mesh, mirror and far-store lanes (R279). -/
def State.meshSrc (s : State) : Nat := 0xFF00 + s.node

/-- A frame of the part on a mesh, mirror or far-store lane, its TIME that of sending. -/
def State.linkFrame (s : State) (type first count aux : Nat) (payload : List Byte) (tword : Nat) : OutFrame :=
  ⟨s.meshSrc, type, 0, true, first, count, aux, payload, tword, 0, 0⟩

/-! ## Ways to other nodes (R294, R295) -/

/-- May frames other than management ones go to a node byte (R294)? -/
def State.nodeOpen (s : State) (nb : Nat) : Bool := !s.mesh.conflict.contains nb

/-- LOCKED lanes of hanks with a role whose last announce came from a node, either side (R294). -/
def State.lanesTo (s : State) (role nd : Nat) : List Nat :=
  (List.range 96).filter (fun l => s.laneRole l == role && s.locked l && (s.announce l).node % 64 == nd &&
    decide ((s.announce l).node < 128))

/-- The lane that a frame to a node takes: the lowest one, before those of a side in standby (notes). -/
def State.laneTo (s : State) (nd : Nat) : Option Nat :=
  let ls := (s.lanesTo 3 nd).filter (fun l => s.nodeOpen (s.announce l).node)
  match ls.filter (fun l => (s.announce l).state != 3) with
  | l :: _ => some l
  | [] => ls.head?

/-- The first LOCKED lane of a hank. -/
def State.hankLane (s : State) (h : Nat) : Option Nat := ((List.range 8).map (· + 8 * h)).find? s.locked

/-- Is a node in the layout in force, this one always (R295)? -/
def State.inLayout (s : State) (nd : Nat) : Bool := nd == s.node || s.bitOf R.MESH_LAYOUT_NODES nd

/-- The state of the chip (R295): alone, spectator, member. -/
def State.meshState (s : State) : Nat :=
  if !(List.range 12).any (fun h => decide (3 ≤ s.get1 R.HANK_STATUS_ROLE h ∧ s.get1 R.HANK_STATUS_ROLE h ≤ 5)) then 0
  else if s.bitOf R.MESH_LAYOUT_NODES s.node then 2 else 1

/-- May frames other than management ones be exchanged with a node (R295)? A spectator still answers what it is asked (R303). -/
def State.meshWith (s : State) (nd : Nat) : Bool := s.inLayout nd || s.meshState == 1

/-! ## Requests (R283, R284) -/

/-- The lowest TAG that no outstanding request of a hank carries; none while 1,024 are outstanding. -/
def State.freeTag (s : State) (h : Nat) : Option Nat :=
  let mine := (s.frames.outst.filter (fun o => o.hank == h)).map (·.tag)
  if 1024 ≤ mine.length then none else (List.range 1025).find? (fun t => !mine.contains t)

/-- A write as frames of at most 8,192 bytes on a lane (R283): mesh requests or store frames, in whole units; the bytes of an edge unit
that the write leaves out are the far side's own, free here. A poisoned write's mark is stated nowhere: its trailer word is free. -/
def State.sendWrite (s : State) (l type a : Nat) (d : List Byte) (poisoned : Bool) : State :=
  let head := a % 64
  let tail := (64 - (head + d.length) % 64) % 64
  let (v, s1) := if head = 0 ∧ tail = 0 then (0, s) else s.takeFree
  let (w, s2) := if poisoned then s1.takeFree else (0, s1)
  let cs := chunks 8192 (leBytes head v ++ d ++ leBytes tail (v / 2 ^ (8 * head)))
  let s3 := ((List.range cs.length).zip cs).foldl (fun b c =>
    b.queueLane l (b.linkFrame type 2 0 ((a / 64 * 64 + 8192 * c.1) % 281474976710656) c.2 w)) s2
  { s3 with frames := { s3.frames with laneWrote := Tab.set false s3.frames.laneWrote l true } }

/-- A non-posted request sent, and remembered until its completion (R284); without a free TAG it waits for one. A read asks for the
whole units that its bytes lie in (R283). -/
def State.sendRequest (s : State) (q : WaitReq) : State :=
  match s.freeTag (q.lane / 8) with
  | none => { s with frames := { s.frames with reqQ := s.frames.reqQ ++ [q] } }
  | some tag =>
    let n := if q.op = 1 then cdiv (q.aux % 64 + q.len) 64 else 0
    let s1 := s.queueLane q.lane
      (s.linkFrame q.type q.op n (q.aux / 64 * 64 % 281474976710656 + tag * 281474976710656) [] 0)
    { s1 with frames := { s1.frames with outst := s1.frames.outst ++ [⟨q.lane / 8, tag, q.op, q.addr, q.len, q.port, q.node, 0, q.inv⟩] } }

/-- A read of a peer's store or a far store as requests of at most 8,192 bytes (R283): `x` is the address on the far side, `a` the
requester's. -/
def State.sendReads (s : State) (l type x a n port nd : Nat) : State :=
  let cuts := (List.range (cdiv (x % 64 + n) 8192)).map (fun k => (if k = 0 then 0 else 8192 * k - x % 64, min n (8192 * (k + 1) - x % 64)))
  cuts.foldl (fun b c => b.sendRequest ⟨l, type, 1, x + c.1, a + c.1, c.2 - c.1, port, nd, false⟩) s

/-! ## Credits (R288) -/

/-- Is a class credited on a role (R286)? -/
def creditedOn (role cls : Nat) : Bool := decide (3 ≤ role ∧ role ≤ 5) && cls != clsMgmt

/-- A new epoch of a receiving lane: EPOCH advances, the limits start from the free units of each buffer. -/
def State.newEpoch (s : State) (l : Nat) : State :=
  let lim := fun (t : Tab Nat) c => Tab.set 0 t (laneCls l c) (classUnits c - Tab.get 0 s.frames.rxHeld (laneCls l c))
  { s with frames := { s.frames with
      rxEpoch := Tab.set 0 s.frames.rxEpoch l ((Tab.get 0 s.frames.rxEpoch l + 1) % 256)
      rxLimit := lim (lim (lim s.frames.rxLimit clsPosted) clsNonPosted) clsCompl
      freed := Tab.set 0 s.frames.freed l 16
      rxAlive := Tab.set none s.frames.rxAlive l none } }

/-- A receiver takes a frame into its class buffer, or frees it; freeing raises the limit. -/
def State.rxHold (s : State) (l cls u : Nat) : State :=
  { s with frames := { s.frames with rxHeld := Tab.upd 0 s.frames.rxHeld (laneCls l cls) (· + u) } }
def State.rxFree (s : State) (l cls u : Nat) : State :=
  { s with frames := { s.frames with
      rxHeld := Tab.upd 0 s.frames.rxHeld (laneCls l cls) (· - u)
      rxLimit := Tab.upd 0 s.frames.rxLimit (laneCls l cls) (fun v => (v + u) % 16777216)
      freed := Tab.upd 0 s.frames.freed l (· + u) } }

/-- The oldest received frame of a lane that meets a test, removed from the lane and its units freed. -/
def State.rxTake (s : State) (l : Nat) (p : RxDone → Bool) : Option (RxDone × State) :=
  let q := Tab.get [] s.frames.rxQ l
  match q.find? p with
  | none => none
  | some f =>
    let s1 : State := { s with frames := { s.frames with rxQ := Tab.set [] s.frames.rxQ l (q.erase f) } }
    some (f, if creditedOn (s.laneRole l) f.cls then s1.rxFree l f.cls (frameUnits f.payload.length)
      else s1.rxFree l clsMgmt 0)

end Sys2Proof.Machine
end

