-- ==== Sys2Proof/Machine/MemErrors.lean ====
section
/-!
DEFINITION. The live Ledger image and its counters (R482, R483); what a read of the stacks meets: errors, poison, sparing (R340 to R343),
and the requests that the ports put on the queues of the stacks (R329 to R331).
-/

namespace Sys2Proof.Machine

/-! ## The Ledger image -/

/-- The `n`-byte little-endian field of the live image at offset `o`. -/
def State.led (s : State) (o n : Nat) : Nat := leNat ((List.range n).map (fun k => Tab.get 0#8 s.ledger.image (o + k)))

/-- Bytes of the image written. -/
def ledgerPut (img : Tab Byte) (o : Nat) : List Byte → Tab Byte
  | [] => img
  | b :: r => ledgerPut (Tab.set 0#8 img o b) (o + 1) r

/-- Bytes of the image. -/
def ledgerBytes (img : Tab Byte) (o n : Nat) : List Byte := (List.range n).map (fun k => Tab.get 0#8 img (o + k))

/-- An `n`-byte field of the live image written. -/
def State.ledSet (s : State) (o n v : Nat) : State :=
  { s with ledger := { s.ledger with image := ledgerPut s.ledger.image o (leBytes n v) } }

/-- A counter or bin of the image advanced by `k`; it saturates (R483). -/
def State.ledBump (s : State) (o n k : Nat) : State := s.ledSet o n (min (256 ^ n - 1) (s.led o n + k))

/-- The 16 counters of R483, by place: ON_SECONDS 0, DEN_SECONDS 1, DEN_ENTRIES 2, DRAFT_LOADS 3, DEADLINE_FAULTS 4,
FAILOVERS 5, HOTPLUG 6, SUPPLY_FAULTS 7, THERMAL_TRIPS 8, BADGER_TAKEOVERS 9, FW_UPDATES 10, RETIREMENTS 11,
FW_LOADS 12. -/
def State.ledCount (s : State) (k : Nat) : State := s.ledBump (0x40 + 8 * k) 8 1

/-- Stack errors of a SID (R340, R341, R483): CE then UE, per site and SID. -/
def State.ledStackErr (s : State) (site sid : Nat) (ue : Bool) : State :=
  s.ledBump (0x200 + ((site * 4 + sid) * 2 + b2n ue) * 4) 4 1

/-- The retirement byte of a site: bit 7 RETIRED, bits [1:0] SID (R343, R483). -/
def State.ledRetired (s : State) (site : Nat) : Option Nat :=
  let v := s.led (0x2C0 + site) 1
  if bit v 7 then some (v % 4) else none

/-! ## Errors, poison and sparing (R340 to R344) -/

/-- The rank an address names (before sparing) for a physical key: the retired rank for the spare. -/
def State.logicalSid (s : State) (site phys : Nat) : Nat :=
  if phys = 3 then s.get1 R.MEM_STATUS_RETIRED_SID site else phys

/-- Retirement of rank `sid` of a site (R343): with a spare available it starts migration, sets MIG_START, and counts
in the Ledger, where it is recorded. -/
def State.retireRank (s : State) (site sid : Nat) : State :=
  if s.get1 R.MEM_STATUS_SPARE site = 1 ∧ sid < 3 then
    let s1 := (s.put1 R.MEM_STATUS_RETIRED site 1).put1 R.MEM_STATUS_RETIRED_SID site sid
    let s2 := (s1.ledCount 11).ledSet (0x2C0 + site) 1 (128 + sid)
    if s.siteState site = siteSweeping then s2.put1 R.MEM_STATUS_SPARE site 3
    else
      let s3 := (s2.put1 R.MEM_STATUS_SPARE site 2).put1 R.MEM_MIG_PROGRESS site 0
      (s3.updSite site (fun x => { x with migSid := some sid, migStart := s.now, migBase := 0, migDone := 0 })).memEvt R.MEM_EVT_MIG_START site 2
  else s

/-- A failure of a rank that may need sparing (R342, R343): it retires the rank, or, with the spare in use or a
migration running, it cannot be spared and HEALTH.STACKS_OK falls. -/
def State.rankFails (s : State) (site sid : Nat) : State :=
  if !s.place.sparing then s
  else if s.get1 R.MEM_STATUS_SPARE site = 1 then s.retireRank site sid
  else if s.get1 R.MEM_STATUS_SPARE site ≥ 2 ∧ sid ≠ s.get1 R.MEM_STATUS_RETIRED_SID site then
    { s with stk := { s.stk with secondFail := true } }
  else s

/-- The location of an error latched (MEM_ERR_WHERE): KIND 1 data, 2 parity. -/
def State.errWhere (s : State) (site key kind : Nat) : State :=
  let rank := key / 536870912 % 4
  ((((s.put1 R.MEM_ERR_WHERE_SID site rank).put1 R.MEM_ERR_WHERE_BANK site (key % 536870912 / 1024 % 16)).put1
    R.MEM_ERR_WHERE_ROW site (rowOfKey key)).put1 R.MEM_ERR_WHERE_PCH site (pchOfKey key % 32)).put1
    R.MEM_ERR_WHERE_KIND site kind

/-- The per-SID error counters (MEM_CE_COUNT, MEM_UE_COUNT). -/
def ceField (sid : Nat) : Field :=
  match sid with
  | 0 => R.MEM_CE_COUNT_SID0
  | 1 => R.MEM_CE_COUNT_SID1
  | 2 => R.MEM_CE_COUNT_SID2
  | _ => R.MEM_CE_COUNT_SID3
def ueField (sid : Nat) : Field :=
  match sid with
  | 0 => R.MEM_UE_COUNT_SID0
  | 1 => R.MEM_UE_COUNT_SID1
  | 2 => R.MEM_UE_COUNT_SID2
  | _ => R.MEM_UE_COUNT_SID3

/-- A correctable error at a key (R340): corrected data is what memory already holds. -/
def State.readCe (s : State) (key : Nat) : State :=
  let site := siteOfKey key
  let sid := key / 536870912 % 4
  ((s.bump1 (ceField sid) site 1).ledStackErr site sid false).memEvt R.MEM_EVT_CE site 0

/-- An uncorrectable error at a key (R341): the unit is poisoned, counted, latched, and its rank may be retired. -/
def State.readUe (s : State) (key : Nat) : State :=
  let site := siteOfKey key
  let sid := key / 536870912 % 4
  let s1 := ((s.setPoison (key / 64) true).bump1 (ueField sid) site 1).ledStackErr site sid true
  ((s1.errWhere site key 1).memEvt R.MEM_EVT_UE site 1).rankFails site sid

/-- A parity failure that four retries did not clear (R342): a read is an uncorrectable error, a write is refused. -/
def State.parityFail (s : State) (key port : Nat) (write : Bool) : State :=
  let site := siteOfKey key
  let sid := key / 536870912 % 4
  let s1 := (s.errWhere site key 2).memEvt R.MEM_EVT_CA_FAIL site 1
  if write then (s1.bump1 R.MEM_PORT_REFUSED_OTHER port 1).rankFails site sid else (s1.readUe key).errWhere site key 2

/-! ## Requests of the ports (R329 to R331) -/

/-- The ranks of a site as a sweep or READY finds them (R343, R347): a rank retired in the Ledger is mapped onto the spare, with nothing to
copy; a migration under way is over. -/
def State.rankMap (s0 : State) (site : Nat) : State :=
  let s := s0.updSite site (fun x => { x with migSid := none })
  match s.ledRetired site with
  | some sid => ((s.put1 R.MEM_STATUS_RETIRED site 1).put1 R.MEM_STATUS_RETIRED_SID site sid).put1 R.MEM_STATUS_SPARE site 3
  | none => ((s.put1 R.MEM_STATUS_RETIRED site 0).put1 R.MEM_STATUS_RETIRED_SID site 0).put1 R.MEM_STATUS_SPARE site (b2n s.place.sparing)

/-- A placement sweep begins on a site (R326, R335, R347): its spare stands ready for a rank that fails in it. -/
def State.sweepBegins (s : State) (site : Nat) : State := (s.put1 R.MEM_STATUS_STATE site siteSweeping).rankMap site

/-- A read meets what stands in the cells of a unit (R341, R342): an error that no read had met yet. -/
def State.meet (s : State) (port key : Nat) : State :=
  match s.stk.latent.find? (fun e => e.1 == key / 64) with
  | none => s
  | some (_, parity) => if parity then s.parityFail key port false else s.readUe key

/-- The access units of a list of keys that a port reads, with the class and latency target of port `as_` (its own, but for a map walk,
which takes those of the access that needs it, R329). MEM_COMMAND_CYCLE serves them; the bytes move with the command that makes the
access (notes/assumptions/97.md), which meets what stands in the cells. -/
def State.ask (s : State) (port as_ : Nat) (keys : List Nat) : State :=
  keys.foldl (fun b k =>
    let a := b.meet port k
    a.enqueue ⟨port, a.portClass as_, a.get1 R.MEM_PORT_CFG_LATENCY as_, false, k, rowOfKey k, a.now, 0, [], false, false⟩) s

/-- The units of a write to a region that a port asks for, `s0` the state before it: each keeps what its unit held (R342, R346). `keep`
says which units, by their place among those touched. A unit
written in part is read first. -/
def State.askWrite (s s0 : State) (port : Nat) (r : Region) (o n : Nat) (keep : Nat → Bool) : State :=
  ((List.range (unitSpan o n)).filter keep).foldl (fun b k =>
    let at_ := (o / 64 + k) * 64
    let key := s0.keyOf (locate s0.place r at_)
    let whole := decide (o ≤ at_ ∧ at_ + 64 ≤ o + n)
    let a := if whole then b else b.meet port key
    a.enqueue ⟨port, a.portClass port, a.get1 R.MEM_PORT_CFG_LATENCY port, true, key, rowOfKey key, a.now, r.base + at_,
      (List.range 64).map (fun d => s0.rd (key + d)), s0.poisoned (key / 64), whole⟩) s

end Sys2Proof.Machine
end

