-- ==== Sys2Proof/Machine/Store.lean ====
section
/-!
DEFINITION. The store and its map (R351 to R371): translation through the map and its cache, walk faults, and access to
local stacks by requester port. An access made inside a command is completed within it (notes/assumptions/6.md).
-/

namespace Sys2Proof.Machine

/-- States of the store (R363). -/
def storeClosed : Nat := 0
def storeOpen : Nat := 1
def storeRemapping : Nat := 2

/-- Completion statuses (R284); 6 is the model's number for a shedding refusal (R346 gives none). -/
def stOk : Nat := 0
def stOffline : Nat := 1
def stClosed : Nat := 2
def stError : Nat := 3
def stPoisoned : Nat := 4
def stRetry : Nat := 5
def stShed : Nat := 6

/-- A translated target (R353, R355). -/
inductive Target where
  | loc (region off : Nat)
  | peer (node addr : Nat)
  | host (addr : Nat)
  | far (hank addr : Nat)
  | aper (off : Nat)
  /-- A walk fault: cause, level, entry (R365). -/
  | bad (cause level entry : Nat)
deriving DecidableEq, Repr

/-- Is a local target valid (R356): the region exists, none of its sites is absent or in FAULT, and the mapped page of
`page` bytes lies below its SIZE. -/
def State.localValid (s : State) (region off page : Nat) : Bool :=
  match s.place.region region with
  | none => false
  | some r => (sitesOf r.sites).all s.siteUsable && r.sites != 0 && decide (off + page ≤ r.size)

/-- The reserved bits of an entry are zero (R354, R355). -/
def entryReservedOk (e : Nat) : Bool :=
  bits e 5 3 == 0 &&
  (match bits e 0 3 with
   | 1 => bits e 45 11 == 0
   | 2 => bits e 14 2 == 0 && bits e 43 13 == 0
   | 3 => bits e 51 5 == 0
   | 4 => bits e 12 4 == 0 && bits e 43 13 == 0
   | 5 => bits e 14 42 == 0
   | _ => true)

/-- Does a leaf entry meet the alignment and placement rules of R355 at its level? -/
def leafAligned (level e : Nat) : Bool :=
  match bits e 0 3 with
  | 1 => if level = 1 then bits e 18 27 % 262144 == 0 else bits e 18 27 % 512 == 0
  | 2 => if level = 1 then bits e 16 9 == 0 else true
  | 3 => if level = 1 then bits e 8 9 == 0 else true
  | 4 => if level = 1 then bits e 16 9 == 0 else true
  | 5 => level == 2
  | _ => true

/-- A leaf entry resolved for an access (R354 to R356, R365, R366): causes are tried in ascending number. -/
def State.leaf (s : State) (port : Nat) (write : Bool) (level e a : Nat) : Target :=
  let page := if level = 1 then 1073741824 else 2097152
  let low := a % page
  let kind := bits e 0 3
  let fail := fun c => Target.bad c level e
  if kind = 0 then .bad 1 level 0
  else if kind = 1 ∧ !s.localValid (bits e 8 10) (bits e 18 27 * 4096) page then fail 4
  else if kind > 5 ∨ !entryReservedOk e ∨ !leafAligned level e ∨ (level = 2 ∧ bit e 3) ∨
      (kind = 2 ∧ bits e 8 6 = s.get R.MESH_NODE_ID) then fail 5
  else if write ∧ bit e 4 then fail 7
  else if (kind = 2 ∧ s.inLayout (bits e 8 6) ∧ (s.lanesTo 3 (bits e 8 6)).isEmpty ∧ !s.bitOf R.MESH_LOST_NODES (bits e 8 6)) ∨
      (kind = 4 ∧ s.get1 R.HANK_STATUS_ROLE (bits e 8 4) ≠ 5) then fail 8
  else if (kind = 5 ∧ port ≠ 33 ∧ port ≠ 35) ∨ (kind = 3 ∧ port = 32) ∨ (port = 9 ∧ kind ≠ 1) then fail 9
  else
    match kind with
    | 1 => .loc (bits e 8 10) (bits e 18 27 * 4096 + low)
    | 2 => .peer (bits e 8 6) (bits e 16 27 * 2097152 + low)
    | 3 => .host (bits e 8 43 * 2097152 + low)
    | 4 => .far (bits e 8 4) (bits e 16 27 * 2097152 + low)
    | _ => .aper (bits e 8 6 * 2097152 + low)

/-- The same below the level-1 entry `e1` (0 for a level-1 leaf): its RO refuses a write as the leaf's does (R354, R365 cause 7). -/
def State.leafUnder (s : State) (port : Nat) (write : Bool) (level e e1 a : Nat) : Target :=
  if level = 2 ∧ write ∧ bit e1 4 then .bad 7 1 e1 else s.leaf port write level e a

/-- Eight bytes of a region as a map entry, and whether their unit is poisoned (R357). -/
def State.readEntry (s : State) (r : Region) (o : Nat) : Nat × Bool :=
  let d := s.readRegion r o 8
  (leNat d.1, d.2)

/-- A walk of the built map (R353, R357, R365): target, leaf entry, its level, the level-1 entry of a level-2 leaf. -/
def State.walkBuilt (s : State) (port : Nat) (write : Bool) (a : Nat) : Target × Nat × Nat × Nat :=
  let w := a / 1073741824
  let bad := fun c l e => (Target.bad c l e, (0 : Nat), l, (0 : Nat))
  if w ≥ s.get R.STORE_ROOT_L1_COUNT then bad 1 1 0
  else
    match s.place.region (s.get R.STORE_ROOT_REGION) with
    | none => bad 1 1 0
    | some root =>
      let (e1, p1) := s.readEntry root (w * 8)
      if p1 then bad 6 1 0
      else if bit e1 3 then
        let rg := bits e1 8 10
        let off := bits e1 18 27 * 4096
        if bits e1 0 3 = 0 then bad 1 1 0
        else if bits e1 0 3 ≠ 1 then bad 2 1 e1
        else
          match s.place.region rg with
          | none => bad 3 1 e1
          | some r =>
            if r.use ≠ 6 ∨ off + 4096 > r.size then bad 3 1 e1
            else if !(sitesOf r.sites).all s.siteUsable then bad 4 1 e1
            else if !entryReservedOk e1 then bad 5 1 e1
            else
              let (e2, p2) := s.readEntry r (off + a / 2097152 % 512 * 8)
              if p2 then bad 6 2 0
              else (s.leafUnder port write 2 e2 e1 a, e2, 2, e1)
      else (s.leaf port write 1 e1 a, e1, 1, 0)

/-- A walk of the map in force: the default map has no tables (R360). -/
def State.walk (s : State) (port : Nat) (write : Bool) (a : Nat) : Target × Nat × Nat × Nat :=
  if s.is R.STORE_STATUS_DEFAULT then
    match s.place.regions with
    | [] => (.bad 1 1 0, 0, 1, 0)
    | r :: _ => if a < r.size then (.loc r.num a, 0, 0, 0) else (.bad 1 1 0, 0, 1, 0)
  else s.walkBuilt port write a

/-- The 32-byte fault record of R367. -/
def State.faultRecord (s : State) (addr cause port level entry : Nat) (write : Bool) : List Byte :=
  leBytes 8 addr ++ leBytes 8 (if cause = 1 ∨ cause = 6 then 0 else entry) ++ leBytes 1 cause ++ leBytes 1 port ++
    leBytes 1 level ++ leBytes 1 (b2n write) ++ zeros 4 ++ leBytes 8 s.now

/-- Is a record of the same port, cause and 2 MiB page queued (R367)? -/
def State.faultQueued (s : State) (addr cause port : Nat) : Bool :=
  s.store.faults.any (fun f => fld f 17 1 == port && fld f 16 1 == cause && fld f 0 8 / 2097152 == addr / 2097152)

/-- A walk fault taken (R367): counted, event 0x1E0, logged unless queued already, or logged when its record was first tried (R368), or the log of 16 is full. -/
def State.walkFault (s : State) (addr cause port level entry : Nat) (write : Bool) : State :=
  let rec_ := s.faultRecord addr cause port level entry write
  let s1 := s.bump R.STORE_FAULT_COUNT_COUNT 1
  let s3 := (s1.noteDetail 0x1E0 rec_).storeEvt 0
  if s.faultQueued addr cause port || s.store.logged.contains (port, addr) then s3
  else if s.store.faults.length < 16 then
    let s4 := { s3 with store := { s3.store with faults := s3.store.faults ++ [rec_] } }
    s4.put R.STORE_FAULT_CTL_COUNT s4.store.faults.length
  else (s3.bump R.STORE_FAULT_CTL_DROPPED 1).storeEvt 4

/-- A record that is to be retried has failed at an address, or has been written (R368): a fault of its retry is not logged again. -/
def State.noteRetry (s : State) (port a n : Nat) (failed : Bool) : State :=
  let at_ := fun (e : Nat × Nat) => e.1 == port && decide (a ≤ e.2) && decide (e.2 < a + n)
  let rest := s.store.logged.filter (fun e => !at_ e)
  let mine := (s.store.faults.filter (fun f => fld f 17 1 == port && at_ (port, fld f 0 8))).map (fun f => (port, fld f 0 8))
  let kept := s.store.logged.filter at_
  { s with store := { s.store with logged := if failed then rest ++ (kept ++ mine).dedup else rest } }

/-! ## The cache -/

/-- The cached translation of an address, if any (R361). -/
def State.cached (s : State) (a : Nat) : Option CacheLine :=
  s.store.cache.find? (fun c => if c.level = 1 then c.page / 512 == a / 1073741824 else c.page == a / 2097152)

/-- A translation put in the cache: the least recently used way of a full set of 16 is replaced (R361). -/
def State.cachePut (s : State) (a entry level entry1 : Nat) : State :=
  let set := Config.cacheSet (a / 2097152) % 256
  let line : CacheLine := ⟨set, a / 2097152, level, entry, bits entry 56 8, entry1, s.store.stamp⟩
  let same := s.store.cache.filter (fun c => c.set == set)
  let cache :=
    if same.length < 16 then s.store.cache
    else
      let oldest := same.foldl (fun m c => min m c.stamp) s.store.stamp
      s.store.cache.filter (fun c => !(c.set == set && c.stamp == oldest))
  { s with store := { s.store with cache := cache ++ [line], stamp := s.store.stamp + 1 } }

/-- A hit's use stamped (least-recently-used order). -/
def State.cacheUse (s : State) (line : CacheLine) : State :=
  { s with store := { s.store with
      cache := s.store.cache.map (fun (c : CacheLine) => if c = line then { c with stamp := s.store.stamp } else c)
      stamp := s.store.stamp + 1 } }

/-- The cache cleared (R358, R363). A pending invalidate is completed by it (R370). -/
def State.cacheClear (s : State) : State :=
  let s1 := { s with store := { s.store with cache := [], walks := s.store.walks.map (fun (w : Walk) => { w with uncached := true }) } }
  if s1.is R.STORE_STATUS_INV_BUSY then (s1.put R.STORE_STATUS_INV_BUSY 0).storeEvt 3 else s1

/-- The units that a walk for an access of `port` reads, asked for on port 36 with the class and urgency of that access (R329, R353):
`level` 1 the level-1 table alone. -/
def State.askWalk (s : State) (port a level : Nat) : State :=
  match s.place.region (s.get R.STORE_ROOT_REGION) with
  | none => s
  | some root =>
    let o1 := a / 1073741824 * 8
    let e1 := (s.readEntry root o1).1
    let s1 := s.ask 36 port (s.unitKeys root o1 8)
    if level = 1 then s1
    else
      match s.place.region (bits e1 8 10) with
      | none => s1
      | some r => s1.ask 36 port (s.unitKeys r (bits e1 18 27 * 4096 + a / 2097152 % 512 * 8) 8)

/-- Translation of one address inside a command: a hit, or a miss with its walk (R361). The default map is not
cached: it has no entries. -/
def State.translate (s : State) (port : Nat) (write : Bool) (a : Nat) : Target × State :=
  if s.is R.STORE_STATUS_DEFAULT then ((s.walk port write a).1, s.bump R.STORE_CACHE_MISS_COUNT 1)
  else
    match s.cached a with
    | some line => (s.leafUnder port write line.level line.entry line.entry1 a, (s.cacheUse line).bump R.STORE_CACHE_HIT_COUNT 1)
    | none =>
      let s1 := (s.bump R.STORE_CACHE_MISS_COUNT 1).askWalk port a (s.walk port write a).2.2.1
      let (t, e, l, g) := s1.walk port write a
      match t with
      | .bad _ _ _ => (t, s1)
      | _ => (t, s1.cachePut a e l g)

/-! ## Local stacks by port -/

/-- Does shedding refuse a port's request at a site (R346)? Class 1, at level 2 or 3. -/
def State.shedAt (s : State) (port site : Nat) : Bool := s.portClass port == 1 && decide (2 ≤ s.get1 R.MEM_STATUS_SHED site)

/-- The bytes of a range of a region whose site shedding refuses to a port, by their place in the range. -/
def State.shedBytes (s : State) (port : Nat) (r : Region) (o n : Nat) : List Nat :=
  if (sitesOf r.sites).any (s.shedAt port) then
    (List.range n).filter (fun k => s.shedAt port (locate s.place r ((o + k) / 64 * 64)).site)
  else []

/-- Status with which a port's access to bytes of a region is met: READY sites serve it; others complete with STORE_CLOSED
(R326, R345); FAULT counts as other refusals (R332). -/
def State.localStatus (s : State) (port : Nat) (r : Region) (o n : Nat) : Nat :=
  if !s.sitesReady r.sites then stClosed else if (s.shedBytes port r o n).isEmpty then stOk else stShed

/-- Refused units counted (R332). -/
def State.refusedUnits (s : State) (port status n : Nat) : State :=
  if status = stShed then s.bump1 R.MEM_PORT_REFUSED_SHED port n else s.bump1 R.MEM_PORT_REFUSED_OTHER port n

/-- Runs of consecutive numbers in an ascending list: first and count. -/
def runsOf : List Nat → List (Nat × Nat)
  | [] => []
  | k :: r =>
    match runsOf r with
    | (b, n) :: t => if b = k + 1 then (k, n + 1) :: t else (k, 1) :: (b, n) :: t
    | [] => [(k, 1)]

/-- A port's write to a region by offset (ports 0 to 6 never walk the map, R351). Shedding refuses the units of some sites only: the
others are written (R346). -/
def State.portWrite (s : State) (port : Nat) (r : Region) (o : Nat) (d : List Byte) : State × Nat :=
  let st := s.localStatus port r o d.length
  if st = stOk then ((s.writeRegion r o d).askWrite s port r o d.length (fun _ => true), stOk)
  else if st = stShed then
    let gone := s.shedBytes port r o d.length
    let kept := runsOf ((List.range d.length).filter (fun k => !gone.contains k))
    let n := ((gone.map (fun k => (o + k) / 64)).dedup).length
    let s1 := kept.foldl (fun a x => a.writeRegion r (o + x.1) ((d.drop x.1).take x.2)) s
    ((s1.askWrite s port r o d.length (fun k => !s.shedAt port (locate s.place r ((o / 64 + k) * 64)).site)).refusedUnits port stShed n,
      stShed)
  else (s.refusedUnits port st (unitSpan o d.length), st)

/-- A port's read of a region by offset: bytes, poison, status. Shedding refuses the units of some sites only, and the read has the status
of those (R346). -/
def State.portRead (s : State) (port : Nat) (r : Region) (o n : Nat) : List Byte × Bool × Nat × State :=
  let st := s.localStatus port r o n
  if st = stOk then
    let s1 := s.ask port port (s.unitKeys r o n)
    let d := s1.readRegion r o n
    (d.1, d.2, stOk, s1)
  else if st = stShed then
    let shed := fun (k : Nat) => s.shedAt port (locate s.place r ((o / 64 + k) * 64)).site
    let us := List.range (unitSpan o n)
    let keys := (us.filter (fun k => !shed k)).map (fun k => s.keyOf (locate s.place r ((o / 64 + k) * 64)))
    (zeros n, false, stShed, (s.ask port port keys).refusedUnits port stShed (us.filter shed).length)
  else (zeros n, false, st, s.refusedUnits port st (unitSpan o n))

/-- Is a store byte range inside the protected staging range (R64)? -/
def State.stagingHit (s : State) (a n : Nat) : Bool :=
  match s.draft.prot with
  | none => false
  | some (b, l) => decide (a < b + l ∧ b < a + n)

/-- The segments of a transfer: cut at every 2 MiB boundary (R352). Fuelled by the number of segments. -/
def segmentsF : Nat → Nat → Nat → List (Nat × Nat)
  | 0, _, _ => []
  | f + 1, a, n =>
    if n = 0 then []
    else
      let m := min n (2097152 - a % 2097152)
      (a, m) :: segmentsF f (a + m) (n - m)

def segments (a n : Nat) : List (Nat × Nat) := segmentsF (n / 2097152 + 2) a n

/-- The lane for requests to a peer; none for a node that no lane reaches or that the layout leaves out, whose requests complete
with status 1 (R295, R303). -/
def State.peerLane (s : State) (nd : Nat) : Option Nat := if s.inLayout nd then s.laneTo nd else none

/-- Do requests to host memory leave (R438)? Otherwise they complete with status 1. -/
def State.hostUp (s : State) : Bool := s.is R.PCIE_STATUS_UP && !s.power.d3hot

/-- Poisoned TLPs received are counted (R437). -/
def State.pciePoison (s : State) : State := (s.bump R.PCIE_ERR_POISON 1).pcieEvt 4

/-- A read of host memory that had no completion within 10 ms (R437). -/
def State.pcieCto (s : State) : State := (s.bump R.PCIE_ERR_CTO 1).pcieEvt 3

/-- Reads of host memory that no completion has ended complete with UNIT_OFFLINE, as the link or the function goes (R438). -/
def State.hostReadsEnd (s : State) : State :=
  s.store.hostReads.foldl (fun a e => a.emit (.storeDone e.1 e.2.1 stOffline [] false)) { s with store := { s.store with hostReads := [] } }

/-- The access units of a stored range poisoned (R341, R422). -/
def State.poisonRange (s : State) (r : Region) (o n : Nat) : State :=
  (unitsOf (s.regionKeys r o n)).foldl (fun a u => a.setPoison u true) s

/-- Units of a port that a walk fault ends at a site in FAULT (cause 4), or that no unit takes, are counted (R332). -/
def State.faultUnits (s : State) (port cause n : Nat) : State := if cause = 4 then s.refusedUnits port stError n else s

/-- A write segment of a requester, its target not the register aperture (R352, R356, R364, R367, R368); poisoned data arrives
poisoned (R422, R437). -/
def State.segWriteP (s : State) (port a : Nat) (d : List Byte) (poisoned : Bool) : State × Nat :=
  if s.get R.STORE_STATUS_STATE ≠ storeOpen then (s.refusedUnits port stClosed (unitSpan a d.length), stClosed)
  else if s.stagingHit a d.length then (s.raise 0x1C7, stError)
  else
    let (t, s1) := s.translate port true a
    match t with
    | .bad c l e => ((s1.walkFault a c port l e true).faultUnits port c (unitSpan a d.length), stError)
    | .loc rg o =>
      match s1.place.region rg with
      | none => (s1, stError)
      | some r =>
        let (s2, st) := s1.portWrite port r o d
        (if poisoned ∧ st = stOk then s2.poisonRange r o d.length else s2, st)
    | .peer nd x =>
      match s1.peerLane nd with
      | none => (s1.refusedUnits port stOffline (unitSpan a d.length), stOffline)
      | some l => (s1.sendWrite l 0x09 x d poisoned, stOk)
    | .host x => if s1.hostUp then (s1.emit (.extWrite x d poisoned), stOk)
      else (s1.refusedUnits port stOffline (unitSpan a d.length), stOffline)
    | .far h x =>
      match s1.hankLane h with
      | none => (s1.refusedUnits port stOffline (unitSpan a d.length), stOffline)
      | some l => (s1.sendWrite l 0x0B x d poisoned, stOk)
    | .aper _ => (s1, stError)

/-- A write segment of whole data. -/
def State.segWrite (s : State) (port a : Nat) (d : List Byte) : State × Nat := s.segWriteP port a d false

/-- The bytes of a write segment that would not be stored, by their place in it: those at sites that shedding refuses, or all of them
where the segment fails as a whole. -/
def State.lostBytes (s : State) (port a n : Nat) : List Nat :=
  if s.get R.STORE_STATUS_STATE ≠ storeOpen then List.range n
  else
    match (s.translate port true a).1 with
    | .loc rg o =>
      match s.place.region rg with
      | some r => if s.sitesReady r.sites then s.shedBytes port r o n else List.range n
      | none => List.range n
    | _ => List.range n

/-- A read segment: bytes, poison, status. `ext` is what a target outside the local stacks returns; to a peer or a far store the read
requests go out as well (R283), whose completions bring those bytes. -/
def State.segRead (s : State) (port a n : Nat) (ext : List Byte) : List Byte × Bool × Nat × State :=
  if s.get R.STORE_STATUS_STATE ≠ storeOpen then (zeros n, false, stClosed, s.refusedUnits port stClosed (unitSpan a n))
  else
    let (t, s1) := s.translate port false a
    match t with
    | .bad c l e => (zeros n, false, stError, (s1.walkFault a c port l e false).faultUnits port c (unitSpan a n))
    | .loc rg o =>
      match s1.place.region rg with
      | none => (zeros n, false, stError, s1)
      | some r => s1.portRead port r o n
    | .aper _ => (zeros n, false, stError, s1)
    | .peer nd x =>
      match s1.peerLane nd with
      | none => (zeros n, false, stOffline, s1.refusedUnits port stOffline (unitSpan a n))
      | some l => (padTo n ext, false, stOk, s1.sendReads l 0x09 x a n port nd)
    | .far h x =>
      match s1.hankLane h with
      | none => (zeros n, false, stOffline, s1.refusedUnits port stOffline (unitSpan a n))
      | some l => (padTo n ext, false, stOk, s1.sendReads l 0x0B x a n port ((s1.announce l).node % 64))
    | .host x =>
      if s1.hostUp then
        if n ≤ ext.length then (padTo n ext, false, stOk, s1.emit (.extRead x n)) else (zeros n, false, stError, (s1.emit (.extRead x n)).pcieCto)
      else (zeros n, false, stOffline, s1.refusedUnits port stOffline (unitSpan a n))

/-- The oldest request of a hank that waits for a TAG, sent if one is free now. -/
def State.sendWaiting (s : State) (h : Nat) : State :=
  match s.frames.reqQ.find? (fun q => q.lane / 8 == h) with
  | none => s
  | some q => if (s.freeTag h).isSome then
      ({ s with frames := { s.frames with reqQ := s.frames.reqQ.erase q } } : State).sendRequest q
    else s

/-- A request ended: its requester gets status and data, a read the bytes it asked for; its TAG serves another request. -/
def State.endRequest (s : State) (o : Outstanding) (status : Nat) (d : List Byte) : State :=
  let got := if o.op = 1 then (d.drop (o.addr % 64)).take o.len else d
  (({ s with frames := { s.frames with outst := s.frames.outst.erase o } } : State).sendWaiting o.hank).emit
    (.storeDone o.port o.addr status got (status == stPoisoned))

/-- A flush sent on each lane that has carried writes since its last one (R283). -/
def State.flushLanes (s : State) (port : Nat) : State :=
  let ls := s.frames.laneWrote.map (·.1)
  let s1 : State := { s with frames := { s.frames with laneWrote := [] } }
  ls.foldl (fun a l => a.sendRequest ⟨l, if a.laneRole l = 5 then 0x0B else 0x09, 3, 0, 0, 0, port, (a.announce l).node % 64, false⟩) s1

/-- A transfer's writes, segment by segment, without a flush; a segment that fails does not stop the others (R352). Answers the first
status that is not success. -/
def State.storePut (s : State) (port a : Nat) (d : List Byte) (poisoned : Bool) : State × Nat :=
  (segments a d.length).foldl (fun (acc : State × Nat) sg =>
    let r := acc.1.segWriteP port sg.1 ((d.drop (sg.1 - a)).take sg.2) poisoned
    (r.1, if acc.2 = stOk then r.2 else acc.2)) (s, stOk)

/-- A transfer's writes, and a flush behind them. -/
def State.storeWrite (s : State) (port a : Nat) (d : List Byte) : State × Nat :=
  let r := s.storePut port a d false
  (r.1.flushLanes port, r.2)

/-- What a transfer's reads gave: bytes, poison, first failing status, the address it failed at. -/
structure ReadResult where
  data : List Byte
  poisoned : Bool
  status : Nat
  failAddr : Nat
  st : State
deriving DecidableEq, Repr

/-- A transfer's reads, segment by segment. -/
def State.storeRead (s : State) (port a n : Nat) (ext : List Byte) : ReadResult :=
  (segments a n).foldl (fun (acc : ReadResult) sg =>
    let (d, p, st, s1) := acc.st.segRead port sg.1 sg.2 (ext.drop (sg.1 - a))
    { data := acc.data ++ d, poisoned := acc.poisoned || p,
      status := if acc.status = stOk then st else acc.status,
      failAddr := if acc.status = stOk ∧ (st ≠ stOk ∨ p) ∧ !acc.poisoned then sg.1 else acc.failAddr,
      st := s1 }) ⟨[], false, stOk, a, s⟩

end Sys2Proof.Machine
end

