-- ==== Sys2Proof/Machine/DraftFormat.lean ====
section
/-!
DEFINITION. The format checks of a staged stream: header, directory, checksums, IDENT and items (R33 to R62, R65 steps
1 to 5, R71), and the rules of other chapters that are checked on one item (R234, R317, R329, R396).

Where a rule gives no order within one item, the model checks the item's structure, then its ranges in offset order,
then its reserved bits in offset order (notes/assumptions/8.md).
-/

namespace Sys2Proof.Machine

/-- A refusal as the registers report it (R66, R71). -/
structure Refuse where
  code : Nat
  section_ : Nat
  item : Nat
  detail : Nat
deriving DecidableEq, Repr

/-- A failure that concerns no single section (R66). -/
def refuseAll (code detail : Nat) : Refuse := ⟨code, 0xFF, 0xFFFF, detail % 2 ^ 32⟩

/-- A directory entry (R35). -/
structure DirEnt where
  type : Nat
  offset : Nat
  slen : Nat
  items : Nat
deriving DecidableEq, Repr

/-- The first failure of a list of checks. -/
def firstFail {ε : Type} (l : List (Option ε)) : Option ε := l.findSome? id

/-- A check: nothing when the condition holds. -/
def need {ε : Type} (c : Bool) (e : ε) : Option ε := if c then none else some e

/-- The first nonzero byte of `l`, as an offset from `o`. -/
def nonzeroFrom (o : Nat) (l : List Byte) : Option Nat := (findIdx? (fun b => b != 0#8) l).map (· + o)

/-! ## Steps 1 and 2: header and directory -/

def hdrLength (st : List Byte) : Nat := fld st 8 4
def hdrKind (st : List Byte) : Nat := byteAt st 6
def hdrSections (st : List Byte) : Nat := byteAt st 7

/-- Step 1 (R34, R65). -/
def checkHeader (st : List Byte) (stageLen : Nat) : Option Refuse :=
  let len := hdrLength st
  firstFail [
    need (fld st 0 4 == 0x52445659) (refuseAll 0x0101 (fld st 0 4)),
    need (fld st 4 2 == 0x0100) (refuseAll 0x0102 (fld st 4 2)),
    need (decide (hdrKind st ≤ 1)) (refuseAll 0x0102 (hdrKind st)),
    need (len % 64 == 0 && decide (len ≤ 0x10000000) && len == stageLen) (refuseAll 0x0103 len),
    (nonzeroFrom 12 ((st.drop 12).take 52)).map (refuseAll 0x010B)]

/-- Directory entry `k`. -/
def dirEnt (st : List Byte) (k : Nat) : DirEnt :=
  let o := 64 + 16 * k
  ⟨fld st o 2, fld st (o + 4) 4, fld st (o + 8) 4, fld st (o + 12) 4⟩

def directory (st : List Byte) : List DirEnt := (List.range (hdrSections st)).map (dirEnt st)

/-- First byte after the padded directory. -/
def dirEnd (n : Nat) : Nat := 64 + roundUp (16 * n) 64

/-- The section types of R36. -/
def knownTypes : List Nat := [1, 2, 3, 4, 5, 6, 7, 8, 9, 10, 15]
def requiredTypes (kind : Nat) : List Nat := if kind = 0 then [1, 2, 3, 4, 5, 6, 7, 8, 15] else [1, 15]

/-- One directory entry: type, order, reserved bytes, place (R33, R35, R36). `prev` is the type before it, `at_` the byte
where its section has to begin. No rule orders the checks within step 2: here each entry's in the order of its bytes, then the padding,
then the section set (DESIGN CHOICE, notes/assumptions/75.md); a failure of an entry is reported with SECTION 0xFF (DESIGN CHOICE,
notes/assumptions/112.md). -/
def checkDirEnt (st : List Byte) (k prev at_ len kind : Nat) (last : Bool) : Option Refuse :=
  let o := 64 + 16 * k
  let e := dirEnt st k
  let bad := fun (c b : Nat) => refuseAll c b
  firstFail [
    need (decide (prev < e.type) && knownTypes.contains e.type) (bad 0x0104 o),
    need (!(kind == 1 && e.type == secMemplan)) ⟨0x0112, k, 0xFFFF, e.type⟩,
    (nonzeroFrom (o + 2) ((st.drop (o + 2)).take 2)).map (bad 0x010B),
    need (e.offset == at_) (bad 0x0104 (o + 4)),
    need (e.slen % 64 == 0 && decide (at_ + e.slen ≤ len) && (!last || at_ + e.slen == len)) (bad 0x0104 (o + 8))]

/-- The entries one after another. -/
def checkDirFrom (st : List Byte) (len kind : Nat) : Nat → Nat → Nat → Nat → Option Refuse
  | 0, _, _, _ => none
  | n + 1, k, prev, at_ =>
    match checkDirEnt st k prev at_ len kind (n == 0) with
    | some r => some r
    | none => checkDirFrom st len kind n (k + 1) (dirEnt st k).type (at_ + (dirEnt st k).slen)

/-- Step 2 (R33 to R36): count, entries, padding, section set. R65 puts SECTIONS in no step: a count outside 2 to 11 is refused
here, with 0x0104 and the byte of SECTIONS (DESIGN CHOICE, notes/assumptions/74.md). -/
def checkDirectory (st : List Byte) : Option Refuse :=
  let n := hdrSections st
  let types := (directory st).map (·.type)
  if n < 2 ∨ 11 < n then some (refuseAll 0x0104 7)
  else
    match checkDirFrom st (hdrLength st) (hdrKind st) n 0 0 (dirEnd n) with
    | some r => some r
    | none =>
      firstFail [
        (nonzeroFrom (64 + 16 * n) ((st.drop (64 + 16 * n)).take (dirEnd n - (64 + 16 * n)))).map (refuseAll 0x010B),
        ((requiredTypes (hdrKind st)).find? (fun t => !types.contains t)).map (refuseAll 0x0108),
        need (hdrKind st == 0 || types.any (fun t => t != 1 && t != 15)) (refuseAll 0x0108 0)]

/-! ## Step 3: checksums (R62) -/

/-- The bytes of a section. -/
def sectionBytes (st : List Byte) (e : DirEnt) : List Byte := (st.drop e.offset).take e.slen

/-- Step 3: each CRC-32C in directory order, then the SHA-384 of everything before CHECK. -/
def checkSums (st : List Byte) : Option Refuse :=
  let ds := directory st
  let c := ds.getLastD ⟨0, 0, 0, 0⟩
  let n := ds.length - 1
  let body := (st.drop (c.offset + 8)).take (roundUp (4 * n) 8 + 48)
  let crcs := (List.range n).map (fun k =>
    let v := crc32c (sectionBytes st (dirEnt st k))
    need (v == fld body (4 * k) 4) (⟨0x0105, k, 0xFFFF, v⟩ : Refuse))
  match firstFail crcs with
  | some r => some r
  | none => need (sha384 (st.take c.offset) == (body.drop (roundUp (4 * n) 8)).take 48) (refuseAll 0x0106 0)

/-- The digest that CHECK holds. -/
def checkDigest (st : List Byte) : List Byte :=
  let ds := directory st
  let c := ds.getLastD ⟨0, 0, 0, 0⟩
  (st.drop (c.offset + 8 + roundUp (4 * (ds.length - 1)) 8)).take 48

/-! ## Step 5: the items -/

/-- A range check within an item: byte offset, bytes, lowest bit, width, least and largest value. -/
structure FRange where
  o : Nat
  n : Nat
  lo : Nat
  w : Nat
  min : Nat
  max : Nat
deriving DecidableEq, Repr

/-- A whole-field range. -/
def fr (o n min max : Nat) : FRange := ⟨o, n, 0, 8 * n, min, max⟩

/-- Failures inside one item: code and detail. -/
abbrev Bad := Option (Nat × Nat)

/-- The first field of `l` out of its range: 0x010A with the byte of its lowest bit (R71). -/
def rangesAt (b : List Byte) (at_ : Nat) (l : List FRange) : Bad :=
  l.findSome? (fun f =>
    let v := bits (fld b f.o f.n) f.lo f.w
    if f.min ≤ v ∧ v ≤ f.max then none else some (0x010A, at_ + f.o + f.lo / 8))

/-- Reserved fields: byte offset, bytes, lowest bit, width. -/
def reservedAt (b : List Byte) (at_ : Nat) (l : List (Nat × Nat × Nat × Nat)) : Bad :=
  l.findSome? (fun f =>
    let v := bits (fld b f.1 f.2.1) f.2.2.1 f.2.2.2
    if v = 0 then none
    else
      let low := ((List.range f.2.2.2).find? (bit v)).getD 0
      some (0x010B, at_ + f.1 + (f.2.2.1 + low) / 8))

/-- Reserved whole bytes. -/
def rz (o n : Nat) : Nat × Nat × Nat × Nat := (o, n, 0, 8 * n)

/-- A condition on one field: 0x010A at a byte. -/
def fieldIf (c : Bool) (o : Nat) : Bad := need c (0x010A, o)

/-- Checks in order, the first failure. -/
def Bad.then_ (a b : Bad) : Bad := match a with
  | some r => some r
  | none => b

/-- An entry check over entries of `w` bytes from byte `o` of the item. -/
def entriesFrom (f : List Byte → Nat → Bad) : List (List Byte) → Nat → Nat → Bad
  | [], _, _ => none
  | e :: r, o, w => match f e o with
    | some x => some x
    | none => entriesFrom f r (o + w) w

/-- A classification entry at stream byte `o` (R41). -/
def classEntryBad (e : List Byte) (o : Nat) : Bad :=
  let rng := if ceValid e then rangesAt e o [fr 6 2 1 4096, fr 8 4 1 0xFFFFFFFF, fr 12 4 1 0xFFFFFFFF] else none
  rng.then_ (reservedAt e o [(0, 2, 12, 3), (2, 1, 3, 5), (3, 1, 4, 4)])

/-- A slot-map entry (R42). -/
def slotEntryBad (e : List Byte) (o : Nat) : Bad :=
  let rng := if seEnable e then rangesAt e o [fr 4 2 1 4096, ⟨6, 1, 0, 4, 0, 12⟩] else none
  rng.then_ (reservedAt e o [(0, 2, 12, 3), (3, 1, 6, 2), (6, 1, 4, 4), (7, 1, 1, 7)])

/-- The patch form of those entries: a 4-byte entry number below `n` and 4 reserved bytes before each (R73). -/
def patchEntryBad (n : Nat) (f : List Byte → Nat → Bad) (e : List Byte) (o : Nat) : Bad :=
  ((rangesAt e o [fr 0 4 0 (n - 1)]).then_ (f (e.drop 8) (o + 8))).then_ (reservedAt e o [rz 4 4])

/-- A line group (R43): a list entry out of range reports its own byte, a strided slot the byte of FIRST. With STRIDE 0 FIRST may hold
anything (DESIGN CHOICE, notes/assumptions/111.md). -/
def groupBad (b : List Byte) (o : Nat) : Bad :=
  let count := fld b 10 2
  let stride := fld b 12 2
  let slots := groupSlotsOf b
  let nums := if stride = 0 then (findIdx? (fun s => decide (4096 ≤ s)) slots).map (fun k => (0x010A, o + 16 + 2 * k))
    else need (slots.all (fun s => decide (s < 4096))) (0x010A, o + 8)
  (((rangesAt b o [fr 10 2 1 1024]).then_ nums).then_ (reservedAt b o [rz 14 2])).then_
    (if stride = 0 then (nonzeroFrom (o + 16 + 2 * count) (b.drop (16 + 2 * count))).map (fun x => (0x010B, x)) else none)

/-- A ply item (R45, R46). -/
def plyBad (b : List Byte) (o : Nat) : Bad :=
  let lv := plyLevel b
  let idxMax := if lv ≤ 5 then 4 ^ (5 - lv) - 1 else 0
  (((((fieldIf (decide (plyIndex b ≤ idxMax)) (o + 8)).then_
    (fieldIf (decide (lv ≤ 5) || plyNode b % 4 ^ (lv - 5) == 0) (o + 10))).then_
    (fieldIf (decide (lv ≤ 8)) (o + 11))).then_
    (rangesAt b o [fr 12 1 0 3, fr 13 1 0 2, fr 18 2 1 65535])).then_
    (reservedAt b o [(8, 4, 10, 12), rz 20 4]))

/-- The integration item (R47). BIAS_RE, BIAS_IM and RESIDUAL that PRELOAD does not use may hold any value and are ignored
(DESIGN CHOICE, notes/assumptions/78.md). -/
def integrationBad (b : List Byte) (o : Nat) : Bad :=
  let t := fld b 8 4
  (((fieldIf (decide (64 ≤ t ∧ t ≤ 65536) && t % 64 == 0) (o + 8)).then_
    (rangesAt b o [fr 12 2 1 65535, fr 14 2 1 (fld b 12 2), fr 16 1 0 1, fr 17 1 0 1, fr 18 1 0 2])).then_
    (reservedAt b o [rz 19 1, rz 30 10]))

/-- A tile-step entry (R49). -/
def stepBad (e : List Byte) (o : Nat) : Bad :=
  let k := byteAt e 0 % 4
  (((fieldIf (decide (k ≤ 2)) o).then_ (fieldIf (k != 2 || byteAt e 2 == 0) (o + 2))).then_
    (fieldIf (k == 2 || fld e 4 2 == 0) (o + 4))).then_ (reservedAt e o [(0, 1, 2, 6), rz 3 1, rz 6 2])

/-- A treadling item (R48). -/
def treadlingBad (b : List Byte) (o : Nat) : Bad :=
  ((rangesAt b o [fr 8 2 1 64]).then_ (entriesFrom stepBad (chunks 8 (b.drop 16)) (o + 16) 8)).then_
    (reservedAt b o [rz 10 6])

/-- A hank entry (R50). -/
def hankBad (e : List Byte) (o : Nat) : Bad :=
  (rangesAt e o [⟨0, 4, 0, 4, 0, 5⟩, ⟨0, 4, 4, 4, 0, 2⟩]).then_ (reservedAt e o [rz 2 2])

/-- A region item (R51): BASE's byte when bits [63:48] are set, else SIZE's. -/
def regionBad (b : List Byte) (o : Nat) : Bad :=
  let base := fld b 8 8
  let size := fld b 16 8
  let mib2 := 2097152
  ((((fieldIf (decide (base < 2 ^ 48)) (o + 8)).then_
    (fieldIf (base % mib2 == 0 && size % mib2 == 0 && decide (0 < size) && decide (base + size ≤ 2 ^ 48)) (o + 16))).then_
    (rangesAt b o [fr 24 1 0 7])).then_ (reservedAt b o [rz 25 1, (26, 2, 6, 10), rz 28 4]))

/-- May MEMPLAN name port `p` with class `c` (R329)? -/
def portAllowed (p c : Nat) : Bool :=
  if p ≤ 9 ∨ (16 ≤ p ∧ p ≤ 31) then decide (c ≤ 2) else if 32 ≤ p ∧ p ≤ 35 then c == 2 else false

/-- A decoder entry (R54). -/
def decEntryBad (hdr e : List Byte) (o : Nat) : Bad :=
  let v := leNat e
  let pos := bits v 0 16
  let w := bits v 16 5
  let swap := bit v 23
  firstFail [
    fieldIf (decide (pos + w ≤ 8 * decGrain hdr) && (!swap || pos % 8 == 0)) o,
    fieldIf (decide (1 ≤ w ∧ w ≤ 16) && (w != 16 || bit v 21) && (!(decMode hdr == 1) || !bit v 22) && (!swap || w == 16))
      (o + 2),
    fieldIf (decide (bits v 24 8 < decCg hdr)) (o + 3),
    fieldIf (decide (bits v 32 8 < decSg hdr)) (o + 4)]

/-- (CH, SAMP, IMAG) of a decoder entry. -/
def decTarget (v : Nat) : Nat × Nat × Nat := (bits v 24 8, bits v 32 8, bits v 22 1)

/-- Two entries of a decoder that name the same component: the lower number (R54, R71). -/
def decDup (l : List Nat) : Option Nat :=
  (List.range l.length).findSome? (fun k =>
    (List.range k).find? (fun j => decTarget (l.getD j 0) == decTarget (l.getD k 0)))

/-- A decoder item (R53, R54). Two entries of one item that name the same component are refused here, at step 5, with 0x010C: R65 lists
0x010C under step 6 for collisions between items, and these are not (DESIGN CHOICE, notes/assumptions/80.md). -/
def decoderBad (b : List Byte) (o : Nat) : Bad :=
  let es := chunks 8 (b.drop 16)
  firstFail [
    rangesAt b o [fr 8 2 1 256, fr 10 1 1 64, fr 11 1 0 1, fr 12 1 1 64, fr 13 1 1 64],
    entriesFrom (decEntryBad b) es (o + 16) 8,
    (decDup (es.map leNat)).map (fun k => (0x010C, k)),
    (reservedAt b o [rz 14 2]).then_ (entriesFrom (fun e x => reservedAt e x [rz 5 3]) es (o + 16) 8)]

/-- The points of half a curve (R56, R57): the first THRESH 0, THRESH not falling, LEVEL at most `top`. -/
def pointsBad (top prev : Nat) (first : Bool) : List (Nat × Nat) → Nat → Bad
  | [], _ => none
  | p :: r, o =>
    if (if first then p.1 != 0 else decide (p.1 < prev)) then some (0x010A, o)
    else if top < p.2 then some (0x010A, o + 2)
    else pointsBad top p.1 false r (o + 4)

/-- A curve item (R56, R57). -/
def curveBad (b : List Byte) (o : Nat) : Bad :=
  let w := curveWidth b
  let top := 2 ^ (w - 1)
  let pts := curvePoints b
  firstFail [
    rangesAt b o [fr 8 1 0 1],
    fieldIf (w == 4 || w == 8 || w == 16) (o + 9),
    if curveMode b = 0 then pointsBad (top - 1) 0 true pts (o + 16)
    else (pointsBad (top - 1) 0 true (pts.take 128) (o + 16)).then_ (pointsBad top 0 true (pts.drop 128) (o + 528)),
    reservedAt b o [rz 10 6]]

/-- The parameter set of a transition (R396): the byte of the offending field of the set at `o`. -/
def paramBad (b : List Byte) (o cond p : Nat) : Bad :=
  let q := 16 + 16 * p
  let low := fldI b q 4
  let high := fldI b (q + 4) 4
  let a := fld b (q + 8) 4
  let bb := fld b (q + 12) 4
  firstFail [
    fieldIf (!(cond == 2 || cond == 3 || cond == 4) || decide (low ≤ high)) (o + q),
    fieldIf (!(cond == 2 || cond == 3) || decide (a ≤ bb)) (o + q + 8),
    fieldIf (cond != 5 || decide (1 ≤ a)) (o + q + 8),
    fieldIf (cond != 6 || decide (1 ≤ a ∧ a ≤ 4096)) (o + q + 8)]

/-- A trigger-machine item (R58, R396). -/
def triggerBad (b : List Byte) (o : Nat) : Bad :=
  let ts := chunks 4 (b.drop 80)
  firstFail [
    rangesAt b o [fr 8 1 0 15],
    entriesFrom (fun e x => rangesAt e x [⟨0, 4, 0, 4, 0, 8⟩, ⟨0, 4, 12, 4, 0, 3⟩]) ts (o + 80) 4,
    ts.findSome? (fun e => paramBad b o (bits (leNat e) 0 4) (bits (leNat e) 4 2)),
    (reservedAt b o [rz 9 7]).then_ (entriesFrom (fun e x => reservedAt e x [(0, 4, 6, 2), (0, 4, 16, 16)]) ts (o + 80) 4)]

/-- The least temperature at which a refresh curve gives less than R59 asks, if any. -/
def refreshLow (prev : Int) : List (Int × Nat) → Option Int
  | [] => none
  | p :: r =>
    let a := max (prev + 1) 86
    let b := max (prev + 1) 106
    if p.2 < 2 ∧ a ≤ min p.1 105 then some a
    else if p.2 < 4 ∧ b ≤ p.1 then some b
    else refreshLow p.1 r

/-- TEMP does not fall from point to point. -/
def tempsRise : List (Int × Nat) → Nat → Bad
  | p :: q :: r, o => if q.1 < p.1 then some (0x010A, o + 4) else tempsRise (q :: r) (o + 4)
  | [p], o => fieldIf (decide (125 ≤ p.1)) o
  | [], _ => none

/-- The refresh curve (R59). -/
def refreshBad (b : List Byte) (o : Nat) : Bad :=
  let es := chunks 4 ((b.drop 8).take 32)
  let pts := es.map (fun p => (fldI p 0 2, byteAt p 2))
  firstFail [
    entriesFrom (fun e x => fieldIf (byteAt e 2 == 1 || byteAt e 2 == 2 || byteAt e 2 == 4) (x + 2)) es (o + 8) 4,
    tempsRise pts (o + 8),
    (refreshLow (-32769) pts).map (fun t => (0x010F, usgn 32 t)),
    entriesFrom (fun e x => reservedAt e x [rz 3 1]) es (o + 8) 4]

/-- The rows of the Owl protocol, encoded (R316). -/
def owlRows : List Nat := [0x508F, 0x1110, 0x2221, 0x4451, 0x3332, 0x3342, 0x2223, 0x4463, 0x0174]

/-- The body of the Owl table as built into the part (R317). -/
def owlBody : List Byte := leBytes 2 9 ++ leBytes 2 1 ++ zeros 4 ++ owlRows.flatMap (leBytes 4) ++ zeros 4

/-- The Owl table item against the built-in table (R60, R317). -/
def owlBad (b : List Byte) (o : Nat) : Bad :=
  (findIdx? (fun k => (b.drop 8).getD k 0#8 != owlBody.getD k 0#8) (List.range 48)).map (fun k => (0x010E, o + 8 + k))

/-- A program image (R61). -/
def imageBad (b : List Byte) (o : Nat) : Bad :=
  let n := imgWords b
  let used := 32 + 4 * n + imgDataLen b
  firstFail [
    rangesAt b o [fr 8 2 1 4096],
    fieldIf (decide (imgEntry b < n)) (o + 10),
    fieldIf (decide (imgDataOff b + imgDataLen b ≤ 262144)) (o + 20),
    reservedAt b o [(14, 1, 2, 6), rz 15 1, rz 24 8],
    (nonzeroFrom (o + used) (b.drop used)).map (fun x => (0x010B, x))]

/-- A zoom engine item (R61, R234). -/
def zoomBad (b : List Byte) (o : Nat) : Bad :=
  firstFail [
    rangesAt b o [fr 8 1 3 5, fr 9 1 1 2, fr 10 2 2 4096],
    fieldIf (decide ((zR b * zD b) ^ zM b ≤ 2 ^ 64)) (o + 10),
    rangesAt b o [fr 12 1 1 128, fr 13 1 0 63, fr 14 1 0 1],
    (reservedAt b o [rz 15 1]).then_ (entriesFrom (fun e x => reservedAt e x [rz 2 2]) (chunks 8 (b.drop 16)) (o + 16) 8)]

/-- A coefficient word is an 18-bit number, sign-extended (R61). -/
def coefBad (b : List Byte) (o : Nat) : Bad :=
  entriesFrom (fun e x => fieldIf (fitsI 18 (fldI e 0 4)) x) (chunks 4 (b.drop 8)) (o + 8) 4

/-- A beam item (R61, R181). -/
def beamBad (b : List Byte) (o : Nat) : Bad :=
  firstFail [
    rangesAt b o [fr 10 1 0 1, fr 11 1 0 16],
    fieldIf (bmOutput b == 1 || bmAvg b == 0) (o + 11),
    reservedAt b o [rz 14 2]]

/-- The IDENT item (R39) beside the fields of step 4. COMPILER, which R39 calls ASCII and zero-padded, is not checked: any 16 bytes
pass (DESIGN CHOICE, notes/assumptions/77.md). -/
def identBad (patch : Bool) (b : List Byte) (o : Nat) : Bad :=
  firstFail [
    fieldIf (byteAt b 11 == 4 || byteAt b 11 == 6) (o + 11),
    rangesAt b o [fr 13 1 1 64, fr 16 8 1 (2 ^ 64 - 1)],
    if patch then none else rangesAt b o [fr 24 8 0 0, fr 32 8 0 0],
    reservedAt b o [rz 14 2, rz 60 4]]

/-- The kinds of a section, with the largest INDEX of each (R39 to R62). -/
def kindMax (sec kind : Nat) : Option Nat :=
  match sec, kind with
  | 1, 1 => some 0
  | 2, 1 => some 0 | 2, 2 => some 0 | 2, 3 => some 255
  | 3, 1 => some 1023 | 3, 2 => some 0
  | 4, 1 => some 1023
  | 5, 1 => some 0 | 5, 2 => some 255
  | 6, 1 => some 0 | 6, 2 => some 1023 | 6, 3 => some 63
  | 7, 1 => some 15 | 7, 2 => some 63 | 7, 3 => some 15 | 7, 4 => some 0 | 7, 5 => some 0
  | 8, 1 => some 255
  | 9, 1 => some 63 | 9, 2 => some 127
  | 10, 1 => some 4095 | 10, 2 => some 4095
  | 15, 1 => some 0
  | _, _ => none

/-- Kinds that a patch may not hold (R36). -/
def patchBars (sec kind : Nat) : Bool := (sec == 5 && kind == 1) || (sec == 7 && (kind == 4 || kind == 5))

/-- Is ILEN right for the item? -/
def ilenOk (patch : Bool) (nsec sec kind : Nat) (b : List Byte) (ilen : Nat) : Bool :=
  match sec, kind with
  | 1, 1 => ilen == 64
  | 2, 1 => if patch then decide (32 ≤ ilen) && (ilen - 8) % 24 == 0 else ilen == 131080
  | 2, 2 => if patch then decide (24 ≤ ilen) && (ilen - 8) % 16 == 0 else ilen == 32776
  | 2, 3 => ilen == (if fld b 12 2 = 0 then 16 + roundUp (2 * fld b 10 2) 8 else 16)
  | 3, 1 => ilen == 24
  | 3, 2 => ilen == 40
  | 4, 1 => ilen == 16 + 8 * fld b 8 2
  | 5, 1 => ilen == 56
  | 5, 2 => ilen == 16
  | 6, 1 => ilen == 16
  | 6, 2 => ilen == 32
  | 6, 3 => ilen == 16
  | 7, 1 => ilen == 16 + 8 * byteAt b 10
  | 7, 2 => ilen == 1040
  | 7, 3 => ilen == 336
  | 7, 4 => ilen == 40
  | 7, 5 => ilen == 56
  | 8, 1 => ilen == 32 + roundUp (4 * fld b 8 2 + fld b 20 4) 8
  | 9, 1 => ilen == 528
  | 9, 2 => decide (16 ≤ ilen)
  | 10, 1 => ilen == 16
  | 10, 2 => decide (8 ≤ ilen)
  | _, _ => ilen == 8 + roundUp (4 * (nsec - 1)) 8 + 48

/-- The body of an item (R39 to R62). -/
def bodyBad (patch : Bool) (nsec sec kind idx : Nat) (b : List Byte) (o : Nat) : Bad :=
  match sec, kind with
  | 1, 1 => identBad patch b o
  | 2, 1 => if patch then entriesFrom (patchEntryBad 8192 classEntryBad) (chunks 24 (b.drop 8)) (o + 8) 24
    else entriesFrom classEntryBad (chunks 16 (b.drop 8)) (o + 8) 16
  | 2, 2 => if patch then entriesFrom (patchEntryBad 4096 slotEntryBad) (chunks 16 (b.drop 8)) (o + 8) 16
    else entriesFrom slotEntryBad (chunks 8 (b.drop 8)) (o + 8) 8
  | 2, 3 => groupBad b o
  | 3, 1 => plyBad b o
  | 3, 2 => integrationBad b o
  | 4, 1 => treadlingBad b o
  | 5, 1 => entriesFrom hankBad (chunks 4 (b.drop 8)) (o + 8) 4
  | 5, 2 => (rangesAt b o [fr 8 1 0 1]).then_ (reservedAt b o [rz 9 1, (10, 2, 12, 4)])
  | 6, 1 => ((fieldIf (decide (-40 ≤ fldI b 8 2 ∧ fldI b 8 2 ≤ 125)) (o + 8)).then_
      (rangesAt b o [fr 10 1 0 1, fr 11 1 8 16])).then_ (reservedAt b o [rz 12 4])
  | 6, 2 => regionBad b o
  | 6, 3 => ((fieldIf (portAllowed idx (byteAt b 8)) (o + 8)).then_ (rangesAt b o [fr 10 2 1 65535])).then_
      (reservedAt b o [rz 9 1])
  | 7, 1 => decoderBad b o
  | 7, 2 => curveBad b o
  | 7, 3 => triggerBad b o
  | 7, 4 => refreshBad b o
  | 7, 5 => owlBad b o
  | 8, 1 => imageBad b o
  | 9, 1 => zoomBad b o
  | 9, 2 => coefBad b o
  | 10, 1 => beamBad b o
  | 15, 1 => (nonzeroFrom (o + 8 + 4 * (nsec - 1)) ((b.drop (8 + 4 * (nsec - 1))).take (4 * ((nsec - 1) % 2)))).map
      (fun x => (0x010B, x))
  | _, _ => none

/-- The header of an item whose first byte is stream byte `o`, `left` bytes before the section's end (R37); `prev` is the
(KIND, INDEX) before it as one number. An INDEX above its kind's largest is 0x010A at the INDEX, where 0x0109 would fit as well
(DESIGN CHOICE, notes/assumptions/76.md). -/
def itemHeadBad (patch : Bool) (nsec sec prev left : Nat) (b : List Byte) (o : Nat) : Bad :=
  let kind := fld b 0 2
  let idx := fld b 2 2
  let ilen := fld b 4 4
  match kindMax sec kind with
  | none => some (0x0109, o)
  | some top =>
    firstFail [
      need (!(patch && patchBars sec kind)) (0x0112, sec),
      need (decide (idx ≤ top)) (0x010A, o + 2),
      need (decide (prev < kind * 65536 + idx)) (0x0109, o),
      need (ilen % 8 == 0 && decide (8 ≤ ilen ∧ ilen ≤ left) && ilenOk patch nsec sec kind b ilen) (0x0109, o + 4)]

/-- The items of a section, or the first failure: code, item index, detail. -/
def parseItems (patch : Bool) (nsec sec : Nat) : Nat → Nat → Nat → Nat → List Byte → List Item →
    Except (Nat × Nat × Nat) (List Item)
  | 0, _, _, o, rest, acc =>
    match nonzeroFrom o rest with
    | some x => .error (0x010B, 0xFFFF, x)
    | none => .ok acc.reverse
  | n + 1, k, prev, o, rest, acc =>
    match itemHeadBad patch nsec sec prev rest.length rest o with
    | some e => .error (e.1, k, e.2)
    | none =>
      let ilen := fld rest 4 4
      let b := rest.take ilen
      let kind := fld b 0 2
      let idx := fld b 2 2
      match bodyBad patch nsec sec kind idx b o with
      | some e => .error (e.1, k, e.2)
      | none => parseItems patch nsec sec n (k + 1) (kind * 65536 + idx) (o + ilen) (rest.drop ilen) (⟨sec, kind, idx, b⟩ :: acc)

/-- The kinds that a section of a full Draft has at least once (R39 to R62). -/
def requiredKinds (sec : Nat) : List Nat :=
  match sec with
  | 1 => [1] | 2 => [1, 2, 3] | 3 => [1, 2] | 4 => [] | 5 => [1, 2] | 6 => [1, 2] | 7 => [1, 2, 4, 5] | 15 => [1]
  | _ => []

/-- One section at step 5. No more than SLEN / 8 items fit, so an item count beyond that meets an item header that is not there. -/
def parseSection (st : List Byte) (patch : Bool) (k : Nat) : Except Refuse (List Item) :=
  let e := dirEnt st k
  match parseItems patch (hdrSections st) e.type (min e.items (e.slen / 8 + 1)) 0 0 e.offset (sectionBytes st e) [] with
  | .error (c, i, d) => .error ⟨c, k, i, d % 2 ^ 32⟩
  | .ok l =>
    let want := if patch ∧ e.type ≠ 1 ∧ e.type ≠ 15 then [] else requiredKinds e.type
    if want.all (fun q => l.any (fun x => x.kind == q)) then .ok l
    else .error ⟨0x0108, k, 0xFFFF, e.type⟩

/-- Step 5 over the sections in directory order. -/
def parseSections (st : List Byte) (patch : Bool) : Nat → Nat → Except Refuse (List Item)
  | 0, _ => .ok []
  | n + 1, k =>
    match parseSection st patch k with
    | .error r => .error r
    | .ok l =>
      match parseSections st patch n (k + 1) with
      | .error r => .error r
      | .ok r => .ok (l ++ r)

/-- The items of a stream, or the first failure of step 5. -/
def checkItems (st : List Byte) : Except Refuse (List Item) :=
  parseSections st (hdrKind st == 1) (hdrSections st) 0

end Sys2Proof.Machine
end

