-- ==== Sys2Proof/Machine/DraftRefs.lean ====
section
/-!
DEFINITION. The structure that a stream brings into force (R72, R73, R75) and step 6 of its check: references and
relations across items (R65), with the rules of other chapters that are checked there (R46, R105, R114, R115, R119,
R139, R181, R195, R231, R272, R298, R397).
-/

namespace Sys2Proof.Machine

/-! ## Structures and patches -/

/-- Order of items in a structure. -/
def Item.before (x y : Item) : Bool :=
  decide (x.sec < y.sec) || (x.sec == y.sec && (decide (x.kind < y.kind) || (x.kind == y.kind && decide (x.idx < y.idx))))

/-- Do two items have the same section, KIND and INDEX? -/
def Item.same (x y : Item) : Bool := x.sec == y.sec && x.kind == y.kind && x.idx == y.idx

/-- An item put into a structure, in order, in place of one with its section, KIND and INDEX (R73). -/
def putItem (x : Item) : List Item → List Item
  | [] => [x]
  | y :: r => if x.same y then x :: r else if x.before y then x :: y :: r else y :: putItem x r

/-- The entries of a patch's classification or slot-map item written into the item they change: entries of `w` bytes,
each after its 4-byte number and 4 reserved bytes (R73). Of an entry number listed twice the last stands (DESIGN CHOICE,
notes/assumptions/83.md). -/
def patchEntries (w : Nat) (body patch : List Byte) : List Byte :=
  (chunks (w + 8) (patch.drop 8)).foldl (fun acc e => putAt acc (8 + w * fld e 0 4) (e.drop 8)) body

/-- One patch item applied to a structure (R73). -/
def applyItem (l : List Item) (x : Item) : List Item :=
  if x.sec = secThreading ∧ (x.kind = 1 ∨ x.kind = 2) then
    putItem { x with body := patchEntries (if x.kind = 1 then 16 else 8) (bodyAt l x.sec x.kind x.idx) x.body } l
  else putItem x l

/-- Sections that a patch changes: IDENT and CHECK are not part of the structure that changes. -/
def structural (x : Item) : Bool := x.sec != secIdent && x.sec != secCheck

/-- A patch applied to a structure (R73): its items, then the treadling, beam and steering items that retire with a ply
of FUNCTION 0 unless the patch itself carries them. -/
def applyPatch (base patch : List Item) : List Item :=
  let items := patch.filter structural
  let merged := items.foldl applyItem base
  let has := fun (x : Item) => items.any (fun y => y.same x)
  let retired := (items.filter (fun x => x.sec == secTieup && x.kind == 1 && plyFunction x.body == 0)).map (·.idx)
  let goneBeams := (merged.filter (fun x => x.sec == secBeams && x.kind == 1 && retired.contains (bmPly x.body) && !has x)).map (·.idx)
  merged.filter (fun x => has x ||
    !((x.sec == secTreadling && retired.contains x.idx) || (x.sec == secBeams && goneBeams.contains x.idx)))

/-- The structure of a full stream (R65). -/
def fullStructure (items : List Item) : List Item := items

/-! ## Where a failure is reported (R66) -/

/-- A failure of step 6 or 7: code, section TYPE, (KIND, INDEX) of the item it concerns if any, detail. -/
structure Fail where
  code : Nat
  sec : Nat
  item : Option (Nat × Nat)
  detail : Nat
deriving DecidableEq, Repr

/-- Where R66 reports a failure: by the stream's own directory and item numbers; DETAIL is taken modulo 2^32 (DESIGN CHOICE,
notes/assumptions/113.md). -/
def Fail.report (f : Fail) (types : List Nat) (items : List Item) : Refuse :=
  let sec := (findIdx? (· == f.sec) types).getD 0xFF
  let item := match f.item with
    | none => 0xFFFF
    | some (k, i) => (findIdx? (fun (x : Item) => x.kind == k && x.idx == i) (items.filter (fun x => x.sec == f.sec))).getD 0xFFFF
  ⟨f.code, sec, item, f.detail % 2 ^ 32⟩

/-- 0x010D REFERENCE and 0x0118 INCONSISTENT at an item. -/
def refFail (x : Item) (d : Nat) : Fail := ⟨0x010D, x.sec, some (x.kind, x.idx), d⟩
def incFail (x : Item) (d : Nat) : Fail := ⟨0x0118, x.sec, some (x.kind, x.idx), d⟩

/-! ## Sets of slots as bit masks -/

/-- A list of slots as a mask. -/
def slotMask (l : List Nat) : Nat := l.foldl (fun m s => m ||| 2 ^ s) 0

/-- Do two masks meet; do they share two slots or more? -/
def meets (a b : Nat) : Bool := (a &&& b) != 0
def meetTwice (a b : Nat) : Bool :=
  let c := a &&& b
  c != 0 && (c &&& (c - 1)) != 0

/-- Does a list of slots repeat one? -/
def repeats : List Nat → Nat → Bool
  | [], _ => false
  | s :: r, m => bit m s || repeats r (m ||| 2 ^ s)

/-- Products of tile-steps: a full step's two buses, or the triangle of one half of a folded step. -/
inductive Block where
  | full (a b : Nat)
  | tri (g : Nat)
deriving DecidableEq, Repr

/-- Do two blocks share a pair of slots (R114)? -/
def Block.share : Block → Block → Bool
  | .full a b, .full c d => (meets a c && meets b d) || (meets a d && meets b c)
  | .full a b, .tri g => meets a g && meets b g
  | .tri g, .full a b => meets a g && meets b g
  | .tri g, .tri h => meetTwice g h

/-- The blocks of a ply's treadling. -/
def plyBlocks (l : List Item) (p : Nat) : List Block :=
  let lv := plyLevel (plyBody l p)
  let m := fun g => slotMask (runSlots l lv g)
  (tileSteps l p).flatMap (fun t =>
    if t.kind = 0 then [.full (m t.a) (m t.b)] else if t.kind = 1 then [.tri (m t.a), .tri (m t.b)] else [])

/-- Do two of a list of blocks share a pair? -/
def anyShare : List Block → Bool
  | [] => false
  | b :: r => r.any (Block.share b) || anyShare r

/-! ## Coverage of the loom (R46, R97 to R99) -/

/-- The knots a ply covers, numbered over the whole mesh: first and count (R97, R99). -/
def plyKnots (b : List Byte) : Nat × Nat :=
  let lv := plyLevel b
  (plyNode b * 1024 + (if lv ≤ 5 then plyIndex b * 4 ^ lv else 0), 4 ^ lv)

def knotsMeet (a b : Nat × Nat) : Bool := decide (a.1 < b.1 + b.2 ∧ b.1 < a.1 + a.2)

/-- Bits of `v` at positions 0, 2, 4 ...: the de-interleaving of R96 (`n` bits). -/
def evenBits : Nat → Nat → Nat
  | 0, _ => 0
  | n + 1, v => v % 2 + 2 * evenBits n (v / 4)

/-- Column and row of a number in the interleaved order of R96. -/
def colOf (v : Nat) : Nat := evenBits 8 v
def rowOf (v : Nat) : Nat := evenBits 8 (v / 2)

/-- First ply-local row and column that fall on section `S` of chip `node`, and the square's side there; none where the
ply does not cover the section (R97 to R99). -/
def plyOnSection (b : List Byte) (node S : Nat) : Option (Nat × Nat × Nat) :=
  let lv := plyLevel b
  let k := plyKnots b
  let s0 := node * 1024 + 64 * S
  if !knotsMeet k (s0, 64) then none
  else if lv ≤ 3 then some (0, 0, 32 * 2 ^ lv)
  else
    let d := (s0 - k.1) / 64
    some (256 * rowOf d, 256 * colOf d, 256)

/-- Valid cells of a tile-step in the square of side `n` at ply-local (r0, c0), with rows of parity `pr` and columns of
parity `pc` when `par` (a MODE 1 sub-step, R103), else all (R110, R111). -/
def validCells (kind ca cb r0 c0 n : Nat) (par : Bool) (pr pc : Nat) : Nat :=
  let cnt := fun a b => if b ≤ a then 0 else if par then (b + 1 - pc) / 2 - (a + 1 - pc) / 2 else b - a
  ((List.range n).map (fun d =>
    let r := r0 + d
    if par && r % 2 != pr then 0
    else if kind = 0 then (if r < ca then cnt c0 (min (c0 + n) cb) else 0)
    else cnt (max c0 (r + 1)) (min (c0 + n) ca) + (if r < cb then cnt c0 (min (c0 + n) r) else 0))).foldl (· + ·) 0

/-- V of R139: the largest number of valid cells of section `S` in one tile-step or sub-step of a correlating ply. -/
def mergeLoad (l : List Item) (p node S : Nat) : Nat :=
  let b := plyBody l p
  let lv := plyLevel b
  match plyOnSection b node S with
  | none => 0
  | some (r0, c0, n) =>
    ((tileSteps l p).map (fun t =>
      let ca := runCount l lv t.a
      let cb := runCount l lv t.b
      if plyMode b = 1 then
        ([(0, 0), (0, 1), (1, 0), (1, 1)].map (fun q => validCells t.kind ca cb r0 c0 n true q.1 q.2)).foldl max 0
      else validCells t.kind ca cb r0 c0 n false 0 0)).foldl max 0

/-! ## Step 6 by section -/

/-- Two valid classification entries of one slot with overlapping channel ranges: the lower number (R272). Entries are
taken with their numbers. -/
def classOverlap : List (Nat × List Byte) → Option Nat
  | [] => none
  | (n, e) :: r =>
    if r.any (fun x => ceSlot x.2 == ceSlot e && decide (ceFirst x.2 < ceFirst e + ceNch e ∧ ceFirst e < ceFirst x.2 + ceNch x.2))
    then some n else classOverlap r

/-- The classification item (R52, R272). -/
def checkClass (l : List Item) (x : Item) : Option Fail :=
  let es := ((List.range 8192).zip (chunks 16 (x.body.drop 8))).filter (fun e => ceValid e.2)
  firstFail [
    (es.find? (fun e => (itemAt l secTables 1 (ceDecoder e.2)).isNone)).map (fun e => refFail x (ceDecoder e.2)),
    (classOverlap es).map (fun n => ⟨0x010C, x.sec, some (x.kind, x.idx), n⟩)]

/-- The slots that a valid classification entry names. -/
def classedSlots (l : List Item) : Nat :=
  (classEntries l).foldl (fun m e => if ceValid e then m ||| 2 ^ ceSlot e else m) 0

/-- Does the Draft hold a ply of level 6 or above, so that slots can be remote (R298)? -/
def hasWide (l : List Item) : Bool := (plies l).any (fun x => decide (6 ≤ plyLevel x.body))

/-- Is an enabled slot remote (R298)? -/
def slotRemote (l : List Item) (classed slot : Nat) : Bool := hasWide l && !bit classed slot

/-- The enabled slots of each spindle, as (slot, entry), by spindle. -/
def spindleSlots (l : List Item) : List (Nat × List (Nat × List Byte)) :=
  let en := ((List.range 4096).zip (slotEntries l)).filter (fun e => seEnable e.2)
  (sortN (en.map (fun e => seSpindle e.2))).map (fun n => (n, en.filter (fun e => seSpindle e.2 == n)))

/-- A spindle's positions (R42, R195, R298). -/
def spindleOk (wide : Bool) (classed c : Nat) (ps : List (Nat × List Byte)) : Bool :=
  let n := ps.length
  let remote := ps.filter (fun e => wide && !bit classed e.1)
  decide (n ≤ 8) && (ps.map (fun e => seImage e.2)).dedup.length ≤ 1 &&
    (sortN (ps.map (fun e => sePos e.2)) == List.range n) && decide (n * c ≤ 8192) &&
    (remote.isEmpty || remote.length == n)

/-- The slot-map item (R42, R52, R57, R195, R298). -/
def checkSlots (l : List Item) (x : Item) : Option Fail :=
  let es := ((List.range 4096).zip (chunks 8 (x.body.drop 8))).filter (fun e => seEnable e.2)
  let classed := classedSlots l
  let wide := hasWide l
  firstFail [
    es.findSome? (fun e => firstFail [
      need (itemAt l secPrograms 1 (seImage e.2)).isSome (refFail x (seImage e.2)),
      need (itemAt l secTables 2 (seCurve e.2)).isSome (refFail x (seCurve e.2)),
      need (curveWidth (curveBody l (seCurve e.2)) != 16) (incFail x e.1)]),
    match es with
    | [] => none
    | f :: r => (r.find? (fun e => seNcoarse e.2 != seNcoarse f.2 || seSplit e.2 != seSplit f.2)).map (fun e => incFail x e.1),
    ((spindleSlots l).find? (fun sp => !spindleOk wide classed (fineChannels l) sp.2)).map
      (fun sp => incFail x ((sp.2.headD (0, [])).1))]

/-- A line group (R43). -/
def checkGroup (l : List Item) (x : Item) : Option Fail :=
  ((groupSlotsOf x.body).find? (fun s => !slotEnabled l s)).map (refFail x)

/-- Do the channels of two plies overlap? -/
def channelsMeet (a b : List Byte) : Bool :=
  decide (plyFirst a < plyFirst b + plyNfine b ∧ plyFirst b < plyFirst a + plyNfine a)

/-- Curve rule of R46 for a correlating ply, of R181 for a beam ply. -/
def curveRule (l : List Item) (p : Nat) : Bool :=
  let want := if plyFunction (plyBody l p) != 3 && plyMode (plyBody l p) == 1 then 8 else 4
  (plySlots l p).all (fun s => curveWidth (curveBody l (seCurve (slotEntry l s))) == want)

/-- A ply item (R44 to R46, R48, R105, R119, R181). The ply is named, not its beams: its item comes first in directory order (R46). -/
def checkPly (l : List Item) (x : Item) : Option Fail :=
  let b := x.body
  let f := plyFunction b
  if f = 0 then need (decide (plyMode b ≤ 1)) (incFail x x.idx)
  else
    let modeOk := if f = 3 then plyMode b == 0 || plyMode b == 2 else decide (plyMode b ≤ 1)
    let other := (plies l).find? (fun y => decide (y.idx < x.idx) && plyFunction y.body != 0 && knotsMeet (plyKnots y.body) (plyKnots b))
    firstFail [
      need modeOk (incFail x x.idx),
      need (!(f == 3 && decide (6 ≤ plyLevel b))) (incFail x x.idx),
      need (f == 3 || (itemAt l secRoutes 2 (plyDest b)).isSome) (refFail x (plyDest b)),
      other.map (fun y => ⟨0x010C, x.sec, some (x.kind, x.idx), y.idx⟩),
      need (itemAt l secTreadling 1 x.idx).isSome ⟨0x0108, x.sec, some (x.kind, x.idx), secTreadling⟩,
      need (decide (plyFirst b + plyNfine b ≤ fineChannels l)) (incFail x x.idx),
      need (curveRule l x.idx) (incFail x x.idx)]

/-- The integration item (R47). -/
def checkIntegration (l : List Item) (x : Item) : Option Fail :=
  need (preloadOf l != 2 || (itemAt l secMemplan 2 (residualOf l)).isSome) (refFail x (residualOf l))

/-- One tile-step of a ply (R43, R49, R114, R115). -/
def checkStep (l : List Item) (x : Item) (t : TileStep) : Option Fail :=
  let b := plyBody l x.idx
  let lv := plyLevel b
  let f := plyFunction b
  let width := 32 * 2 ^ lv
  let gs := stepGroups t
  let run := gs.flatMap (fun g => (List.range (runLen lv)).map (g + ·))
  let inner := gs.flatMap (fun g => (List.range (runLen lv - 1)).map (g + ·))
  let kindOk := if t.kind = 0 then f == 1 || f == 2 else if t.kind = 1 then f == 2 else f == 3
  firstFail [
    need kindOk (incFail x x.idx),
    (run.find? (fun g => (itemAt l secThreading 3 g).isNone)).map (refFail x),
    need (inner.all (fun g => groupCount l g == 1024)) (incFail x x.idx),
    need (gs.all (fun g => decide (runCount l lv g ≤ width))) (incFail x x.idx),
    need (gs.all (fun g => !repeats (runSlots l lv g) 0)) (incFail x x.idx),
    need (!(t.kind == 0 && meets (slotMask (runSlots l lv t.a)) (slotMask (runSlots l lv t.b)))) (incFail x x.idx)]

/-- A treadling item (R48, R73, R114). -/
def checkTreadling (l : List Item) (x : Item) : Option Fail :=
  let b := plyBody l x.idx
  let others := (itemsOf l secTieup 1).filter (fun y =>
    decide (y.idx < x.idx) && plyCorr y.body && channelsMeet y.body b && plyNode y.body == plyNode b)
  firstFail [
    need (itemAt l secTieup 1 x.idx).isSome (refFail x x.idx),
    need (plyFunction b != 0) (incFail x x.idx),
    (tileSteps l x.idx).findSome? (checkStep l x),
    need (!(plyCorr b && anyShare (plyBlocks l x.idx))) (incFail x x.idx),
    need (!(plyCorr b && others.any (fun y =>
      (plyBlocks l y.idx).any (fun u => (plyBlocks l x.idx).any (Block.share u))))) (incFail x x.idx)]

/-- R139: on every section the merge keeps up. The ply named is the one with the largest term. -/
def checkMerge (l : List Item) (node : Nat) : Option Fail :=
  let ps := (plies l).filter (fun x => plyCorr x.body)
  (List.range 16).findSome? (fun S =>
    let terms := ps.map (fun x => (x.idx, mergeLoad l x.idx node S))
    let sum := terms.foldl (fun a t => a + t.2) 0
    if sum ≤ 8 * tOf l then none
    else
      let big := terms.foldl (fun m t => max m t.2) 0
      (terms.find? (fun t => t.2 == big)).map (fun t => ⟨0x0118, secTieup, some (1, t.1), t.1⟩))

/-- A destination (R50). HANKS, which is of DKIND 0 only, and REGION, which is of DKIND 1 only, may hold any value in the other kind and
are ignored (DESIGN CHOICE, notes/assumptions/79.md). -/
def checkDest (l : List Item) (x : Item) : Option Fail :=
  if destKind x.body = 0 then
    ((bitList 12 (destHanks x.body)).find? (fun h => hankRole l h != 2)).map (refFail x)
  else need (itemAt l secMemplan 2 (destRegion x.body)).isSome (refFail x (destRegion x.body))

/-- A region (R51, R397): overlap with a lower-numbered one, and the seventeenth ring. `off` gives the stream byte of an
item that the stream holds. -/
def checkRegion (l : List Item) (off : Item → Nat) (x : Item) : Option Fail :=
  let r := regionOf x
  let low := (regionsOf l).find? (fun q => decide (q.num < r.num ∧ q.base < r.base + r.size ∧ r.base < q.base + q.size))
  let rings := (regionsOf l).filter (fun q => q.use == 4 && decide (q.num < r.num))
  firstFail [
    low.map (fun q => ⟨0x010C, x.sec, some (x.kind, x.idx), q.num⟩),
    need (!(r.use == 4 && rings.length == 16)) ⟨0x010A, x.sec, some (x.kind, x.idx), off x + 24⟩]

/-- A coefficient bank (R61): its engine, its ILEN against L, its padding. -/
def checkBank (l : List Item) (inStream : Item → Option Nat) (x : Item) : Option Fail :=
  let e := x.idx / 2
  let half := cdiv (zL (zoomBody l e)) 2
  let o := inStream x
  firstFail [
    need (itemAt l secZoom 1 e).isSome (refFail x e),
    need (x.body.length == 8 + 8 * cdiv half 2)
      ⟨0x0109, x.sec, some (x.kind, x.idx), match o with
        | some b => b + 4
        | none => e⟩,
    (nonzeroFrom (8 + 4 * half) (x.body.drop (8 + 4 * half))).map
      (fun b => ⟨0x010B, x.sec, some (x.kind, x.idx), match o with
        | some a => a + b
        | none => e⟩)]

/-- Coarse channel that a slot diverts; 0xFFFF for none (R61). -/
def divertOf (l : List Item) (slot : Nat) : Nat :=
  match itemAt l secZoom 1 (slot / 64) with
  | none => 0xFFFF
  | some x => zCoarse x.body (slot % 64)

/-- The zoom relations of R231, at the engine item of the lowest slot concerned. -/
def checkZoom (l : List Item) : Option Fail :=
  let en := enabledSlots l
  let fail := fun slot => (⟨0x0118, secZoom, some (1, slot / 64), slot⟩ : Fail)
  let par := fun slot => let b := zoomBody l (slot / 64); (zM b, zD b, zR b, zL b)
  let div := en.filter (fun s => divertOf l s != 0xFFFF)
  firstFail [
    match en with
    | [] => none
    | f :: r => if r.any (fun s => divertOf l s != divertOf l f) then some (fail f) else none,
    match div with
    | [] => none
    | f :: r => if r.any (fun s => par s != par f) then some (fail f) else none,
    (div.find? (fun s => seTransient (slotEntry l s))).map fail,
    (div.find? (fun s => decide (seNcoarse (slotEntry l s) ≤ divertOf l s))).map fail]

/-- Width in lines of a ply of level at most 5. -/
def plyWidth (b : List Byte) : Nat := 32 * 2 ^ plyLevel b

/-- The tile-steps of a beam ply that carry beam `n` (R180). -/
def beamSteps (l : List Item) (p n : Nat) : List TileStep :=
  (tileSteps l p).filter (fun t => decide (t.beamBase ≤ n ∧ n < t.beamBase + plyWidth (plyBody l p)))

/-- Are the slots of a steering item strictly ascending? -/
def ascending : List Nat → Bool
  | a :: b :: r => decide (a < b) && ascending (b :: r)
  | _ => true

/-- A beam item (R61, R181). -/
def checkBeam (l : List Item) (x : Item) : Option Fail :=
  let p := bmPly x.body
  let steps := beamSteps l p x.idx
  let masks := steps.map (fun t => slotMask (groupSlots l t.a))
  let twice := (List.range masks.length).any (fun k => (masks.drop (k + 1)).any (meets (masks.getD k 0)))
  firstFail [
    need (itemAt l secTieup 1 p).isSome (refFail x p),
    need (plyFunction (plyBody l p) == 3) (incFail x x.idx),
    need (itemAt l secRoutes 2 (bmDest x.body)).isSome (refFail x (bmDest x.body)),
    need (!steps.isEmpty) (incFail x x.idx),
    need (!twice) (incFail x x.idx),
    need (curveRule l p) (incFail x x.idx)]

/-- A steering item (R61, R181): its beam, the order of its slots, and each slot on a step that carries the beam. -/
def checkSteering (l : List Item) (x : Item) : Option Fail :=
  let masks := (beamSteps l (bmPly (beamBody l x.idx)) x.idx).map (fun t => slotMask (groupSlots l t.a))
  let st := (steering l x.idx).map (·.1)
  firstFail [
    need (itemAt l secBeams 1 x.idx).isSome (refFail x x.idx),
    need (ascending st) (incFail x x.idx),
    need (st.all (fun s => masks.any (fun m => bit m s))) (incFail x x.idx)]

/-- Step 6 for one item of the structure. -/
def checkRefs (l : List Item) (inStream : Item → Option Nat) (x : Item) : Option Fail :=
  match x.sec, x.kind with
  | 2, 1 => checkClass l x
  | 2, 2 => checkSlots l x
  | 2, 3 => checkGroup l x
  | 3, 1 => checkPly l x
  | 3, 2 => checkIntegration l x
  | 4, 1 => checkTreadling l x
  | 5, 2 => checkDest l x
  | 6, 2 => checkRegion l (fun y => (inStream y).getD 0) x
  | 9, 2 => checkBank l inStream x
  | 10, 1 => checkBeam l x
  | 10, 2 => checkSteering l x
  | _, _ => none

/-- Step 6 (R65): the items in directory order; R139 after the treadling items, R231 after the zoom items. -/
def checkStep6 (l : List Item) (node : Nat) (inStream : Item → Option Nat) : Option Fail :=
  firstFail [
    (l.filter (fun x => decide (x.sec ≤ secTreadling))).findSome? (checkRefs l inStream),
    checkMerge l node,
    (l.filter (fun x => decide (secTreadling < x.sec ∧ x.sec ≤ secZoom))).findSome? (checkRefs l inStream),
    checkZoom l,
    (l.filter (fun x => decide (secZoom < x.sec))).findSome? (checkRefs l inStream)]

end Sys2Proof.Machine
end

