-- ==== Sys2Proof/Machine/Admission.lean ====
section
/-!
DEFINITION. Admission arithmetic, step 7 of a check (R77 to R95, R138, R192, R358): every comparison in exact rationals,
every reported figure truncated.
-/

namespace Sys2Proof.Machine

/-- What the arithmetic reads of the part beside the structure (R94): node, populated sites, those in FAULT, which count as absent
(R335), sites with a retired rank. -/
structure Site7 where
  node : Nat
  nstacks : Nat
  absent : List Nat
  retired : List Nat
deriving DecidableEq, Repr

/-- The admission figures (R95), as the register fields hold them. -/
structure Figures where
  creel : Nat
  duty : Nat
  slack : Nat
  stack : Nat
  ceil : Nat
  guar : Nat
  out : Nat
  spin : Nat
deriving DecidableEq, Repr

def Figures.zero : Figures := ⟨0, 0, 0, 0, 0, 0, 0, 0⟩

/-- A figure truncated into `w` bits, saturating (R95). -/
def figN (w : Nat) (q : Rat) : Nat := min (2 ^ w - 1) q.floor.toNat

/-- A signed figure in 32 bits, truncated toward zero, saturating. -/
def figI (q : Rat) : Nat := usgn 32 (satI 32 (Int.tdiv q.num q.den))

/-- Constants of R77: the clock, F, t_tail, the lane payloads in Mb/s. -/
def clockF : Rat := 1300000000
def flagF : Rat := 1 / 1000
def tTail : Rat := 26000 / clockF
def laneMb (rate : Nat) : Nat := if rate = 0 then 110100 else if rate = 1 then 51980 else 25220

def mib : Nat := 1048576

/-- Derived quantities as rationals. -/
def pcQ (l : List Item) : Rat := (periodOf l).1 / (periodOf l).2
def spanQ (l : List Item) : Rat := (spanLen l).1 / (spanLen l).2

/-- The ply items that count on this chip (R78). -/
def localPlies (l : List Item) (node : Nat) : List Item := (plies l).filter (fun x => plyFunction x.body != 0 && plyLocal node x.body)
def localCorr (l : List Item) (node : Nat) : List Item := (localPlies l node).filter (fun x => plyCorr x.body)
/-- The correlating plies that this chip holds a share of (R301): those that cover its cells, and wide ones whose baseline set has local
slots. -/
def shareCorr (l : List Item) (node : Nat) : List Item :=
  (plies l).filter (fun x => plyCorr x.body && (plyLocal node x.body ||
    (decide (6 ≤ plyLevel x.body) && (plySlots l x.idx).any (bit (classedSlots l)))))
def localBeam (l : List Item) (node : Nat) : List Item := (localPlies l node).filter (fun x => plyBeam x.body)

/-- Beam items of a ply. -/
def plyBeams (l : List Item) (p : Nat) : List Item := (itemsOf l secBeams 1).filter (fun x => bmPly x.body == p)

/-- Sum of a natural-valued function over a list. -/
def sumN {α : Type} (l : List α) (f : α → Nat) : Nat := l.foldl (fun a x => a + f x) 0

/-- Sum of a rational-valued function over a list. -/
def sumQ {α : Type} (l : List α) (f : α → Rat) : Rat := l.foldl (fun a x => a + f x) 0

/-- N_top (R143): the highest enabled slot plus one, rounded up to a multiple of 64. -/
def nTop (l : List Item) : Nat := roundUp ((enabledSlots l).foldl (fun m s => max m (s + 1)) 0) 64

/-- Bytes of one pass record (R143). -/
def recordBytes (l : List Item) : Nat := nTop l / 8 + 160

/-- Bytes of a channel's slot in a store dump (R153). -/
def dumpSlotBytes (l : List Item) (p : Nat) : Nat :=
  roundUp (64 + kOf l * recordBytes l) 4096 + roundUp (entriesPer l p * dumpBytes l) 4096

/-! ## Checks 1 to 3 -/

/-- Check 1 (R79). P_c is that of the first entry with a rate, and DETAIL names the first entry after it that differs (DESIGN CHOICE,
notes/assumptions/115.md). -/
def chkRate (l : List Item) : Option Fail :=
  match rateEntries l with
  | [] => some ⟨0x0201, secThreading, some (1, 0), 0xFFFFFFFF⟩
  | e :: r => (r.find? (fun x => cePnum x * cePden e != cePnum e * cePden x)).map
      (fun x => ⟨0x0201, secThreading, some (1, 0), ceSlot x⟩)

/-- The curves assigned to the slots on a ply's lines. -/
def plyCurves (l : List Item) (p : Nat) : List Nat := sortN ((plySlots l p).map (fun s => seCurve (slotEntry l s)))

/-- L_max of a ply (R77). -/
def lMax (l : List Item) (p : Nat) : Nat := (plyCurves l p).foldl (fun m c => max m (curveMax (curveBody l c))) 0

/-- Check 2 (R80): the curve that reaches 8. -/
def chkT (l : List Item) (node : Nat) : Option Fail :=
  (localCorr l node).findSome? (fun x =>
    if plyMode x.body = 0 ∧ lMax l x.idx = 8 ∧ 32768 < tOf l then
      ((plyCurves l x.idx).find? (fun c => curveMax (curveBody l c) == 8)).map (fun c => ⟨0x0202, secTieup, some (2, 0), c⟩)
    else none)

/-- β of R81. -/
def biasMag (l : List Item) : Nat := if preloadOf l = 1 then max (biasRe l).natAbs (biasIm l).natAbs else 0

/-- Largest K that R81 admits for a ply: 0 where it admits none (DESIGN CHOICE, notes/assumptions/116.md). -/
def kMax (l : List Item) (p : Nat) : Nat :=
  let t := tOf l
  let g := 2 * lMax l p ^ 2
  let k1 := 2 ^ 24 / t
  if g = 0 then k1 else min k1 ((2 ^ 31 - 1 - biasMag l) / (t * g))

/-- Does R81 hold for a ply? -/
def accExact (l : List Item) (p : Nat) : Bool :=
  decide (kOf l * tOf l ≤ 2 ^ 24 ∧ kOf l * tOf l * (2 * lMax l p ^ 2) + biasMag l ≤ 2 ^ 31 - 1)

/-- Check 3 (R81). -/
def chkAcc (l : List Item) (node : Nat) : Option Fail :=
  let ps := localCorr l node
  if accFmt l = 1 ∨ ps.all (fun x => accExact l x.idx) then none
  else some ⟨0x0203, secTieup, some (2, 0), ps.foldl (fun m x => min m (kMax l x.idx)) 65535⟩

/-! ## Checks 4 to 6 -/

/-- Loom duty of a ply (R82). -/
def dutyOf (l : List Item) (x : Item) : Rat := plyNfine x.body * passCycles l x.idx / (clockF * spanQ l)

/-- The sites that are there. -/
def Site7.sites (q : Site7) : List Nat := (List.range q.nstacks).filter (fun s => !q.absent.contains s)

/-- Connected hank sets of the DKIND 0 destinations: destinations that share a hank add together. -/
def hankUnions (l : List Item) : List Nat :=
  ((itemsOf l secRoutes 2).filter (fun x => destKind x.body == 0)).foldl (fun acc x =>
    let h := destHanks x.body
    let hit := acc.filter (fun m => (m &&& h) != 0 || (m == 0 && h == 0))
    let rest := acc.filter (fun m => !((m &&& h) != 0 || (m == 0 && h == 0)))
    rest ++ [hit.foldl (· ||| ·) h]) []

/-- The hank sets of R91: each that a destination names, held to its own hanks, and each that destinations which share a hank make
together (DEDUCED, notes/assumptions/85.md). -/
def hankSets (l : List Item) : List Nat :=
  (((itemsOf l secRoutes 2).filter (fun x => destKind x.body == 0)).map (fun x => destHanks x.body) ++ hankUnions l).dedup

/-- Payload of a set of hanks in bits per second. -/
def hankRateBits (l : List Item) (mask : Nat) : Nat :=
  sumN (bitList 12 mask) (fun h => popcount 8 (hankLanes l h) * laneMb (hankRate l h)) * 1000000

/-- Does destination `d` lie in a set? -/
def destInSet (l : List Item) (mask d : Nat) : Bool :=
  match itemAt l secRoutes 2 d with
  | none => false
  | some x => destKind x.body == 0 && (destHanks x.body &&& mask) == destHanks x.body && (destHanks x.body != 0 || mask == 0)

/-- Bytes of one pass's beam and retraction frames of ply `p` to destinations chosen by `sel`, counting frames of `u`
bytes over C_p passes (R192): beam frames, then retraction frames per destination. -/
def beamOut (l : List Item) (x : Item) (u : Nat) (sel : Nat → Bool) : Nat :=
  let bs := (plyBeams l x.idx).filter (fun b => sel (bmDest b.body))
  let c := plyNfine x.body
  let n := fun (b : Item) => if bmOutput b.body = 0 then tOf l else cdiv (tOf l) (2 ^ bmAvg b.body)
  let dests := (bs.map (fun b => bmDest b.body)).dedup
  sumN bs (fun b => c * cdiv (n b) 2044 * u) +
    sumN dests (fun d => cdiv (c * (bs.filter (fun b => bmDest b.body == d)).length) 128 * u)

/-- t_emit of a beam ply (R192). A set of hanks of capacity 0 adds 0 (DESIGN CHOICE, notes/assumptions/117.md). -/
def tEmit (l : List Item) (x : Item) : Rat :=
  ((hankSets l).map (fun m =>
    let r := hankRateBits l m
    if r = 0 then (0 : Rat) else (beamOut l x 8192 (destInSet l m) : Rat) / plyNfine x.body * 8 / r)).foldl max 0

/-- Slack of a ply in seconds (R83, R192). -/
def slackOf (l : List Item) (x : Item) : Rat :=
  let tp : Rat := passCycles l x.idx / clockF
  let c := plyNfine x.body
  let corr := plyCorr x.body
  let trep := if corr then (min c 2 : Nat) * tp else 0
  let fin := if c ≤ 2 then max (c * tp) flagF + trep + tTail
    else max (2 * tp) flagF + trep + ((c - 2 : Nat) : Rat) * tp + tTail
  spanQ l - (fin + if corr then 0 else tEmit l x)

/-- S_min (R77). -/
def slackMin (l : List Item) : Rat := max (1 / 2000) (spanQ l / 100)

/-- Beam buffers of a ply in the creel (R192). -/
def beamCreel (l : List Item) (x : Item) : Nat :=
  let q := plyBeams l x.idx
  let rows := fun (t : TileStep) =>
    (q.filter (fun b => decide (t.beamBase ≤ b.idx ∧ b.idx < t.beamBase + plyWidth x.body))).length
  2 * (plySlots l x.idx).length * tOf l + 2 * tOf l * q.length * 8 +
    sumN (tileSteps l x.idx) (fun t => 16 * rows t * groupCount l t.a) +
    8 * plyNfine x.body * (q.filter (fun b => bmOutput b.body == 1)).length

/-- Number of capture streams named (R397). -/
def captureStreams (l : List Item) : Nat := ((regionsOf l).filter (fun r => r.use == 4)).length

/-- Creel occupancy in bytes (R84). -/
def creelBytes (l : List Item) (node : Nat) : Nat :=
  sumN (localCorr l node) (fun x => 3 * entriesPer l x.idx * accBytes l +
    2 * tOf l * sumN (plySlots l x.idx) (operandBytes l)) +
  sumN (localBeam l node) (beamCreel l) +
  16 * (enabledSlots l).length * fineChannels l + 33554432 + 2097152 * captureStreams l

/-- Check 6 (R84, R138). -/
def chkCreel (l : List Item) (node : Nat) : Option Fail :=
  let b := creelBytes l node
  need (decide (b ≤ 768 * mib ∧ 8 * (enabledSlots l).length * fineChannels l ≤ 33554432))
    ⟨0x0206, secTieup, none, cdiv b mib⟩

/-! ## Checks 7 to 9 -/

/-- Check 7 (R85). -/
def chkSites (l : List Item) (q : Site7) : Option Fail :=
  (regionsOf l).findSome? (fun r =>
    let bad := fun d => (⟨0x0207, secMemplan, some (2, r.num), d⟩ : Fail)
    match (bitList 6 r.sites).find? (fun s => !q.sites.contains s) with
    | some s => some (bad s)
    | none => need (!(r.sites == 0 && (decide (r.use ≤ 2) || r.use == 6))) (bad 0xFFFFFFFF))

/-- Operand bytes of the enabled slots per fine sample: N_en × w, slot by slot. -/
def enabledW (l : List Item) : Nat := sumN (enabledSlots l) (operandBytes l)

/-- USE 1 bytes before rounding (R86). -/
def longAccBytes (l : List Item) (node : Nat) : Nat :=
  sumN (localCorr l node) (fun x => plyNfine x.body * entriesPer l x.idx * accBytes l)

/-- Correlating plies of this chip that dump into a store region. -/
def storeDumpers (l : List Item) (node : Nat) : List Item :=
  (localCorr l node).filter (fun x => destKind (destBody l (plyDest x.body)) == 1)

/-- Smallest total size of a USE (R86); 0 where none is asked. -/
def useMin (l : List Item) (node use : Nat) : Nat :=
  let two := 2097152
  match use with
  | 0 => roundUp (2 * fineChannels l * tOf l * enabledW l) two
  | 1 => roundUp (longAccBytes l node) two
  | 2 => if preloadOf l = 2 then roundUp (longAccBytes l node) two else 0
  | 3 => sumN (storeDumpers l node) (fun x => plyNfine x.body * dumpSlotBytes l x.idx)
  | 5 => two
  | _ => 0

/-- Regions that count for a USE: staging counts only with nonzero SITES (R86). -/
def useRegions (l : List Item) (use : Nat) : List Region :=
  (regionsOf l).filter (fun r => r.use == use && (use != 5 || r.sites != 0))

/-- Windows of 1 GiB that mapped regions reach, and those covered only in part (R358). -/
def mappedRegions (l : List Item) : List Region := (regionsOf l).filter (fun r => r.sites != 0)
def gib : Nat := 1073741824

/-- Is the window covered whole by one region? -/
def windowWhole (rs : List Region) (w : Nat) : Bool :=
  rs.any (fun r => decide (r.base ≤ w * gib ∧ (w + 1) * gib ≤ r.base + r.size))

/-- Windows that the ends of regions lie in: the only ones a region can cover in part. -/
def edgeWindows (rs : List Region) : List Nat :=
  sortN (rs.flatMap (fun r => [r.base / gib, (r.base + r.size - 1) / gib]))

/-- Windows that take a level-2 table (R358 step 2), ascending. -/
def partWindows (rs : List Region) : List Nat := (edgeWindows rs).filter (fun w => !windowWhole rs w)

/-- Bytes the root region needs (R358): a level-1 table over the highest region end, in 512 entries of 8 bytes, and the
level-2 tables. -/
def rootNeed (l : List Item) : Nat :=
  let rs := mappedRegions l
  let top := rs.foldl (fun m r => max m (r.base + r.size)) 0
  roundUp (cdiv top gib) 512 * 8 + 4096 * (partWindows rs).length

/-- The root region: the lowest-numbered with USE 6 (R358). -/
def rootRegion (l : List Item) : Option Region := (regionsOf l).find? (fun r => r.use == 6)

/-- Check 8 (R86, R358). DETAIL's MiB are rounded up (DESIGN CHOICE, notes/assumptions/84.md). -/
def chkRegions (l : List Item) (node : Nat) : Option Fail :=
  let one := fun use =>
    let rs := useRegions l use
    let m := useMin l node use
    let first := (regionsOf l).find? (fun r => r.use == use)
    need (decide (m ≤ sumN rs (·.size)))
      (⟨0x0208, secMemplan, if use = 5 then none else first.map (fun r => (2, r.num)), cdiv m mib⟩ : Fail)
  let root := rootRegion l
  firstFail [one 0, one 1, one 2, one 3, one 5,
    need (match root with
      | some r => decide (rootNeed l ≤ r.size)
      | none => false) ⟨0x0208, secMemplan, root.map (fun r => (2, r.num)), cdiv (rootNeed l) mib⟩]

/-- Capacity of a site (R87). -/
def siteCap (l : List Item) (q : Site7) (s : Nat) : Nat :=
  if sparingOf l ∨ q.retired.contains s then 36 * gib else 48 * gib

/-- Sum of the sizes of regions with nonzero SITES (R87). -/
def stackTotal (l : List Item) : Nat := sumN (mappedRegions l) (·.size)

/-- Share of the regions on a site: 32 times each region's per-channel size (R87, R324). -/
def siteShare (l : List Item) (s : Nat) : Nat :=
  sumN ((mappedRegions l).filter (fun r => bit r.sites s)) (fun r => 32 * perChannel (2 ^ grainOf l) r)

/-- Check 9 (R87). DETAIL's MiB are rounded down (DESIGN CHOICE, notes/assumptions/84.md). -/
def chkCapacity (l : List Item) (q : Site7) : Option Fail :=
  let fail := fun (b : Nat) => (⟨0x0209, secMemplan, some (1, 0), b / mib⟩ : Fail)
  firstFail [
    need (decide (stackTotal l ≤ sumN q.sites (siteCap l q))) (fail (stackTotal l)),
    (q.sites.find? (fun s => decide (siteCap l q s < siteShare l s))).map (fun s => fail (siteShare l s))]

/-! ## Checks 10 to 12 -/

/-- Declared bandwidth of a class in MB/s. -/
def declaredBw (l : List Item) (cls : Nat) : Nat :=
  sumN ((itemsOf l secMemplan 3).filter (fun x => portCls x.body == cls)) (fun x => portBw x.body)

/-- G of R88 in MB/s. -/
def guarDemand (l : List Item) (node : Nat) : Rat :=
  ((2 * fineChannels l * tOf l * enabledW l + 2 * useMin l node 1 +
    sumN (localBeam l node) (fun x => plyNfine x.body * (plySlots l x.idx).length * tOf l) : Nat) : Rat) / spanQ l / 1000000

/-- Derived assured demand in MB/s: the worst span's dump bytes and beam pages to store destinations (R88, R192). -/
def assuredDemand (l : List Item) (node : Nat) : Rat :=
  ((sumN (storeDumpers l node) (fun x => cdiv (plyNfine x.body) (pOf l) * dumpSlotBytes l x.idx) +
    sumN (localBeam l node) (fun x => beamOut l x 16384 (fun d => destKind (destBody l d) == 1)) : Nat) : Rat) / spanQ l / 1000000

/-- Check 10 (R88). -/
def chkPorts (l : List Item) (node : Nat) : Option Fail :=
  let one := fun cls (d : Rat) =>
    need (decide (d ≤ declaredBw l cls))
      (⟨0x020A, secMemplan, ((itemsOf l secMemplan 3).find? (fun x => portCls x.body == cls)).map (fun x => (3, x.idx)),
        d.floor.toNat⟩ : Fail)
  firstFail [one 0 (guarDemand l node), one 1 (assuredDemand l node)]

/-- A ceiling in MB/s: `pct` percent of the derated bandwidth, less the migration reserve (R77, R88). -/
def ceiling (l : List Item) (q : Site7) (pct : Rat) : Rat :=
  let m := refreshMult (refreshPoints l) (tempMax l)
  let der : Rat := if m = 1 then 1 else if m = 2 then 97 / 100 else 88 / 100
  q.sites.length * 1177600 * der * pct / 100 - if sparingOf l then 100000 * q.sites.length else 0

/-! ## Check 13 -/

/-- CYCLES of a spindle's enabled slots (R89). -/
def spindleCycles (l : List Item) (ps : List (Nat × List Byte)) : Nat :=
  sumN ps (fun e => fld (imageBody l (seImage e.2)) 12 2)

/-- Spindle use as a part of f × P_c. -/
def spindleUse (l : List Item) (ps : List (Nat × List Byte)) : Rat := spindleCycles l ps / (clockF * pcQ l)

/-- Check 13 (R89). DETAIL shows at most 65,535 cycles (DESIGN CHOICE, notes/assumptions/114.md). -/
def chkSpindles (l : List Item) : Option Fail :=
  ((spindleSlots l).find? (fun sp => decide (95 / 100 < spindleUse l sp.2))).map (fun sp =>
    ⟨0x020D, secThreading, some (2, 0), sp.1 * 65536 + min 65535 (spindleCycles l sp.2)⟩)

/-! ## Checks 14 to 16 -/

/-- Payload capacity in bits per second of the hanks of a role. -/
def roleRateBits (l : List Item) (role : Nat) : Nat :=
  hankRateBits l (((List.range 12).filter (fun h => hankRole l h == role)).foldl (fun m h => m ||| 2 ^ h) 0)

/-- Input demand in bits per second (R90). -/
def inputDemand (l : List Item) : Rat :=
  sumQ ((classEntries l).filter (fun e => ceValid e && slotEnabled l (ceSlot e))) (fun e =>
    let d := decoderBody l (ceDecoder e)
    ((ceNch e * 8 * decGrain d : Nat) : Rat) / ((decCg d * decSg d : Nat) : Rat) / pcQ l)

/-- Check 14 (R90). -/
def chkInput (l : List Item) : Option Fail :=
  need (decide (inputDemand l ≤ roleRateBits l 1))
    ⟨0x020E, secRoutes, some (1, 0), (inputDemand l / 1000000).floor.toNat⟩

/-- Bytes that a hank set carries in the worst span (R91, R192, R281). -/
def outBytes (l : List Item) (node mask : Nat) : Nat :=
  let r := 8128 / recordBytes l
  sumN ((localCorr l node).filter (fun x => destInSet l mask (plyDest x.body))) (fun x =>
    cdiv (plyNfine x.body) (pOf l) * (cdiv (entriesPer l x.idx * dumpBytes l) 8192 + cdiv (kOf l) r) * 8192) +
  sumN (localBeam l node) (fun x => beamOut l x 8192 (destInSet l mask))

/-- Capacity of a hank set per span, in bytes. -/
def outCap (l : List Item) (mask : Nat) : Rat := hankRateBits l mask * spanQ l / 8

/-- Check 15 (R91). -/
def chkOutput (l : List Item) (node : Nat) : Option Fail :=
  (hankSets l).findSome? (fun m =>
    let b := outBytes l node m
    if (b : Rat) ≤ outCap l m then none
    else some ⟨0x020F, secRoutes,
      ((itemsOf l secRoutes 2).find? (fun x => destInSet l m x.idx)).map (fun x => (2, x.idx)), cdiv b mib⟩)

/-- Highest output-hank use (R95); what a set without capacity has to carry saturates the figure. -/
def outUse (l : List Item) (node : Nat) : Rat :=
  ((hankSets l).map (fun m =>
    if outCap l m = 0 then (if outBytes l node m = 0 then (0 : Rat) else 65536) else outBytes l node m / outCap l m)).foldl max 0

/-- Mesh demand in bits per second (R92). -/
def meshDemand (l : List Item) (node : Nat) : Rat :=
  let classed := classedSlots l
  (sumN ((localPlies l node).filter (fun x => decide (6 ≤ plyLevel x.body))) (fun x =>
    plyNfine x.body * tOf l * sumN ((plySlots l x.idx).filter (fun s => !bit classed s)) (operandBytes l)) : Nat) * 8 / spanQ l

/-- Check 16 (R92). -/
def chkMesh (l : List Item) (node : Nat) : Option Fail :=
  need (decide (meshDemand l node ≤ roleRateBits l 3))
    ⟨0x0210, secRoutes, some (1, 0), (meshDemand l node / 1000000).floor.toNat⟩

/-! ## The checks in order (R78) -/

/-- A check that writes its figures whatever its result, and then passes or fails (R95). -/
structure Check7 where
  fig : Figures → Figures
  res : Option Fail

/-- The sixteen checks, each computed only when it is reached. SLACK is 0 where no ply counts (R95; DESIGN CHOICE,
notes/assumptions/118.md). -/
def checks7 (l : List Item) (q : Site7) : List (Unit → Check7) :=
  let id' := fun (f : Figures) => f
  let node := q.node
  [ fun _ => ⟨id', chkRate l⟩,
    fun _ => ⟨id', chkT l node⟩,
    fun _ => ⟨id', chkAcc l node⟩,
    fun _ =>
      let ds := (localPlies l node).map (fun x => (x.idx, dutyOf l x))
      ⟨fun f => { f with duty := figN 16 ((ds.map (·.2)).foldl max 0 * 10000) },
       (ds.find? (fun d => decide (1 < d.2))).map (fun d => ⟨0x0204, secTieup, some (1, d.1), (d.2 * 10000).floor.toNat⟩)⟩,
    fun _ =>
      let ds := (localPlies l node).map (fun x => (x.idx, slackOf l x))
      let low := match ds with
        | [] => 0
        | d :: r => (r.map (·.2)).foldl min d.2
      ⟨fun f => { f with slack := figI (low * 1000000000) },
       (ds.find? (fun d => decide (d.2 < slackMin l))).map
        (fun d => ⟨0x0205, secTreadling, some (1, d.1), figI (d.2 * 1000000000)⟩)⟩,
    fun _ => ⟨fun f => { f with creel := figN 16 ((creelBytes l node : Rat) / mib) }, chkCreel l node⟩,
    fun _ => ⟨id', chkSites l q⟩,
    fun _ => ⟨id', chkRegions l node⟩,
    fun _ => ⟨fun f => { f with stack := figN 32 ((stackTotal l : Rat) / mib) }, chkCapacity l q⟩,
    fun _ => ⟨id', chkPorts l node⟩,
    fun _ => ⟨fun f => { f with ceil := figN 16 (ceiling l q 70 / 100), guar := figN 16 ((declaredBw l 0 : Rat) / 100) },
      need (decide ((declaredBw l 0 : Rat) ≤ ceiling l q 70)) ⟨0x020B, secMemplan, some (1, 0), declaredBw l 0⟩⟩,
    fun _ => ⟨id', need (decide (((declaredBw l 0 + declaredBw l 1 : Nat) : Rat) ≤ ceiling l q 90))
      ⟨0x020C, secMemplan, some (1, 0), declaredBw l 0 + declaredBw l 1⟩⟩,
    fun _ => ⟨fun f => { f with spin := figN 16 (((spindleSlots l).map (fun sp => spindleUse l sp.2)).foldl max 0 * 10000) },
      chkSpindles l⟩,
    fun _ => ⟨id', chkInput l⟩,
    fun _ => ⟨fun f => { f with out := figN 16 (outUse l node * 10000) }, chkOutput l node⟩,
    fun _ => ⟨id', chkMesh l node⟩ ]

/-- The checks until the first failure, with the figures written so far. -/
def runChecks7 : List (Unit → Check7) → Figures → Figures × Option Fail
  | [], f => (f, none)
  | c :: r, f =>
    let d := c ()
    match d.res with
    | some e => (d.fig f, some e)
    | none => runChecks7 r (d.fig f)

/-- Step 7 (R78, R95). -/
def admission (l : List Item) (q : Site7) : Figures × Option Fail := runChecks7 (checks7 l q) Figures.zero

end Sys2Proof.Machine
end

