-- ==== Sys2Proof/Machine/Measure.lean ====
section
/-!
DEFINITION. Measurement slots and their log (R472 to R474), and the histogram of pass slacks in the Ledger (R484): what many families
extend and count.
-/

namespace Sys2Proof.Machine

/-- Bin of a pass slack in ns (R484): 0 negative; 1 below 1 µs; k for 2^(k-2) to 2^(k-1) µs; 31 above. -/
def slackBin (ns : Int) : Nat :=
  if ns < 0 then 0
  else
    let us := ns.toNat / 1000
    if us = 0 then 1 else min 31 (Nat.log2 us + 2)

/-- A pass slack in the histogram of R483. -/
def State.ledSlack (s : State) (ns : Int) : State := s.ledBump (0x300 + 8 * slackBin ns) 8 1

/-! ## Measurement -/

/-- A log entry (R473). -/
def logEntry (slot kind count eseq time : Nat) (digest inst : List Byte) : List Byte :=
  leBytes 1 slot ++ leBytes 1 kind ++ leBytes 2 count ++ leBytes 4 eseq ++ leBytes 8 time ++ padTo 48 digest ++ padTo 64 inst

/-- What an entry's extension hashes beside the slot: its bytes 0 to 1 and 16 to 127 (R473). -/
def entryHashed (e : List Byte) : List Byte := e.take 2 ++ e.drop 16

/-- A slot extended with a log entry (R473, R474): the slot becomes SHA-384(slot ‖ E); the entry is stored while the log
holds fewer than 256, else it is counted and event 0x1A0 raised. `inst` is the instance bit mask. -/
def State.measure (s : State) (slot kind inst : Nat) (digest : List Byte) : State :=
  let count := if inst = 0 then 1 else popcount 512 inst
  let e := logEntry slot kind count s.trust.eseq s.now digest (leBytes 64 inst)
  let old := s.trust.slots.getD slot []
  let slots := modAt (fun _ => sha384 (old ++ entryHashed e)) slot s.trust.slots
  let ext := modAt (· + 1) slot s.trust.extends_
  let tr := { s.trust with slots := slots, extends_ := ext, eseq := s.trust.eseq + 1 }
  if s.trust.log.length < 256 then
    ({ s with trust := { tr with log := tr.log ++ [e] } }).put R.TRUST_LOG_STATUS_ENTRIES (s.trust.log.length + 1)
  else
    ((({ s with trust := tr }).bump R.TRUST_LOG_STATUS_DROPPED 1).put R.TRUST_LOG_STATUS_FULL 1).trustEvt 0

/-- Slots 2, 3 and 5 reset and their entries discarded, as a full Draft enters ARMED (R472, R474). -/
def State.measureReset235 (s : State) : State :=
  let z := List.replicate 48 0#8
  let keep := fun (e : List Byte) => !(byteAt e 0 == 2 || byteAt e 0 == 3 || byteAt e 0 == 5)
  let log := s.trust.log.filter keep
  let s1 := { s with trust := { s.trust with
      slots := modAt (fun _ => z) 2 (modAt (fun _ => z) 3 (modAt (fun _ => z) 5 s.trust.slots))
      extends_ := modAt (fun _ => 0) 2 (modAt (fun _ => 0) 3 (modAt (fun _ => 0) 5 s.trust.extends_))
      log := log, pendExt := [] } }
  (s1.put R.TRUST_LOG_STATUS_ENTRIES log.length).put R.TRUST_LOG_STATUS_FULL (if log.length < 256 then 0 else s1.get R.TRUST_LOG_STATUS_FULL)

/-- A bank swap of KIND 8 or 9 recorded: swaps of one DIGEST in one span make one entry (R473). -/
def State.measureSwap (s : State) (kind inst : Nat) (digest : List Byte) : State :=
  let hit := fun (p : PendExt) => p.kind == kind && p.digest == digest
  let l := s.trust.pendExt
  let l' := if l.any hit then l.map (fun p => if hit p then { p with inst := orN 512 p.inst (2 ^ inst) } else p)
            else l ++ [⟨kind, digest, 2 ^ inst⟩]
  { s with trust := { s.trust with pendExt := l' } }

/-- The merged swap entries extend their slot at the end of their span (R473). -/
def State.measureSpanEnd (s : State) : State :=
  s.trust.pendExt.foldl (fun a p => a.measure 5 p.kind p.inst p.digest)
    { s with trust := { s.trust with pendExt := [] } }

end Sys2Proof.Machine
end

