-- ==== Sys2Proof/Machine/Loom.lean ====
section
/-!
DEFINITION. Loom sections and knots (R121 to R128): power states, self-tests, holds, and the structure that a pass of a
span runs under (R74).
-/

namespace Sys2Proof.Machine

/-- The structure that a pass of span `span` runs under (R74). -/
def State.structAt (s : State) (span : Nat) : List Item :=
  match s.draft.olds.find? (fun e => decide (span < e.1)) with
  | some e => e.2
  | none => s.draft.struct

/-- The structure that span `span` will run under, as far as the pending patches tell (R72, R74). -/
def State.structFor (s : State) (span : Nat) : List Item :=
  (s.draft.patches.filter (fun p => decide (p.effSpan ≤ span))).foldl (fun l p => applyPatch l p.items) (s.structAt span)

/-- The structures that each pending patch, in order, leads to (R72). -/
def State.pendingStructs (s : State) : List (List Item) :=
  (s.draft.patches.foldl (fun (acc : List Item × List (List Item)) p =>
    let l := applyPatch acc.1 p.items
    (l, acc.2 ++ [l])) (s.draft.struct, [])).2

/-- Does a non-idle ply of a structure cover cells of section `S` of this chip? -/
def sectionCovered (l : List Item) (node S : Nat) : Bool :=
  (plies l).any (fun x => plyFunction x.body != 0 && (plyOnSection x.body node S).isSome)

/-- The non-idle ply that covers a knot of this chip, if any (R126). -/
def knotPly (l : List Item) (node K : Nat) : Option Item :=
  (plies l).find? (fun x => plyFunction x.body != 0 && knotsMeet (plyKnots x.body) (node * 1024 + K, 1))

/-- The ply that covers a knot in the structure in force while a Draft runs (R125, R126). -/
def State.knotCover (s : State) (K : Nat) : Option Item := if s.draftRuns then knotPly s.draft.struct s.node K else none

/-- Does a ply of the structure of span `last` cover a section of this chip? -/
def State.plyCovers (s : State) (ply last S : Nat) : Bool := (plyOnSection (plyBody (s.structAt last) ply) s.node S).isSome

/-- Does the Draft use a section (R121)? The structure in force, a pending patch, or passes, of an older structure, that have not
committed or been emitted. -/
def State.draftUses (s : State) (S : Nat) : Bool :=
  s.draftRuns && (sectionCovered s.draft.struct s.node S || s.pendingStructs.any (fun l => sectionCovered l s.node S) ||
    s.pass.passes.any (fun p => decide (p.state < 6) && s.plyCovers p.ply p.last S) ||
    s.beam.passes.any (fun p => decide (p.state < 3) && s.plyCovers p.ply p.last S))

/-- Is a section used (R121)? In D0 only: the deeper states stop every section (R456). -/
def State.sectionUsed (s : State) (S : Nat) : Bool :=
  s.power.d == 0 && (s.draftUses S || s.is1 R.SECTION_CTL_TEST_POWER S)

/-- Loom cycles between two array times, at 1.30 GHz (R77). -/
def loomCycles (a b : Nat) : Nat := (b - a) * 1300000000 / 4294967296

/-! ## Busy cycles (R126, R127) -/

/-- The cycles `a` to `b` − 1 added to runs of cycles that do not overlap, and how many of them were in none (R127). -/
def addRun (l : List (Nat × Nat)) (a b : Nat) : List (Nat × Nat) × Nat :=
  let old := l.foldl (fun n x => n + (min b x.2 - max a x.1)) 0
  let near := l.filter (fun x => decide (x.1 ≤ b ∧ a ≤ x.2))
  (l.filter (fun x => !decide (x.1 ≤ b ∧ a ≤ x.2)) ++ [(near.foldl (fun m x => min m x.1) a, near.foldl (fun m x => max m x.2) b)], b - a - old)

/-- Busy cycles of a section, each counted once (R127): `n` from cycle `a` on. -/
def State.busyCount (s : State) (S a n : Nat) : State :=
  if n = 0 then s
  else
    let (l, new) := addRun (Tab.get [] s.loom.busy S) a (a + n)
    ({ s with loom := { s.loom with busy := Tab.set [] s.loom.busy S l } } : State).wrap1 R.SECTION_BUSY_CYCLES S new

/-- One run of an injection counted: `n` cycles from array time `t0` on, the first of them cycle `from_` of the injection. Its steps last
`cyc` cycles each and keep the listed knots active: KNOT_ACTIVE, SECTION_BUSY (R126, R127). -/
def State.countRun (s : State) (cyc from_ t0 n : Nat) (steps : List (List Nat)) : State :=
  let c0 := loomCycles 0 t0
  ((List.range steps.length).zip steps).foldl (fun a x =>
    let lo := max from_ (x.1 * cyc)
    let m := min (from_ + n) ((x.1 + 1) * cyc) - lo
    if m = 0 then a
    else
      let a1 := x.2.foldl (fun b k => b.wrap1 R.KNOT_ACTIVE_CYCLES k m) a
      ((x.2.map (· / 64)).dedup).foldl (fun b S => b.busyCount S (c0 + (lo - from_)) m) a1) s

/-- Every run of an injection counted, from its cycle `from_` on (R126, R127). -/
def State.countRuns (s : State) (cyc : Nat) (steps : List (List Nat)) : Nat → List (Nat × Nat) → State
  | _, [] => s
  | from_, r :: rs => (s.countRun cyc from_ r.1 r.2 steps).countRuns cyc steps (from_ + r.2) rs

/-- The runs of an injection of which `total` cycles have been done: those before holds, and the one since `t0`. -/
def runsTo (total t0 : Nat) (rs : List (Nat × Nat)) : List (Nat × Nat) :=
  rs ++ [(t0, total - rs.foldl (fun n r => n + r.2) 0)]

/-- The runs of an injection that stops at `now`: its last run ends there, unless a hold has ended it, or with the last of the injection's
`total` cycles (R155, R190). -/
def runsStopped (total now t0 : Nat) (held : Bool) (rs : List (Nat × Nat)) : List (Nat × Nat) :=
  let done := rs.foldl (fun n r => n + r.2) 0
  if held then rs else rs ++ [(t0, min (loomCycles t0 now) (total - done))]

/-- A knot's running self-test ends after `n` of its 4,096 driven cycles, all of its cells active (R125, R126, R127). -/
def State.testStops (s : State) (K n : Nat) : State :=
  ((s.put1 R.KNOT_STATUS_TEST_BUSY K 0).wrap1 R.KNOT_ACTIVE_CYCLES K n).busyCount (K / 64) (loomCycles 0 (Tab.get 0 s.loom.testAt K)) n

/-- A knot's running self-test aborted (R124, R126). -/
def State.testAborted (s : State) (K : Nat) : State :=
  (s.testStops K (min 4096 (loomCycles (Tab.get 0 s.loom.testAt K) s.now))).put1 R.KNOT_STATUS_TEST_ABORTED K 1

/-- A knot's self-test begins (R125). -/
def State.testBegins (s : State) (K : Nat) : State :=
  let s1 := (s.put1 R.KNOT_STATUS_TEST_BUSY K 1).put1 R.KNOT_STATUS_TEST_PASS K 0
  { s1 with loom := { s1.loom with testAt := Tab.set 0 s1.loom.testAt K s1.now } }

/-- Running self-tests of a section's knots aborted (R124). -/
def State.abortTests (s : State) (S : Nat) : State :=
  forN 64 (fun k a =>
    let K := 64 * S + k
    if a.is1 R.KNOT_STATUS_TEST_BUSY K then a.testAborted K else a) s

/-- A section's power state. -/
def State.pstate (s : State) (S : Nat) : Nat := s.get1 R.SECTION_STATUS_PSTATE S

/-- A section moved by whether it is used (R122): OFF to POWERING, ON to DRAINING, FAULT to OFF. -/
def State.sectionMove (s : State) (S : Nat) : State :=
  let used := s.sectionUsed S
  match s.pstate S with
  | 0 => if used then s.put1 R.SECTION_STATUS_PSTATE S 1 else s
  | 2 => if used then s else (s.abortTests S).put1 R.SECTION_STATUS_PSTATE S 3
  | 4 => if used || s.is1 R.SECTION_EVT_POWER_FAULT S then s else s.put1 R.SECTION_STATUS_PSTATE S 0
  | _ => s

/-- Every section moved. -/
def State.sectionsMove (s : State) : State := forN 16 (fun S a => a.sectionMove S) s

/-- A change of the state that may change which sections are used: a section that the Draft takes from TEST_POWER alone
aborts its self-tests (R124). -/
def State.withSections (s : State) (f : State → State) : State :=
  let s' := f s
  let taken := forN 16 (fun S a => if !s.draftUses S && s'.draftUses S then a.abortTests S else a) s'
  taken.sectionsMove

/-- The sections of this chip that a ply covers. -/
def State.plySections (s : State) (b : List Byte) : List Nat :=
  (List.range 16).filter (fun S => (plyOnSection b s.node S).isSome)

/-- The pass list changed. -/
def State.withPassList (s : State) (f : List Pass → List Pass) : State := { s with pass := { s.pass with passes := f s.pass.passes } }

/-- Is every section of a ply ON? -/
def State.plyOn (s : State) (b : List Byte) : Bool := (s.plySections b).all (fun S => s.pstate S == 2)

/-! ## Holds (R109) -/

/-- The hold of a ply's injection begins: SECTION_EVT.HOLD of its sections (R109, R127). -/
def State.holdNote (s : State) (b : List Byte) : State := (s.plySections b).foldl (fun a S => a.sectionEvt R.SECTION_EVT_HOLD S) s

/-- Held cycles counted in SECTION_HOLD of every section of a ply (R109). -/
def State.holdCount (s : State) (b : List Byte) (cycles : Nat) : State :=
  if cycles = 0 then s else (s.plySections b).foldl (fun a S => a.bump1 R.SECTION_HOLD_CYCLES S cycles) s

/-- The cycles of a hold that an abandonment ends (R109, R155, R190). -/
def State.holdEnd (s : State) (b : List Byte) (held : Bool) (since : Nat) : State :=
  if held then s.holdCount b (loomCycles since s.now) else s

/-! ## Cells (R101, R103, R108) -/

/-- A register of 24 bits: its bits as a signed number. -/
def reg24 (v : Nat) : Int := sgn 24 v

/-- Local position of a cell within its knot, by ply-local row and column: a ply begins at a knot's corner. -/
def cellKey (knot row col : Nat) : Nat := knot * 1024 + row % 32 * 32 + col % 32

/-- The registers that hold a drained sum (R101, R103): the cell's own in MODE 0; in MODE 1 those of its quad, the real sum in the real
registers of the upper two cells and the imaginary sum in those of the lower two, low word first. -/
def sumRegs (mode : Nat) (d : Drained) : List (Nat × Int × Int × Bool) :=
  if mode = 1 then
    let r := d.row / 2 * 2
    let c := d.col / 2 * 2
    let re := usgn 48 d.re
    let im := usgn 48 d.im
    [(cellKey d.knot r c, reg24 re, 0, d.ovf), (cellKey d.knot r (c + 1), reg24 (re / 16777216), 0, d.ovf),
     (cellKey d.knot (r + 1) c, reg24 im, 0, d.ovf), (cellKey d.knot (r + 1) (c + 1), reg24 (im / 16777216), 0, d.ovf)]
  else [(cellKey d.knot d.row d.col, d.re, d.im, d.ovf)]

/-- The knots of this chip that a ply covers. -/
def State.plyHere (s : State) (b : List Byte) : List Nat :=
  (List.range 1024).filter (fun K => knotsMeet (plyKnots b) (s.node * 1024 + K, 1))

/-- The pairs of a ply's knots exchange roles (R101, R108): the pair that has accumulated the sums `ds` holds them and begins to drain; the
new active pair starts from zero. -/
def State.exchange (s : State) (b : List Byte) (ds : List Drained) : State :=
  let ks := s.plyHere b
  let other := s.loom.pairs.filter (fun e => !ks.contains (e.1 / 2048))
  let put := fun (t : Tab (Int × Int × Bool)) (r : Nat × Int × Int × Bool) =>
    Tab.set (0, 0, false) t (r.1 * 2 + b2n (Tab.get false s.loom.pairB (r.1 / 1024))) r.2
  { s with loom := { s.loom with
      pairs := (ds.flatMap (sumRegs (plyMode b))).foldl put other
      pairB := ks.foldl (fun m K => Tab.set false m K (!Tab.get false m K)) s.loom.pairB } }

/-- Drained entries of a ply enter the drain queues of their sections (R108, R109). -/
def State.intoQueues (s : State) (ply : Nat) (ds : List Drained) : State :=
  { s with loom := { s.loom with
      queue := ds.foldl (fun q d => Tab.upd [] q (d.knot / 64) (fun l => l ++ [(ply, d)])) s.loom.queue } }

/-- The merge units take every entry of a ply out of the drain queues (R109, R112). -/
def State.fromQueues (s : State) (ply : Nat) : List Drained × State :=
  (s.loom.queue.flatMap (fun e => (e.2.filter (fun x => x.1 == ply)).map (·.2)),
   { s with loom := { s.loom with
      queue := (s.loom.queue.map (fun (e : Nat × List (Nat × Drained)) => (e.1, e.2.filter (fun x => x.1 != ply)))).filter (fun e => !e.2.isEmpty) } })

/-- A tile-step or sub-step boundary of a ply (R101, R103, R108, R109): the merge units have emptied the queues of what the ply drained before
(R139), its pairs exchange, and the sums drain into the queues. The entries taken so far, and the machine. -/
def State.boundary (s : State) (ply : Nat) (b : List Byte) (taken ds : List Drained) : List Drained × State :=
  let (d, s1) := s.fromQueues ply
  (taken ++ d, (s1.exchange b ds).intoQueues ply ds)

/-- What an abandoned injection leaves in its ply's cells and queues: zeros and nothing (R155; DESIGN CHOICE, notes/assumptions/103.md). -/
def State.clearCells (s : State) (ply : Nat) (b : List Byte) : State :=
  let s1 := (s.fromQueues ply).2
  let ks := s1.plyHere b
  { s1 with loom := { s1.loom with pairs := s1.loom.pairs.filter (fun e => !ks.contains (e.1 / 2048)) } }

/-! ## Prefetches (R161, R162) -/

/-- A prefetch cancelled (R161, R162): counted, with the bytes discarded. Its reads were issued when the pass before it started, and what
they did to the stacks stands. -/
def State.dropPrefetch (s : State) (bytes : Nat) : State :=
  (s.bump R.PASS_PREFETCH_DROP_COUNT 1).bump R.PASS_PREFETCH_WASTE_KIB (bytes / 1024)

/-- Bytes that a pass prefetches: its operand blocks, and its working copy where one is read (R130, R141). -/
def passBytes (l : List Item) (p : Nat) (copy : Bool) : Nat :=
  tOf l * sumList ((plySlots l p).map (operandBytes l)) + if copy then entriesPer l p * accBytes l else 0
where
  /-- Sum of a list. -/
  sumList (l : List Nat) : Nat := l.foldl (· + ·) 0

/-- Bytes that a beam pass prefetches: its operand blocks. -/
def beamPassBytes (l : List Item) (p : Nat) : Nat := tOf l * passBytes.sumList ((plySlots l p).map (operandBytes l))


/-- Is a pass's working copy read from memory: a committed copy, or a residual preload (R130, R141)? -/
def State.copyRead (s : State) (l : List Item) (p c : Nat) : Bool :=
  (Tab.get Integ.init s.pass.integs (p * 16384 + c)).open_ || decide (2 ≤ preloadOf l)

/-- The prefetched passes among those chosen by ply, channel and last span will not inject: their prefetches are cancelled (R161). -/
def State.cancelPrefetch (s : State) (sel : Nat → Nat → Nat → Bool) : State :=
  let cs := s.pass.passes.filter (fun p => p.state == 0 && p.fetched && sel p.ply p.chan p.last)
  let bs := s.beam.passes.filter (fun p => p.state == 0 && p.fetched && sel p.ply p.chan p.last)
  let s1 := cs.foldl (fun a p => a.dropPrefetch (passBytes (s.structAt p.last) p.ply (s.copyRead (s.structAt p.last) p.ply p.chan))) s
  let s2 := bs.foldl (fun a p => a.dropPrefetch (beamPassBytes (s.structAt p.last) p.ply)) s1
  { s2 with
    pass := { s2.pass with passes := s2.pass.passes.map (fun (p : Pass) =>
      if p.state = 0 ∧ sel p.ply p.chan p.last then { p with fetched := false, work := [], ops := [], nmarked := 0 } else p) }
    beam := { s2.beam with passes := s2.beam.passes.map (fun (p : BeamPass) =>
      if p.state = 0 ∧ sel p.ply p.chan p.last then { p with fetched := false, ops := [] } else p) } }

/-- The injections, replays among them, that run on a section that stops being ON are held (R109, R122, R157). -/
def State.holdRunning (s : State) (S : Nat) : State :=
  let hit := fun (ply last : Nat) (runs held : Bool) => runs && !held && s.plyCovers ply last S
  let run := fun (p : Pass) => hit p.ply p.last (p.state == 1 || p.state == 4) p.held
  let runB := fun (p : BeamPass) => hit p.ply p.last (p.state == 1) p.held
  let plies := ((s.pass.passes.filter run).map (fun p => (p.ply, p.last)) ++ (s.beam.passes.filter runB).map (fun p => (p.ply, p.last))).dedup
  let s1 : State := { s with
    pass := { s.pass with passes := s.pass.passes.map (fun (p : Pass) =>
      if run p then { p with held := true, heldAt := s.now, runs := p.runs ++ [(p.t0, loomCycles p.t0 s.now)] } else p) }
    beam := { s.beam with passes := s.beam.passes.map (fun (p : BeamPass) =>
      if runB p then { p with held := true, heldAt := s.now, runs := p.runs ++ [(p.t0, loomCycles p.t0 s.now)] } else p) } }
  plies.foldl (fun a x => a.holdNote (plyBody (s.structAt x.2) x.1)) s1

/-- A section enters FAULT (R122): cause, count, prefetches of its plies cancelled (R161), contents of cells lost. -/
def State.sectionFault (s : State) (S : Nat) : State :=
  let s1 := ((s.put1 R.SECTION_STATUS_PSTATE S 4).bump1 R.SECTION_PWR_COUNT_FAULTS S 1).sectionEvt R.SECTION_EVT_POWER_FAULT S
  let s2 := (s1.abortTests S).cancelPrefetch (fun ply _ last => s.plyCovers ply last S)
  (s2.holdRunning S).sectionMove S

/-! ## Commands -/

/-- An access to a knot register of a section that is not ON (R123). -/
def State.knotOffline (s : State) (K : Nat) : State := s.put1 R.SECTION_EVT_OFFLINE_ACCESS (K / 64) 1

/-- TEST_START (R125): KNOT_CTL with TEST_START and TEST_SEED. -/
def execTestStart (knot seed : Nat) (s : State) : Out :=
  let K := knot % 1024
  if s.pstate (K / 64) ≠ 2 then .next (s.knotOffline K)
  else
    let s1 := s.put1 R.KNOT_CTL_TEST_SEED K seed
    if (s.knotCover K).isSome then .next (s1.put1 R.KNOT_STATUS_TEST_REFUSED K 1)
    else if s.is1 R.KNOT_STATUS_TEST_BUSY K then .next s1
    else .next (s1.testBegins K)

/-- TEST_ABORT (R126). -/
def execTestAbort (knot : Nat) (s : State) : Out :=
  let K := knot % 1024
  if s.pstate (K / 64) ≠ 2 then .next (s.knotOffline K)
  else if s.is1 R.KNOT_STATUS_TEST_BUSY K then .next (s.testAborted K)
  else .next s

/-- A self-test's end for the health word (R309): the tests of the last second, and whether one has failed. -/
def State.noteTest (s : State) (failed : Bool) : State :=
  { s with pair := { s.pair with
    tests := s.pair.tests.filter (fun x => decide (s.now < x + 4294967296)) ++ [s.now]
    testFailed := s.pair.testFailed || failed } }

/-- SELF_TEST_DONE (R125), after 4,096 driven cycles: `cells` are the local positions of the cells that differ. R125 gives the pattern
sequences no rule, and what the checker finds wrong is a fault of the silicon: it comes with the command (DESIGN CHOICE,
notes/assumptions/89.md). A completed test clears TEST_ABORTED and leaves an earlier TEST_FAIL (DESIGN CHOICE,
notes/assumptions/120.md). -/
def execSelfTestDone (knot : Nat) (cells : List Nat) (t : Nat) (s : State) : Out :=
  let s0 := s.upTo t
  let K := knot % 1024
  let bad := (List.range 1024).filter (fun c => cells.contains c)
  let n := bad.length
  if !s0.is1 R.KNOT_STATUS_TEST_BUSY K then .next s0
  else
    let s1 := ((s0.testStops K 4096).put1 R.KNOT_TEST_RESULT_FAILS K n).put1 R.KNOT_TEST_RESULT_FIRST K
      (bad.head?.getD 0)
    let s2 := (s1.put1 R.KNOT_STATUS_TEST_ABORTED K 0).noteTest (n != 0)
    .next (if n = 0 then s2.put1 R.KNOT_STATUS_TEST_PASS K 1
      else (s2.put1 R.KNOT_STATUS_TEST_FAIL K 1).sectionEvt R.SECTION_EVT_TEST_FAIL (K / 64))

/-- TEST_POWER (R121, R124, R127). Clearing it aborts running self-tests before the section leaves ON. -/
def execTestPower (sect : Nat) (on : Bool) (s : State) : Out :=
  let S := sect % 16
  .next (s.withSections (fun a => (if on then a else a.abortTests S).put1 R.SECTION_CTL_TEST_POWER S (b2n on)))

/-- The accumulator and weight registers of a section's cells at zero, pair A active (R101, R122). -/
def State.zeroCells (s : State) (S : Nat) : State :=
  { s with loom := { s.loom with
      pairB := s.loom.pairB.filter (fun e => e.1 / 64 != S)
      pairs := s.loom.pairs.filter (fun e => e.1 / 131072 != S)
      active := s.loom.active.filter (fun e => e.1 / 65536 != S)
      shadow := s.loom.shadow.filter (fun e => e.1 / 65536 != S) } }

/-- SECTION_POWER_GOOD (R122). -/
def execSectionPowerGood (sect : Nat) (s : State) : Out :=
  let S := sect % 16
  if s.pstate S ≠ 1 then .next s
  else .next ((((s.zeroCells S).put1 R.SECTION_STATUS_PSTATE S 2).bump1 R.SECTION_PWR_COUNT_UPS S 1).sectionMove S)

/-- SECTION_POWER_TIMEOUT (R122). -/
def execSectionPowerTimeout (sect : Nat) (s : State) : Out :=
  let S := sect % 16
  if s.pstate S ≠ 1 then .next s else .next (s.sectionFault S)

/-- POWER_GOOD_LOST (R122). -/
def execPowerGoodLost (sect : Nat) (s : State) : Out :=
  let S := sect % 16
  if s.pstate S = 2 ∨ s.pstate S = 3 then .next (s.sectionFault S) else .next s

/-- SECTION_DRAINED (R122, R124): DRAINING to OFF; a section used again powers up from OFF. -/
def execSectionDrained (sect : Nat) (s : State) : Out :=
  let S := sect % 16
  if s.pstate S ≠ 3 then .next s else .next ((s.put1 R.SECTION_STATUS_PSTATE S 0).sectionMove S)

/-- INJECTION_RESUME (R109): a held ply, correlating or beam, resumes after `cycles` held cycles, when its sections are ON. -/
def execInjectionResume (ply cycles : Nat) (s : State) : Out :=
  let resume := fun (last : Nat) (f : State → State) =>
    let b := plyBody (s.structAt last) ply
    if s.plyOn b then f (s.holdCount b cycles) else s
  match s.pass.passes.find? (fun p => p.ply == ply && p.held) with
  | some p => .next (resume p.last (fun a =>
      a.withPassList (fun l => l.map (fun (q : Pass) => if q = p then { q with held := false, t0 := a.now } else q))))
  | none =>
    match s.beam.passes.find? (fun p => p.ply == ply && p.held) with
    | none => .next s
    | some p => .next (resume p.last (fun a => { a with beam := { a.beam with
        passes := a.beam.passes.map (fun (q : BeamPass) => if q = p then { q with held := false, t0 := a.now } else q) } }))

end Sys2Proof.Machine
end

