-- ==== Sys2Proof/Machine/Mirror.lean ====
section
/-!
DEFINITION. The mirror stream and digests of a paired chip (R304 to R308, R311, R316): what the output families need of
pairing.
-/

namespace Sys2Proof.Machine

/-- States of a side (R316). -/
def sideOff : Nat := 0
def sideStandby : Nat := 1
def sideActive : Nat := 2
def sideFenced : Nat := 3
def sideSyncing : Nat := 4

/-- State of this side. -/
def State.side (s : State) : Nat := s.get R.PAIR_STATUS_STATE

/-- Is this a paired side that is not ACTIVE, so that it emits nothing (R308, R313)? -/
def State.silent (s : State) : Bool := s.get R.PAIR_CTL_MODE == 1 && s.side != sideActive

/-- The number of the next output item of a destination (R308). -/
def State.nextItem (s : State) (d : Nat) : Nat × State :=
  let n := Tab.get 0 s.frames.destItem d
  (n, { s with frames := { s.frames with destItem := Tab.set 0 s.frames.destItem d (n + 1) } })

/-- An output item of a destination has been sent whole (R308). -/
def State.itemSent (s : State) (d item : Nat) : State :=
  { s with frames := { s.frames with destDone := Tab.upd 0 s.frames.destDone d (fun v => max v (item + 1)) } }

/-- Is a lane of a ROLE 4 hank LOCKED, so that mirror records can leave (R294, R319)? -/
def State.mirrorOut (s : State) : Bool :=
  (List.range 96).any (fun l => s.get1 R.HANK_STATUS_ROLE (l / 8) == 4 && s.get1 R.LANE_STATUS_STATE l == 5)

/-- A mirror record queued for the partner (R282, R305): KIND, words, MSEQ (one more than the last), body. With no lane to take it the
record is lost, and its MSEQ with it (R319). -/
def State.mirrorRec (s : State) (kind : Nat) (body : List Byte) : State :=
  let b := padTo (roundUp body.length 8) body
  let m := (s.get R.PAIR_MSEQ_TX_MSEQ + 1) % 4294967296
  let r := leBytes 1 kind ++ leBytes 1 (1 + b.length / 8) ++ zeros 2 ++ leBytes 4 m ++ b
  ({ s with pair := { s.pair with mirrorQ := if s.mirrorOut then s.pair.mirrorQ ++ [r] else [] } }).put R.PAIR_MSEQ_TX_MSEQ m

/-- A range of the store that a mirrored write has set (R311), noted once. -/
def State.noteStore (s : State) (a n : Nat) : State :=
  if n = 0 ∨ s.pair.stores.any (fun r => decide (r.1 ≤ a ∧ a + n ≤ r.1 + r.2)) then s
  else { s with pair := { s.pair with
    stores := s.pair.stores.filter (fun r => !decide (a ≤ r.1 ∧ r.1 + r.2 ≤ a + n)) ++ [(a, n)] } }

/-- STORE_WRITE records of at most 2,024 bytes for words at an address (R305). -/
def State.mirrorWords (s : State) (a : Nat) (w : List Byte) : State :=
  let cs := chunks 2024 w
  ((List.range cs.length).zip cs).foldl (fun b c => b.mirrorRec 2 (leBytes 8 (a + 2024 * c.1) ++ c.2)) s

/-- A mirrored host action: only the side in ACTIVE sends it (R305). -/
def State.mirror (s : State) (kind : Nat) (body : List Byte) : State :=
  if s.get R.PAIR_CTL_MODE = 1 ∧ s.side = sideActive then s.mirrorRec kind body else s

/-- A side moves to SYNCING: it sends RESYNC PHASE 0 (R311, R316 action 4). -/
def State.toSyncing (s : State) : State :=
  ({ s with pair := { s.pair with inStep := false, resyncR := none, peerOut := false } }.put R.PAIR_STATUS_STATE sideSyncing).mirrorRec 7 (zeros 16)

/-- A digest mismatch (R307). The first since PAIR_DIV_COUNT was last read is latched; only a side in STANDBY resyncs. -/
def State.diverge (s : State) (ply chan : Nat) : State :=
  let s1 := if s.get R.PAIR_DIV_COUNT_COUNT = 0 then (s.put R.PAIR_DIV_WHERE_CHANNEL chan).put R.PAIR_DIV_WHERE_PLY ply else s
  let s2 := (s1.bump R.PAIR_DIV_COUNT_COUNT 1).pairEvt 2
  if s2.side = sideStandby then s2.toSyncing else s2

/-- Do a digest and the other side's of the same (PLY, CHANNEL, SPAN) meet? -/
def sameItem (a b : List Nat) : Bool := a.take 3 == b.take 3

/-- This side's digest of an item (R307): sent, and compared with the partner's once both are there; only an item in step is
compared (`inStep`). -/
def State.digest (s : State) (ply chan span : Nat) (inStep : Bool) (data : List Byte) : State :=
  if s.get R.PAIR_CTL_MODE ≠ 1 ∨ s.side = sideOff then s
  else
    let c := crc64 data
    let s1 := s.mirrorRec 5 (leBytes 2 ply ++ leBytes 2 chan ++ zeros 4 ++ leBytes 8 span ++ leBytes 8 c)
    let d := [ply, chan, span, c]
    if !inStep then s1
    else
      match s1.pair.theirs.find? (sameItem d) with
      | none => { s1 with pair := { s1.pair with mine := s1.pair.mine ++ [d] } }
      | some e =>
        let s2 := { s1 with pair := { s1.pair with theirs := s1.pair.theirs.erase e } }
        if e = d then s2 else s2.diverge ply chan

/-- The partner's digest of an item arrives (R307). -/
def State.peerDigest (s : State) (ply chan span c : Nat) : State :=
  let d := [ply, chan, span, c]
  match s.pair.mine.find? (sameItem d) with
  | none => { s with pair := { s.pair with theirs := s.pair.theirs ++ [d] } }
  | some e =>
    let s2 := { s with pair := { s.pair with mine := s.pair.mine.erase e } }
    if e = d then s2 else s2.diverge ply chan

/-- Is an item that began at span `first` in step (R311)? While no resync is under way, every item of a side in step is, unless the
partner asked for one that was refused. -/
def State.itemInStep (s : State) (first : Nat) : Bool :=
  match s.pair.resyncR with
  | some r => decide (r ≤ first)
  | none => (s.pair.inStep || s.side == sideActive) && !s.pair.peerOut

end Sys2Proof.Machine
end

