-- ==== Sys2Proof/Machine/Passes.lean ====
section
/-!
DEFINITION. Passes, commit and accumulation (R24 to R30, R100 to R113, R129 to R158): what a pass reads, what the cells
sum, the merge, replay, commit, dumps and slack.
-/

namespace Sys2Proof.Machine

/-! ## Spans and times -/

/-- Numerator and denominator over 2^-32 s of a rational time, rounded down. -/
def tOfQ (q : Rat) : Nat := (q * 4294967296).floor.toNat

/-- Array time at which regular span `n` starts (R24, R297), truncated. -/
def State.spanTime (s : State) (n : Nat) : Nat :=
  s.draft.t0 + tOfQ (((n - s.draft.base : Nat) : Rat) * spanQ s.draft.struct)

/-- The engine item that diverts coarse channel `c` of a slot, if any (R20, R238). -/
def diverted (l : List Item) (slot c : Nat) : Bool := divertOf l slot == c && divertOf l slot != 0xFFFF

/-- Decimation ratio R of the zoom band that fine channel `c` belongs to; 1 for a regular channel (R20, R231). -/
def zoomRatio (l : List Item) (c : Nat) : Nat :=
  match enabledSlots l with
  | [] => 1
  | f :: _ => if diverted l f (c / 2 ^ splitOf l) then max 1 (zR (zoomBody l (f / 64))) else 1

/-- The channel of an exclusion that holds for every fine channel of a span. -/
def allChans : Nat := 16383

/-- Key of (span, channel, slot). -/
def exKey (span chan slot : Nat) : Nat := (span * 16384 + chan) * 4096 + slot

/-- Causes (class bits) recorded for a slot, span and channel (R30, R142), stale spans apart. -/
def State.causes (s : State) (span chan slot : Nat) : Nat :=
  orN 16 (Tab.get 0 s.pass.excl (exKey span chan slot)) (Tab.get 0 s.pass.excl (exKey span allChans slot))

/-- A cause of class `k` recorded. -/
def State.exclude (s : State) (span chan slot k : Nat) : State :=
  { s with pass := { s.pass with
      excl := Tab.upd 0 s.pass.excl (exKey span chan slot) (fun v => orN 16 v (2 ^ k)) } }

/-! ## Cells (R96 to R113) -/

/-- The interleaving of R96, `n` bits each. -/
def interleave : Nat → Nat → Nat → Nat
  | 0, _, _ => 0
  | n + 1, r, c => c % 2 + 2 * (r % 2) + 4 * interleave n (r / 2) (c / 2)

/-- First ply-local row and column on this chip, the side there, and the loom row and column they lie on (R97 to R99). -/
structure Window where
  r0 : Nat
  c0 : Nat
  side : Nat
  lr : Nat
  lc : Nat
deriving DecidableEq, Repr

/-- The part of a ply that falls on chip `node`. -/
def plyWindow (b : List Byte) (node : Nat) : Window :=
  let lv := plyLevel b
  if lv ≤ 5 then
    let w := 32 * 2 ^ lv
    ⟨0, 0, w, w * rowOf (plyIndex b), w * colOf (plyIndex b)⟩
  else
    let d := node - plyNode b
    ⟨1024 * rowOf d, 1024 * colOf d, 1024, 0, 0⟩

/-- A valid cell of a tile-step: its knot, its ply-local weft line (row) and warp line (column), whether it uses the second operands of
a folded step's pairs, the slot of the operand and the slot of the conjugated operand (R110, R111). -/
structure Cell where
  knot : Nat
  row : Nat
  col : Nat
  second : Bool
  s : Nat
  t : Nat
deriving DecidableEq, Repr

/-- The cell at window offset (dr, dc) of a step whose runs are `a` and `b` (counts ca, cb), if it is valid. -/
def cellAt (w : Window) (kind : Nat) (a b : List Nat) (ca cb dr dc : Nat) : Option Cell :=
  let r := w.r0 + dr
  let c := w.c0 + dc
  let k := interleave 5 ((w.lr + dr) / 32) ((w.lc + dc) / 32)
  if kind = 0 then
    if r < ca ∧ c < cb then some ⟨k, r, c, false, a.getD r 0, b.getD c 0⟩ else none
  else if r < c then
    if c < ca then some ⟨k, r, c, false, a.getD r 0, a.getD c 0⟩ else none
  else if c < r then
    if r < cb then some ⟨k, r, c, true, b.getD c 0, b.getD r 0⟩ else none
  else none

/-- The valid cells of one tile-step on this chip: none of a ply that does not cover it. -/
def stepCells (l : List Item) (node p : Nat) (t : TileStep) : List Cell :=
  let b := plyBody l p
  let lv := plyLevel b
  let w := plyWindow b node
  let ra := runSlots l lv t.a
  let rb := runSlots l lv t.b
  let top := max ra.length rb.length
  if !plyLocal node b then []
  else
    (List.range (min w.side (top - w.r0))).flatMap (fun dr =>
      (List.range (min w.side (top - w.c0))).filterMap (fun dc => cellAt w t.kind ra rb ra.length rb.length dr dc))

/-- Is a slot's diagonal entry held by this chip (R301)? All of a ply of level 5 or less; else those of local slots. -/
def diagHere (l : List Item) (p slot : Nat) : Bool := decide (plyLevel (plyBody l p) ≤ 5) || bit (classedSlots l) slot

/-- The entries of a channel of a ply on this chip, as baseline keys i·4096 + j ascending: the order of R113, restricted to
the chip's share for a wide ply (R301). -/
def plyEntries (l : List Item) (node p : Nat) : List Nat :=
  sortN (((tileSteps l p).flatMap (fun t =>
      (stepCells l node p t).map (fun c => min c.s c.t * 4096 + max c.s c.t))) ++
    ((plySlots l p).filter (diagHere l p)).map (fun s => s * 4096 + s))

/-- The slots that chip `n`'s part of a ply uses: its rows and columns of every tile-step. -/
def memberSlots (l : List Item) (p n : Nat) : List Nat :=
  let b := plyBody l p
  let lv := plyLevel b
  let w := plyWindow b n
  let rows := fun (x : List Nat) => (x.drop w.r0).take w.side
  let cols := fun (x : List Nat) => (x.drop w.c0).take w.side
  sortN ((tileSteps l p).flatMap (fun t =>
    let a := runSlots l lv t.a
    let c := runSlots l lv t.b
    if t.kind = 0 then rows a ++ cols c
    else if t.kind = 2 then rows a ++ cols a
    else rows a ++ cols a ++ rows c ++ cols c))

/-- The slots whose operand blocks this chip's part of a ply reads (R299): all of a ply of level 5 or less, none of a ply that does not
cover it. -/
def opSlots (l : List Item) (node p : Nat) : List Nat :=
  if plyLevel (plyBody l p) ≤ 5 then plySlots l p
  else if plyLocal node (plyBody l p) then (memberSlots l p node).filter (fun x => (plySlots l p).contains x)
  else []

/-- A sample's components from an operand block: 4+4 or 8+8 (R7). -/
def operandAt (w m : Nat) (d : List Byte) : Int × Int :=
  if w = 2 then (sgn 8 (byteAt d (2 * m)), sgn 8 (byteAt d (2 * m + 1)))
  else (sgn 4 (byteAt d m % 16), sgn 4 (byteAt d m / 16))

/-! ### Line words (R106) -/

/-- A sample's bits as they lie in an operand block: 8 bits for 4+4, 16 for 8+8, real part low (R7). -/
def rawAt (w m : Nat) (d : List Byte) : Nat := fld d (w * m) w

/-- The 32-bit word of a weft or warp line of a correlating step (R106): `first` alone in a full step, both of a pair in a folded one;
a line to which no slot is assigned carries zero, as every unused field does. -/
def lineWord (mode kind first second : Nat) : Nat :=
  let b := if mode = 1 then 65536 else 256
  first % b + if kind = 1 then second % b * b else 0

/-- The operand that a cell takes from a line word: the first or the second of the pair (R106). -/
def lineOperand (mode : Nat) (second : Bool) (w : Nat) : Int × Int :=
  if mode = 1 then
    let x := if second then w / 65536 else w
    (sgn 8 (x % 256), sgn 8 (x / 256 % 256))
  else
    let x := if second then w / 256 else w
    (sgn 4 (x % 16), sgn 4 (x / 16 % 16))

/-- The word that loads the weight of one cell of a beam row through its weft line (R106, R116): real part, imaginary part, cell. -/
def weightWord (w : Int × Int) (cell : Nat) : Nat := usgn 8 w.1 + 256 * usgn 8 w.2 + 65536 * (cell % 32)

/-- The weight that a cell forms from a weight word: 8+8 bits in MODE 2, the low 4 bits of each part in MODE 0 (R116). -/
def wordWeight (mode w : Nat) : Int × Int :=
  if mode = 2 then (sgn 8 (w % 256), sgn 8 (w / 256 % 256)) else (sgn 4 (w % 16), sgn 4 (w / 256 % 16))

/-- The words of one line over the samples of a step. -/
def lineWords (t mode kind : Nat) (raw : Nat → Nat → Nat) (first second : Option Nat) : List Nat :=
  (List.range t).map (fun m => lineWord mode kind ((first.map (raw m)).getD 0) ((second.map (raw m)).getD 0))

/-! ### Products and sums -/

/-- a · conj(b) (R100). -/
def mulConj (a b : Int × Int) : Int × Int := (a.1 * b.1 + a.2 * b.2, a.2 * b.1 - a.1 * b.2)

/-- One sample added to a short accumulator of `w` bits, held at its limit with the overflow bit set (R101). -/
def accAdd (w : Nat) (acc : Int × Int × Bool) (p : Int × Int) : Int × Int × Bool :=
  let re := acc.1 + p.1
  let im := acc.2.1 + p.2
  (satI w re, satI w im, acc.2.2 || !fitsI w re || !fitsI w im)

/-- The sum of a cell over the T samples of a tile-step: 24 bits in MODE 0, 48 in MODE 1 (R101, R103). -/
def cellSum (mode : Nat) (x y : List (Int × Int)) : Int × Int × Bool :=
  (x.zip y).foldl (fun acc p => accAdd (if mode = 1 then 48 else 24) acc (mulConj p.1 p.2)) (0, 0, false)

/-! ## Long accumulators (R129 to R131, R141) -/

/-- Width of one component of an entry. -/
def accW (l : List Item) : Nat := 4 * accBytes l

/-- The invalid marker of a width with its cause (R131). -/
def marker (w cause : Nat) : Int × Int := (-(2 ^ (w - 1)), cause)
def isMarker (w : Nat) (e : Int × Int) : Bool := e.1 == -(2 ^ (w - 1))

/-- An addition to an entry: a marked entry stays; the result is marked with cause 1 outside the exact range (R131). -/
def entryAdd (w : Nat) (e d : Int × Int) : Int × Int :=
  let re := e.1 + d.1
  let im := e.2 + d.2
  let top : Int := 2 ^ (w - 1) - 1
  if isMarker w e then e
  else if -top ≤ re ∧ re ≤ top ∧ -top ≤ im ∧ im ≤ top then (re, im)
  else marker w 1

/-- An entry's bytes, real part first (R129). -/
def entryBytes (w : Nat) (e : Int × Int) : List Byte := leBytes (w / 8) (usgn w e.1) ++ leBytes (w / 8) (usgn w e.2)

/-- An entry from its bytes. -/
def entryOf (w : Nat) (d : List Byte) : Int × Int := (fldI d 0 (w / 8), fldI d (w / 8) (w / 8))

/-- A space of the regions of one USE, in ascending region number (R327, R141): byte by byte, region and offset. -/
def spaceAt : List Region → Nat → Option (Region × Nat)
  | [], _ => none
  | r :: rs, o => if o < r.size then some (r, o) else spaceAt rs (o - r.size)

/-- The regions of a USE in the placement in force. -/
def State.useSpace (s : State) (use : Nat) : List Region := s.place.regions.filter (fun r => r.use == use)

/-- The access units that bytes of a space touch, by key / 64. -/
def State.spaceUnits (s : State) (rs : List Region) (o n : Nat) : List Nat :=
  (List.range (unitSpan o n)).filterMap (fun k =>
    (spaceAt rs ((o / 64 + k) * 64)).map (fun x => s.keyOf (locate s.place x.1 x.2) / 64))

/-- A port's read of a space: bytes, poison per byte. What a read that is refused, or falls outside the space, leaves in the creel cannot
be trusted: it counts as poisoned (R131: no fault zeroes an entry silently; DEDUCED, notes/assumptions/88.md). -/
def State.spaceRead (s : State) (port : Nat) (rs : List Region) (o n : Nat) : List (Byte × Bool) × State :=
  match spaceAt rs o with
  | none => ((zeros n).map (fun b => (b, true)), s)
  | some (r, _) =>
    let st := s.localStatus port r o n
    if st = stOk then
      let s1 := s.ask port port ((s.spaceUnits rs o n).map (· * 64))
      ((List.range n).map (fun k =>
        match spaceAt rs (o + k) with
        | none => (0#8, false)
        | some (q, x) =>
          let key := s1.keyOf (locate s.place q x)
          (s1.rd key, s1.poisoned (key / 64))), s1)
    else ((zeros n).map (fun b => (b, true)), s.refusedUnits port st (unitSpan o n))

/-- A port's write to a space. -/
def State.spaceWrite (s : State) (port : Nat) (rs : List Region) (o : Nat) (d : List Byte) : State :=
  match spaceAt rs o with
  | none => s
  | some (r, x) => if x + d.length ≤ r.size then (s.portWrite port r x d).1
      else ((s.portWrite port r x (d.take (r.size - x))).1.portWrite port
        ((spaceAt rs (o + (r.size - x))).getD (r, 0)).1 0 (d.drop (r.size - x))).1

/-- Byte offset of channel `c` of ply `p` in the residual region (R141). -/
def chanOffset (l : List Item) (p c : Nat) : Nat :=
  let before := (plies l).filter (fun x => plyCorr x.body && decide (x.idx < p))
  accBytes l * (sumN before (fun x => plyNfine x.body * entriesPer l x.idx) + (c - plyFirst (plyBody l p)) * entriesPer l p)

/-- Bytes of a ply's long accumulators. -/
def accSize (l : List Item) (x : Item) : Nat := accBytes l * plyNfine x.body * entriesPer l x.idx

/-- The lowest offset at which `n` bytes meet none of the places in use. -/
def accGap (used : List (Nat × Nat × Nat)) (n : Nat) : Nat :=
  let ok := fun (o : Nat) => used.all (fun u => decide (o + n ≤ u.2.1 ∨ u.2.1 + u.2.2 ≤ o))
  let cs := (sortN (0 :: used.map (fun u => u.2.1 + u.2.2)))
  (cs.find? ok).getD 0

/-- The places of the plies' long accumulators (ply, offset, bytes): those kept, then every other ply in ascending order at the lowest
free place (DESIGN CHOICE, notes/assumptions/10.md). -/
def accLay (l : List Item) (keep : List (Nat × Nat × Nat)) : List (Nat × Nat × Nat) :=
  ((plies l).filter (fun x => plyCorr x.body)).foldl (fun acc x =>
    if acc.any (fun u => u.1 == x.idx) then acc else acc ++ [(x.idx, accGap acc (accSize l x), accSize l x)]) keep

/-- The places in force for passes whose last regular span is `last`. -/
def State.accPlaces (s : State) (last : Nat) : List (Nat × Nat × Nat) :=
  ((s.pass.layouts.filter (fun e => decide (e.1 ≤ last))).getLast?.map (·.2)).getD []

/-- Byte offset of channel `c` of ply `p` in the long-accumulator space. -/
def State.accOffset (s : State) (l : List Item) (p c last : Nat) : Nat :=
  (((s.accPlaces last).find? (fun u => u.1 == p)).map (fun u => u.2.1)).getD 0 +
    accBytes l * ((c - plyFirst (plyBody l p)) * entriesPer l p)

/-- Entries from bytes with poison: a poisoned line marks its entries with cause 2 (R131). -/
def entriesOf (w : Nat) (keys : List Nat) (d : List (Byte × Bool)) : Tab (Int × Int) :=
  (keys.zip (chunks (w / 4) d)).map (fun p =>
    (p.1, if p.2.any (·.2) then marker w 2 else entryOf w (p.2.map (·.1))))

/-- Key of a channel's integration. -/
def integKey (p c : Nat) : Nat := p * 16384 + c

def State.integ (s : State) (p c : Nat) : Integ := Tab.get Integ.init s.pass.integs (integKey p c)

def State.setInteg (s : State) (p c : Nat) (g : Integ) : State :=
  { s with pass := { s.pass with integs := Tab.set Integ.init s.pass.integs (integKey p c) g } }

/-- Entries whose bytes hold a poisoned one. -/
def poisonedEntries (w : Nat) (d : List (Byte × Bool)) : Nat := ((chunks (w / 4) d).filter (fun e => e.any (·.2))).length

/-- Where the working copy of a pass is read from (R130, R141): the committed copy, or the residual set; nothing for the other
preloads. -/
def State.workAt (s : State) (l : List Item) (p c last : Nat) : Option (List Region × Nat) :=
  if (s.integ p c).open_ then some (s.useSpace 1, s.accOffset l p c last)
  else if preloadOf l < 2 then none
  else some ((s.place.region (residualOf l)).toList, chanOffset l p c)

/-- The working copy fetched for a pass (R130, R141): the committed copy through port 2, or the preload; and how many of
its entries a poisoned line marked. -/
def State.fetchWork (s : State) (l : List Item) (p c last : Nat) : Tab (Int × Int) × Nat × State :=
  let keys := plyEntries l s.node p
  let w := accW l
  match s.workAt l p c last with
  | some (rs, o) =>
    let (d, s1) := s.spaceRead 2 rs o (keys.length * accBytes l)
    (entriesOf w keys d, poisonedEntries w d, s1)
  | none => (keys.map (fun k => (k, if preloadOf l = 1 then (biasRe l, biasIm l) else (0, 0))), 0, s)

/-! ## Operand blocks (R327) -/

/-- Byte offset in the corner-turn space of buffer `b`, channel `c`, slot `slot` (R327), and the block's length. -/
def cornerOffset (l : List Item) (b c slot : Nat) : Nat × Nat :=
  let en := enabledSlots l
  let per := tOf l * sumN en (operandBytes l)
  let before := tOf l * sumN (en.filter (· < slot)) (operandBytes l)
  ((b * fineChannels l + c) * per + before, tOf l * operandBytes l slot)

/-- The operand block of a slot for a pass, and whether one of its lines is poisoned; read through `port`: port 1 for a correlating pass
(R328). -/
def State.readBlock (s : State) (l : List Item) (port span c slot : Nat) : List Byte × Bool × State :=
  let (o, n) := cornerOffset l (span % 2) c slot
  let (d, s1) := s.spaceRead port (s.useSpace 0) o n
  (d.map (·.1), d.any (·.2), s1)

/-! ## Errors met once a pass has its data (R131, R142, R341; notes/assumptions/97.md) -/

/-- Units that a port's reads found uncorrectable after the fact, still poisoned. -/
def State.lateUnits (s : State) (port : Nat) : List Nat :=
  ((s.stk.lateBad.filter (fun e => e.1 == port && s.poisoned e.2)).map (·.2))

/-- The slots whose operand block of a pass holds such a unit are excluded from it with class 7. -/
def State.lateOperands (s : State) (l : List Item) (port span c last : Nat) (slots : List Nat) : State :=
  let bad := s.lateUnits port
  if bad.isEmpty then s
  else slots.foldl (fun a x =>
    let (o, n) := cornerOffset l (span % 2) c x
    if (s.spaceUnits (s.useSpace 0) o n).any bad.contains then a.exclude last c x 7 else a) s

/-- The entries of a working copy on such units are marked with cause 2; how many. -/
def State.lateEntries (s : State) (l : List Item) (p c last : Nat) (work : Tab (Int × Int)) : Tab (Int × Int) × Nat :=
  let bad := s.lateUnits 2
  match s.workAt l p c last with
  | none => (work, 0)
  | some (rs, o) =>
    if bad.isEmpty then (work, 0)
    else
      let w := accW l
      let new := ((List.range work.length).zip work).map (fun x =>
        (x.2.1, if !isMarker w x.2.2 && (s.spaceUnits rs (o + x.1 * accBytes l) (accBytes l)).any bad.contains then marker w 2 else x.2.2))
      (new, ((work.zip new).filter (fun x => x.1 != x.2)).length)

/-! ## Passes of the engine -/

/-- The first pass that meets a test is changed. -/
def updPass (sel : Pass → Bool) (f : Pass → Pass) : List Pass → List Pass
  | [] => []
  | p :: r => if sel p then f p :: r else p :: updPass sel f r


/-- One pass replaced. -/
def State.setPass (s : State) (p q : Pass) : State := s.withPassList (updPass (· == p) (fun _ => q))

/-- Is a regular span final (R132)? All ones: none is yet. -/
def State.isFinal (s : State) (span : Nat) : Bool :=
  let f := s.get R.PASS_FINAL_SPAN_SPAN
  f != 2 ^ 64 - 1 && decide (span ≤ f)

/-- The regular spans that a pass of a channel covers, the last being `last` (R20, R238). -/
def spansOf (l : List Item) (chan last : Nat) : List Nat :=
  let r := zoomRatio l chan
  (List.range r).map (fun k => last + 1 - r + k)

/-- The regular spans that a pass covers. -/
def Pass.spans (p : Pass) (l : List Item) : List Nat := spansOf l p.chan p.last

/-- Is a slot in a stale span over these spans (R171)? -/
def State.stale (s : State) (spans : List Nat) (slot : Nat) : Bool :=
  spans.any (fun sp => Tab.get false s.pass.stale6 (exKey sp allChans slot))

/-- Class bits of a slot over the spans of a pass; `skip` are the slots whose stale class 6 came after its start and
leaves it unchanged (R171). -/
def State.causesOver (s : State) (l : List Item) (chan last : Nat) (skip : List Nat) (slot : Nat) : Nat :=
  let sp := spansOf l chan last
  let m := sp.foldl (fun m x => orN 16 m (s.causes x chan slot)) 0
  if !skip.contains slot && s.stale sp slot then orN 16 m 64 else m

/-- Class bits of a slot over the spans of a pass. -/
def State.passCauses (s : State) (l : List Item) (p : Pass) (slot : Nat) : Nat := s.causesOver l p.chan p.last p.skip6 slot

/-- The slots excluded from a pass, ascending, with their class bits (R30). -/
def State.exclusions (s : State) (l : List Item) (p : Pass) : List (Nat × Nat) :=
  (plySlots l p.ply).filterMap (fun x =>
    let m := s.passCauses l p x
    if m = 0 then none else some (x, m))

/-- Are the remote operand blocks of a pass complete (R299)? -/
def State.remoteReady (s : State) (l : List Item) (p : Pass) : Bool :=
  let classed := classedSlots l
  !hasWide l || (opSlots l s.node p.ply).all (fun x => bit classed x || Tab.get false s.pass.blocks (exKey p.span p.chan x))

/-- Has a spindle flushed span `span`? -/
def Spindle.flushedTo (sp : Spindle) (span : Nat) : Bool :=
  match sp.flushed with
  | some x => decide (span ≤ x)
  | none => false

/-- Are the local operand blocks of a channel's span written, whose last regular span is `last` (R26, R134)? A zoom band's last fine
sample comes with the first block of the next span (R238). A spindle whose records were flushed late has its slots excluded (R201). -/
def State.blocksIn (s : State) (l : List Item) (ply chan last : Nat) : Bool :=
  let classed := classedSlots l
  (plySlots l ply).all (fun x =>
    let sp := Tab.get Spindle.init s.spin.sp (seSpindle (slotEntry l x))
    slotRemote l classed x || (sp.flushedTo last &&
      (zoomRatio l chan == 1 || decide ((last + 1) * tOf l < sp.blk) || sp.flushedTo (last + 1))))

/-- May a queued pass start, as far as the passes before it, its operand blocks and the creel's three buffers let it (R26, R134)? The
pass before it of its ply has been injected, and those before that, and any of its own channel, have committed or been abandoned. -/
def State.mayStart (s : State) (l : List Item) (p : Pass) : Bool :=
  let mine := s.pass.passes.filter (fun q => q.ply == p.ply)
  let before := mine.takeWhile (fun q => q != p)
  s.blocksIn l p.ply p.chan p.last &&
    before.all (fun q => (decide (6 ≤ q.state) && !(q.owes && q.chan == p.chan)) || (before.getLast? == some q && decide (2 ≤ q.state) && q.chan != p.chan)) &&
    decide ((mine.filter (fun q => decide (1 ≤ q.state ∧ q.state ≤ 6))).length < 3)

/-- The reads of a pass (R130, R141, R161): the working copy and the operand blocks are read into the creel; a poisoned operand line
excludes its slots with class 7. A pass that was prefetched has read them. -/
def State.fetchPass (s : State) (l : List Item) (p : Pass) : Pass × State :=
  if p.fetched then (p, s)
  else
    let (w, bad, s1) := s.fetchWork l p.ply p.chan p.last
    let (ops, s2) := (opSlots l s.node p.ply).foldl (fun (acc : List (Nat × List Byte) × State) x =>
      let (d, bad, a) := acc.2.readBlock l 1 p.span p.chan x
      (acc.1 ++ [(x, d)], if bad then a.exclude p.last p.chan x 7 else a)) ([], s1)
    ({ p with work := w, ops := ops, nmarked := bad, fetched := true }, s2)

/-- A pass as it starts (R133, R160): settled or speculative, with the slots excluded from a settled one. -/
def State.fillPass (s : State) (l : List Item) (p : Pass) : Pass × State :=
  let (q, s1) := s.fetchPass l p
  let spec := !s1.isFinal p.last
  ({ q with state := 1, spec := spec, t0 := s1.now, runs := [], excl := if spec then [] else s1.exclusions l p }, s1)

/-- The pass after the one that runs is prefetched (R161), against its own structure, once its blocks are there and its channel's last
pass has committed. -/
def State.prefetch (s : State) (ply : Nat) : State :=
  match s.pass.passes.find? (fun p => p.ply == ply && p.state == 0) with
  | none => s
  | some p =>
    let l := s.structAt p.last
    let open_ := s.pass.passes.any (fun q => q.ply == ply && q.chan == p.chan && (decide (1 ≤ q.state ∧ q.state < 6) || q.owes))
    if p.fetched || open_ || !s.blocksIn l ply p.chan p.last || !s.remoteReady l p then s
    else
      let (q, s1) := s.fetchPass l p
      s1.setPass p q

/-- PASS_START (R133, R134, R141, R160): the oldest queued pass of a ply starts. -/
def execPassStart (ply t : Nat) (s : State) : Out :=
  let s0 := s.upTo t
  match s0.pass.passes.find? (fun p => p.ply == ply && p.state == 0) with
  | none => .next s0
  | some p =>
    let l := s0.structAt p.last
    let b := plyBody l ply
    if !s0.mayStart l p then .next s0
    else if !s0.remoteReady l p then
      if p.waited then .next s0
      else .next (((s0.setPass p { p with waited := true }).bump R.MESH_COUNT_OPER_LATE 1).meshEvt 5)
    else if p.held then .next s0
    else if !s0.plyOn b then .next ((s0.setPass p { p with held := true, heldAt := s0.now }).holdNote b)
    else
      let (q, s1) := s0.fillPass l p
      let s2 := (s1.setPass p q).bump R.PASS_MARKED_COUNT q.nmarked
      .next ((if q.nmarked = 0 then s2 else s2.passEvt 3).prefetch ply)

/-- The cells that one exchange of the pairs drains: those of a MODE 0 step, or of one of the four sub-steps of a MODE 1 step, by the
lines of their quad (R103, R108). -/
def subSteps (mode : Nat) (cs : List Cell) : List (List Cell) :=
  if mode = 1 then (List.range 4).map (fun q => cs.filter (fun c => 2 * (c.row % 2) + c.col % 2 == q)) else [cs]

/-- The sum that a cell of a tile-step drains, from the words of its weft and its warp line (R100, R106, R110, R111): below the diagonal
of a folded step the warp operand times the conjugate of the weft operand. -/
def cellDrain (l : List Item) (p : Pass) (t : TileStep) (c : Cell) : Drained :=
  let b := plyBody l p.ply
  let mode := plyMode b
  let a := runSlots l (plyLevel b) t.a
  let g := runSlots l (plyLevel b) t.b
  let raw := fun (m x : Nat) => rawAt (operandBytes l x) m (((p.ops.find? (fun o => o.1 == x)).map (·.2)).getD [])
  let words := fun (first second : Option Nat) => lineWords (tOf l) mode t.kind raw first second
  let weft := if t.kind = 0 then words a[c.row]? none else words a[c.row]? g[c.row]?
  let warp := if t.kind = 0 then words g[c.col]? none else words a[c.col]? g[c.col]?
  let x := weft.map (lineOperand mode c.second)
  let y := warp.map (lineOperand mode c.second)
  let r := if c.second then cellSum mode y x else cellSum mode x y
  ⟨c.knot, c.row, c.col, c.s, c.t, r.1, r.2.1, r.2.2⟩

/-- The injections of a pass that a test chooses by tile-step, exchange by exchange: the cells that each one drains (R103, R108). -/
def passCells (l : List Item) (node ply : Nat) (sel : TileStep → Bool) : List (TileStep × List Cell) :=
  ((tileSteps l ply).filter sel).flatMap (fun t =>
    (subSteps (plyMode (plyBody l ply)) (stepCells l node ply t)).map (fun cs => (t, cs)))

/-- The sums drained by those injections, in the order in which the drain queues take them (R108 to R112). -/
def drainAll (l : List Item) (node : Nat) (p : Pass) (sel : TileStep → Bool) : List Drained :=
  (passCells l node p.ply sel).flatMap (fun x => x.2.map (cellDrain l p x.1))

/-- The cycles of an injection of which a test chooses the tile-steps, in its runs: those with a valid operand (R126, R127). -/
def State.countInjection (s : State) (l : List Item) (ply : Nat) (sel : TileStep → Bool) (runs : List (Nat × Nat)) : State :=
  s.countRuns (tOf l) ((passCells l s.node ply sel).map (fun x => sortN (x.2.map (·.knot)))) 0 runs

/-- Drained entries with the overflow bit counted (R101). -/
def State.countOverflows (s : State) (d : List Drained) : State :=
  (d.filter (·.ovf)).foldl (fun a x =>
    ((a.bump1 R.KNOT_OVF_COUNT_COUNT x.knot 1).put1 R.KNOT_STATUS_OVF x.knot 1).sectionEvt R.SECTION_EVT_OVF (x.knot / 64)) s

/-- The cycles of an injection. -/
def injCycles (l : List Item) (node ply : Nat) (sel : TileStep → Bool) : Nat := (passCells l node ply sel).length * tOf l

/-- A pass injected, or injected again, with the tile-steps that a test chooses (R101, R103, R108, R109, R126, R127): at each boundary the
ply's pairs exchange and drain into its sections' queues, from which the merge units have taken what came before. The entries taken, and
the machine, whose queues hold those of the last step. -/
def State.inject (s : State) (l : List Item) (p : Pass) (sel : TileStep → Bool) : List Drained × State :=
  let b := plyBody l p.ply
  let (taken, s1) := (passCells l s.node p.ply sel).foldl (fun (acc : List Drained × State) x =>
    acc.2.boundary p.ply b acc.1 (x.2.map (cellDrain l p x.1))) ([], s)
  (taken, (s1.countInjection l p.ply sel (runsTo (injCycles l s.node p.ply sel) p.t0 p.runs)).countOverflows (drainAll l s.node p sel))

/-- What a running pass's reads met since it has its data: exclusions of class 7, entries marked with cause 2 (R131, R142). -/
def State.latePass (s : State) (l : List Item) (p : Pass) : Pass × State :=
  if s.stk.lateBad.isEmpty then (p, s)
  else
    let s1 := s.lateOperands l 1 p.span p.chan p.last (opSlots l s.node p.ply)
    let (work, n) := s1.lateEntries l p.ply p.chan p.last p.work
    let q := { p with work := work, nmarked := p.nmarked + n, excl := if p.spec then p.excl else s1.exclusions l p }
    (q, if n = 0 then s1 else (s1.bump R.PASS_MARKED_COUNT n).passEvt 3)

/-- PASS_INJECTED (R108, R134): the last sample of the last tile-step is injected, and the end marker sent behind it; the drain queues take the
last sums. -/
def execPassInjected (ply : Nat) (s : State) : Out :=
  match s.pass.passes.find? (fun p => p.ply == ply && p.state == 1) with
  | none => .next s
  | some p =>
    if p.held then .next s
    else
      let l := s.structAt p.last
      let (q, s1) := s.latePass l p
      let (d, s2) := s1.inject l q (fun _ => true)
      .next (s2.setPass p { q with state := 2, drained := d })

/-- Is a slot in a list of exclusions? -/
def excluded (ex : List (Nat × Nat)) (slot : Nat) : Bool := ex.any (fun e => e.1 == slot)

/-- One drained sum merged into an entry (R112, R131, R135): conjugated when s > t; `neg` for a replay. -/
def mergeOne (w : Nat) (neg : Bool) (e : Int × Int) (d : Drained) : Int × Int :=
  let im := if d.t < d.s then -d.im else d.im
  let v : Int × Int := if neg then (-d.re, -im) else (d.re, im)
  if isMarker w e then e else if d.ovf then marker w 3 else entryAdd w e v

/-- Drained sums merged into a working copy; those for which `skip` holds are dropped. -/
def mergeAll (w : Nat) (neg : Bool) (skip : Drained → Bool) (work : Tab (Int × Int)) (ds : List Drained) : Tab (Int × Int) :=
  work.map (fun e => (e.1, ds.foldl (fun v d =>
    if min d.s d.t * 4096 + max d.s d.t = e.1 ∧ !skip d then mergeOne w neg v d else v) e.2))

/-- Entries newly marked between two copies, by cause. -/
def newMarks (w : Nat) (old new : Tab (Int × Int)) (cause : Int) : Nat :=
  ((old.zip new).filter (fun p => !isMarker w p.1.2 && isMarker w p.2.2 && p.2.2.2 == cause)).length

/-- New marks counted, with their events (R131, R158). -/
def State.countMarks (s : State) (w : Nat) (old new : Tab (Int × Int)) : State × Nat :=
  let a := newMarks w old new 1
  let b := newMarks w old new 3
  let s1 := s.bump R.PASS_MARKED_COUNT (a + b)
  let s2 := if a = 0 then s1 else s1.passEvt 2
  (if b = 0 then s2 else s2.passEvt 4, a + b)

/-- A pass whose last entry is merged and whose span is final (R134): COMMITTING, or REPLAYING when it is speculative and
something is excluded. -/
def State.decide_ (s : State) (p : Pass) : State :=
  let l := s.structAt p.last
  let ex := if p.spec then s.exclusions l p else p.excl
  if !p.spec ∨ ex.isEmpty then s.setPass p { p with state := 5, excl := ex }
  else ((s.setPass p { p with state := 4, excl := ex, replayed := true, t0 := s.now, runs := [] }).bump R.PASS_REPLAYS_COUNT 1).passEvt 1

/-- MERGE_DONE (R134, R135, R299): every drained sum is merged; a settled pass skips those of excluded slots. A pass of
a wide ply whose span only summaries keep from being final waits for them (R322). -/
def execMergeDone (ply : Nat) (s : State) : Out :=
  match s.pass.passes.find? (fun p => p.ply == ply && p.state == 2) with
  | none => .next s
  | some p =>
    let l := s.structAt p.last
    let w := accW l
    let skip := fun (d : Drained) => !p.spec && (excluded p.excl d.s || excluded p.excl d.t)
    let (rest, s0) := s.fromQueues ply
    let work := mergeAll w false skip p.work (p.drained ++ rest)
    let (s1, n) := s0.countMarks w p.work work
    let q := { p with work := work, drained := [], nmarked := p.nmarked + n }
    if s1.isFinal p.last then .next ((s1.setPass p q).decide_ q)
    else
      let told := hasWide l && decide (6 ≤ plyLevel (plyBody l ply)) && Tab.get false s1.mesh.sent (2 * p.last + 1)
      let s2 := s1.setPass p { q with state := 3 }
      .next (if told then s2.meshEvt 5 else s2)

/-- Is an excluded slot on a line group that a tile-step names (R136)? -/
def stepExcluded (l : List Item) (ply : Nat) (ex : List (Nat × Nat)) (t : TileStep) : Bool :=
  (stepGroups t).any (fun g => (runSlots l (plyLevel (plyBody l ply)) g).any (excluded ex))

/-- REPLAY_DONE (R109, R122, R136): every tile-step with an excluded slot has been injected again; the sums of baselines with an excluded slot
are subtracted, every other one is dropped; `cycles` the replay took. A replay that is held, or over a section that is not ON, does not
end. -/
def execReplayDone (ply cycles : Nat) (s : State) : Out :=
  match s.pass.passes.find? (fun p => p.ply == ply && p.state == 4) with
  | none => .next s
  | some p =>
    let l := s.structAt p.last
    if p.held || !s.plyOn (plyBody l ply) then .next s
    else
      let w := accW l
      let (d, s0) := s.inject l p (stepExcluded l ply p.excl)
      let (rest, s1) := s0.fromQueues ply
      let work := mergeAll w true (fun d => !(excluded p.excl d.s || excluded p.excl d.t)) p.work (d ++ rest)
      let (s2, n) := s1.countMarks w p.work work
      .next ((s2.setPass p { p with state := 5, work := work, nmarked := p.nmarked + n }).bump R.PASS_REPLAY_CYCLES_CYCLES cycles)

/-! ## Pass records and dumps (R143, R151 to R153, R281) -/

/-- The lowest class of a set of class bits. -/
def lowClass (m : Nat) : Nat := ((bitList 11 m).headD 0)

/-- The CAUSES list of a pass tag: slot and class, 64 entries (R143). -/
def causeList (ex : List (Nat × Nat)) : List Byte :=
  padTo 128 ((ex.take 64).flatMap (fun e => leBytes 2 (e.1 + 4096 * lowClass e.2)))

/-- The mask of R10 over `n` bits. -/
def flagMask (n : Nat) (slots : List Nat) : List Byte := leBytes (n / 8) (slotMask slots)

/-- A pass record (R143): the mask and the tag. -/
def passRecord (l : List Item) (span : Nat) (ex : List (Nat × Nat)) (tags nmarked time : Nat) : List Byte :=
  flagMask (nTop l) (ex.map (·.1)) ++ leBytes 8 span ++ leBytes 2 ex.length ++
    leBytes 2 (ex.foldl (fun m e => orN 16 m e.2) 0) ++ leBytes 2 tags ++ leBytes 2 (min 65535 nmarked) ++
    leBytes 8 time ++ zeros 8 ++ causeList ex

/-- TAGS of a pass record that its pass decides: SPECULATIVE, once it has started, and REPLAYED (R133, R143). -/
def Pass.tags (p : Pass) : Nat := 4 * b2n (p.spec && p.state != 0) + 8 * b2n p.replayed

/-- Does a pass record have GAP set (R143)? -/
def recordGap (r : List Byte) : Bool := fld r (r.length - 148) 2 % 2 == 1

/-- The record of an abandoned pass (R143, R155): every slot of its set, class 10, nothing listed; NMARKED is 0
(DESIGN CHOICE, notes/assumptions/121.md). -/
def gapRecord (l : List Item) (p : Pass) (tags deadline : Nat) : List Byte :=
  let slots := plySlots l p.ply
  flagMask (nTop l) slots ++ leBytes 8 p.span ++ leBytes 2 slots.length ++ leBytes 2 1024 ++ leBytes 2 (tags + 1) ++
    zeros 2 ++ leBytes 8 deadline ++ zeros 8 ++ zeros 128

/-- SHIFT of a 16+16 dump (R152). -/
def dumpShift (w : Nat) (es : List (Int × Int)) : Nat :=
  let fits := fun (sh : Nat) (v : Int) => let x := v / (2 ^ sh : Int); decide (-32767 ≤ x ∧ x ≤ 32767)
  ((List.range 48).find? (fun sh => es.all (fun e => isMarker w e || (fits sh e.1 && fits sh e.2)))).getD 47

/-- Entries as they leave (R152). -/
def dumpEntries (l : List Item) (shift : Nat) (es : List (Int × Int)) : List Byte :=
  let w := accW l
  if outFmt l = 0 then es.flatMap (entryBytes w)
  else es.flatMap (fun e =>
    if isMarker w e then entryBytes 16 (marker 16 e.2.toNat)
    else entryBytes 16 (e.1 / (2 ^ shift : Int), e.2 / (2 ^ shift : Int)))

/-- The dump header (R151) with STATE and LOST. -/
def dumpHeader (s : State) (l : List Item) (p chan first spans shift dflags marked seq lost nent state : Nat) : List Byte :=
  let b := leBytes 2 chan ++ leBytes 2 p ++ leBytes 2 spans ++ leBytes 1 (accFmt l) ++ leBytes 1 (outFmt l) ++
    leBytes 8 (s.spanTime (first * zoomRatio l chan)) ++ leBytes 8 first ++ leBytes 8 (s.get R.DRAFT_SERIAL_SERIAL) ++
    leBytes 4 nent ++ leBytes 2 (nTop l / 8) ++ leBytes 1 shift ++ leBytes 1 dflags ++ leBytes 4 marked ++ leBytes 4 seq ++
    leBytes 4 lost ++ leBytes 1 s.node ++ zeros 3
  b ++ leBytes 4 state ++ leBytes 4 (crc32c b)

/-- A frame queued for a destination: retraction frames go ahead of the others (R280). -/
def State.queueDest (s : State) (d : Nat) (f : OutFrame) : State :=
  let q := Tab.get [] s.frames.destQ d
  let q' := if f.type = 6 then q.filter (fun x => x.type == 6) ++ [f] ++ q.filter (fun x => x.type != 6) else q ++ [f]
  { s with frames := { s.frames with destQ := Tab.set [] s.frames.destQ d q' } }

/-- SOURCE_ID of a destination. -/
def destSrc (l : List Item) (d : Nat) : Nat := destSourceId (destBody l d)

/-- The frames of a channel's dump (R281). -/
def dumpFrames (l : List Item) (d p chan seq start item : Nat) (hdr : List Byte) (recs : List (List Byte)) (ent : List Byte) :
    List OutFrame :=
  let per := 8128 / recordBytes l
  let groups := chunks per recs
  let aux := fun lo => lo + seq % 65536 * 4294967296 + p * 281474976710656
  let src := destSrc l d
  let flags := ((List.range groups.length).zip groups).map (fun g =>
    (⟨src, 0x05, start, false, chan, 1, aux (g.1 * per + g.2.length * 65536), hdr ++ g.2.flatten, 0, item, destHanks (destBody l d)⟩ : OutFrame))
  let parts := chunks 8192 ent
  let vis := ((List.range parts.length).zip parts).map (fun v =>
    (⟨src, 0x02, start, false, chan, 1, aux (v.1 * 8192), v.2, b2n (v.1 + 1 == parts.length), item, destHanks (destBody l d)⟩ : OutFrame))
  flags ++ vis

/-- Byte offset of a channel's slot in a store dump region (R153): the slots of the plies that dump there, ascending. -/
def dumpSlotOffset (l : List Item) (node p chan : Nat) : Nat :=
  let d := destRegion (destBody l (plyDest (plyBody l p)))
  let same := (storeDumpers l node).filter (fun x => decide (x.idx < p) && destRegion (destBody l (plyDest x.body)) == d)
  sumN same (fun x => plyNfine x.body * dumpSlotBytes l x.idx) + (chan - plyFirst (plyBody l p)) * dumpSlotBytes l p

/-- Shift and bytes of the entries of a dump. -/
def dumpData (l : List Item) (es : List (Int × Int)) : Nat × List Byte :=
  let shift := if outFmt l = 0 then 0 else dumpShift (accW l) es
  (shift, dumpEntries l shift es)

/-- A formed header with DFLAGS and LOST changed, and its check made good (R151). -/
def reHeader (h : List Byte) (dflags lost : Nat) : List Byte :=
  let b := (putAt (putAt h 39 (leBytes 1 dflags)) 48 (leBytes 4 lost)).take 56
  b ++ (h.drop 56).take 4 ++ leBytes 4 (crc32c b)

/-- A store dump written (R153, R154): header with STATE 0, records, entries; entries with bytes that are refused are LOST. -/
def State.writeItem (s : State) (x : StoreItem) : State :=
  let (a1, _) := s.storeWrite 7 x.base x.header
  let (a2, st2) := a1.storeWrite 7 (x.base + 64) (padTo (x.head - 64) x.records)
  let eb := x.base + x.head
  let (a3, lost) := (segments eb (roundUp x.entries.length 4096)).foldl (fun (acc : State × List Nat) sg =>
    let gone := acc.1.lostBytes 7 sg.1 (min sg.2 (x.entries.length - (sg.1 - eb)))
    let r := acc.1.segWrite 7 sg.1 (padTo sg.2 (x.entries.drop (sg.1 - eb)))
    (r.1, if r.2 = stOk then acc.2 else acc.2 ++ (gone.map (fun k => (sg.1 - eb + k) / max 1 x.per)).dedup)) (a2, [])
  let bad := st2 != stOk || !lost.isEmpty
  let fl := byteAt x.header 39
  let a4 := (if bad then a3.passEvt 5 else a3).flushLanes 7
  let fin := if bad then reHeader x.header (orN 8 fl 4) lost.dedup.length else x.header
  { a4 with pass := { a4.pass with dumps := a4.pass.dumps ++ [⟨x.dest, x.item, x.base, fin, x.head, x.per, x.head + roundUp x.entries.length 4096⟩] } }

/-- The dump of a channel leaves (R28, R151 to R154): entries `es` (in order), records, flags. A standby keeps a store dump
(R308). -/
def State.dump (s : State) (l : List Item) (p chan : Nat) (g : Integ) (es : List (Int × Int)) (dflags : Nat) : State :=
  let (shift, ent) := dumpData l es
  let marked := (es.filter (isMarker (accW l))).length
  let short := if g.records.length = kOf l then 0 else 1
  let hdr := fun st => dumpHeader s l p chan g.first g.records.length shift (short + dflags) marked g.seq 0 es.length st
  let d := plyDest (plyBody l p)
  let db := destBody l d
  let (item, done) := (s.setInteg p chan { open_ := false, first := 0, records := [], seq := g.seq + 1 }).nextItem d
  if destKind db = 0 then
    (dumpFrames l d p chan g.seq (s.spanTime (g.first * zoomRatio l chan)) item (hdr 1) g.records ent).foldl
      (fun a f => a.queueDest d f) done
  else
    match s.place.region (destRegion db) with
    | none => done
    | some r =>
      let x : StoreItem := ⟨d, item, s.pass.heldSeq, r.base + dumpSlotOffset l s.node p chan, hdr 0,
        roundUp (64 + kOf l * recordBytes l) 4096, g.records.flatten, ent, dumpBytes l⟩
      if s.silent then { done with pass := { done.pass with held := done.pass.held ++ [x], heldSeq := done.pass.heldSeq + 1 } } else done.writeItem x

/-- Does the pass of channel span `span` end its integration (R27, R75, R157)? -/
def State.endsInteg (s : State) (l : List Item) (p chan span last : Nat) : Bool :=
  (span + 1) % kOf l == chan % pOf l % kOf l || s.draft.bounds.any (fun b => b.2 == p && decide (last < b.1 ∧ b.1 ≤ last + zoomRatio l chan)) ||
    s.draft.stopSpan == some last

/-- Route-changed tag of a ply's pass (R74, R145): the first at or after the span of the change; the tag is used up. -/
def State.routeTag (s : State) (ply last : Nat) : Bool := s.draft.tags.any (fun x => x.2 == ply && decide (x.1 ≤ last))

/-- A ply's route tag used. -/
def State.useTag (s : State) (ply last : Nat) : State :=
  { s with draft := { s.draft with tags := s.draft.tags.filter (fun x => !(x.2 == ply && decide (x.1 ≤ last))) } }

/-- n_p / f in ns. -/
def passNs (l : List Item) (p : Nat) : Rat := passCycles l p / clockF * 1000000000

/-- A ply's slack for a span recorded (R156). -/
def State.recordSlack (s : State) (ply : Nat) (ns : Int) : State :=
  let v := usgn 32 (satI 32 ns)
  let low := Tab.get 0x7FFFFFFF s.pass.slackMin ply
  let s1 := { s with pass := { s.pass with
    slack := Tab.set 0 s.pass.slack ply v
    slackMin := Tab.set 0x7FFFFFFF s.pass.slackMin ply (if sgn 32 v < sgn 32 low then v else low) } }
  let s2 := s1.ledSlack ns
  if s2.is R.PASS_CTL_EVT_SLACK_EN ∧ ns < sgn 32 (s2.get R.PASS_SLACK_WARN_NS) then s2.passEvt 6 else s2

/-- Deadline of a pass: the start of span s + 2 of its channel (R25). -/
def State.deadlineOf (s : State) (l : List Item) (p : Pass) : Nat := s.spanTime (p.last + 1 + zoomRatio l p.chan)

/-- The working copy with the autos of the pass's spans added to the entries of slots that are not excluded (R140). -/
def State.addAutos (s : State) (l : List Item) (p : Pass) : Tab (Int × Int) :=
  p.work.map (fun e =>
    let i := e.1 / 4096
    if i = e.1 % 4096 ∧ !excluded p.excl i then
      (e.1, entryAdd (accW l) e.2 (((p.spans l).foldl (fun a sp => a + Tab.get 0 s.pass.autos (exKey sp p.chan i)) 0 : Nat), 0))
    else e)

/-- The pass record of a committing pass with `nm` entries newly marked (R143). -/
def State.commitRecord (s : State) (l : List Item) (p : Pass) (nm : Nat) : List Byte :=
  let tags := 2 * b2n (s.routeTag p.ply p.last) + p.tags + 16 * b2n (decide (64 < p.excl.length)) +
    32 * b2n (decide (0 < nm))
  passRecord l p.span p.excl tags nm s.now

/-- A pass committed (R137, R145): its record joins the integration, then the dump or the write-back. -/
def State.commitPass (s : State) (l : List Item) (p : Pass) (work : Tab (Int × Int)) (nm : Nat) : State :=
  let rec_ := s.commitRecord l p nm
  let g0 := s.integ p.ply p.chan
  let g := { g0 with open_ := true, first := if g0.records.isEmpty then p.span else g0.first, records := g0.records ++ [rec_] }
  let s1 : State := { s with pass := { s.pass with commitSpan := p.span } }
  let ends := s1.endsInteg l p.ply p.chan p.span p.last
  let s2 := (if s.routeTag p.ply p.last then s1.useTag p.ply p.last else s1).setPass p { p with
    state := 6, work := [], ops := [], nmarked := nm, commitTime := s.now
    dumpSeq := if ends then some g.seq else none }
  let out := if ends then (dumpData l (work.map (·.2))).2 else (work.map (·.2)).flatMap (entryBytes (accW l))
  let sd := s2.digest p.ply p.chan p.span (s2.itemInStep (g.first * zoomRatio l p.chan)) (rec_ ++ out)
  if ends then sd.dump l p.ply p.chan g (work.map (·.2)) 0
  else (sd.setInteg p.ply p.chan g).spaceWrite 3 (sd.useSpace 1) (sd.accOffset l p.ply p.chan p.last) out

/-- The frames of the dump of a pass: its ply, channel and SEQ (R281). -/
def dumpFrame (p : Pass) (seq : Nat) (f : OutFrame) : Bool :=
  (f.type == 2 || f.type == 5) && f.first == p.chan && f.aux / 281474976710656 == p.ply && f.aux / 4294967296 % 65536 == seq % 65536

/-- A creel buffer of a standby taken back while it still holds the dump of its pass (R308): the dump is dropped and counted. -/
def State.releaseHeld (s : State) (p : Pass) : State :=
  match s.silent, p.dumpSeq with
  | true, some seq =>
    let l := s.structAt p.last
    let d := plyDest (plyBody l p.ply)
    let mine := fun (x : StoreItem) => x.dest == d && fld x.header 0 2 == p.chan && fld x.header 2 2 == p.ply &&
      fld x.header 44 4 == seq % 4294967296
    if !((Tab.get [] s.frames.destQ d).any (dumpFrame p seq) || s.pass.held.any mine) then s
    else
      ({ s with
        frames := { s.frames with destQ := Tab.upd [] s.frames.destQ d (fun q => q.filter (fun f => !dumpFrame p seq f)) }
        pass := { s.pass with held := s.pass.held.filter (fun x => !mine x) } } : State).bump R.PAIR_FAILOVERS_RELEASED 1
  | _, _ => s

/-- Do frames of the dump of a pass still wait (R154)? -/
def State.dumpWaits (s : State) (p : Pass) : Bool :=
  match p.dumpSeq with
  | none => false
  | some seq => (Tab.get [] s.frames.destQ (plyDest (plyBody (s.structAt p.last) p.ply))).any (dumpFrame p seq)

/-- BUFFER_RELEASE (R134, R154): the write-back, or the last entry of the dump, of the ply's oldest committed pass of which nothing waits has
left its creel buffer: the buffers of write-backs are freed behind a dump that stalls. A standby takes the buffer back with what it holds
(R308). -/
def execBufferRelease (ply : Nat) (s : State) : Out :=
  match s.pass.passes.find? (fun p => p.ply == ply && p.state == 6 && (s.silent || !s.dumpWaits p)) with
  | none => .next s
  | some p => .next ((s.withPassList (fun l => l.erase p)).releaseHeld p)

/-- DUMP_STATE_WRITE (R153): the header of the oldest store dump is written with STATE 1. -/
def execDumpStateWrite (s : State) : Out :=
  match s.pass.dumps with
  | [] => .next s
  | d :: r =>
    let hdr := putAt d.header 56 (leBytes 4 1)
    .next ((({ s with pass := { s.pass with dumps := r } }).storeWrite 7 d.addr hdr).1.itemSent d.dest d.item)

/-- Entries that a read marked with cause 2, counted, with event 0x0B3 (R131, R158). -/
def State.markPoisoned (s : State) (n : Nat) : State := if n = 0 then s else (s.bump R.PASS_MARKED_COUNT n).passEvt 3

/-- The committed copy of a channel whose integration ends without a commit is dumped (R27, R75, R155, R157): LAST_ABANDONED when its last
record is that of an abandoned pass. -/
def State.dumpCopy (s : State) (l : List Item) (ply chan last : Nat) : State :=
  let g := s.integ ply chan
  let (w, bad, s1) := s.fetchWork l ply chan last
  (s1.markPoisoned bad).dump l ply chan g (w.map (·.2)) (2 * b2n ((g.records.getLast?.map recordGap).getD false))

/-- The first abandoned pass of a ply whose dump is due (R29): it owes one, and no pass before it is COMMITTING. -/
def firstOwing : List Pass → Option Pass
  | [] => none
  | p :: r => if p.owes then some p else if p.state = 5 then none else firstOwing r

/-- The dumps that abandoned passes of a ply owe leave, as far as no earlier channel's is still to come (R29, R155). -/
def State.dumpOwed (s : State) (ply : Nat) : State :=
  forN s.pass.passes.length (fun _ a =>
    match firstOwing (a.pass.passes.filter (fun p => p.ply == ply)) with
    | none => a
    | some p => ((a.setPass p { p with owes := false })).dumpCopy (a.structAt p.last) ply p.chan p.last) s

/-- One correlating pass abandoned at its deadline (R126, R127, R155): its injection stops, its GAP record, counts, event; the committed copy
stands, and a dump is owed when the integration ends here. -/
def State.abandon (s : State) (p : Pass) : State :=
  let l := s.structAt p.last
  let b := plyBody l p.ply
  let dl := s.deadlineOf l p
  let tag := s.routeTag p.ply p.last
  let rec_ := gapRecord l p (2 * b2n tag + p.tags) dl
  let g0 := s.integ p.ply p.chan
  let g := { g0 with first := if g0.records.isEmpty then p.span else g0.first, records := g0.records ++ [rec_] }
  let sel := fun (t : TileStep) => p.state == 1 || stepExcluded l p.ply p.excl t
  let s0 := s.holdEnd b p.held p.heldAt
  let s1 := if p.state = 1 ∨ p.state = 4 then
      (s0.countInjection l p.ply sel (runsStopped (injCycles l s.node p.ply sel) s.now p.t0 p.held p.runs)).clearCells p.ply b
    else if p.state = 2 then (s0.fromQueues p.ply).2
    else s0
  let s2 := ((((if tag then s1.useTag p.ply p.last else s1).setPass p { p with
    state := 7, held := false, work := [], ops := [], drained := [], owes := s1.endsInteg l p.ply p.chan p.span p.last }).bump
      R.PASS_ABANDONED_COUNT 1).ledCount 4).passEvt 0
  s2.setInteg p.ply p.chan g

/-- PASS_COMMIT (R29, R137, R140, R156): the commit steps of the ply's oldest pass that has neither committed nor been abandoned are done:
a ply's passes commit in order, so that its dumps leave in order (DEDUCED, notes/assumptions/87.md). The slack is recorded after a
span's last pass, none of which was abandoned; sections may cease to be used (R121). -/
def execPassCommit (ply t : Nat) (s : State) : Out :=
  let s0 := s.upTo t
  match s0.pass.passes.find? (fun p => p.ply == ply && decide (p.state < 6)) with
  | none => .next s0
  | some p =>
    if p.state ≠ 5 then .next s0
    else
    let l := s0.structAt p.last
    let work := s0.addAutos l p
    let (s1, n) := s0.countMarks (accW l) p.work work
    let s2 := (s1.commitPass l p work (p.nmarked + n)).dumpOwed ply
    let left := s2.pass.passes.any (fun q => q.ply == ply && q.last == p.last && decide (q.state < 6 ∨ q.state = 7))
    .next (if left then s2 else s2.recordSlack ply ((tToNs (s2.deadlineOf l p) : Int) - tToNs s2.now)).sectionsMove

end Sys2Proof.Machine
end

