-- ==== Sys2Proof/Machine/Trig.lean ====
section
/-!
DEFINITION. The cosine table of R219 and R183, in exact integer arithmetic, and float32 values of exact dyadic
numbers (R186).
-/

namespace Sys2Proof.Machine

/-- π·2^64, truncated. -/
def pi64 : Int := 57952155664616982739

/-- 2^64, the scale of the series. -/
def fix64 : Int := 18446744073709551616

/-- The cosine series: `n` terms from term `i` on, the term's value `t` and its sign carried. -/
def cosSeries : Nat → Int → Int → Int → Int → Int
  | 0, _, _, _, acc => acc
  | n + 1, i, x2, t, acc => cosSeries n (i + 1) x2 (-(t * x2 / fix64 / ((2 * i + 1) * (2 * i + 2)))) (acc + t)

/-- round(32,768 × cos(2π j / 16,384)) for j from 0 to 4,096 (the first quadrant), ties away from zero, at most 32,767. -/
def cosQuarter (j : Nat) : Int :=
  let x := pi64 * j / 8192
  min 32767 ((cosSeries 14 0 (x * x / fix64) fix64 0 * 65536 + fix64) / (2 * fix64))

/-- C of R219: the cosine of k/16,384 turns, rounded and clamped. -/
def cos14 (k : Nat) : Int :=
  let j := k % 4096
  match k / 4096 % 4 with
  | 0 => cosQuarter j
  | 1 => -cosQuarter (4096 - j)
  | 2 => -cosQuarter j
  | _ => cosQuarter (4096 - j)

/-- S of R219: the sine of k/16,384 turns. -/
def sin14 (k : Nat) : Int := cos14 (k + 12288)

/-- The float32 bits of n / 2^e, truncated toward zero (R186); n / 2^e lies in the normal range or is zero. -/
def f32Trunc (n e : Nat) : Nat :=
  if n = 0 then 0
  else
    let k := Nat.log2 n
    let frac := if 23 ≤ k then n / 2 ^ (k - 23) else n * 2 ^ (23 - k)
    (127 + k - e) * 8388608 + frac % 8388608

end Sys2Proof.Machine
end

