-- ==== Sys2Proof/Machine/Sky.lean ====
section
/-!
DEFINITION. Times of fine samples, sky frequencies and offsets of fine channels (R24, R167, R238, R297).
-/

namespace Sys2Proof.Machine

/-- Duration P_f of a fine sample of a regular channel, in seconds. -/
def fineQ (l : List Item) : Rat := pcQ l * (2 ^ splitOf l : Nat)

/-- Index of the first fine sample at DRAFT_START: BASE × T (R297). -/
def State.firstFine (s : State) : Nat := s.draft.base * tOf s.draft.struct

/-- Array time of regular fine sample `m`, truncated (R24). Sample 0 lies BASE spans before DRAFT_START (R297). -/
def State.fineTime (s : State) (l : List Item) (m : Nat) : Nat :=
  ((s.draft.t0 : Int) + ((((m : Int) - (s.firstFine : Int) : Int) : Rat) * fineQ l * 4294967296).floor).toNat

/-- The engine position of a slot and the fields of its entry of the engine item (R230). -/
def zoomFreqOf (l : List Item) (slot : Nat) : Int := sgn 32 (zFreq (zoomBody l (slot / 64)) (slot % 64))

/-- ν of a slot in Hz (R233). -/
def zoomNu (l : List Item) (slot : Nat) : Rat := (zoomFreqOf l slot : Rat) / 4294967296 / pcQ l

/-- FOX_SKY_BASE and FOX_SKY_STEP in Hz. -/
def State.skyBase (s : State) : Rat := (s.get R.FOX_SKY_BASE_BASE : Rat) / 65536
def State.skyStep (s : State) : Rat := (sgn 64 (s.get R.FOX_SKY_STEP_STEP) : Rat) / 65536

/-- f_off of a fine channel of a slot, in Hz (R167, R238). -/
def fOff (l : List Item) (slot c : Nat) : Rat :=
  let n := 2 ^ splitOf l
  let b : Rat := if n = 1 then 0 else (((c % n : Nat) : Int) - ((n / 2 : Nat) : Int) : Int)
  if diverted l slot (c / n) then zoomNu l slot + b / ((zR (zoomBody l (slot / 64)) : Rat) * fineQ l)
  else b / fineQ l

/-- f_RF of a fine channel of a slot, in Hz (R167, R238). -/
def State.fRF (s : State) (l : List Item) (slot c : Nat) : Rat :=
  let n := 2 ^ splitOf l
  if diverted l slot (c / n) then
    let centre := s.skyBase + ((c / n * n + n / 2 : Nat) : Rat) * s.skyStep
    if 0 ≤ s.skyStep then centre + fOff l slot c else centre - fOff l slot c
  else s.skyBase + (c : Rat) * s.skyStep

end Sys2Proof.Machine
end

