-- ==== Sys2Proof/Machine/Beams.lean ====
section
/-!
DEFINITION. Beams (R172, R173, R180 to R193): weights, beam passes, voltage and detected output, pages, retraction
records.
-/

namespace Sys2Proof.Machine

/-! ## Weights and sums (R116, R180, R183) -/

/-- The weight of a steering entry in fine channel `c`, for MODE `mode` (R183). -/
def State.weight (s : State) (l : List Item) (mode c : Nat) (e : Nat × Nat × Int) : Int × Int :=
  let f := s.fRF l e.1 c * 65536
  let q := ((-(f * e.2.2) / 17592186044416).floor % 4096).toNat
  let g : Int := if mode = 2 then 127 else 7
  (g * e.2.1 * cos14 (4 * q) / 2147483648, g * e.2.1 * sin14 (4 * q) / 2147483648)

/-- w · x, without conjugation (R116). -/
def mulC (a b : Int × Int) : Int × Int := (a.1 * b.1 - a.2 * b.2, a.1 * b.2 + a.2 * b.1)

/-- The steering entries that reach a beam: those whose slot is on the warp lines of a step that carries it. -/
def beamEntries (l : List Item) (p b : Nat) : List (Nat × Nat × Int) :=
  let on := (beamSteps l p b).flatMap (fun t => groupSlots l t.a)
  (steering l b).filter (fun e => on.contains e.1)

/-- The steering matrix of a ply (R184): for each beam tile-step, row that carries a beam item and warp line whose slot the beam steers,
step, row, line, AMP and DELAY. -/
def steerEntries (l : List Item) (ply : Nat) : List (Nat × Nat × Nat × Nat × Int) :=
  let w := plyWidth (plyBody l ply)
  let ts := tileSteps l ply
  ((List.range ts.length).zip ts).flatMap (fun t =>
    let line := groupSlots l t.2.a
    (plyBeams l ply).flatMap (fun b =>
      if t.2.beamBase ≤ b.idx ∧ b.idx < t.2.beamBase + w then
        ((List.range line.length).zip line).filterMap (fun c =>
          ((steering l b.idx).find? (fun e => e.1 == c.2)).map (fun e => (t.1, b.idx - t.2.beamBase, c.1, e.2.1, e.2.2)))
      else []))

/-- The steering matrix that passes of a ply use whose last span is `last`: the latest built for that span or an earlier one (R184). -/
def State.matrixOf (s : State) (ply last : Nat) : List (Nat × Nat × Nat × Nat × Int) :=
  ((s.beam.matrices.filter (fun m => m.ply == ply && decide (m.span ≤ last))).foldl (fun (a : SteerMatrix) m =>
    if a.span ≤ m.span then m else a) ⟨ply, 0, []⟩).ents

/-- The words that load the weights of a step of a pass (R106, R116, R184): row, line, word. A cell that none loads has weight 0. -/
def State.stepWeights (s : State) (l : List Item) (p : BeamPass) (k : Nat) : List (Nat × Nat × Nat) :=
  let mode := plyMode (plyBody l p.ply)
  let slots := groupSlots l ((tileSteps l p.ply).getD k ⟨2, 0, 0, 0⟩).a
  ((s.matrixOf p.ply p.last).filter (fun e => e.1 == k)).map (fun e =>
    (e.2.1, e.2.2.1, weightWord (s.weight l mode p.chan (slots.getD e.2.2.1 0, e.2.2.2.1, e.2.2.2.2)) e.2.2.1))

/-- The sum of a row over the samples of a step (R116, R117, R180): each cell's weight, taken from its load word, times the 4+4 data of its
warp line. -/
def State.rowSum (s : State) (l : List Item) (p : BeamPass) (k row : Nat) : List (Int × Int) :=
  let mode := plyMode (plyBody l p.ply)
  let slots := groupSlots l ((tileSteps l p.ply).getD k ⟨2, 0, 0, 0⟩).a
  let data := fun (x : Nat) => ((p.ops.find? (fun o => o.1 == x)).map (·.2)).getD []
  let terms := ((s.stepWeights l p k).filter (fun e => e.1 == row)).map (fun e =>
    (wordWeight mode e.2.2, data (slots.getD e.2.1 0)))
  (List.range (tOf l)).map (fun m =>
    terms.foldl (fun (a : Int × Int) t =>
      let y := mulC t.1 (lineOperand 0 false (lineWord 0 2 (rawAt 1 m t.2) 0))
      (a.1 + y.1, a.2 + y.2)) (0, 0))

/-- The beam sums of a pass, sample by sample: the row sums of every step that carries the beam (R180). -/
def State.beamSum (s : State) (l : List Item) (p : BeamPass) (b : Nat) : List (Int × Int) :=
  let ts := tileSteps l p.ply
  let on := (List.range ts.length).filter (fun k => (beamSteps l p.ply b).any (fun t => ts[k]? == some t))
  let rows := on.map (fun k => s.rowSum l p k (b - (ts.getD k ⟨2, 0, 0, 0⟩).beamBase))
  (List.range (tOf l)).map (fun m =>
    rows.foldl (fun (a : Int × Int) r => let y := r.getD m (0, 0); (a.1 + y.1, a.2 + y.2)) (0, 0))

/-- The shadow weights of a ply's cells loaded for a step (R116): one word for each cell that has an entry, zero for the others. -/
def State.loadShadow (s : State) (l : List Item) (p : BeamPass) (k : Nat) : State :=
  let b := plyBody l p.ply
  let w := plyWindow b s.node
  let cell := fun (r c : Nat) => cellKey (interleave 5 ((w.lr + r) / 32) ((w.lc + c) / 32)) r c
  let mine := s.plyHere b
  { s with loom := { s.loom with
      shadow := (s.stepWeights l p k).foldl (fun (t : Tab Nat) e => Tab.set 0 t (cell e.1 e.2.1) (e.2.2 % 65536))
        (s.loom.shadow.filter (fun e => !mine.contains (e.1 / 1024))) } }

/-- A beam ply's boundary before step `k` (R116): every cell copies its shadow weight to its active one, and the shadow weights of the step
after it, if there is one, are loaded. -/
def State.weightBoundary (s : State) (l : List Item) (p : BeamPass) (k : Nat) : State :=
  let mine := s.plyHere (plyBody l p.ply)
  let act := s.loom.shadow.foldl (fun (t : Tab Nat) e => if mine.contains (e.1 / 1024) then Tab.set 0 t e.1 e.2 else t)
    (s.loom.active.filter (fun e => !mine.contains (e.1 / 1024)))
  let s1 : State := { s with loom := { s.loom with active := act } }
  if k + 1 < (tileSteps l p.ply).length then s1.loadShadow l p (k + 1) else s1

/-- The knots that each step of a beam pass keeps active: those with a row that carries a beam and a line within COUNT (R102, R118). -/
def beamKnots (l : List Item) (node ply : Nat) : List (List Nat) :=
  let b := plyBody l ply
  let w := plyWindow b node
  (tileSteps l ply).map (fun t =>
    let rows := sortN (((plyBeams l ply).filter (fun x =>
      decide (t.beamBase ≤ x.idx ∧ x.idx < t.beamBase + plyWidth b))).map (fun x => (x.idx - t.beamBase) / 32))
    let cols := List.range (cdiv (groupSlots l t.a).length 32)
    sortN (rows.flatMap (fun r => cols.map (fun c => interleave 5 (w.lr / 32 + r) (w.lc / 32 + c)))))

/-! ## Retraction (R172, R173) -/

/-- The source slots of a beam. -/
def beamSlots (l : List Item) (b : Nat) : List Nat := (steering l b).map (·.1)

/-- First fine sample of a span of a channel, counted in the channel's own samples. -/
def chanSample (l : List Item) (span : Nat) : Nat := span * tOf l

/-- First sample that the windows of a beam count from at sample `m` of a channel of decimation ratio `r` (R187). -/
def State.winStart (s : State) (b r m : Nat) : Nat :=
  cdiv (((Tab.get [] s.beam.winBase b).filter (fun x => decide (x ≤ m * r))).getLastD 0) r

/-- The window of a fine sample. -/
def windowOf (base avg m : Nat) : Nat := (m - base) / 2 ^ avg

/-- First sample and number of beam output samples that a span covers (R173). -/
def State.covered (s : State) (l : List Item) (b chan span : Nat) : Nat × Nat :=
  let m := chanSample l span
  let bb := beamBody l b
  if bmOutput bb = 0 then (m, tOf l)
  else
    let base := s.winStart b (zoomRatio l chan) m
    let w0 := windowOf base (bmAvg bb) m
    (base + w0 * 2 ^ bmAvg bb, windowOf base (bmAvg bb) (m + tOf l - 1) - w0 + 1)

/-- A retraction owed for one channel (R172). -/
def State.owedFor (s : State) (l : List Item) (b chan span classes : Nat) (slots : List Nat) (rflags : Nat) : Owed :=
  let (m, n) := s.covered l b chan span
  ⟨bmDest (beamBody l b), destBody l (bmDest (beamBody l b)), s.fineTime l (m * zoomRatio l chan), n, b, chan, 1, classes, slots, span, rflags⟩

/-- Two owed records that one record can cover: the same but for adjoining channels (R173). -/
def owedJoin (a b : Owed) : Bool :=
  { a with first := 0, nch := 0 } == { b with first := 0, nch := 0 } && a.first + a.nch == b.first

/-- Records put into a list of owed ones, runs of channels joined. -/
def owedAdd (l : List Owed) (x : Owed) : List Owed :=
  match l.reverse with
  | [] => [x]
  | y :: r => if owedJoin y x then r.reverse ++ [{ y with nch := y.nch + x.nch }] else l ++ [x]

/-- Records owed from now on. -/
def State.owe (s : State) (xs : List Owed) : State :=
  let bad := xs.foldl (fun (m : Tab Bool) x => (List.range x.nch).foldl (fun m k =>
    Tab.set false m ((x.span * 16384 + x.first + k) * 4096 + x.beam) true) m) s.monBad
  let keep := bad.filter (fun e => decide (s.get R.DRAFT_SPAN_SPAN ≤ e.1 / 67108864 * 4096 + 64))
  { s with beam := { s.beam with owed := s.beam.owed ++ xs.foldl owedAdd [] }, monBad := keep }

/-- The excluded source slots of a beam and their classes, over the spans of a pass. -/
def State.beamExcluded (s : State) (l : List Item) (b chan last : Nat) (skip : List Nat) : List Nat × Nat :=
  (beamSlots l b).foldl (fun (acc : List Nat × Nat) x =>
    let m := s.causesOver l chan last skip x
    if m = 0 then acc else (acc.1 ++ [x], orN 16 acc.2 m)) ([], 0)

/-- The records that a pass owes for its exclusions, one for each beam that has some; `rflags` by beam. -/
def State.passOwes (s : State) (l : List Item) (p : BeamPass) (rflags : Nat → Nat) : List Owed :=
  (plyBeams l p.ply).filterMap (fun x =>
    let (slots, cl) := s.beamExcluded l x.idx p.chan p.last p.skip6
    if slots.isEmpty then none else some (s.owedFor l x.idx p.chan p.span cl slots (rflags x.idx)))

/-- Key of the beam samples of a span and channel. -/
def earlyKey (span chan b : Nat) : Nat := (span * 16384 + chan) * 4096 + b

/-- RFLAGS.SPECULATIVE: the samples were emitted before their span was final (R173). -/
def State.earlyFlag (s : State) (span chan b : Nat) : Nat := 2 * b2n (Tab.get false s.beam.early (earlyKey span chan b))

/-- The 64 bytes of a record sent at `t` with number `rseq` (R173). -/
def owedBytes (x : Owed) (rseq t : Nat) : List Byte :=
  let b := leBytes 8 x.start ++ leBytes 4 x.nsamp ++ leBytes 2 x.beam ++ leBytes 2 x.first ++ leBytes 2 x.nch ++
    leBytes 2 x.classes ++ leBytes 2 x.slots.length ++ leBytes 2 (x.slots.headD 0) ++ leBytes 8 x.span ++ leBytes 2 x.rflags ++
    zeros 2 ++ leBytes 4 rseq ++ leBytes 8 t ++ zeros 12
  b ++ leBytes 4 (crc32c b)

/-! ## Pages (R189) -/

/-- A page of a store destination, in the region that its item `db` names: its content is written, and its header waits. True if it was.
The PSEQ of a beam-block page that is refused is not used again (R189). -/
def State.writePage (s : State) (d item : Nat) (db : List Byte) (ptype count : Nat) (content : List Byte)
    (own : Option (Nat × Nat × Nat)) : State × Bool :=
  match s.place.region (destRegion db) with
  | none => (s, false)
  | some r =>
    let n := Tab.get 0 s.beam.pseq d
    let a := r.base + n % max 1 (r.size / 16384) * 16384
    let (s0, st) := s.storeWrite 8 (a + 64) (padTo 16320 content)
    let s1 := if ptype = 1 then s0 else s0.noteRetry 8 (a + 64) 16320 (st != stOk)
    if st = stOk then
      let h := leBytes 1 ptype ++ zeros 1 ++ leBytes 2 count ++ leBytes 4 content.length ++ leBytes 8 n
      ({ s1 with beam := { s1.beam with
          pages := s1.beam.pages ++ [(⟨d, item, a, n, h, own⟩ : BeamPage)]
          pseq := Tab.set 0 s1.beam.pseq d (n + 1) } }, true)
    else (if ptype = 1 then { s1 with beam := { s1.beam with pseq := Tab.set 0 s1.beam.pseq d (n + 1) } } else s1, false)

/-- An item of a store destination of which no page waits for its header has left whole (R308). -/
def State.itemPages (s : State) (d item : Nat) : State :=
  if s.beam.pages.any (fun g => g.dest == d && g.item == item) then s else s.itemSent d item

/-- A beam-block page: one that is refused is lost (R189); one whose header is written counts in BEAM_FRAMES (R193). -/
def State.beamPage (s : State) (d item : Nat) (db content : List Byte) (own : Option (Nat × Nat × Nat)) : State :=
  let (s1, ok) := s.writePage d item db 1 1 content own
  if ok then s1 else ((s1.bump R.BEAM_STORE_LOST_COUNT 1).beamEvt 3).itemPages d item

/-- BEAM_PAGE_HEADER (R189): the header of the oldest page whose content is visible is written. A header that is refused
loses a beam-block page; that of a retraction page is tried again. -/
def execBeamPageHeader (t : Nat) (s : State) : Out :=
  let s0 := s.upTo t
  match s0.beam.pages with
  | [] => .next s0
  | p :: r =>
    let b := padTo 60 (p.hdr ++ leBytes 8 s0.now)
    let (s0', st) := s0.storeWrite 8 p.addr (b ++ leBytes 4 (crc32c b))
    let s1 := if byteAt p.hdr 0 = 1 then s0' else s0'.noteRetry 8 p.addr 64 (st != stOk)
    if st = stOk then
      let s2 : State := { s1 with beam := { s1.beam with
        pages := r, shown := Tab.set 0 s1.beam.shown p.dest (p.pseq + 1), retry := s1.beam.retry.filter (· != 65536) } }
      .next ((if byteAt p.hdr 0 = 1 then s2.bump R.BEAM_FRAMES_COUNT 1 else s2).itemPages p.dest p.item)
    else if byteAt p.hdr 0 = 1 then
      .next ((({ s1 with beam := { s1.beam with pages := r } }.bump R.BEAM_STORE_LOST_COUNT 1).beamEvt 3).itemPages p.dest p.item)
    else .next { s1 with beam := { s1.beam with retry := 65536 :: s1.beam.retry.filter (· != 65536) } }

/-- Records of a destination taken out of those owed: the first `n` of them with its item as it carried the samples, and the rest. -/
def owedTake (d : Nat) (db : List Byte) : Nat → List Owed → List Owed × List Owed
  | 0, l => ([], l)
  | _, [] => ([], [])
  | n + 1, x :: r =>
    if x.dest = d ∧ x.db = db then let (a, b) := owedTake d db n r; (x :: a, b)
    else let (a, b) := owedTake d db (n + 1) r; (a, x :: b)

/-- The destination item that carried the samples of the oldest record owed to a destination (R172). -/
def State.owedDb (s : State) (dest : Nat) : List Byte := ((s.beam.owed.find? (fun x => x.dest == dest)).map (·.db)).getD []

/-- A page that a standby kept is written (R308); a retraction page that is refused waits for its next try (R177, R189), and one that is
written counts its records in RETRACT_SENT, with event 0x0C4 (R179). -/
def State.writeHeld (s : State) (h : HeldPage) : State :=
  if h.ptype = 1 then s.beamPage h.dest h.item h.db h.content h.own
  else
    let (s1, ok) := s.writePage h.dest h.item h.db h.ptype h.count h.content h.own
    let others := s1.beam.retry.filter (· != h.dest)
    if ok then (({ s1 with beam := { s1.beam with retry := others } } : State).bump R.RETRACT_SENT_COUNT h.count).foxEvt 4
    else { s1 with beam := { s1.beam with held := s1.beam.held ++ [h], retry := h.dest :: others } }

/-- The kept retraction pages of a destination that were refused are tried again, in order (R189, R308). -/
def State.retryHeld (s : State) (dest : Nat) : State :=
  let mine := s.beam.held.filter (fun h => h.dest == dest && h.ptype == 2)
  if s.silent || mine.isEmpty then s
  else mine.foldl State.writeHeld { s with beam := { s.beam with held := s.beam.held.filter (fun h => !(h.dest == dest && h.ptype == 2)) } }

/-- Kept pages that were refused are tried first. Then the oldest `n` (1 to 128) records owed to a destination are sent in one frame, or written in one page, to where the samples went
(R172, R173, R282); a page that is refused leaves them owed (R189). -/
def State.sendOwed (s : State) (dest n : Nat) : State :=
  let s0 := s.retryHeld dest
  let (xs, rest) := owedTake dest (s0.owedDb dest) (clampN 1 128 n) s0.beam.owed
  if xs.isEmpty || (!s0.silent && s0.beam.held.any (fun h => h.dest == dest && h.ptype == 2)) then s0
  else
    let q := Tab.get 0 s0.beam.rseq dest
    let k := xs.length
    let recs := ((List.range k).zip xs).flatMap (fun x => owedBytes x.2 (q + x.1) s0.now)
    let db := s0.owedDb dest
    let done := fun (a : State) =>
      let b := { a with beam := { a.beam with owed := rest, rseq := Tab.set 0 a.beam.rseq dest (q + k) } }
      (b.bump R.RETRACT_SENT_COUNT k).foxEvt 4
    if destKind db = 0 then
      let (item, s1) := s0.nextItem dest
      let s2 := { s1 with beam := { s1.beam with owed := rest, rseq := Tab.set 0 s1.beam.rseq dest (q + k) } }
      s2.queueDest dest ⟨destSourceId db, 0x06, s0.now, false, 0, k, q, recs, 0, item, destHanks db⟩
    else if s0.silent then
      let (item, s1) := s0.nextItem dest
      let page : HeldPage := ⟨dest, db, item, s1.pass.heldSeq, 2, k, recs, none⟩
      let next := Tab.set 0 s1.beam.rseq dest (q + k)
      { s1 with
        beam := { s1.beam with owed := rest, rseq := next, held := s1.beam.held ++ [page] }
        pass := { s1.pass with heldSeq := s1.pass.heldSeq + 1 } }
    else
      let (s1, ok) := s0.writePage dest (s0.nextItem dest).1 db 2 k recs none
      if ok then done { (s1.nextItem dest).2 with beam := { s1.beam with retry := s1.beam.retry.filter (· != dest) } }
      else { s1 with beam := { s1.beam with retry := dest :: s1.beam.retry.filter (· != dest) } }

/-- RETRACTION_SEND (R172, R173, R282). -/
def execRetractionSend (dest n t : Nat) (s : State) : Out := .next ((s.upTo t).sendOwed dest n)

/-! ## Output (R185, R186, R188) -/

/-- A beam block (R188). -/
def beamBlock (b chan n bflags exp start : Nat) (data : List Byte) : List Byte :=
  leBytes 2 b ++ leBytes 2 chan ++ leBytes 2 n ++ leBytes 1 bflags ++ leBytes 1 exp ++ leBytes 8 start ++ data

/-- EXP of a block (R185). -/
def blockExp (ys : List (Int × Int)) : Nat :=
  let fit := fun (e : Nat) (v : Int) => let x := v / (2 ^ e : Int); decide (-32767 ≤ x ∧ x ≤ 32767)
  ((List.range 16).find? (fun e => ys.all (fun y => fit e y.1 && fit e y.2))).getD 15

/-- The bytes of voltage samples at a block exponent. -/
def voltBytes (e : Nat) (ys : List (Int × Int)) : List Byte :=
  ys.flatMap (fun y => leBytes 2 (usgn 16 (y.1 / (2 ^ e : Int))) ++ leBytes 2 (usgn 16 (y.2 / (2 ^ e : Int))))

/-- A window in progress (its sum plus 1; 0: none) and the samples emitted so far, (first sample, float32). -/
structure Detect where
  win : Nat
  sum1 : Nat
  out : List (Nat × Nat)
deriving DecidableEq, Repr

/-- One sample into the windows of a beam (R186): `m` its number, counted from `base`. -/
def detectStep (base avg m : Nat) (y : Int × Int) (d : Detect) : Detect :=
  let w := windowOf base avg m
  let v := (y.1 * y.1 + y.2 * y.2).toNat + if d.win = w then d.sum1 - 1 else 0
  if (m - base) % 2 ^ avg + 1 = 2 ^ avg then ⟨w + 1, 0, d.out ++ [(base + w * 2 ^ avg, f32Trunc v avg)]⟩
  else ⟨w, v + 1, d.out⟩

/-- Key of an open window. -/
def winKey (b chan : Nat) : Nat := b * 16384 + chan

/-- Open windows of the chosen beams and channels discarded (R187): those with a sample in them. -/
def State.cutWindows (s : State) (sel : Nat → Nat → Bool) : State :=
  let hit := fun (w : Nat × Nat × Nat) => sel (w.1 / 16384) (w.1 % 16384)
  let cut := s.beam.windows.filter hit
  let s1 := { s with beam := { s.beam with windows := s.beam.windows.filter (fun w => !hit w) } }
  if cut.isEmpty then s1
  else
    let s2 := s1.bump R.BEAM_WINDOWS_CUT_COUNT cut.length
    if s2.is R.BEAM_CTL_EVT_CUT_EN then s2.beamEvt 2 else s2

/-- Does a patch take effect within or at the end of a channel's span that begins with sample `m`, and change this beam (R187)? -/
def State.cutDue (s : State) (l : List Item) (b chan m : Nat) : Bool :=
  let r := zoomRatio l chan
  (Tab.get [] s.beam.winBase b).any (fun x => decide (m * r < x ∧ x ≤ (m + tOf l) * r))

/-- The window that a patch leaves open at the end of span E − 1 is discarded (R187): once the channel's pass of that span, whose first
sample is `m`, is done or abandoned. -/
def State.cutAfter (s : State) (l : List Item) (b chan m : Nat) : State :=
  if s.cutDue l b chan m then s.cutWindows (fun x c => x == b && c == chan) else s

/-- The blocks of a complete beam of a pass (R185, R186, R189), each with its START; and the windows left open. -/
def State.beamBlocks (s : State) (l : List Item) (p : BeamPass) (b bflags : Nat) (ys : List (Int × Int)) :
    List (Nat × List Byte) × State :=
  let bb := beamBody l b
  let r := zoomRatio l p.chan
  let m0 := chanSample l p.span
  if bmOutput bb = 0 then
    let cs := chunks 2044 ys
    (((List.range cs.length).zip cs).map (fun c =>
      let st := s.fineTime l ((m0 + c.1 * 2044) * r)
      let e := blockExp c.2
      (st, beamBlock b p.chan c.2.length bflags e st (voltBytes e c.2))), s)
  else
    let base := s.winStart b r m0
    let s0 := s
    let (w, v) := Tab.get (0, 0) s0.beam.windows (winKey b p.chan)
    let ws := fun (d : Detect) => Tab.set (0, 0) s0.beam.windows (winKey b p.chan) (if d.sum1 = 0 then (0, 0) else (d.win, d.sum1))
    let d := ((List.range ys.length).zip ys).foldl (fun (a : Detect) x => detectStep base (bmAvg bb) (m0 + x.1) x.2 a) ⟨w, v, []⟩
    ((chunks 2044 d.out).map (fun c =>
      let st := s.fineTime l (((c.headD (0, 0)).1) * r)
      (st, beamBlock b p.chan c.length (bflags + 1) 0 st (c.flatMap (fun x => leBytes 4 x.2)))),
     { s0 with beam := { s0.beam with windows := ws d } }.cutAfter l b p.chan m0)

/-- Ply key under which a beam's route-changed tag is kept (R74). -/
def beamTag (b : Nat) : Nat := 1048576 + b

/-- What names a beam pass: ply, channel, span. -/
def BeamPass.own (p : BeamPass) : Nat × Nat × Nat := (p.ply, p.chan, p.span)

/-- The blocks of a beam leave for its destination (R189, R308). -/
def State.emitBeam (s : State) (l : List Item) (p : BeamPass) (b : Nat) (blocks : List (Nat × List Byte)) : State :=
  let d := bmDest (beamBody l b)
  let db := destBody l d
  let (item, s1) := s.nextItem d
  if destKind db = 0 then
    blocks.foldl (fun a x => a.queueDest d
      ⟨destSrc l d, 0x03, x.1, false, p.chan, 1, b + p.ply * 65536 + p.span % 4294967296 * 4294967296, x.2, 0, item, destHanks db⟩) s1
  else if s.silent then
    { s1 with
      beam := { s1.beam with held := s1.beam.held ++ blocks.map (fun x => ⟨d, db, item, s1.pass.heldSeq, 1, 1, x.2, some p.own⟩) }
      pass := { s1.pass with heldSeq := s1.pass.heldSeq + 1 } }
  else blocks.foldl (fun a x => a.beamPage d item db x.2 (some p.own)) s1

/-! ## Beam passes (R182) -/

/-- The first beam pass that meets a test is changed. -/
def updBeam (sel : BeamPass → Bool) (f : BeamPass → BeamPass) : List BeamPass → List BeamPass
  | [] => []
  | p :: r => if sel p then f p :: r else p :: updBeam sel f r

/-- One beam pass replaced. -/
def State.setBeam (s : State) (p q : BeamPass) : State :=
  { s with beam := { s.beam with passes := updBeam (· == p) (fun _ => q) s.beam.passes } }

/-- May a queued beam pass start, its matrix and its sections apart (R182)? Its operand blocks are written; the pass before it of its
ply has been injected, and those before that are EMITTED or ABANDONED. -/
def State.beamMayStart (s : State) (l : List Item) (p : BeamPass) : Bool :=
  let before := (s.beam.passes.filter (fun q => q.ply == p.ply)).takeWhile (fun q => q != p)
  s.blocksIn l p.ply p.chan p.last &&
    before.all (fun q => decide (3 ≤ q.state) || (before.getLast? == some q && decide (2 ≤ q.state)))

/-- Is the steering matrix that a pass needs still being built (R184)? -/
def State.buildLate (s : State) (ply last : Nat) : Bool := s.beam.builds.any (fun b => b.ply == ply && decide (b.span ≤ last))

/-- A beam pass reads the operand blocks of its ply's slots through port 4, unless it was prefetched (R161); a slot whose block cannot be
used is excluded with class 7 (R189). -/
def State.beamOperands (s : State) (l : List Item) (p : BeamPass) : BeamPass × State :=
  if p.fetched then (p, s)
  else
    let (ops, s1) := (plySlots l p.ply).foldl (fun (acc : List (Nat × List Byte) × State) x =>
      let (d, bad, a) := acc.2.readBlock l 4 p.span p.chan x
      (acc.1 ++ [(x, d)], if bad then a.exclude p.last p.chan x 7 else a)) ([], s)
    ({ p with ops := ops, fetched := true }, s1)

/-- The pass after the one that runs is prefetched (R161), against its own structure, once its blocks are there. -/
def State.prefetchBeam (s : State) (ply : Nat) : State :=
  match s.beam.passes.find? (fun p => p.ply == ply && p.state == 0) with
  | none => s
  | some p =>
    let l := s.structAt p.last
    if p.fetched || !s.blocksIn l ply p.chan p.last then s
    else
      let (q, s1) := s.beamOperands l p
      s1.setBeam p q

/-- BEAM_PASS_START (R116, R133, R172, R182, R184): the oldest queued pass of a beam ply starts, if its steering matrix is built and its
sections are ON; else its injection is held. A settled pass with exclusions owes PRIOR records. -/
def execBeamPassStart (ply t : Nat) (s : State) : Out :=
  let s0 := s.upTo t
  match s0.beam.passes.find? (fun p => p.ply == ply && p.state == 0) with
  | none => .next s0
  | some p =>
    let l := s0.structAt p.last
    let b := plyBody l ply
    if !s0.beamMayStart l p || p.waited || p.held then .next s0
    else if s0.buildLate ply p.last then
      .next (((s0.setBeam p { p with waited := true, heldAt := s0.now }).holdNote b).beamEvt 1)
    else if !s0.plyOn b then .next ((s0.setBeam p { p with held := true, heldAt := s0.now }).holdNote b)
    else
      let (p1, s1) := s0.beamOperands l p
      let spec := !s1.isFinal p.last
      let q := { p1 with state := if (plyBeams l ply).isEmpty then 2 else 1, spec := spec, t0 := s1.now, runs := [] }
      let s2 := ((s1.setBeam p q).loadShadow l q 0).weightBoundary l q 0
      .next ((if spec then s2 else s2.owe (s2.passOwes l q (fun _ => 1))).prefetchBeam ply)

/-- Are records owed on a destination that must leave before samples of span `span` (R172)? PRIOR records of the span, and
any record but LATE ones of an earlier span. -/
def State.owedFirst (s : State) (d span : Nat) : Bool :=
  s.beam.owed.any (fun x => x.dest == d && (decide (x.span < span ∧ x.rflags / 4 % 2 = 0) || (x.span == span && x.rflags % 2 == 1)))

/-- The beam samples of a beam's pass go to the taps that watch it (R390); zero for those of an abandoned pass. -/
def State.tapBeam (s : State) (p : BeamPass) (t b : Nat) (ys : List (Int × Int)) : State :=
  let wanted := s.cap.units.any (fun u => u.2.cfgs.any (fun c =>
    (c.kind == 2 || c.kind == 3) && c.idx == b && c.first == p.chan))
  if !(s.cap.run && wanted) then s
  else { s with cap := { s.cap with
    beam := ((List.range t).zip (ys ++ List.replicate (t - ys.length) (0, 0))).foldl
      (fun m y => Tab.set none m (((p.span * t + y.1) * 16384 + p.chan) * 4096 + b) (some y.2)) s.cap.beam } }

/-- The records that must precede samples of a span on a destination are sent ahead of them (R172). -/
def State.owedAhead (s : State) (d span : Nat) : State :=
  forN s.beam.owed.length (fun _ a => if a.owedFirst d span then a.sendOwed d 128 else a) s

/-- The cycles of a beam step: T in each of its mode's cycles per sample. -/
def beamStepCycles (l : List Item) (ply : Nat) : Nat := modeCycles (plyMode (plyBody l ply)) * tOf l

/-- The end of a beam pass's injection: the weights of every step have been loaded and copied in turn, the cycles of its knots are counted
(R116, R126, R127). -/
def State.beamInjected (s : State) (l : List Item) (p : BeamPass) : State :=
  let n := (tileSteps l p.ply).length
  let cyc := beamStepCycles l p.ply
  ((List.range (n - 1)).foldl (fun a k => a.weightBoundary l p (k + 1)) s).countRuns cyc (beamKnots l s.node p.ply) 0 (runsTo (n * cyc) p.t0 p.runs)

/-- BEAM_COMPLETE (R172, R180, R182, R185, R186, R189): the next beam, in ascending number, of the running pass of a ply is complete and its
blocks leave, behind the retraction records that must precede them. -/
def execBeamComplete (ply beam t : Nat) (s : State) : Out :=
  let s0 := s.upTo t
  match s0.beam.passes.find? (fun p => p.ply == ply && p.state == 1) with
  | none => .next s0
  | some p =>
    let l := s0.structAt p.last
    let s0 := s0.lateOperands l 4 p.span p.chan p.last (plySlots l ply)
    let mine := (plyBeams l ply).map (·.idx)
    let todo := mine.filter (fun b => !p.sums.any (fun x => x.1 == b))
    if !todo.contains beam || todo.any (fun b => decide (b < beam)) || p.held || !s0.plyOn (plyBody l ply) then .next s0
    else
      let ys := s0.beamSum l p beam
      let tag := s0.routeTag (beamTag beam) p.last
      let (blocks, s1) := s0.beamBlocks l p beam (2 * b2n p.spec + 4 * b2n tag) ys
      let old := Tab.get (0, 0) s0.beam.windows (winKey beam p.chan)
      let last := todo.length == 1
      let q := { p with
        sums := p.sums ++ [(beam, ys)], data := p.data ++ blocks.flatMap (·.2), out := true
        wins := p.wins ++ [(beam, old)], state := if last then 2 else 1 }
      let s2 := (if tag then s1.useTag (beamTag beam) p.last else s1).setBeam p q
      let s3 := if s2.isFinal p.last then s2 else { s2 with beam := { s2.beam with
        early := Tab.set false s2.beam.early (earlyKey p.span p.chan beam) true } }
      let s4 := (s3.tapBeam p (tOf l) beam ys).owedAhead (bmDest (beamBody l beam)) p.span
      let s5 := s4.emitBeam l p beam blocks
      .next (if last then s5.beamInjected l p else s5)

/-- Are frames or pages of a pass still to leave? -/
def State.beamWaits (s : State) (l : List Item) (p : BeamPass) : Bool :=
  let ds := ((plyBeams l p.ply).map (fun x => bmDest x.body)).dedup
  ds.any (fun d =>
    (Tab.get [] s.frames.destQ d).any (fun f => f.type == 3 && f.first == p.chan && f.aux / 65536 % 65536 == p.ply &&
      f.aux / 4294967296 == p.span % 4294967296) ||
    s.beam.pages.any (fun g => g.own == some p.own))

/-- The output items of a beam pass that a standby still keeps (R308), one of each beam, dropped and counted: its sum buffer is taken back. -/
def State.releaseBeams (s : State) (l : List Item) (p : BeamPass) : State :=
  if !s.silent then s
  else
    let ds := ((plyBeams l p.ply).map (fun x => bmDest x.body)).dedup
    let mine := fun (f : OutFrame) => f.type == 3 && f.first == p.chan && f.aux / 65536 % 65536 == p.ply &&
      f.aux / 4294967296 == p.span % 4294967296
    ds.foldl (fun a d =>
      let items := ((((Tab.get [] a.frames.destQ d).filter mine).map (·.item)) ++
        ((a.beam.held.filter (fun g => g.dest == d && g.own == some p.own)).map (·.item))).dedup
      ({ a with
        frames := { a.frames with destQ := Tab.upd [] a.frames.destQ d (fun q => q.filter (fun f => !mine f)) }
        beam := { a.beam with held := a.beam.held.filter (fun g => !(g.dest == d && g.own == some p.own)) } } : State).bump
          R.PAIR_FAILOVERS_RELEASED items.length) s

/-- BEAM_PASS_EMITTED (R182, R307, R308): every frame or page of the oldest emitting pass has left, and its sum buffer is released; its
digest is sent. On a standby the buffer is needed for a later pass: what it still holds is released (notes/assumptions/94.md). -/
def execBeamPassEmitted (ply : Nat) (s : State) : Out :=
  match s.beam.passes.find? (fun p => p.ply == ply && p.state == 2) with
  | none => .next s
  | some p =>
    let l := s.structAt p.last
    if !s.silent && s.beamWaits l p then .next s
    else
      let s1 := (s.digest p.ply p.chan p.span (s.itemInStep (p.span - 1)) p.data).releaseBeams l p
      let q := { p with state := 3, ops := [], sums := [], data := [] }
      .next (if s1.isFinal p.last then { s1 with beam := { s1.beam with passes := s1.beam.passes.erase p } } else s1.setBeam p q).sectionsMove

/-- Cycles that a pass waited for its steering matrix (R184): in BEAM_WEIGHT_HOLD, and as a hold in SECTION_HOLD (R116). -/
def State.weightHold (s : State) (b : List Byte) (cycles : Nat) : State := (s.bump R.BEAM_WEIGHT_HOLD_CYCLES cycles).holdCount b cycles

/-- STEERING_BUILD_DONE (R184): the oldest build of a ply's steering matrix is complete; `cycles` are those that its pass waited, when
that was the build it waited for. -/
def execSteeringBuildDone (ply cycles : Nat) (s : State) : Out :=
  match s.beam.builds.find? (fun b => b.ply == ply) with
  | none => .next s
  | some m =>
    let s1 := { s with beam := { s.beam with builds := s.beam.builds.erase m, matrices := s.beam.matrices ++ [m] } }
    match s1.beam.passes.find? (fun p => p.ply == ply && p.waited && p.state == 0) with
    | none => .next s1
    | some p =>
      if s1.buildLate ply p.last then .next s1
      else .next ((s1.setBeam p { p with waited := false }).weightHold (plyBody (s1.structAt p.last) ply) cycles)

/-- Builds begun for plies of a structure, for use from span `span` (R184). -/
def State.beginBuilds (s : State) (l : List Item) (ps : List Nat) (span : Nat) : State :=
  { s with beam := { s.beam with builds := s.beam.builds ++ ps.map (fun p => ⟨p, span, steerEntries l p⟩) } }

/-- A span becomes final (R172): the started speculative passes that end with it owe records for their exclusions, beam by
beam; those that are done are forgotten. -/
def State.beamFinal (s : State) (span : Nat) : State :=
  let due := s.beam.passes.filter (fun p => p.last == span && p.spec && decide (1 ≤ p.state ∧ p.state ≤ 3))
  let recs := due.flatMap (fun p => s.passOwes (s.structAt p.last) p (s.earlyFlag p.span p.chan))
  let s1 := s.owe ((sortN (recs.map (·.beam))).flatMap (fun b => recs.filter (fun x => x.beam == b)))
  { s1 with beam := { s1.beam with
    passes := s1.beam.passes.filter (fun p => !(decide (p.last ≤ span) && decide (3 ≤ p.state)))
    early := s1.beam.early.filter (fun e => decide (span ≤ e.1 / 67108864 * 4096 + 64)) } }

/-- The samples of an abandoned pass are missing from the window sums (R187). At the end of its span a detected beam has the window open
that the span's last sample lies in, unless it was its window's last: with the sum that it had before the pass, or, begun in the pass, with
no sample. The windows of a beam that was complete, and that its completion has cut, stay cut. -/
def State.dropSamples (s : State) (l : List Item) (p : BeamPass) : State :=
  (plyBeams l p.ply).foldl (fun a x =>
    let done := p.wins.find? (fun w => w.1 == x.idx)
    if bmOutput x.body = 0 ∨ (done.isSome ∧ a.cutDue l x.idx p.chan (chanSample l p.span)) then a
    else
      let key := winKey x.idx p.chan
      let old := (done.map (·.2)).getD (Tab.get (0, 0) a.beam.windows key)
      let m := chanSample l p.span
      let base := a.winStart x.idx (zoomRatio l p.chan) m
      let w := windowOf base (bmAvg x.body) (m + tOf l - 1)
      let new := if (m + tOf l - base) % 2 ^ bmAvg x.body = 0 then (0, 0) else if old.2 ≠ 0 ∧ old.1 = w then old else (w, 1)
      { a with beam := { a.beam with windows := Tab.set (0, 0) a.beam.windows key new } }) s

/-- The pages of an abandoned pass that have not left: but for the one whose header is next, which is completed (R190), and those that a
standby holds (R308). -/
def State.dropPages (s : State) (p : BeamPass) : State :=
  { s with beam := { s.beam with
    pages := s.beam.pages.take 1 ++ (s.beam.pages.drop 1).filter (fun g => g.own != some p.own)
    held := s.beam.held.filter (fun g => g.own != some p.own) } }

/-- A beam pass abandoned at its deadline (R126, R127, R187, R190). -/
def State.beamAbandon (s : State) (p : BeamPass) : State :=
  let l := s.structAt p.last
  let mine := plyBeams l p.ply
  let recs := mine.map (fun x => s.owedFor l x.idx p.chan p.span 1024 (beamSlots l x.idx) (2 * b2n p.spec))
  let gone := fun (f : OutFrame) => f.type == 3 && f.first == p.chan && f.aux / 65536 % 65536 == p.ply &&
    f.aux / 4294967296 == p.span % 4294967296
  let s1 := { s with
    frames := { s.frames with destQ := s.frames.destQ.map (fun (q : Nat × List OutFrame) => (q.1, q.2.filter (fun f => !gone f))) } }
  let s2 := { s1 with frames := { s1.frames with destQ := s1.frames.destQ.filter (fun (q : Nat × List OutFrame) => !q.2.isEmpty) } }
  let b := plyBody l p.ply
  let cyc := loomCycles p.heldAt s2.now
  let s2a := if p.state = 0 ∧ p.waited then s2.weightHold b cyc else s2.holdEnd b p.held p.heldAt
  let cyc1 := beamStepCycles l p.ply
  let n := (tileSteps l p.ply).length
  let s2b := if p.state = 1 then
      s2a.countRuns cyc1 (beamKnots l s.node p.ply) 0 (runsStopped (n * cyc1) s.now p.t0 p.held p.runs)
    else s2a
  let s2c : State := { s2b with beam := { s2b.beam with gone := s2b.beam.gone ++ [(p.ply, p.chan, p.last)] } }
  let s3 := ((s2c.dropSamples l p).dropPages p).setBeam p { p with
    state := 4, waited := false, held := false, ops := [], sums := [], data := [], wins := [] }
  let prior := fun (x : Owed) => x.rflags % 2 == 1 && x.span == p.span && x.first == p.chan && mine.any (fun b => b.idx == x.beam)
  let held := if p.state = 0 ∧ p.waited then { s3 with beam := { s3.beam with owed := s3.beam.owed.filter (fun x => !prior x) } } else s3
  let never := mine.filter (fun b => p.state ≤ 1 && !p.sums.any (fun x => x.1 == b.idx))
  let tapped := never.foldl (fun a b => a.tapBeam p (tOf l) b.idx []) held
  let cut := (mine.filter (fun b => !p.wins.any (fun w => w.1 == b.idx))).foldl (fun a b => a.cutAfter l b.idx p.chan (chanSample l p.span)) tapped
  ((((cut.owe recs).bump R.PASS_ABANDONED_COUNT 1).ledCount 4).passEvt 0).beamEvt 0

end Sys2Proof.Machine
end

