-- ==== Sys2Proof/Machine/Fox.lean ====
section
/-!
DEFINITION. Fox (R163 to R171, R178): delay-model batches, intervals, tables, late models.
-/

namespace Sys2Proof.Machine

/-! ## Intervals -/

/-- P_f < 2^-j × 25 ms: does an interval of 2^j fine samples fit 25 ms (R166)? -/
def foxFits (l : List Item) (j : Nat) : Bool := decide ((2 ^ j : Nat) * fineQ l ≤ 25 / 1000)

/-- The j in use for a request of LOG_INTERVAL (R166). -/
def foxLog (l : List Item) (req : Nat) : Nat := ((List.range (req + 1)).reverse.find? (foxFits l)).getD 0

/-- The first interval of a Draft: the one that holds its first fine sample (R166, R297). -/
def State.foxFirst (s : State) : Nat := s.firstFine / 2 ^ s.fox.j

/-- Array time at which interval `n` begins, truncated to 2^-32 s (R167). -/
def State.foxTime (s : State) (n : Nat) : Nat := s.fineTime s.draft.struct (n * 2 ^ s.fox.j)

/-- The application interval of t_eff: the first that begins at or after it (R165). -/
def State.foxApp (s : State) (eff : Nat) : Nat :=
  let len := (2 ^ s.fox.j : Nat) * fineQ s.draft.struct * 4294967296
  if len = 0 then 0
  else
    let origin : Rat := (s.draft.t0 : Rat) - (s.firstFine : Rat) * fineQ s.draft.struct * 4294967296
    ((((eff : Rat) - origin) / len).ceil).toNat

/-- The interval in use, if one is (R166). -/
def State.foxU (s : State) : Option Nat := if s.fox.begun then some (s.get R.FOX_INTERVAL_U) else none

/-- The regular spans that hold a fine sample of interval `n`. -/
def State.foxSpans (s : State) (n : Nat) : List Nat :=
  let t := max 1 (tOf s.draft.struct)
  let a := n * 2 ^ s.fox.j / t
  let b := ((n + 1) * 2 ^ s.fox.j - 1) / t
  ((List.range (b + 1 - a)).map (· + a)).filter (fun x => decide (s.draft.base ≤ x))

/-! ## Models (R163, R165) -/

/-- tau of a model at array time `t`, in units of 2^-48 s, truncated toward minus infinity (R163). -/
def foxTau (m : FoxModel) (t : Nat) : Int :=
  let dt : Int := (t : Int) - (m.tref : Int)
  (m.c0 * 2 ^ 104 + m.c1 * dt * 2 ^ 80 + m.c2 * dt * dt * 2 ^ 40 + m.c3 * dt * dt * dt) / 2 ^ 104

/-- Of two models the one with the later application interval, the later accepted (`b`) where they agree. -/
def foxLater (a : Option FoxModel) (b : FoxModel) : Option FoxModel :=
  match a with
  | none => some b
  | some x => if x.app ≤ b.app then some b else some x

/-- The model that serves a slot at the start of interval `n`, if one does (R165). -/
def State.foxModel (s : State) (slot n : Nat) : Option FoxModel :=
  let t := s.foxTime n
  match (s.fox.models.filter (fun m => m.slot == slot && decide (m.app ≤ n))).foldl foxLater none with
  | some m => if m.tref ≤ t ∧ t < m.tend then some m else none
  | none => none

/-- Models freed when interval `u` comes into use: those of whose slot a later one applies by then (R165). -/
def foxFree (u : Nat) (ms : List FoxModel) : List FoxModel :=
  ms.filter (fun m => !ms.any (fun x => x.slot == m.slot && decide (m.app < x.app ∧ x.app ≤ u)))

/-! ## Tables (R167, R168) -/

/-- φ(c, t) × 2^32, truncated toward minus infinity, for a delay tau in 2^-48 s and an integer delay D (R167). -/
def State.foxPhi (s : State) (l : List Item) (slot c : Nat) (tau : Int) (d : Nat) : Int :=
  let turns : Rat := -(s.fRF l slot c * (tau : Rat) / 281474976710656 - fOff l slot c * (d : Rat) * pcQ l)
  (turns * 4294967296).floor

/-- STEP from two phases (R167): their difference modulo 2^32, signed, shifted right by j. -/
def foxStep (j : Nat) (p0 p1 : Int) : Nat := usgn 32 (sgn 32 (usgn 32 (p1 - p0)) / (2 ^ j : Int))

/-- Key of an entry. -/
def foxKey (slot c : Nat) : Nat := slot * 16384 + c

def FoxTable.empty (n : Nat) : FoxTable := ⟨n, [], [], [], [], []⟩

/-- The table of an interval, empty when it is not held. -/
def State.foxTable (s : State) (n : Nat) : FoxTable := (s.fox.tables.find? (fun t => t.n == n)).getD (FoxTable.empty n)

/-- The table of the interval before, empty for the first. -/
def State.foxPrev (s : State) (n : Nat) : FoxTable := if n = 0 then FoxTable.empty 0 else s.foxTable (n - 1)

/-- The entries of a slot put into a table. -/
def FoxTable.fill (t : FoxTable) (slot d : Nat) (bad : Bool) (es : List (Nat × Nat)) : FoxTable :=
  { t with
    done := insN slot t.done
    dly := Tab.set 0 t.dly slot d
    bad := if bad then insN slot t.bad else t.bad.filter (· != slot)
    ents := ((List.range es.length).zip es).foldl (fun e x => Tab.set (0, 0) e (foxKey slot x.1) x.2) t.ents }

/-- The entries of the interval before, continued: PHASE advanced by 2^j × STEP, STEP unchanged (R168, R169). -/
def State.foxContinue (s : State) (prev : FoxTable) (slot : Nat) (t : FoxTable) : FoxTable :=
  let es := (List.range (fineChannels s.draft.struct)).map (fun c =>
    let e := Tab.get (0, 0) prev.ents (foxKey slot c)
    ((e.1 + e.2 * 2 ^ s.fox.j) % 4294967296, e.2))
  t.fill slot (Tab.get 0 prev.dly slot) true es

/-- The tables of one slot computed for interval `t.n` (R167, R168). -/
def State.foxCompute (s : State) (slot : Nat) (t : FoxTable) : FoxTable :=
  let l := s.draft.struct
  match s.foxModel slot t.n, s.foxModel slot (t.n + 1) with
  | some m, some _ =>
    let tau0 := foxTau m (s.foxTime t.n)
    let tau1 := foxTau m (s.foxTime (t.n + 1))
    let raw : Int := ((tau0 : Rat) / 281474976710656 / pcQ l).floor
    let dmax := s.get R.FOX_DMAX_DMAX
    let d := if tau0 < 0 then 0 else min dmax raw.toNat
    let zoomed := divertOf l slot != 0xFFFF
    let bad := decide (tau0 < 0) || decide ((dmax : Int) < raw) || (zoomed && decide (63 < d))
    let es := (List.range (fineChannels l)).map (fun c =>
      let dc := if diverted l slot (c / 2 ^ splitOf l) then min d 63 else d
      let p0 := s.foxPhi l slot c tau0 dc
      (usgn 32 p0, foxStep s.fox.j p0 (s.foxPhi l slot c tau1 dc)))
    t.fill slot d bad es
  | _, _ => s.foxContinue (s.foxPrev t.n) slot t

/-- A table put back. -/
def State.foxPut (s : State) (t : FoxTable) : State :=
  { s with fox := { s.fox with tables := s.fox.tables.map (fun x => if x.n = t.n then t else x) } }

/-- The table that serves fine sample `m` in interval `n`: where a patch took effect within the interval, the table as it was before serves
the samples before it (R74). -/
def State.foxTableAt (s : State) (n m : Nat) : FoxTable :=
  match s.fox.olds.find? (fun e => e.2.n == n && decide (m < e.1)) with
  | some e => e.2
  | none => s.foxTable n

/-- The enabled slots that a table lacks. -/
def State.foxTodo (s : State) (t : FoxTable) : List Nat := (enabledSlots s.draft.struct).filter (fun x => !t.done.contains x)

/-- FOX_STATUS.RUN shown: a table is being computed. -/
def State.foxRun (s : State) : State :=
  s.put R.FOX_STATUS_RUN (b2n (s.is R.FOX_CTL_ENABLE && s.fox.tables.any (fun t => !(s.foxTodo t).isEmpty)))

/-- Fox at the START command (R165, R166): j, the application interval of every model, the first two tables begun. -/
def State.foxStart (s : State) : State :=
  let j := foxLog s.draft.struct (s.get R.FOX_CTL_LOG_INTERVAL)
  let s1 := { s with fox := { s.fox with j := j, begun := false } }
  let n0 := s1.foxFirst
  let tabs := if s1.is R.FOX_CTL_ENABLE then [FoxTable.empty n0, FoxTable.empty (n0 + 1)] else []
  ({ s1 with fox := { s1.fox with
      models := s1.fox.models.map (fun (m : FoxModel) => { m with app := s1.foxApp m.eff })
      tables := tabs, olds := [] } }.put R.FOX_INTERVAL_U 0).foxRun

/-- Fox when the Draft controller leaves RUNNING and STOPPING: no interval is in use; the models stay. -/
def State.foxStop (s : State) : State :=
  (({ s with fox := { s.fox with tables := [], olds := [], begun := false } }.put R.FOX_STATUS_LOG_USED 0).put R.FOX_INTERVAL_U 0).put
    R.FOX_STATUS_RUN 0

/-- Every model, table and queued record discarded (R178). -/
def State.foxReset (s : State) : State :=
  ({ s with fox := ⟨[], 0, [], 0, false, [], []⟩ }.put R.FOX_STALE_CTL_COUNT 0).put R.FOX_STATUS_PENDING 0

/-- TABLE_COMPLETE (R169): Fox has computed the tables of an interval, after those of the interval before; entries that
replace discarded ones are counted (R170). -/
def execTableComplete (interval : Nat) (s : State) : Out :=
  match s.fox.tables.find? (fun t => t.n == interval) with
  | none => .next s
  | some t =>
    let before := s.fox.tables.any (fun x => x.n + 1 == interval && !(s.foxTodo x).isEmpty)
    if before then .next s
    else
      let t1 := (s.foxTodo t).foldl (fun a x => s.foxCompute x a) t
      let n := t.redo.length * fineChannels s.draft.struct
      .next ((s.foxPut { t1 with redo := [] }).bump R.FOX_RECOMPUTES_COUNT n).foxRun

/-- Slots excluded with class 6 over the spans of an interval (R168, R169). -/
def State.foxExclude (s : State) (n : Nat) (slots : List Nat) : State :=
  (s.foxSpans n).foldl (fun a sp => slots.foldl (fun b x => b.exclude sp allChans x 6) a) s

/-- Does a patch change what a slot's entries are computed from: its diverted channel, its FREQ or its R (R167, R232, R238)? -/
def foxDiffers (a b : List Item) (x : Nat) : Bool :=
  divertOf a x != divertOf b x || (divertOf b x != 0xFFFF &&
    (zoomFreqOf a x != zoomFreqOf b x || zR (zoomBody a (x / 64)) != zR (zoomBody b (x / 64))))

/-- One held table as a patch takes effect at fine sample `m0` (R74, R167, R232): the entries of the slots that it changes are those of the new
structure from there on; a slot that they cannot serve is excluded with class 6 from span `E` on in the interval in use. -/
def State.foxRedo (s : State) (slots : List Nat) (m0 E : Nat) (t : FoxTable) : State :=
  let mine := slots.filter t.done.contains
  if mine.isEmpty || decide ((t.n + 1) * 2 ^ s.fox.j ≤ m0) then s
  else
    let t1 := mine.foldl (fun a x => s.foxCompute x a) t
    let s1 : State := if t.n * 2 ^ s.fox.j < m0 then { s with fox := { s.fox with olds := s.fox.olds ++ [(m0, t)] } } else s
    let s2 := s1.foxPut t1
    let bad := mine.filter t1.bad.contains
    if s.foxU.any (fun u => decide (t.n ≤ u)) && !bad.isEmpty then
      (((s.foxSpans t.n).filter (fun sp => decide (E ≤ sp))).foldl (fun a sp => bad.foldl (fun b x => b.exclude sp allChans x 6) a) s2).foxEvt 2
    else s2

/-- Fox as a patch takes effect at span `E`. -/
def State.foxPatch (s : State) (old new : List Item) (E : Nat) : State :=
  let slots := (enabledSlots new).filter (foxDiffers old new)
  if slots.isEmpty then s else s.fox.tables.foldl (State.foxRedo · slots (E * tOf new) E) s

/-- Interval `u` comes into use: no model that has no later use is kept (R165, R168). -/
def State.foxMark (s : State) (u : Nat) : State :=
  ({ s with fox := { s.fox with begun := true, models := foxFree u s.fox.models } }).put R.FOX_INTERVAL_U u

/-- The table of interval `u` as it comes into use (R166, R169, R170): slots of `late` continue the entries of the interval before; slots
without a usable model and late ones are excluded with class 6; entries computed anew in place of discarded ones are counted. The
computation two intervals ahead begins. The table of interval u − 1 serves the spindles whose block still lies in it. -/
def State.foxInUse (s : State) (late : List Nat) (u : Nat) : State :=
  let tab := s.foxTable u
  let todo := s.foxTodo tab
  let lateNow := todo.filter late.contains
  let t1 := (todo.filter (fun x => !late.contains x)).foldl (fun a x => s.foxCompute x a) tab
  let t2 := lateNow.foldl (fun a x => s.foxContinue (s.foxPrev u) x a) t1
  let bad := t2.bad.filter (fun x => !lateNow.contains x)
  let keep := s.fox.tables.filter (fun x => decide (u < x.n ∨ x.n + 1 = u))
  let redone := (tab.redo.filter (fun x => todo.contains x && !late.contains x)).length * fineChannels s.draft.struct
  let fox := { s.fox with
    tables := { t2 with redo := [] } :: keep ++ [FoxTable.empty (u + 2)], olds := s.fox.olds.filter (fun e => decide (u ≤ e.2.n + 1)) }
  let s1 := State.foxMark { s with fox := fox } u
  let s2 := s1.foxExclude u t2.bad
  let s2a := s2.bump R.FOX_RECOMPUTES_COUNT redone
  let s3 := if bad.isEmpty then s2a else s2a.foxEvt 2
  (if lateNow.isEmpty then s3 else s3.foxEvt 3).foxRun

/-- The interval that comes into use next. -/
def State.foxNext (s : State) : Nat :=
  match s.foxU with
  | none => s.foxFirst
  | some v => v + 1

/-- INTERVAL_IN_USE (R165, R166, R168, R169). -/
def execIntervalInUse (late : List Nat) (t : Nat) (s : State) : Out :=
  let s0 := s.upTo t
  let st := s0.get R.DRAFT_STATUS_STATE
  if ¬(st = 4 ∨ st = 5) then .next s0
  else .next (if s0.is R.FOX_CTL_ENABLE then s0.foxInUse late s0.foxNext else s0.foxMark s0.foxNext)

/-! ## Batches (R163, R164) -/

/-- SUBMIT (R164): FOX_BATCH_CTL.SUBMIT, ignored and counted while PENDING. -/
def execFoxSubmit (s : State) : Out :=
  if s.is R.FOX_STATUS_PENDING then .next (s.bump R.FOX_STATUS_IGNORED 1)
  else .next ({ s with fox := { s.fox with batch := s.get R.FOX_BATCH_ADDR_ADDR / 64 * 64 } }.put R.FOX_STATUS_PENDING 1)

/-- FOX_CLEAR (R165): FOX_CTL.CLEAR discards every stored model; ignored while a Draft runs. -/
def execFoxClear (s : State) : Out :=
  .next (if s.draftRuns then s else { s with fox := { s.fox with models := [] } })

/-- A model entry (R163), not yet applied. -/
def foxEntry (eff : Nat) (e : List Byte) : FoxModel :=
  ⟨fld e 0 2 % 4096, eff, 0, fld e 8 8, fld e 16 8, fldI e 24 8, fldI e 32 4, fldI e 36 4, fldI e 40 4, 0⟩

/-- Are the slots of a batch strictly ascending? -/
def foxAscending : List FoxModel → Bool
  | a :: b :: r => decide (a.slot < b.slot) && foxAscending (b :: r)
  | _ => true

/-- Do the reserved fields of a batch hold zero (R163)? -/
def foxReservedOk (b : List Byte) (es : List (List Byte)) : Bool :=
  fld b 14 18 == 0 && fld b (36 + 48 * es.length) 4 == 0 &&
    es.all (fun e => fld e 0 2 / 4096 == 0 && fld e 2 6 == 0 && fld e 44 4 == 0)

/-- The ERR code of a batch whose bytes were read, 0 when it is acceptable (R164). -/
def State.foxErr (s : State) (b : List Byte) : Nat :=
  let n := fld b 12 2
  let es := (chunks 48 (b.drop 32)).take n
  let ms := es.map (foxEntry (fld b 0 8))
  let stored := fun (x : Nat) => (s.fox.models.filter (fun m => m.slot == x)).length
  if crc32c (b.take (32 + 48 * n)) ≠ fld b (32 + 48 * n) 4 then 1
  else if !foxAscending ms || !foxReservedOk b es then 3
  else if ms.any (fun m => decide (m.tend ≤ m.tref)) then 4
  else if ms.any (fun m => decide (4 ≤ stored m.slot)) then 5
  else if fld b 8 4 = s.get R.FOX_BATCH_SEQ_BSEQ then 6
  else 0

/-- A span of the Draft whose passes of a channel have been opened, and whether that pass has started (R171): it is not in the
list of passes any more, or it has left QUEUED. -/
def State.passStarted (s : State) (l : List Item) (ply c span : Nat) : Bool :=
  let r := zoomRatio l c
  let last := span / r * r + r - 1
  decide (last < s.get R.DRAFT_SPAN_SPAN) &&
    !(s.pass.passes.any (fun p => p.ply == ply && p.chan == c && p.last == last && p.state == 0))

/-- Has a pass that holds one of the slots started for a span (R171)? -/
def State.staleLate (s : State) (slots : List Nat) (span : Nat) : Bool :=
  let l := s.structAt span
  (shareCorr l s.node).any (fun x =>
    (plySlots l x.idx).any slots.contains &&
      (List.range (plyNfine x.body)).any (fun k => s.passStarted l x.idx (plyFirst x.body + k) span))

/-- Passes that have started leave a stale slot's class 6 out (R171); a slot that had class 6 already keeps it. -/
def State.staleSkips (s : State) (slots : List Nat) : State :=
  let add := fun (l : List Item) (chan last : Nat) (skip : List Nat) =>
    slots.foldl (fun a x => if bit (s.causesOver l chan last skip x) 6 then a else insN x a) skip
  { s with
    pass := { s.pass with
      passes := s.pass.passes.map (fun (p : Pass) =>
        if p.state = 0 then p else { p with skip6 := add (s.structAt p.last) p.chan p.last p.skip6 }) }
    beam := { s.beam with
      passes := s.beam.passes.map (fun (p : BeamPass) =>
        if p.state = 0 then p else { p with skip6 := add (s.structAt p.last) p.chan p.last p.skip6 }) } }

/-- The LATE records that beams owe for a stale span (R172): for every channel whose beam pass has started. -/
def State.staleBeams (s : State) (slots : List Nat) (span : Nat) : List Owed :=
  let l := s.structAt span
  (localBeam l s.node).flatMap (fun x =>
    (plyBeams l x.idx).flatMap (fun b =>
      let hit := (beamSlots l b.idx).filter slots.contains
      if hit.isEmpty then []
      else ((List.range (plyNfine x.body)).map (· + plyFirst x.body)).filterMap (fun c =>
        let r := zoomRatio l c
        let last := span / r * r + r - 1
        let queued := s.beam.passes.any (fun p => p.ply == x.idx && p.chan == c && p.last == last && (p.state == 0 || p.state == 4)) || s.beam.gone.contains (x.idx, c, last)
        if last < s.get R.DRAFT_SPAN_SPAN ∧ !queued then some (s.owedFor l b.idx c (span / r) 64 hit (4 + s.earlyFlag (span / r) c b.idx))
        else none)))

/-- A stale span (R171): class 6 for passes not started, the record, event 0x0C1, retractions. -/
def State.staleSpan (s : State) (slots : List Nat) (eff stop bseq count : Nat) : State :=
  let l := s.draft.struct
  let spanLenT := spanQ l * 4294967296
  let at_ := fun (t : Nat) => if t ≤ s.draft.t0 ∨ spanLenT = 0 then s.draft.base
    else s.draft.base + ((((t - s.draft.t0 : Nat) : Rat)) / spanLenT).floor.toNat
  let first := at_ eff
  let last := at_ (stop - 1)
  let spans := (List.range (last + 1 - first)).map (· + first)
  let late := spans.filter (s.staleLate slots)
  let full := match late.reverse with
    | [] => first
    | x :: _ => x + 1
  let rec_ := leBytes 8 eff ++ leBytes 8 stop ++ leBytes 4 bseq ++ leBytes 2 count ++ zeros 2 ++
    leBytes 4 (first % 4294967296) ++ leBytes 4 (full % 4294967296)
  let s1 := s.staleSkips slots
  let recs : List Owed := (spans.flatMap (s1.staleBeams slots)).dedup
  let mark : Tab Bool := spans.foldl (fun e sp => slots.foldl (fun e x => Tab.set false e (exKey sp allChans x) true) e) s1.pass.stale6
  let s2 : State := { s1 with pass := { s1.pass with stale6 := mark } }
  let s3 := s2.owe ((sortN (recs.map (·.beam))).flatMap (fun b => recs.filter (fun x => x.beam == b)))
  if s3.fox.stale.length < 16 then
    ((({ s3 with fox := { s3.fox with stale := s3.fox.stale ++ [rec_] } } : State).put R.FOX_STALE_CTL_COUNT (s3.fox.stale.length + 1)).noteDetail 0x0C1 rec_).foxEvt 1
  else (s3.bump R.FOX_STALE_CTL_DROPPED 1).foxEvt 6

/-- An accepted batch (R164, R165, R170). -/
def State.foxAccept (s : State) (b : List Byte) (u : Option Nat) : State :=
  let n := fld b 12 2
  let eff := fld b 0 8
  let app := if s.draftRuns then s.foxApp eff else 0
  let ms := ((chunks 48 (b.drop 32)).take n).map (fun e => { foxEntry eff e with app := app, acc := u.getD (2 ^ 64 - 1) })
  let slots := ms.map (·.slot)
  let next := match u with
    | some v => v + 1
    | none => s.foxFirst
  let again := fun (t : FoxTable) =>
    if t.n < next ∨ (next + 1 ≤ t.n ∧ t.n < app) ∨ (t.n = next ∧ next < app) then t
    else { t with
      done := t.done.filter (fun x => !slots.contains x)
      redo := if t.n = next ∧ u.isSome then (t.done.filter slots.contains).foldl (fun a x => insN x a) t.redo else t.redo }
  let s1 := { s with fox := { s.fox with models := s.fox.models ++ ms, tables := s.fox.tables.map again } }
  let s2 := ((s1.put R.FOX_BATCH_SEQ_BSEQ (fld b 8 4)).put R.FOX_STATUS_ERR 0).foxRun
  match u with
  | none => s2
  | some v =>
    if s2.draftRuns ∧ s2.is R.FOX_CTL_ENABLE ∧ app ≤ v then s2.staleSpan slots eff (s2.foxTime (v + 1)) (fld b 8 4) n else s2

/-- A batch as mirror records (R305): up to 252 words each, numbered from 0, LAST on the final one. U of a batch accepted before the
first interval is in use is all ones (DESIGN CHOICE, notes/assumptions/91.md). -/
def State.mirrorBatch (s : State) (b : List Byte) : State :=
  let cs := chunks 2016 b
  let u := s.foxU.getD (2 ^ 64 - 1)
  ((List.range cs.length).zip cs).foldl (fun a c =>
    a.mirror 3 (leBytes 4 (fld b 8 4) ++ leBytes 2 c.1 ++ leBytes 2 (b2n (c.1 + 1 == cs.length)) ++ leBytes 8 u ++ c.2)) s

/-- A batch refused: nothing of it is applied, the code is recorded, event 0x0C0 (R164). -/
def State.foxRefuse (s : State) (err : Nat) : State := (s.put R.FOX_STATUS_ERR err).foxEvt 0

/-- BATCH_CHECKED (R164, R170): the batch is read through port 34 (`ext`: what host memory returns), checked, and accepted or
refused at this instant. -/
def execBatchChecked (ext : List Byte) (t : Nat) (s : State) : Out :=
  let s0 := s.upTo t
  if !s0.is R.FOX_STATUS_PENDING then .next s0
  else
    let s1 := s0.put R.FOX_STATUS_PENDING 0
    let a := s1.fox.batch
    let h := s1.storeRead 34 a 32 ext
    if h.status ≠ stOk ∨ h.poisoned then .next (h.st.foxRefuse 7)
    else
      let n := fld h.data 12 2
      if n = 0 ∨ 4096 < n then .next (h.st.foxRefuse 2)
      else
        let r := h.st.storeRead 34 (a + 32) (8 + 48 * n) (ext.drop 32)
        if r.status ≠ stOk ∨ r.poisoned then .next (r.st.foxRefuse 7)
        else
          let b := h.data ++ r.data
          let e := r.st.foxErr b
          .next (if e = 0 then (r.st.foxAccept b r.st.foxU).mirrorBatch b else r.st.foxRefuse e)

/-- FOX_STALE_POP (R171): the oldest queued record is removed. -/
def execFoxStalePop (s : State) : Out :=
  .next ({ s with fox := { s.fox with stale := s.fox.stale.drop 1 } }.put R.FOX_STALE_CTL_COUNT (s.fox.stale.length - 1))

end Sys2Proof.Machine
end

