-- ==== Sys2Proof/Machine/SpinCore.lean ====
section
/-!
DEFINITION. The spindle's programmer's model (R196 to R222, R226): lanes, extended floats, addressing, and the effect
of each instruction on the spindle itself.
-/

namespace Sys2Proof.Machine

/-! ## Lanes (R197) -/

/-- Integer lane `l` of a vector. -/
def vLane (v l : Nat) : Int × Int := (sgn 16 (bits v (32 * l) 16), sgn 16 (bits v (32 * l + 16) 16))

/-- The 16 integer lanes. -/
def vLanes (v : Nat) : List (Int × Int) := (List.range 16).map (vLane v)

/-- Words of `k` bits each, the first lowest. -/
def packBits (k : Nat) : List Nat → Nat
  | [] => 0
  | x :: r => x % 2 ^ k + 2 ^ k * packBits k r

/-- A complex integer lane as its 32 bits. -/
def lane32 (x : Int × Int) : Nat := usgn 16 x.1 + 65536 * usgn 16 x.2

/-- A vector from integer lanes. -/
def vOf (xs : List (Int × Int)) : Nat := packBits 32 (xs.map lane32)

/-- The float parts of lane `l` of 8: float32 bits. -/
def fLane (v l : Nat) : Nat × Nat := (bits v (64 * l) 32, bits v (64 * l + 32) 32)

/-- The 8 float lanes. -/
def fLanes (v : Nat) : List (Nat × Nat) := (List.range 8).map (fLane v)

/-- A vector from float lanes. -/
def fOf (xs : List (Nat × Nat)) : Nat := packBits 64 (xs.map (fun x => x.1 % 4294967296 + 4294967296 * (x.2 % 4294967296)))

/-- Parts saturated to int16, and how many were (R216). -/
def sat16s (xs : List (Int × Int)) : List (Int × Int) × Nat :=
  (xs.map (fun x => (satI 16 x.1, satI 16 x.2)),
   xs.foldl (fun a x => a + b2n (!fitsI 16 x.1) + b2n (!fitsI 16 x.2)) 0)

/-! ## Floats (R198, R216) -/

/-- The exact sum of two dyadic numbers. -/
def Dy.add (a b : Dy) : Dy :=
  if a.m = 0 then b
  else if b.m = 0 then a
  else
    let e := min a.e b.e
    ⟨a.m * 2 ^ (a.e - e).toNat + b.m * 2 ^ (b.e - e).toNat, e⟩

/-- The exact product. -/
def Dy.mul (a b : Dy) : Dy := ⟨a.m * b.m, a.e + b.e⟩

def Dy.neg (a : Dy) : Dy := ⟨-a.m, a.e⟩

/-- Truncated toward zero to `k` significant bits. -/
def Dy.trunc (k : Nat) (a : Dy) : Dy :=
  let len := Nat.log2 a.m.natAbs + 1
  if a.m = 0 then Dy.zero
  else if len ≤ k then a
  else ⟨(if a.m < 0 then -1 else 1) * ((a.m.natAbs / 2 ^ (len - k) : Nat) : Int), a.e + ((len - k : Nat) : Int)⟩

/-- ⌊log2⌋ of a magnitude that is not zero. -/
def Dy.log (a : Dy) : Int := (Nat.log2 a.m.natAbs : Int) + a.e

def f32Neg (x : Nat) : Bool := bit x 31
def f32Exp (x : Nat) : Nat := bits x 23 8
def f32Frac (x : Nat) : Nat := x % 8388608
def f32IsNan (x : Nat) : Bool := f32Exp x == 255 && f32Frac x != 0
def f32IsInf (x : Nat) : Bool := f32Exp x == 255 && f32Frac x == 0

/-- The value of a finite float32; a subnormal one is zero (R216). -/
def f32Dy (x : Nat) : Dy :=
  if f32Exp x = 0 then Dy.zero
  else
    let m : Int := (8388608 + f32Frac x : Nat)
    ⟨if f32Neg x then -m else m, (f32Exp x : Int) - 150⟩

/-- Float32 bits of a value, truncated toward zero; a zero has sign `zneg`, a subnormal result becomes a zero of its sign,
overflow the largest finite value (R216). -/
def f32Of (zneg : Bool) (d : Dy) : Nat :=
  if d.m = 0 then (if zneg then 2147483648 else 0)
  else
    let s := if d.m < 0 then 2147483648 else 0
    let k := d.log
    if k < -126 then s
    else if 127 < k then s + 2139095039
    else
      let t := d.trunc 24
      let m := t.m.natAbs * 2 ^ (24 - (Nat.log2 t.m.natAbs + 1))
      s + (k + 127).toNat * 8388608 + m % 8388608

/-- NaN result of an operation with a NaN input (R216). -/
def f32NaN : Nat := 2143289344

/-- A term of a sum: negated or not, and the factors of its product (float32 bits). -/
abbrev FTerm := Bool × List Nat

/-- Is a term negative in sign, its factors' signs and its own counted? -/
def FTerm.isNeg (t : FTerm) : Bool := ((t.2.filter f32Neg).length % 2 == 1) != t.1

/-- A term's exact value. -/
def FTerm.val (t : FTerm) : Dy :=
  let p := t.2.foldl (fun a x => Dy.mul a (f32Dy x)) ⟨1, 0⟩
  if t.1 then p.neg else p

/-- The exact sum of terms. -/
def termsVal (ts : List FTerm) : Dy := ts.foldl (fun a t => Dy.add a t.val) Dy.zero

/-- A sum of products as float32, `half` times divided by 2 (R216). A NaN factor gives NaN; an infinite one a free value
`fv` (the spec states no result); a zero sum has the sign that all its terms share, else plus (PRESUMED, notes). -/
def fSum (fv half : Nat) (ts : List FTerm) : Nat :=
  let fs := ts.flatMap (fun t => t.2)
  if fs.any f32IsNan then f32NaN
  else if fs.any f32IsInf then fv % 4294967296
  else
    let d := termsVal ts
    f32Of (ts.all FTerm.isNeg) ⟨d.m, d.e - half⟩

/-- The free value of part `k` of an instruction. -/
def freePart (fv k : Nat) : Nat := bits fv (32 * k) 32

/-- Lanes computed part by part from the terms of each, with the free value of each part at hand. -/
def fLanesOf (fv half : Nat) (ts : List (List FTerm × List FTerm)) : Nat :=
  fOf (((List.range ts.length).zip ts).map (fun x =>
    (fSum (freePart fv (2 * x.1)) half x.2.1, fSum (freePart fv (2 * x.1 + 1)) half x.2.2)))

/-! ## The spindle seen by an instruction -/

/-- What an instruction works on: spindle, its number, the structure of the current block, positions, word, free value,
base of the clock for stalls. -/
structure SCtx where
  s : State
  n : Nat
  l : List Item
  slots : List Nat
  sp : Spindle
  w : Nat
  fv : Nat

/-- What an instruction does: it completes (saturations counted, next PC where it jumps, whether it used the free value),
stalls with a code of SPIN_STATUS.STALL, or faults with a code of R226. -/
inductive SRes where
  | done (sp : Spindle) (sats : Nat) (next : Option Nat) (usedFree : Bool)
  | stall (code : Nat)
  | fault (code : Nat)

/-- Completion without saturation or jump. -/
def SRes.ok (sp : Spindle) : SRes := .done sp 0 none false

def Spindle.s (sp : Spindle) (k : Nat) : Nat := Tab.get 0 sp.sreg k
def Spindle.a (sp : Spindle) (k : Nat) : Nat := Tab.get 0 sp.areg k
def Spindle.q (sp : Spindle) (k : Nat) : Nat := Tab.get 0 sp.qreg k
def Spindle.m (sp : Spindle) (k : Nat) : Nat := Tab.get 0 sp.mreg k
def Spindle.v (sp : Spindle) (k : Nat) : Nat := Tab.get 0 sp.vreg k

def Spindle.setS (sp : Spindle) (k v : Nat) : Spindle := { sp with sreg := Tab.set 0 sp.sreg k (v % 4294967296) }
def Spindle.setA (sp : Spindle) (k v : Nat) : Spindle := { sp with areg := Tab.set 0 sp.areg k v }
def Spindle.setQ (sp : Spindle) (k v : Nat) : Spindle := { sp with qreg := Tab.set 0 sp.qreg k (v % 4294967296) }
def Spindle.setM (sp : Spindle) (k v : Nat) : Spindle := { sp with mreg := Tab.set 0 sp.mreg k v }
def Spindle.setV (sp : Spindle) (k v : Nat) : Spindle := { sp with vreg := Tab.set 0 sp.vreg k (v % 2 ^ 512) }

/-- Lane `l` of accumulator `k`. -/
def Spindle.lane (sp : Spindle) (k l : Nat) : AccLane := Tab.get AccLane.zero sp.acc (k * 16 + l)

/-- A lane of an accumulator written. -/
def Spindle.setLane (sp : Spindle) (k l : Nat) (x : AccLane) : Spindle :=
  { sp with acc := Tab.set AccLane.zero sp.acc (k * 16 + l) x }

/-- The image's FLAGS in force: those of the active bank. -/
def SCtx.bank (c : SCtx) : ProgBank := if c.s.is1 R.SPIN_PROG_STATUS_ACTIVE c.n then c.sp.bank1 else c.sp.bank0

/-- YV1024 mode (R214), float mode (R198). -/
def SCtx.yv (c : SCtx) : Bool := bit c.bank.flags 0
def SCtx.fl (c : SCtx) : Bool := bit c.bank.flags 1

/-- Width of An and Mk, and size of the address space (R199, R214). -/
def SCtx.aw (c : SCtx) : Nat := if c.yv then 17 else 18
def SCtx.msize (c : SCtx) : Nat := if c.yv then 131072 else 262144

/-- Number of entries NPOS × C (R213). -/
def SCtx.entries (c : SCtx) : Nat := c.slots.length * fineChannels c.l

/-! ## Addressing (R210 to R214) -/

/-- The bits of a field reversed. -/
def revBits : Nat → Nat → Nat
  | 0, _ => 0
  | w + 1, v => v % 2 * 2 ^ w + revBits w (v / 2)

/-- An address wrapped into the circular buffer of Qn, where CLEN is not zero and counts (R210, R214). -/
def SCtx.circ (c : SCtx) (an : Nat) (x : Int) : Int :=
  let q := c.sp.q an
  let len := bits q 12 12 * 64
  let base : Int := (q % 4096 * 64 : Nat)
  if len = 0 ∨ c.yv then x else base + (x - base) % (len : Int)

/-- An after an access (R210, R212): `unit` the access size; `entry` for tally and phase indices, which CLEN leaves alone. -/
def SCtx.update (c : SCtx) (sp : Spindle) (an upd mk unit : Nat) (entry : Bool) : Spindle :=
  let a := c.sp.a an
  let q := c.sp.q an
  let S := bits q 28 4
  let W := bits q 24 4
  let wrap := fun (x : Int) => usgn c.aw (if entry then x else c.circ an x)
  match upd with
  | 0 => sp
  | 1 =>
    if W = 0 then sp.setA an (wrap (a + 2 ^ S))
    else sp.setA an (putBits a S W (revBits W ((revBits W (bits a S W) + 1) % 2 ^ W)) % 2 ^ c.aw)
  | 2 => sp.setA an (wrap (a + unit))
  | _ => sp.setA an (wrap (a + sgn c.aw (c.sp.m mk)))

/-- Address of a memory access, if it is aligned (R199, R210). -/
def SCtx.addr (c : SCtx) (an : Nat) (disp : Int) (size : Nat) : Option Nat :=
  let x := (((c.sp.a an : Int) + disp * size) % (c.msize : Int)).toNat
  if x % size = 0 then some x else none

/-- A 64-byte block of local memory. -/
def Spindle.ld64 (sp : Spindle) (a : Nat) : Nat := packBits 32 ((List.range 16).map (fun k => Tab.get 0 sp.lmem (a / 4 + k)))

/-- A 32-bit word of local memory written. -/
def Spindle.st32 (sp : Spindle) (a v : Nat) : Spindle := { sp with lmem := Tab.set 0 sp.lmem (a / 4) (v % 4294967296) }

/-- A 64-byte block of local memory written. -/
def Spindle.st64 (sp : Spindle) (a v : Nat) : Spindle := forN 16 (fun k b => b.st32 (a + 4 * k) (bits v (32 * k) 32)) sp

/-- The 16 entries of a lane-strided operation, if all are in range (R213). -/
def SCtx.ents (c : SCtx) (an : Nat) (disp : Int) : Option (List Nat) :=
  let base := (c.sp.a an : Int) + disp
  let st := 2 ^ bits (c.sp.q an) 28 4
  if 0 ≤ base ∧ base + ((15 * st : Nat) : Int) < (c.entries : Int) then some ((List.range 16).map (fun l => base.toNat + l * st)) else none

/-! ## Fields of the formats (R208) -/

def SCtx.b (c : SCtx) (lo w : Nat) : Nat := bits c.w lo w
def SCtx.sa (c : SCtx) : Nat := c.sp.s (c.b 18 4)
def SCtx.sb (c : SCtx) : Nat := c.sp.s (c.b 12 4)
def SCtx.sub (c : SCtx) : Nat := c.b 16 2
def SCtx.vsub (c : SCtx) : Nat := c.b 8 3
def SCtx.vd (c : SCtx) : Nat := c.b 21 5
def SCtx.va (c : SCtx) : Nat := c.sp.v (c.b 16 5)
def SCtx.vb (c : SCtx) : Nat := c.sp.v (c.b 11 5)
def SCtx.imm4 (c : SCtx) : Nat := c.b 4 4
def SCtx.isF (c : SCtx) : Bool := bit c.w 3
def SCtx.flags (c : SCtx) : Nat := c.b 0 3
def SCtx.disp (c : SCtx) : Int := sgn 13 (c.b 0 13)

/-! ## Control and scalar instructions -/

/-- NOP. -/
def semNop (c : SCtx) : SRes := if c.sub ≠ 0 then .fault 1 else .ok c.sp

/-- RPT (R215): the next instruction runs count times. -/
def semRpt (c : SCtx) : SRes :=
  if c.sub ≠ 0 then .fault 1
  else
    let n := (if bit c.w 18 then c.sp.s (c.b 22 4) % 65536 else c.b 0 16) + 1
    .ok { c.sp with left := n, iter := 0 }

/-- The target of a jump; reserved bits set are a fault. -/
def SCtx.target (c : SCtx) (f : Nat → SRes) : SRes := if c.sub ≠ 0 ∨ c.b 12 4 ≠ 0 then .fault 1 else f (c.b 0 12)

/-- JMP. -/
def semJmp (c : SCtx) : SRes := c.target (fun t => .done c.sp 0 (some t) false)

/-- BR. -/
def semBr (c : SCtx) : SRes :=
  c.target (fun t =>
    let v := sgn 32 (c.sp.s (c.b 22 4))
    match c.b 19 3 with
    | 0 => .done c.sp 0 (if v = 0 then some t else none) false
    | 1 => .done c.sp 0 (if v ≠ 0 then some t else none) false
    | 2 => .done c.sp 0 (if v < 0 then some t else none) false
    | 3 => .done c.sp 0 (if 0 ≤ v then some t else none) false
    | _ => .fault 1)

/-- JAL. -/
def semJal (c : SCtx) : SRes := c.target (fun t => .done (c.sp.setS 15 ((c.sp.pc + 1) % 4096)) 0 (some t) false)

/-- JR. -/
def semJr (c : SCtx) : SRes := if c.sub ≠ 0 then .fault 1 else .done c.sp 0 (some (c.sp.s (c.b 22 4) % 4096)) false

/-- SALU. -/
def semSalu (c : SCtx) : SRes :=
  if c.b 0 12 ≠ 0 then .fault 1
  else
    let v := match c.sub with
      | 0 => c.sa + c.sb
      | 1 => c.sa + 4294967296 - c.sb
      | 2 => andN 32 c.sa c.sb
      | _ => orN 32 c.sa c.sb
    .ok (c.sp.setS (c.b 22 4) v)

/-- SALUI. -/
def semSalui (c : SCtx) : SRes :=
  let imm := c.b 0 16
  let v := match c.sub with
    | 0 => usgn 32 ((c.sa : Int) + sgn 16 imm)
    | 1 => andN 32 c.sa imm
    | 2 => orN 32 c.sa imm
    | _ => imm * 65536 + c.sp.s (c.b 22 4) % 65536
  .ok (c.sp.setS (c.b 22 4) v)

/-- SSH. -/
def semSsh (c : SCtx) : SRes :=
  let k := c.b 0 5
  match c.sub with
  | 0 => .ok (c.sp.setS (c.b 22 4) (c.sa * 2 ^ k))
  | 1 => .ok (c.sp.setS (c.b 22 4) (c.sa / 2 ^ k))
  | 2 => .ok (c.sp.setS (c.b 22 4) (usgn 32 (sgn 32 c.sa / (2 ^ k : Int))))
  | _ => .fault 1

/-- SMUL. -/
def semSmul (c : SCtx) : SRes :=
  if c.sub ≠ 0 ∨ c.b 0 12 ≠ 0 then .fault 1 else .ok (c.sp.setS (c.b 22 4) (c.sa * c.sb))

/-- Cancellation depth of a part (R150): 63 for a zero result. -/
def depthOf (top : Option Int) (r : Dy) : Nat :=
  if r.m = 0 then 63
  else
    match top with
    | none => 0
    | some t => min 63 (t - r.log).toNat

/-- Status word of a lane (R198); DEPTH is the larger of the two parts' (notes). -/
def laneStatus (fl : Bool) (x : AccLane) : Nat :=
  if fl then x.terms * 512 + 128 + 64 * b2n (decide (1048576 < x.terms)) + max (depthOf x.reTop x.re) (depthOf x.imTop x.im)
  else x.terms * 512 + 256 * b2n x.sat

/-- Bytes of the spill window of a spindle (R207). -/
def spillBytes (l : List Item) : Nat := (33554432 - 8 * (enabledSlots l).length * fineChannels l) / 512 / 64 * 64

/-- OUT_WIDTH of position `p`, 0 beyond the last. -/
def SCtx.width (c : SCtx) (p : Nat) : Nat :=
  match c.slots[p]? with
  | none => 0
  | some x => curveWidth (curveBody c.l (seCurve (slotEntry c.l x)))

/-- The Fox interval of the current block (R202). -/
def SCtx.foxN (c : SCtx) : Nat := c.sp.blk / 2 ^ c.s.fox.j

/-- Is the current block void already (R204, R206)? -/
def SCtx.blkVoid (c : SCtx) : Bool := c.sp.drops.any (fun d => d.1 == c.sp.blk)

/-- SGET (R211). -/
def semSget (c : SCtx) : SRes :=
  if c.sub ≠ 0 then .fault 1
  else
    let a := c.sa
    let v := match c.b 0 16 with
      | 0 => c.sp.blk
      | 1 => c.sp.blk / 4294967296
      | 2 => c.slots.length
      | 3 => fineChannels c.l
      | 4 => c.sp.blk % 2 ^ c.s.fox.j
      | 5 => match c.slots[a % 8]? with
        | none => 0
        | some x => Tab.get 0 (c.s.foxTableAt c.foxN c.sp.blk).dly x
      | 6 => laneStatus c.fl (c.sp.lane (bits a 4 2) (a % 16))
      | 7 => spillBytes c.l
      | 8 => c.sp.blk % max 1 (tOf c.l)
      | 9 => tOf c.l
      | 10 => c.width (a % 8)
      | 11 => b2n c.blkVoid
      | _ => 0
    .ok (c.sp.setS (c.b 22 4) v)

/-- ASET. -/
def semAset (c : SCtx) : SRes :=
  let n := c.b 22 3
  match c.sub with
  | 0 => .ok (c.sp.setA n (c.sa % 2 ^ c.aw))
  | 1 => .ok (c.sp.setQ n c.sa)
  | 2 => .ok (c.sp.setM n (c.sa % 2 ^ c.aw))
  | _ => .fault 1

/-- AGET. -/
def semAget (c : SCtx) : SRes :=
  let n := c.b 18 3
  match c.sub with
  | 0 => .ok (c.sp.setS (c.b 22 4) (usgn 32 (sgn c.aw (c.sp.a n))))
  | 1 => .ok (c.sp.setS (c.b 22 4) (c.sp.q n))
  | 2 => .ok (c.sp.setS (c.b 22 4) (usgn 32 (sgn c.aw (c.sp.m n))))
  | _ => .fault 1

/-! ## Memory (R199, R210) -/

/-- A format M access of `size` bytes: its effect at the address, then the update of An. -/
def SCtx.mem (c : SCtx) (size : Nat) (f : Nat → Spindle) : SRes :=
  match c.addr (c.b 18 3) c.disp size with
  | none => .fault 2
  | some x => .ok (c.update (f x) (c.b 18 3) (c.b 16 2) (c.b 13 3) size false)

/-- LDS. -/
def semLds (c : SCtx) : SRes := c.mem 4 (fun x => c.sp.setS (c.b 21 4) (Tab.get 0 c.sp.lmem (x / 4)))

/-- STS. -/
def semSts (c : SCtx) : SRes := c.mem 4 (fun x => c.sp.st32 x (c.sp.s (c.b 21 4)))

/-- VLD. -/
def semVld (c : SCtx) : SRes := c.mem 64 (fun x => c.sp.setV (c.b 21 5) (c.sp.ld64 x))

/-- VST. -/
def semVst (c : SCtx) : SRes := c.mem 64 (fun x => c.sp.st64 x (c.sp.v (c.b 21 5)))

/-- VLDB. -/
def semVldb (c : SCtx) : SRes :=
  c.mem 4 (fun x => c.sp.setV (c.b 21 5) (packBits 32 (List.replicate 16 (Tab.get 0 c.sp.lmem (x / 4)))))

/-! ## Ports (R203, R204, R207) -/

/-- Vectors of a block (R204). -/
def blockVecs (l : List Item) (npos : Nat) : Nat := 2 ^ splitOf l * npos * cdiv (ncoarseOf l) 16

/-- A pop of port 0: the vector and the spindle after it, or none while the port is empty (R204). -/
def SCtx.popIn (c : SCtx) : Option (Nat × Spindle) :=
  let sp := c.sp
  let fst := match sp.firstPop with
    | none => some c.s.now
    | some t => some t
  if blockVecs c.l c.slots.length ≤ sp.pops then none
  else if sp.drops.any (fun d => d.1 == sp.blk && decide (d.2 ≤ sp.pops)) then
    some (0, { sp with pops := sp.pops + 1, firstPop := fst })
  else
    match sp.inq with
    | [] => none
    | (b, v) :: r => if b = sp.blk then some (v, { sp with inq := r, pops := sp.pops + 1, firstPop := fst }) else none

/-- A position of the spill window after a pop or push. -/
def spillNext (l : List Item) (p : Nat) : Nat := if spillBytes l ≤ p + 64 then 0 else p + 64

/-- A pop of port 2. -/
def SCtx.popSpill (c : SCtx) : Nat × Spindle := (Tab.get 0 c.sp.spill (c.sp.spr / 64), { c.sp with spr := spillNext c.l c.sp.spr })

/-- The address of a port access with MEM set (R210). -/
def SCtx.portAddr (c : SCtx) : Option Nat := if bit c.w 18 then c.addr (c.b 15 3) 0 64 else some 0

/-- A vector popped goes to Vd or local memory. -/
def SCtx.popTo (c : SCtx) (a : Nat) (r : Nat × Spindle) : SRes :=
  if bit c.w 18 then .ok (c.update (r.2.st64 a r.1) (c.b 15 3) (c.b 13 2) (c.b 10 3) 64 false)
  else .ok (r.2.setV (c.b 21 5) r.1)

/-- PIN (R203). A port that it cannot pop is a port fault. -/
def semPin (c : SCtx) : SRes :=
  let port := c.b 19 2
  if c.b 0 10 ≠ 0 then .fault 1
  else if port % 2 = 1 ∨ (port = 2 ∧ spillBytes c.l = 0) then .fault 5
  else
    match c.portAddr with
    | none => .fault 2
    | some a =>
      if port = 2 then c.popTo a c.popSpill
      else
        match c.popIn with
        | none => .stall 1
        | some r => c.popTo a r

/-- Is the OUT FIFO full (R203)? It holds 64 vectors, and the spec does not say how fast the corner turn takes them: once 64 have
been pushed since START it is full or not by a free value (notes/assumptions/29.md). A push that waits completes at its
STALL_RESUME. -/
def SCtx.outFull (c : SCtx) : Bool := c.sp.stall != 2 && decide (64 ≤ c.sp.outs) && bit c.fv 0

/-- POUT (R203, R207). -/
def semPout (c : SCtx) : SRes :=
  let port := c.b 19 2
  if c.b 0 10 ≠ 0 then .fault 1
  else if port % 2 = 0 ∨ (port = 3 ∧ spillBytes c.l = 0) then .fault 5
  else
    match c.portAddr with
    | none => .fault 2
    | some a =>
      if port = 1 ∧ c.outFull then .stall 2
      else
        let v := if bit c.w 18 then c.sp.ld64 a else c.sp.v (c.b 21 5)
        let sp := if port = 1 then { c.sp with pushes := c.sp.pushes ++ [v], outs := min 64 (c.sp.outs + 1) }
          else { c.sp with spill := Tab.set 0 c.sp.spill (c.sp.spw / 64) v, spw := spillNext c.l c.sp.spw }
        .done (if bit c.w 18 then c.update sp (c.b 15 3) (c.b 13 2) (c.b 10 3) 64 false else sp) 0 none (port == 1)

/-- PSEEK (R207): a position beyond the window wraps into it. -/
def semPseek (c : SCtx) : SRes :=
  let port := c.b 19 2
  let n := spillBytes c.l
  if c.b 0 10 ≠ 0 then .fault 1
  else if port < 2 ∨ n = 0 then .fault 5
  else
    let p := c.sp.s (c.b 21 4) / 64 * 64 % n
    .ok (if port = 2 then { c.sp with spr := p } else { c.sp with spw := p })

/-! ## Vectors (R209, R216) -/

/-- An integer vector result with its saturations. -/
def SCtx.put16 (c : SCtx) (vd : Nat) (xs : List (Int × Int)) : SRes :=
  let (ys, n) := sat16s xs
  .done (c.sp.setV vd (vOf ys)) n none false

/-- A float vector result. -/
def SCtx.putF (c : SCtx) (vd v : Nat) : SRes := .done (c.sp.setV vd v) 0 none true

/-- SUB and FL that the table does not define are a fault. -/
def SCtx.plain (c : SCtx) (flMask : Nat) (r : SRes) : SRes := if c.vsub ≠ 0 ∨ clearN 3 c.flags flMask ≠ 0 then .fault 1 else r

/-- VADD. -/
def semVadd (c : SCtx) : SRes :=
  c.plain 0 (
    if c.isF then
      c.putF c.vd (fLanesOf c.fv 0 (((fLanes c.va).zip (fLanes c.vb)).map (fun p =>
        ([(false, [p.1.1]), (false, [p.2.1])], [(false, [p.1.2]), (false, [p.2.2])]))))
    else c.put16 c.vd (((vLanes c.va).zip (vLanes c.vb)).map (fun p => (p.1.1 + p.2.1, p.1.2 + p.2.2))))

/-- VSUB. -/
def semVsub (c : SCtx) : SRes :=
  c.plain 0 (
    if c.isF then
      c.putF c.vd (fLanesOf c.fv 0 (((fLanes c.va).zip (fLanes c.vb)).map (fun p =>
        ([(false, [p.1.1]), (true, [p.2.1])], [(false, [p.1.2]), (true, [p.2.2])]))))
    else c.put16 c.vd (((vLanes c.va).zip (vLanes c.vb)).map (fun p => (p.1.1 - p.2.1, p.1.2 - p.2.2))))

/-- √½ as the tables of R219 round it, and as a truncated float32 (R209 gives e^(−jπ/4) and no table for it; notes). -/
def c45 : Int := 23170
def c45f : Nat := 1060439283

/-- b′ of VBF for an integer lane: b, −j·b, b·e^(−jπ/4) or b·e^(−j3π/4); and its saturations (R209, R216). -/
def bfInt (j w : Bool) (b : Int × Int) : (Int × Int) × Nat :=
  if w then
    let p := if j then (b.2 - b.1, -b.1 - b.2) else (b.1 + b.2, b.2 - b.1)
    let x := (p.1 * c45 / 32768, p.2 * c45 / 32768)
    ((satI 16 x.1, satI 16 x.2), b2n (!fitsI 16 x.1) + b2n (!fitsI 16 x.2))
  else if j then ((b.2, -b.1), 0)
  else (b, 0)

/-- b′ of VBF for a float lane, as the terms of its parts; `neg` for −b′. -/
def bfTerms (j w neg : Bool) (b : Nat × Nat) : List FTerm × List FTerm :=
  let k := fun (sg : Bool) (x : Nat) => ((sg != neg, if w then [x, c45f] else [x]) : FTerm)
  match w, j with
  | false, false => ([k false b.1], [k false b.2])
  | false, true => ([k false b.2], [k true b.1])
  | true, false => ([k false b.1, k false b.2], [k false b.2, k true b.1])
  | true, true => ([k false b.2, k true b.1], [k true b.1, k true b.2])

/-- b′ truncated to float32, as a factor list for the sum. -/
def bfF (fv : Nat) (j w neg : Bool) (b : Nat × Nat) : List FTerm × List FTerm :=
  if w then
    let t := bfTerms j w false b
    ([(neg, [fSum (freePart fv 40) 0 t.1])], [(neg, [fSum (freePart fv 41) 0 t.2])])
  else bfTerms j w neg b

/-- VBF: the butterfly into an even pair. -/
def semVbf (c : SCtx) : SRes :=
  let j := bit c.w 0
  let h := bit c.w 1
  let w := bit c.w 2
  if c.vsub ≠ 0 ∨ c.vd % 2 = 1 then .fault 1
  else if c.isF then
    let ps := (fLanes c.va).zip (fLanes c.vb)
    let half := fun (neg : Bool) => fLanesOf c.fv (b2n h) (ps.map (fun p =>
      let t := bfF c.fv j w neg p.2
      ((false, [p.1.1]) :: t.1, (false, [p.1.2]) :: t.2)))
    .done ((c.sp.setV c.vd (half false)).setV (c.vd + 1) (half true)) 0 none true
  else
    let ps := ((vLanes c.va).zip (vLanes c.vb)).map (fun p => (p.1, bfInt j w p.2))
    let n0 := ps.foldl (fun a p => a + p.2.2) 0
    let sum := ps.map (fun p => (p.1.1 + p.2.1.1, p.1.2 + p.2.1.2))
    let dif := ps.map (fun p => (p.1.1 - p.2.1.1, p.1.2 - p.2.1.2))
    if h then
      let half := fun (xs : List (Int × Int)) => vOf (xs.map (fun x => (x.1 / 2, x.2 / 2)))
      .done ((c.sp.setV c.vd (half sum)).setV (c.vd + 1) (half dif)) n0 none false
    else
      let (s1, n1) := sat16s sum
      let (s2, n2) := sat16s dif
      .done ((c.sp.setV c.vd (vOf s1)).setV (c.vd + 1) (vOf s2)) (n0 + n1 + n2) none false

/-- The terms of a complex product, the second factor conjugated or not. -/
def mulTerms (cnj : Bool) (a b : Nat × Nat) : List FTerm × List FTerm :=
  ([(false, [a.1, b.1]), (!cnj, [a.2, b.2])], [(cnj, [a.1, b.2]), (false, [a.2, b.1])])

/-- An exact complex product of integers. -/
def mulInt (cnj : Bool) (a b : Int × Int) : Int × Int :=
  let bi := if cnj then -b.2 else b.2
  (a.1 * b.1 - a.2 * bi, a.1 * bi + a.2 * b.1)

/-- VMUL. -/
def semVmul (c : SCtx) : SRes :=
  let cnj := bit c.w 0
  c.plain 1 (
    if c.isF then c.putF c.vd (fLanesOf c.fv 0 (((fLanes c.va).zip (fLanes c.vb)).map (fun p => mulTerms cnj p.1 p.2)))
    else c.put16 c.vd (((vLanes c.va).zip (vLanes c.vb)).map (fun p =>
      let x := mulInt cnj p.1 p.2
      (x.1 / 32768, x.2 / 32768))))

/-- A vector of free parts, for a result that the spec does not state. -/
def SCtx.putFree (c : SCtx) (vd : Nat) : SRes := .done (c.sp.setV vd (c.fv % 2 ^ 512)) 0 none true

/-- VSHR; with T set the spec states no result (notes). -/
def semVshr (c : SCtx) : SRes :=
  c.plain 0 (
    if c.isF then c.putFree c.vd
    else c.put16 c.vd ((vLanes c.va).map (fun x => (x.1 / (2 ^ c.imm4 : Int), x.2 / (2 ^ c.imm4 : Int)))))

/-- VSHL; with T set the spec states no result (notes). -/
def semVshl (c : SCtx) : SRes :=
  c.plain 0 (
    if c.isF then c.putFree c.vd
    else c.put16 c.vd ((vLanes c.va).map (fun x => (x.1 * 2 ^ c.imm4, x.2 * 2 ^ c.imm4))))

/-- A part negated: that of −32,768 is not stated, and is the free value of its place (notes). -/
def negPart (fv k : Nat) (x : Int) : Int := if x = -32768 then sgn 16 (freePart fv k) else -x

/-- A float part negated. -/
def negF (x : Nat) : Nat := xorN 32 x 2147483648

/-- A float input (R216): a subnormal one as the zero of its sign. -/
def f32In (x : Nat) : Nat := if f32Exp x = 0 then (if f32Neg x then 2147483648 else 0) else x

/-- A float part moved by `f` (R216): NaN gives the one NaN result. -/
def f32Move (f : Nat → Nat) (x : Nat) : Nat := if f32IsNan x then f32NaN else f (f32In x)

/-- VPERM. With T set it works on the 8 float lanes; a lane number past the last is not stated (notes). -/
def semVperm (c : SCtx) : SRes :=
  if c.flags ≠ 0 ∨ 5 < c.vsub then .fault 1
  else if c.isF then
    let k := c.imm4
    let keep := f32Move id
    let neg := f32Move negF
    let xs := fLanes c.va
    let ys := xs.map (fun x => (keep x.1, keep x.2))
    match c.vsub with
    | 0 => c.putF c.vd (fOf (xs.map (fun x => (keep x.1, neg x.2))))
    | 1 => c.putF c.vd (fOf (xs.map (fun x => (neg x.2, keep x.1))))
    | 2 => c.putF c.vd (fOf (xs.map (fun x => (neg x.1, neg x.2))))
    | 3 => c.putF c.vd (fOf ys.reverse)
    | 4 => c.putF c.vd (fOf ((List.range 8).map (fun l => ys.getD ((l + k) % 8) (0, 0))))
    | _ => if k < 8 then c.putF c.vd (fOf (List.replicate 8 (ys.getD k (0, 0)))) else c.putFree c.vd
  else
    let xs := (List.range 16).zip (vLanes c.va)
    let k := c.imm4
    let out := fun (ys : List (Int × Int)) => SRes.done (c.sp.setV c.vd (vOf ys)) 0 none true
    match c.vsub with
    | 0 => out (xs.map (fun x => (x.2.1, negPart c.fv (2 * x.1) x.2.2)))
    | 1 => out (xs.map (fun x => (negPart c.fv (2 * x.1) x.2.2, x.2.1)))
    | 2 => out (xs.map (fun x => (negPart c.fv (2 * x.1) x.2.1, negPart c.fv (2 * x.1 + 1) x.2.2)))
    | 3 => out (vLanes c.va).reverse
    | 4 => out ((List.range 16).map (fun l => vLane c.va ((l + k) % 16)))
    | _ => out (List.replicate 16 (vLane c.va k))

/-- VBCS. -/
def semVbcs (c : SCtx) : SRes := c.plain 0 (.ok (c.sp.setV c.vd (packBits 32 (List.replicate 16 (c.sp.s (c.b 16 4))))))

/-- A float32 as int16: truncated toward zero, then saturated; with whether it saturated. NaN is not stated. -/
def f32ToInt (fv x : Nat) : Int × Nat :=
  if f32IsNan x then (sgn 16 fv, 0)
  else
    let v : Int := if f32IsInf x then (if f32Neg x then -65536 else 65536)
      else
        let d := f32Dy x
        let mag : Int := if 0 ≤ d.e then (d.m.natAbs * 2 ^ min 200 d.e.toNat : Nat) else (d.m.natAbs / 2 ^ (-d.e).toNat : Nat)
        if d.m < 0 then -mag else mag
    (satI 16 v, b2n (!fitsI 16 v))

/-- VCVT. -/
def semVcvt (c : SCtx) : SRes :=
  let h := 8 * (c.imm4 % 2)
  if c.flags ≠ 0 then .fault 1
  else
    match c.vsub with
    | 0 => .ok (c.sp.setV c.vd (fOf ((List.range 8).map (fun l =>
        let x := vLane c.va (h + l)
        (f32Of false ⟨x.1, 0⟩, f32Of false ⟨x.2, 0⟩)))))
    | 1 =>
      let ys := ((List.range 8).zip (fLanes c.va)).map (fun x =>
        (f32ToInt (freePart c.fv (2 * x.1)) x.2.1, f32ToInt (freePart c.fv (2 * x.1 + 1)) x.2.2))
      let old := c.sp.v c.vd
      let v := putBits old (32 * h) 256 (vOf (ys.map (fun y => (y.1.1, y.2.1))))
      .done (c.sp.setV c.vd v) (ys.foldl (fun a y => a + y.1.2 + y.2.2) 0) none true
    | _ => .fault 1

/-- VLUT (R56): a curve that is not one of OUT_WIDTH 16 does not fit. -/
def semVlut (c : SCtx) : SRes :=
  let b := curveBody c.l (c.sp.s (c.b 11 4))
  c.plain 0 (
    if curveWidth b ≠ 16 then .fault 6
    else .ok (c.sp.setV c.vd (vOf ((vLanes c.va).map (fun x => (curveMap b x.1, curveMap b x.2))))))

/-! ## Accumulators (R198, R216, R218) -/

/-- Additions counted, saturating (R198). -/
def bumpTerms (t : Nat) : Nat := min 8388607 (t + 1)

/-- A complex integer added to a lane: 40 bits a part, held at the limits (R198); and the saturations. -/
def accInt (x : AccLane) (d : Int × Int) : AccLane × Nat :=
  let re := x.re.m + d.1
  let im := x.im.m + d.2
  let n := b2n (!fitsI 40 re) + b2n (!fitsI 40 im)
  ({ x with re := ⟨satI 40 re, 0⟩, im := ⟨satI 40 im, 0⟩, terms := bumpTerms x.terms, sat := x.sat || n != 0 }, n)

/-- The largest ⌊log2⌋ of the partial sums so far (R150). -/
def topOf (t : Option Int) (d : Dy) : Option Int :=
  if d.m = 0 then t
  else
    match t with
    | none => some d.log
    | some x => some (max x d.log)

/-- Is a factor of some term a NaN? -/
def termsNan (ts : List FTerm) : Bool := (ts.flatMap (fun t => t.2)).any f32IsNan

/-- A term added to a part, truncated toward zero to 48 bits (R216); an infinite factor leaves a free value (notes). -/
def accPart (fv : Nat) (x : Dy) (ts : List FTerm) : Dy :=
  if (ts.flatMap (fun t => t.2)).any (fun f => f32Exp f == 255) then ⟨sgn 32 fv, 0⟩
  else (Dy.add x (termsVal ts)).trunc 48

/-- A complex float term added to a lane; a NaN factor makes the part a NaN until it is cleared (R216). -/
def accFloat (fv : Nat) (x : AccLane) (re im : List FTerm) : AccLane :=
  let r := accPart (freePart fv 0) x.re re
  let i := accPart (freePart fv 1) x.im im
  { x with re := r, im := i, terms := bumpTerms x.terms, reTop := topOf x.reTop r, imTop := topOf x.imTop i
           reNan := x.reNan || termsNan re, imNan := x.imNan || termsNan im }

/-- An accumulator cleared, status and all. -/
def Spindle.clearAcc (sp : Spindle) (k : Nat) : Spindle := forN 16 (fun l b => b.setLane k l AccLane.zero) sp

/-- An accumulator read out into a vector as VACR does (R216); and the saturations. -/
def Spindle.readAcc (sp : Spindle) (fl : Bool) (k sh : Nat) : Nat × Nat :=
  if fl then
    (fOf ((List.range 8).map (fun l =>
      let x := sp.lane k l
      (if x.reNan then f32NaN else f32Of false x.re, if x.imNan then f32NaN else f32Of false x.im))), 0)
  else
    let (ys, n) := sat16s ((List.range 16).map (fun l => ((sp.lane k l).re.m / (2 ^ sh : Int), (sp.lane k l).im.m / (2 ^ sh : Int))))
    (vOf ys, n)

/-- MOV, then CLR (R208): ACd read out to VD and cleared; ACd cleared. -/
def SCtx.pre (c : SCtx) (k vd sh : Nat) (mov clr : Bool) : Spindle × Nat :=
  let (sp1, n) := if mov then
      let (v, n) := c.sp.readAcc c.fl k sh
      ((c.sp.setV vd v).clearAcc k, n)
    else (c.sp, 0)
  (if clr then sp1.clearAcc k else sp1, n)

/-- The sources of format K, in a spindle after `SCtx.pre` (R208: MOV comes before the operation). -/
def SCtx.kA (c : SCtx) (sp : Spindle) : Nat := sp.v (c.b 19 5)
def SCtx.kB (c : SCtx) (sp : Spindle) : Nat := sp.v (c.b 14 5)

/-- A term list negated. -/
def negTerms (neg : Bool) (ts : List FTerm) : List FTerm := ts.map (fun t => (t.1 != neg, t.2))

/-- VMAC. -/
def semVmac (c : SCtx) : SRes :=
  let k := c.b 24 2
  let neg := bit c.w 0
  let cnj := bit c.w 1
  let (sp0, n0) := c.pre k (c.b 9 5) (c.b 4 5) (bit c.w 2) (bit c.w 3)
  if c.fl then
    let ps := (List.range 8).zip ((fLanes (c.kA sp0)).zip (fLanes (c.kB sp0)))
    let sp := forL ps (fun p b =>
      let t := mulTerms cnj p.2.1 p.2.2
      b.setLane k p.1 (accFloat (bits c.fv (64 * p.1) 64) (b.lane k p.1) (negTerms neg t.1) (negTerms neg t.2))) sp0
    .done sp n0 none true
  else
    let ps := (List.range 16).zip ((vLanes (c.kA sp0)).zip (vLanes (c.kB sp0)))
    let (sp, n) := ps.foldl (fun (a : Spindle × Nat) p =>
      let x := mulInt cnj p.2.1 p.2.2
      let (y, m) := accInt (a.1.lane k p.1) (if neg then (-x.1, -x.2) else x)
      (a.1.setLane k p.1 y, a.2 + m)) (sp0, n0)
    .done sp n none false

/-- VMACP (R218): integer only. -/
def semVmacp (c : SCtx) : SRes :=
  let k := c.b 24 2
  let an := c.b 21 3
  if c.fl then .fault 6
  else
    match c.addr an 0 64 with
    | none => .fault 2
    | some a1 =>
      let a2 := (c.circ an ((c.sp.a an : Int) + sgn c.aw (c.sp.m 0)) % (c.msize : Int)).toNat
      if a2 % 64 ≠ 0 then .fault 2
      else
        let (sp0, n0) := c.pre k (c.b 2 5) 15 (bit c.w 1) (bit c.w 0)
        let co := vLane (sp0.v (c.b 11 5)) (c.b 7 4)
        let ps := (List.range 16).zip ((vLanes (c.sp.ld64 a1)).zip (vLanes (c.sp.ld64 a2)))
        let (sp, n) := ps.foldl (fun (a : Spindle × Nat) p =>
          let x := (p.2.1.1 * co.1 + p.2.2.1 * co.2, p.2.1.2 * co.1 + p.2.2.2 * co.2)
          let (y, m) := accInt (a.1.lane k p.1) x
          (a.1.setLane k p.1 { y with terms := bumpTerms y.terms }, a.2 + m)) (sp0, n0)
        .done (c.update sp an (c.b 19 2) (c.b 16 3) 64 false) n none false

/-- VACR. -/
def semVacr (c : SCtx) : SRes :=
  let k := c.b 24 2
  let (v, n) := c.sp.readAcc c.fl k (c.b 4 5)
  let sp := c.sp.setV (c.b 9 5) v
  .done (if bit c.w 3 then sp.clearAcc k else sp) n none false

/-- VACL. -/
def semVacl (c : SCtx) : SRes := .ok (c.sp.clearAcc (c.b 24 2))

/-! ## Search (R222) -/

/-- Order key of a float32: its bits as a signed magnitude. -/
def f32Key (x : Nat) : Int := if f32Neg x then -((x % 2147483648 : Nat) : Int) else (x : Int)

/-- The measures of the lanes (R222): integers, or float32 bits (R216). -/
def SCtx.measures (c : SCtx) : List Int :=
  if c.isF then
    ((List.range 8).zip (fLanes c.va)).map (fun x =>
      ((if c.vsub < 2 then f32Move id x.2.1
        else fSum (freePart c.fv x.1) 0 [(false, [x.2.1, x.2.1]), (false, [x.2.2, x.2.2])] : Nat) : Int))
  else (vLanes c.va).map (fun x => if c.vsub < 2 then x.1 else x.1 * x.1 + x.2 * x.2)

/-- What measures are compared by. -/
def SCtx.order (c : SCtx) (m : Int) : Int := if c.isF then f32Key m.toNat else m

/-- Is the measure of lane `l` strictly better than another? Beside a NaN the spec states no order: a free value decides (notes). -/
def SCtx.better (c : SCtx) (l : Nat) (a b : Int) : Bool :=
  if c.isF && (f32IsNan a.toNat || f32IsNan b.toNat) then bit c.fv (512 + l)
  else if c.vsub % 2 = 0 then decide (c.order b < c.order a)
  else decide (c.order a < c.order b)

/-- The worst measure. -/
def SCtx.worst (c : SCtx) : Int :=
  match c.vsub, c.isF with
  | 0, false => -32768
  | 1, false => 32767
  | 2, false => 0
  | _, false => 4294967295
  | 0, true => 4286578687
  | 2, true => 0
  | _, true => 2139095039

/-- The register word of a measure. -/
def SCtx.measWord (c : SCtx) (m : Int) : Nat := if c.isF then m.toNat else usgn 32 m

/-- The best of measures by lane. -/
def SCtx.bestOf (c : SCtx) (xs : List (Nat × Int)) : Int :=
  xs.foldl (fun a x => if c.better x.1 x.2 a then x.2 else a) ((xs.headD (0, 0)).2)

/-- Running value and index of a lane. -/
def Spindle.best (sp : Spindle) (l : Nat) : Int × Nat := Tab.get (0, 0) sp.srch l

/-- VSRCH. -/
def semVsrch (c : SCtx) : SRes :=
  let ms := c.measures
  let sd := c.vd % 16
  let iter := if c.sp.left = 0 then 0 else c.sp.iter
  if 3 < c.vsub then .fault 1
  else
    match c.flags with
    | 0 =>
      if sd % 2 = 1 then .fault 1
      else
        let b := c.bestOf ((List.range ms.length).zip ms)
        let l := ((List.range ms.length).find? (fun l => ms.getD l 0 == b)).getD 0
        .done ((c.sp.setS sd (c.measWord b)).setS (sd + 1) l) 0 none true
    | 2 =>
      if sd % 2 = 1 then .fault 1
      else
        let xs := (List.range ms.length).map (fun l => ((c.sp.best l).1, (c.sp.best l).2 * 16 + l))
        let b := c.bestOf ((List.range ms.length).zip (xs.map (·.1)))
        let i := (xs.filter (fun x => c.order x.1 == c.order b)).foldl (fun a x => min a x.2) 4294967295
        .done ((c.sp.setS sd (c.measWord b)).setS (sd + 1) i) 0 none true
    | f =>
      if f ≠ 1 ∧ f ≠ 5 then .fault 1
      else
        let old := if f = 5 then (List.range ms.length).map (fun l => (l, (c.worst, 0))) else (List.range ms.length).map (fun l => (l, c.sp.best l))
        let srch := (old.zip ms).foldl (fun t p =>
          Tab.set (0, 0) t p.1.1 (if c.better p.1.1 p.2 p.1.2.1 then (p.2, iter) else p.1.2)) c.sp.srch
        .done { c.sp with srch := srch } 0 none true

/-! ## Tally and phase memory (R219 to R221) -/

/-- Is a record still to be flushed at this instant (R201)? Two records are flushed a cycle, in order. -/
def SCtx.unflushed (c : SCtx) (e : Nat) : Bool :=
  decide (0 < c.sp.flushAt ∧ c.s.now * 1300000000 < c.sp.flushAt * 1300000000 + (e / 2 + 1) * 4294967296)

/-- A signed or unsigned field of a tally record: beyond its width the spec states no value, and it is a free one (R200; notes). -/
def tallyI (w free : Nat) (v : Int) : Int := if fitsI w v then v else sgn w free
def tallyN (w free v : Nat) : Nat := if v < 2 ^ w then v else free % 2 ^ w

/-- Free bits for field `k` of a record (R200). -/
def tallyFree (fv k : Nat) : Nat := bits fv (512 + 64 * k) 64

/-- Step 1 of R220 for a record; `k` numbers the record within the instruction. -/
def Tally.add (t : Tally) (fv k : Nat) (x : Int × Int) : Tally :=
  { t with
    s1re := tallyI 40 (tallyFree fv (5 * k)) (t.s1re + x.1)
    s1im := tallyI 40 (tallyFree fv (5 * k + 1)) (t.s1im + x.2)
    s2 := tallyN 48 (tallyFree fv (5 * k + 2)) (t.s2 + (x.1 * x.1 + x.2 * x.2).toNat)
    n := tallyN 32 (tallyFree fv (5 * k + 3)) (t.n + 1) }

/-- |q|² of a requantised sample added to a record (R220). -/
def Tally.addAuto (t : Tally) (fv k : Nat) (q : Int × Int) : Tally :=
  { t with auto := tallyN 32 (tallyFree fv (5 * k + 4)) (t.auto + (q.1 * q.1 + q.2 * q.2).toNat) }

/-- A tally record changed. -/
def Spindle.tallyUpd (sp : Spindle) (e : Nat) (f : Tally → Tally) : Spindle := { sp with tally := Tab.upd Tally.zero sp.tally e f }

/-- VSTAT (R221). -/
def semVstat (c : SCtx) : SRes :=
  match c.ents (c.b 18 3) c.disp with
  | none => .fault 3
  | some es =>
    if es.any c.unflushed then .stall 4
    else
      let xs := vLanes (c.sp.v (c.b 21 5))
      let sp := forL ((List.range 16).zip (es.zip xs)) (fun p b => b.tallyUpd p.2.1 (fun t => t.add c.fv p.1 p.2.2)) c.sp
      .done (c.update sp (c.b 18 3) (c.b 16 2) (c.b 13 3) 1 true) 0 none true

/-- VSTATF (R148, R221): float mode, an even accumulator. -/
def semVstatf (c : SCtx) : SRes :=
  let k := c.b 24 2
  if k % 2 = 1 then .fault 1
  else if !c.fl then .fault 6
  else
    let (sp0, n0) := c.pre k (c.b 9 5) (c.b 4 5) (bit c.w 2) (bit c.w 3)
    let ps := (List.range 8).zip (fLanes (c.kA sp0))
    let sp := forL ps (fun p b =>
      let lane := b.lane k p.1
      let x0 := lane.x0.getD p.2
      let dr := fSum (freePart c.fv (2 * p.1)) 0 [(false, [p.2.1]), (true, [x0.1])]
      let di := fSum (freePart c.fv (2 * p.1 + 1)) 0 [(false, [p.2.2]), (true, [x0.2])]
      let fv := bits c.fv (64 * p.1) 64
      let a := accFloat fv lane [(false, [dr])] [(false, [di])]
      let q := accFloat fv (b.lane (k + 1) p.1) [(false, [dr, dr]), (false, [di, di])] []
      (b.setLane k p.1 { a with x0 := some x0 }).setLane (k + 1) p.1 q) sp0
    .done sp n0 none true

/-- Position of an entry and its fine channel. -/
def SCtx.entrySlot (c : SCtx) (e : Nat) : Option (Nat × Nat) :=
  let n := fineChannels c.l
  (c.slots[e / n]?).map (fun x => (x, e % n))

/-- PHASE and STEP of an entry, from the table of the current block's interval (R202). -/
def SCtx.phase (c : SCtx) (e : Nat) : Nat × Nat :=
  match c.entrySlot e with
  | none => (0, 0)
  | some (x, ch) => Tab.get (0, 0) (c.s.foxTableAt c.foxN c.sp.blk).ents (foxKey x ch)

/-- VNCO (R219): integer only. -/
def semVnco (c : SCtx) : SRes :=
  if c.fl then .fault 6
  else
    match c.ents (c.b 18 3) c.disp with
    | none => .fault 3
    | some es =>
      let m := c.sp.blk % 2 ^ c.s.fox.j
      let xs := es.map (fun e =>
        let (ph, st) := c.phase e
        let k := (ph + m * st) % 4294967296 / 262144
        let g := vLane (Tab.get 32767 c.sp.gains e) 0
        let y := mulInt false (cos14 k, sin14 k) g
        (y.1 / 32768, y.2 / 32768))
      let (ys, n) := sat16s xs
      .done (c.update (c.sp.setV (c.b 21 5) (vOf ys)) (c.b 18 3) (c.b 16 2) (c.b 13 3) 1 true) n none false

/-- Byte `o` of the register group that starts at `vd`, changed. -/
def Spindle.putByte (sp : Spindle) (vd o w v : Nat) : Spindle :=
  sp.setV (vd + o / 64) (putBits (sp.v (vd + o / 64)) (o % 64 * 8) w v)

/-- VRQS (R220). A position without a curve does not fit; a register group past V31 is no encoding (notes). -/
def semVrqs (c : SCtx) : SRes :=
  let vd := c.b 21 5
  let p := c.sp.s (c.b 4 4)
  let b := c.b 1 3
  let width := c.width p
  let curve := curveBody c.l (seCurve (slotEntry c.l ((c.slots[p]?).getD 0)))
  if width ≠ 4 ∧ width ≠ 8 then .fault 6
  else if 32 < vd + (if width = 4 then 2 else 4) then .fault 1
  else
    match c.ents (c.b 13 3) 0 with
    | none => .fault 3
    | some es =>
      if es.any c.unflushed then .stall 4
      else
        let xs := vLanes (c.sp.v (c.b 16 5))
        let sp := forL ((List.range 16).zip (es.zip xs)) (fun t a =>
          let x := t.2.2
          let q := (curveMap curve x.1, curveMap curve x.2)
          let a1 := a.tallyUpd t.2.1 (fun y => (if bit c.w 0 then y else y.add c.fv t.1 x).addAuto c.fv t.1 q)
          if width = 4 then a1.putByte vd (8 * t.1 + b) 8 (usgn 4 q.1 + 16 * usgn 4 q.2)
          else a1.putByte vd (16 * t.1 + 2 * b) 16 (usgn 8 q.1 + 256 * usgn 8 q.2)) c.sp
        .done (c.update sp (c.b 13 3) (c.b 11 2) (c.b 8 3) 1 true) 0 none true

end Sys2Proof.Machine
end

