-- ==== Sys2Proof/Machine/Zoom.lean ====
section
/-!
DEFINITION. The zoom chain (R230 to R244): delay, mixer, CIC, compensation FIR, suppression, coefficient banks and swaps.
-/

namespace Sys2Proof.Machine

/-! ## Indices and times -/

/-- Key of a decoded coarse sample that waits (`SpinState.samples`). -/
def sampleKey (n slot ch : Nat) : Nat := (n * 4096 + slot) * 65536 + ch

/-- A complex 16+16 value as a table entry, and back: 0 is no value. -/
def cEntry (x : Int × Int) : Nat := 1 + usgn 16 x.1 + 65536 * usgn 16 x.2
def cValue (v : Nat) : Int × Int := if v = 0 then (0, 0) else (sgn 16 (v - 1), sgn 16 ((v - 1) / 65536))

/-- Coarse index of the first coarse sample at DRAFT_START (R297). -/
def State.firstCoarse (s : State) : Nat := s.firstFine * 2 ^ splitOf s.draft.struct

/-- Array time of coarse sample `n`, truncated (R24). -/
def State.coarseTime (s : State) (n : Nat) : Nat :=
  ((s.draft.t0 : Int) + ((((n : Int) - (s.firstCoarse : Int) : Int) : Rat) * pcQ s.draft.struct * 4294967296).floor).toNat

/-- The span that a coarse sample lies in. -/
def State.coarseSpan (s : State) (n : Nat) : Nat := n / 2 ^ splitOf s.draft.struct / max 1 (tOf s.draft.struct)

/-- The slots that an engine serves and that divert a coarse channel, ascending (R230); a remote slot receives no samples
(R298). -/
def zoomSlots (l : List Item) (e : Nat) : List Nat :=
  (enabledSlots l).filter (fun x => x / 64 == e && divertOf l x != 0xFFFF && !slotRemote l (classedSlots l) x)

/-- Coefficient `k` of a bank of an engine, 18-bit signed (R241). -/
def coefKey (e b k : Nat) : Nat := (e * 2 + b) * 64 + k
def State.coef (s : State) (e b k : Nat) : Int := sgn 18 (Tab.get 0 s.zoom.coef (coefKey e b k))

/-- A bank of an engine written, its other coefficients zero. -/
def State.putBank (s : State) (e b : Nat) (cs : List Int) : State :=
  { s with zoom := { s.zoom with
      coef := forN 64 (fun k t => Tab.set 0 t (coefKey e b k) (usgn 18 (cs.getD k 0))) s.zoom.coef } }

def State.zoomPos (s : State) (x : Nat) : ZoomPos := Tab.get ZoomPos.init s.zoom.pos x

/-! ## The path of a position (R232 to R235) -/

/-- A cascade of integrators: each adds its input, 80 bits wrapping (R234). -/
def integrate : List (Int × Int) → Int × Int → List (Int × Int) × (Int × Int)
  | [], x => ([], x)
  | a :: r, x =>
    let y := (sgn 80 (usgn 80 (a.1 + x.1)), sgn 80 (usgn 80 (a.2 + x.2)))
    let (r', z) := integrate r y
    (y :: r', z)

/-- A cascade of combs: each subtracts its input from D outputs earlier, 80 bits wrapping (R234). -/
def combs (d : Nat) : List (List (Int × Int)) → Int × Int → List (List (Int × Int)) × (Int × Int)
  | [], x => ([], x)
  | h :: r, x =>
    let o := h.getD (d - 1) (0, 0)
    let y := (sgn 80 (usgn 80 (x.1 - o.1)), sgn 80 (usgn 80 (x.2 - o.2)))
    let (r', z) := combs d r y
    ((x :: h).take d :: r', z)

/-- A part pair saturated to int16, and how many parts were. -/
def sat2 (x : Int × Int) : (Int × Int) × Nat :=
  ((satI 16 x.1, satI 16 x.2), b2n (!fitsI 16 x.1) + b2n (!fitsI 16 x.2))

/-- The mixer (R233). -/
def mix (freq : Int) (n : Nat) (x : Int × Int) : (Int × Int) × Nat :=
  let k := usgn 32 (freq * n) / 262144
  let c := cos14 k
  let sn := sin14 k
  sat2 ((x.1 * c + x.2 * sn) / 32768, (x.2 * c - x.1 * sn) / 32768)

/-- The compensation FIR (R235): `L` taps over the line, the newest first. -/
def firOut (h : Nat → Int) (L : Nat) (line : List (Int × Int)) : (Int × Int) × Nat :=
  let x := (List.range L).foldl (fun (a : Int × Int) t =>
    let v := line.getD t (0, 0)
    let c := h (min t (L - 1 - t))
    (a.1 + c * v.1, a.2 + c * v.2)) (0, 0)
  sat2 (x.1 / 131072, x.2 / 131072)

/-- Integer delay D_s of a position at coarse sample `n` (R232). -/
def State.zoomDelay (s : State) (x n : Nat) : Nat :=
  let m := n / 2 ^ splitOf s.draft.struct
  min 63 (Tab.get 0 (s.foxTableAt (m / 2 ^ s.fox.j) m).dly x)

/-- A position restarted at a coarse index (R239); a run of zeros for missing samples goes on to its end `miss` (R240). -/
def zoomRestart (b : List Byte) (nr miss : Nat) : ZoomPos :=
  let r := max 1 (zR b)
  { line := [], integ := List.replicate (zM b) (0, 0), comb := List.replicate (zM b) [], fir := [],
    supEnd := cdiv nr r + zM b * zD b + zL b - 1, missEnd := miss }

/-- Class `cls` for the zoom fine channels of a slot over the zoom spans whose filter memory reaches one of the outputs `j` to `k`
(R22, R239): from fine sample j / 2^SPLIT to the 8th after k / 2^SPLIT. A zoom span's cause is recorded at its last regular span. -/
def State.zoomReach (s : State) (l : List Item) (x j k cls : Nat) : State :=
  let n := 2 ^ splitOf l
  let t := max 1 (tOf l)
  let r := max 1 (zR (zoomBody l (x / 64)))
  let lo := j / n / t
  forN ((k / n + 8) / t + 1 - lo) (fun i a =>
    forN n (fun q b => b.exclude ((lo + i) * r + r - 1) (divertOf l x * n + q) x cls) a) s

/-- Class 2 for what output `j` reaches. -/
def State.zoomMissing (s : State) (l : List Item) (x j : Nat) : State := s.zoomReach l x j j 2

/-- The first output after a zero run of a position as a restart at coarse index `n` counts it: where a patch changes R, the outputs
from there on have other numbers. -/
def State.missKept (s : State) (l : List Item) (e n : Nat) (p : ZoomPos) : Nat :=
  let r := max 1 (zR (zoomBody l e))
  let per := 2 ^ splitOf l * max 1 (tOf l)
  if n % per = 0 ∧ 0 < n then cdiv (p.missEnd * max 1 (zR (zoomBody (s.structAt (n / per - 1)) e))) r else p.missEnd

/-! ## Swaps (R242) -/

/-- Bytes of a bank's coefficients that a swap measures: ⌈L/2⌉ int32 words (R242). -/
def State.bankBytes (s : State) (l : List Item) (e b : Nat) : List Byte :=
  (List.range (cdiv (zL (zoomBody l e)) 2)).flatMap (fun k => leBytes 4 (usgn 32 (s.coef e b k)))

/-- The armed swap of an engine takes place. -/
def State.zoomSwap (s : State) (l : List Item) (e : Nat) : State :=
  let b := 1 - s.get1 R.ZOOM_STATUS_ACTIVE_BANK e
  let s1 := s.measureSwap 9 e (sha384 (s.bankBytes l e b))
  ((({ s1 with zoom := { s1.zoom with armed := Tab.del s1.zoom.armed e } }.put1 R.ZOOM_STATUS_ACTIVE_BANK e b).put1
    R.ZOOM_STATUS_SWAP_PENDING e 0)).put1 R.ZOOM_FLAGS_SWAPPED e 1

/-- The armed swap of an engine, if it is due at output `j`. -/
def State.zoomSwapAt (s : State) (l : List Item) (e j : Nat) : State :=
  let ts := s.coarseTime (j * max 1 (zR (zoomBody l e)))
  if s.is1 R.ZOOM_STATUS_SWAP_PENDING e ∧ Tab.get 0 s.zoom.armed e ≤ ts + 1 then s.zoomSwap l e else s

/-- Banks of an engine that a patch replaces, from the first output at or after the start of their span (R243). -/
def State.zoomNewBanks (s : State) (l : List Item) (e j : Nat) : State :=
  let ts := s.coarseTime (j * max 1 (zR (zoomBody l e)))
  let due := s.zoom.newBanks.filter (fun x => x.engine == e && decide (s.spanTime x.span ≤ ts))
  due.foldl (fun a x => ({ a with zoom := { a.zoom with newBanks := a.zoom.newBanks.erase x } }).putBank e x.bank x.coefs) s

/-- Saturations of an engine counted (R235). -/
def State.zoomSat (s : State) (e n : Nat) : State :=
  if n = 0 then s else (s.bump1 R.ZOOM_SAT_COUNT e n).put1 R.ZOOM_FLAGS_SAT e 1

/-! ## Commands -/

/-- Is an engine clocked, the Draft running (R230, R244)? -/
def State.zoomRuns (s : State) (l : List Item) (e : Nat) : Bool :=
  let st := s.get R.DRAFT_STATUS_STATE
  (st == 4 || st == 5) && !(zoomSlots l e).isEmpty

/-- One position at coarse sample `n`; at a decimation instant it forms output `j`. -/
def State.zoomPosStep (s : State) (l : List Item) (e n : Nat) (dec : Bool) (x : Nat) : State :=
  let b := zoomBody l e
  let r := max 1 (zR b)
  let j := n / r
  let again := (s.zoom.restarts.filter (fun q => q.1 == x && decide (q.2 ≤ n))).foldl (fun m q => max m (q.2 + 1)) 0
  let p0 := if again = 0 then s.zoomPos x else zoomRestart b (again - 1) (s.missKept l e (again - 1) (s.zoomPos x))
  let key := sampleKey n x (divertOf l x)
  let v := Tab.get 0 s.spin.samples key
  let line := (cValue v :: p0.line).take 64
  let miss := if v = 0 then max p0.missEnd (j + zM b * zD b + zL b - 1) else p0.missEnd
  let (y, n1) := mix (zoomFreqOf l x) n (line.getD (s.zoomDelay x n) (0, 0))
  let (ig, w) := integrate p0.integ y
  let s1 := { s with
    spin := { s.spin with samples := Tab.del s.spin.samples key }
    zoom := { s.zoom with restarts := s.zoom.restarts.filter (fun q => !(q.1 == x && decide (q.2 ≤ n))) } }
  let p1 := { p0 with line := line, integ := ig, missEnd := miss }
  if !dec then
    (({ s1 with zoom := { s1.zoom with pos := Tab.set ZoomPos.init s1.zoom.pos x p1 } } : State).zoomSat e n1).put2
      R.ZOOM_SLOT_CH_SUPPRESSING e (x % 64) (b2n (decide (j < max p1.supEnd p1.missEnd)))
  else
    let (cb, z) := combs (zD b) p1.comb w
    let sh : Int := 2 ^ zShift b
    let (vv, n2) := sat2 (z.1 / sh, z.2 / sh)
    let fir := (vv :: p1.fir).take (zL b)
    let (u, n3) := firOut (s1.coef e (s1.get1 R.ZOOM_STATUS_ACTIVE_BANK e)) (zL b) fir
    let sup := decide (j < p1.supEnd)
    let mis := decide (j < p1.missEnd)
    let p2 := { p1 with comb := cb, fir := fir }
    let s2 : State := { s1 with zoom := { s1.zoom with
      pos := Tab.set ZoomPos.init s1.zoom.pos x p2
      out := Tab.set 0 s1.zoom.out (j * 4096 + x) (cEntry (if sup || mis then (0, 0) else u)) } }
    let s3a := if sup then s2.bump1 R.ZOOM_MISSING_SUPPRESSED e 1 else s2
    let s3 := if mis then s3a.bump1 R.ZOOM_MISSING_MISSING e 1 else s3a
    let s4 := if sup || mis then s3.zoomMissing l x j else s3
    (s4.zoomSat e (n1 + n2 + n3)).put2 R.ZOOM_SLOT_CH_SUPPRESSING e (x % 64) (b2n (decide (j + 1 < max p2.supEnd p2.missEnd)))

/-- Coarse sample `n` enters an engine's positions (R232 to R236, R241): at a decimation, new coefficients and an armed swap come
first. -/
def State.zoomTake (s : State) (l : List Item) (engine n : Nat) : State :=
  let r := max 1 (zR (zoomBody l engine))
  let dec := n % r == r - 1
  let s1 := if dec then (s.zoomNewBanks l engine (n / r)).zoomSwapAt l engine (n / r) else s
  let s2 := (zoomSlots l engine).foldl (fun a x => a.zoomPosStep l engine n dec x) s1
  { s2 with zoom := { s2.zoom with next := Tab.set 0 s2.zoom.next engine (n + 1) } }

/-- ZOOM_SAMPLE (R232 to R240): an engine accepts its next coarse sample of each position; a missing one enters as zero; at a
decimation instant the outputs are formed, with the bank that is then due. -/
def execZoomSample (engine t : Nat) (s : State) : Out :=
  let s0 := s.upTo t
  let n := Tab.get 0 s0.zoom.next engine
  let l := s0.structAt (s0.coarseSpan n)
  if !s0.zoomRuns l engine || decide (s0.now < s0.coarseTime n) then .next s0
  else
    .next (s0.zoomTake l engine n)

/-- SWAP_ARM (R242): a swap is armed at ZOOM_SWAP_TIME; one armed late applies at the next decimation instant. -/
def execSwapArm (engine t : Nat) (s : State) : Out :=
  let s0 := s.upTo t
  let w := s0.get1 R.ZOOM_SWAP_TIME_TIME engine
  let late := decide (w < s0.now)
  let s1 := ({ s0 with zoom := { s0.zoom with armed := Tab.set 0 s0.zoom.armed engine (if late then 0 else w + 1) } }).put1
    R.ZOOM_STATUS_SWAP_PENDING engine 1
  .next (if late then s1.put1 R.ZOOM_FLAGS_SWAP_LATE engine 1 else s1)

/-- An armed swap disarmed. -/
def State.zoomDisarm (s : State) (e : Nat) : State :=
  ({ s with zoom := { s.zoom with armed := Tab.del s.zoom.armed e } }).put1 R.ZOOM_STATUS_SWAP_PENDING e 0

/-- SWAP_CANCEL (R242). -/
def execSwapCancel (engine : Nat) (s : State) : Out := .next (s.zoomDisarm engine)

/-- ZOOM_SWAP (R242): the swap takes place when the next output is the first at or after the armed time. -/
def execZoomSwap (engine t : Nat) (s : State) : Out :=
  let s0 := s.upTo t
  let n := Tab.get 0 s0.zoom.next engine
  let l := s0.structAt (s0.coarseSpan n)
  if !s0.zoomRuns l engine then .next s0
  else .next (s0.zoomSwapAt l engine (n / max 1 (zR (zoomBody l engine))))

/-- Does a pending patch hold a ZOOM item for an engine (R241)? -/
def State.zoomPatched (s : State) (e : Nat) : Bool :=
  s.draft.patches.any (fun p => p.items.any (fun x => x.sec == secZoom && (if x.kind == 1 then x.idx == e else x.idx / 2 == e)))

/-- ZOOM_COEF_DATA (R241): a coefficient of the inactive bank, or a refusal. INDEX moves on after either (R245: after each access). -/
def execZoomCoefData (engine value : Nat) (s : State) : Out :=
  let b := s.get1 R.ZOOM_COEF_ADDR_BANK engine
  let k := s.get1 R.ZOOM_COEF_ADDR_INDEX engine
  if b = s.get1 R.ZOOM_STATUS_ACTIVE_BANK engine ∨ s.zoomPatched engine then
    .next (((s.bump1 R.ZOOM_FLAGS_REFUSED engine 1).put1 R.ZOOM_FLAGS_COEF_REFUSED engine 1).wrap1 R.ZOOM_COEF_ADDR_INDEX engine 1)
  else
    .next (({ s with zoom := { s.zoom with coef := Tab.set 0 s.zoom.coef (coefKey engine b k) (value % 262144) } }).wrap1
      R.ZOOM_COEF_ADDR_INDEX engine 1)

/-! ## Starts, patches, stops -/

/-- The position registers of an engine back at their reset values, from COARSE of position 0 to FREQ of position 63 (R245). -/
def State.zoomBlank (s : State) (e : Nat) : State :=
  let lo := R.ZOOM_SLOT_CH_COARSE.key e 0
  let hi := R.ZOOM_SLOT_NCO_FREQ.key e 63
  { s with regs := s.regs.filter (fun r => !decide (lo ≤ r.1 ∧ r.1 ≤ hi)) }

/-- The read-only registers of every engine, from the structure in force (R245); a position that diverts nothing suppresses nothing. -/
def State.zoomShow (s : State) (l : List Item) : State :=
  forN 64 (fun e a =>
    let b := zoomBody l e
    let a0 := ((((a.put1 R.ZOOM_CONFIG_D e (zD b)).put1 R.ZOOM_CONFIG_M e (zM b)).put1 R.ZOOM_CONFIG_L e (zL b)).put1
      R.ZOOM_CONFIG_R e (zR b)).put1 R.ZOOM_CONFIG_SHIFT e (zShift b)
    let a1 := a0.put1 R.ZOOM_GDELAY_HALF_SAMPLES e (zM b * (zR b * zD b - 1) + (zL b - 1) * zR b)
    match itemAt l secZoom 1 e with
    | none => a1.zoomBlank e
    | some _ => forN 64 (fun q c =>
        let c1 := (c.put2 R.ZOOM_SLOT_CH_COARSE e q (zCoarse b q)).put2 R.ZOOM_SLOT_NCO_FREQ e q (zFreq b q)
        if divertOf l (64 * e + q) = 0xFFFF then c1.put2 R.ZOOM_SLOT_CH_SUPPRESSING e q 0 else c1) a1) s

/-- The engines at the START of a full Draft (R239, R241): every position restarts at coarse sample 0; the banks of the ZOOM
items; the item's ACTIVE_BANK. -/
def State.zoomStart (s : State) : State :=
  let l := s.draft.struct
  let n0 := s.firstCoarse
  let slots := (enabledSlots l).filter (fun x => divertOf l x != 0xFFFF)
  let s1 : State := { s with zoom := ⟨[], (List.range 64).filterMap (fun e => if n0 = 0 then none else some (e, n0)), [], [], [],
    slots.map (fun x => (x, n0)), []⟩ }
  let s2 := forN 64 (fun e a =>
    let a1 := (a.putBank e 0 (coefBank l (2 * e))).putBank e 1 (coefBank l (2 * e + 1))
    (a1.put1 R.ZOOM_STATUS_ACTIVE_BANK e (zBank (zoomBody l e))).put1 R.ZOOM_STATUS_SWAP_PENDING e 0) s1
  s2.zoomShow l

/-- RUN of every engine (R245): the Draft runs, and at least one of the engine's positions diverts a coarse channel. -/
def State.zoomRunning (s : State) : State :=
  let st := s.get R.DRAFT_STATUS_STATE
  forN 64 (fun e a => a.put1 R.ZOOM_STATUS_RUN e (b2n ((st == 4 || st == 5) &&
    (List.range 64).any (fun q => divertOf s.draft.struct (64 * e + q) != 0xFFFF)))) s

/-- A patch admitted for span `E` (R242, R243): banks written or kept for their span, swaps armed for later cancelled. -/
def State.zoomAdmit (s : State) (items : List Item) (E : Nat) : State :=
  let mine := items.filter (fun x => x.sec == secZoom)
  let s1 := (mine.filter (fun x => x.kind == 2)).foldl (fun a x =>
    let e := x.idx / 2
    let cs := (chunks 4 (x.body.drop 8)).map (fun c => fldI c 0 4)
    if x.idx % 2 = a.get1 R.ZOOM_STATUS_ACTIVE_BANK e then
      { a with zoom := { a.zoom with newBanks := a.zoom.newBanks ++ [⟨e, x.idx % 2, E, cs⟩] } }
    else a.putBank e (x.idx % 2) cs) s
  (sortN (mine.map (fun x => if x.kind = 1 then x.idx else x.idx / 2))).foldl (fun a e =>
    let w := Tab.get 0 a.zoom.armed e
    if a.is1 R.ZOOM_STATUS_SWAP_PENDING e ∧ w ≠ 0 ∧ s.spanTime E ≤ w - 1 then
      (a.zoomDisarm e).put1 R.ZOOM_FLAGS_SWAP_CANCELLED e 1
    else a) s1

/-- A patch that takes effect at span `E` (R239): the positions it restarts, and the registers. An engine that diverted nothing before
takes its coarse samples from the first of `E` on. -/
def State.zoomPatch (s : State) (old new : List Item) (E : Nat) : State :=
  let n := E * tOf new * 2 ^ splitOf new
  let hit := ((enabledSlots new).filter (fun x => divertOf new x != 0xFFFF)).filter (fun x =>
    let a := zoomBody old (x / 64)
    let b := zoomBody new (x / 64)
    zM a != zM b || zD a != zD b || zR a != zR b || zL a != zL b || zShift a != zShift b ||
      zCoarse a (x % 64) != zCoarse b (x % 64) || zFreq a (x % 64) != zFreq b (x % 64) || !slotEnabled old x)
  let fresh := (List.range 64).filter (fun e => (zoomSlots old e).isEmpty && !(zoomSlots new e).isEmpty)
  ({ s with zoom := { s.zoom with
      restarts := s.zoom.restarts ++ hit.map (fun x => (x, n))
      next := fresh.foldl (fun t e => Tab.set 0 t e n) s.zoom.next } }).zoomShow new |>.zoomRunning

/-- A slot that gets a different source restarts its position at a coarse index (R239). -/
def State.zoomSource (s : State) (x n : Nat) : State :=
  if divertOf s.draft.struct x = 0xFFFF then s else { s with zoom := { s.zoom with restarts := s.zoom.restarts ++ [(x, n)] } }

/-- The engines stopped, their state and both banks discarded (R244); no Draft is loaded. -/
def State.zoomReset (s : State) : State :=
  (forN 64 (fun e (a : State) => ((a.put1 R.ZOOM_STATUS_RUN e 0).put1 R.ZOOM_STATUS_SWAP_PENDING e 0).put1 R.ZOOM_STATUS_ACTIVE_BANK e 0)
    { s with zoom := ⟨[], [], [], [], [], [], []⟩ }).zoomShow []

end Sys2Proof.Machine
end

