-- ==== Sys2Proof/Machine/Spindles.lean ====
section
/-!
DEFINITION. The spindles in the part (R194, R195, R199 to R207, R215, R223 to R229): blocks, flush and statistics flags, the
corner-turn writer, banks and swaps, faults, and the command of each instruction.
-/

namespace Sys2Proof.Machine

/-! ## Spindles and their positions -/

/-- The slots of a spindle's positions, in POS order; remote slots run nothing (R195, R298). -/
def spinSlots (l : List Item) (n : Nat) : List Nat :=
  let mine := (enabledSlots l).filter (fun x => seSpindle (slotEntry l x) == n && !slotRemote l (classedSlots l) x)
  (List.range 8).flatMap (fun p => mine.filter (fun x => sePos (slotEntry l x) == p))

def State.spindle (s : State) (n : Nat) : Spindle := Tab.get Spindle.init s.spin.sp n

def State.setSpindle (s : State) (n : Nat) (sp : Spindle) : State :=
  { s with spin := { s.spin with sp := Tab.set Spindle.init s.spin.sp n sp } }

/-- T in force. -/
def State.spinT (s : State) : Nat := max 1 (tOf s.draft.struct)

/-- The structure that a block belongs to (R74). -/
def State.blockStruct (s : State) (blk : Nat) : List Item := s.structAt (blk / s.spinT)

/-- The active bank's number, a bank, a bank replaced. -/
def State.activeBank (s : State) (n : Nat) : Nat := s.get1 R.SPIN_PROG_STATUS_ACTIVE n
def Spindle.bankNo (sp : Spindle) (b : Nat) : ProgBank := if b = 1 then sp.bank1 else sp.bank0
def Spindle.setBank (sp : Spindle) (b : Nat) (x : ProgBank) : Spindle :=
  if b = 1 then { sp with bank1 := x } else { sp with bank0 := x }

/-- VALID of a bank. -/
def validField (b : Nat) : Field := if b = 1 then R.SPIN_PROG_STATUS_VALID1 else R.SPIN_PROG_STATUS_VALID0

/-- The structure that a spindle's block belongs to (R74): a spindle that a patch gave its first positions fills its filter memory, in the
blocks before the first that counts, under the structure of that one. -/
def State.spinStruct (s : State) (sp : Spindle) (blk : Nat) : List Item :=
  if blk < sp.first then s.structFor (sp.first / s.spinT) else s.blockStruct blk

/-- The structure that the running image sees: an image that a late patch swap leaves running sees the old one (R227). -/
def State.imageStruct (s : State) (sp : Spindle) : List Item :=
  match sp.swapSpan with
  | some e => if e ≤ sp.blk / s.spinT then s.structAt (e - 1) else s.spinStruct sp sp.blk
  | none => s.spinStruct sp sp.blk

/-- What an instruction works on, of spindle `n` (its free value not yet used). -/
def State.spinCtx (s : State) (n : Nat) : SCtx :=
  let sp := s.spindle n
  let l := s.imageStruct sp
  let bank := sp.bankNo (s.activeBank n)
  ⟨s, n, l, spinSlots l n, sp, Tab.get 0 bank.words sp.pc, Config.freeValue s.free⟩

/-- Bytes of DATA written into local memory (R199, R224). -/
def lmemData (m : Tab Nat) (addr : Nat) (d : List Byte) : Tab Nat :=
  ((List.range d.length).zip d).foldl (fun t x =>
    let a := (addr + x.1) % 262144
    Tab.upd 0 t (a / 4) (fun w => putBits w (8 * (a % 4)) 8 x.2.toNat)) m

/-- Every register, accumulator and search state cleared (R224). -/
def Spindle.clearRegs (sp : Spindle) : Spindle :=
  { sp with sreg := [], areg := [], qreg := [], mreg := [], vreg := [], acc := [], srch := [], stall := 0, left := 0, iter := 0 }

/-- Cycles of the spindle clock in a difference of array times. -/
def spinCycles (d : Nat) : Nat := d * 1300000000 / 4294967296

/-- Array time of a number of spindle cycles, rounded up. -/
def cyclesToT (c : Nat) : Nat := cdiv (c * 4294967296) 1300000000

/-! ## Statistics flags (R146, R147) -/

/-- A PASS_LIMIT field of a slot as it stood when a span ended. -/
def State.limitOf (s : State) (span : Nat) (f : Field) (slot : Nat) : Nat :=
  if s.spin.limitSpan = span ∧ span < s.get R.DRAFT_SPAN_SPAN then Tab.get f.rst s.spin.limits (f.key slot 0)
  else s.get1 f slot

/-- The square of the length of a tally's sum of samples, and V = n·S2 − (Re S1)² − (Im S1)² (R146), over the integers. -/
def Tally.mean2 (r : Tally) : Int := r.s1re * r.s1re + r.s1im * r.s1im
def Tally.v (r : Tally) : Int := (r.n : Int) * r.s2 - r.mean2

/-- Classes 3 and 4 of a tally record (R146). -/
def State.statClasses (s : State) (span slot : Nat) (r : Tally) : List Nat :=
  let n : Int := r.n
  let lo : Int := s.limitOf span R.PASS_LIMIT_LO_LO slot
  let hi : Int := s.limitOf span R.PASS_LIMIT_HI_HI slot
  let mq : Int := s.limitOf span R.PASS_LIMIT_MEAN_MEANQ slot
  let power := s.limitOf span R.PASS_LIMIT_CTL_EN_POWER slot == 1 && (decide (r.v < lo * (n * n)) || decide (hi * (n * n) < r.v))
  let mean := s.limitOf span R.PASS_LIMIT_CTL_EN_MEAN slot == 1 && decide (mq * n * r.s2 < r.mean2 * 65536)
  (if power then [3] else []) ++ (if mean then [4] else [])

/-- The flags of a slot over its fine channels: (channel, class). -/
def State.statFlags (s : State) (l : List Item) (span slot : Nat) (recs : List Tally) : List (Nat × Nat) :=
  let cls := recs.map (s.statClasses span slot)
  let per := 2 ^ splitOf l
  let cm := s.limitOf span R.PASS_LIMIT_CTL_COARSE_MAX slot
  let own := ((List.range cls.length).zip cls).flatMap (fun x => x.2.map (fun k => (x.1, k)))
  let spread := (List.range (ncoarseOf l)).flatMap (fun c =>
    let mine := (cls.drop (c * per)).take per
    let hits := (mine.filter (fun x => !x.isEmpty)).length
    if cm ≠ 0 ∧ cm ≤ hits then
      ((List.range per).filter (fun k => (mine.getD k []).isEmpty)).map (fun k => (c * per + k, 5))
    else [])
  own ++ spread

/-- The tally of a spindle flushed for a span (R201): autos, flags, records zeroed. The autos of a zoom channel are those of the samples
that the loom receives for its zoom span (R23), and the corner-turn writer forms them (`State.zoomAuto`). -/
def State.flushTally (s : State) (n span : Nat) (l : List Item) : State :=
  let sp := s.spindle n
  let slots := spinSlots l n
  let cN := fineChannels l
  let s1 := ((List.range slots.length).zip slots).foldl (fun a x =>
    let recs := (List.range cN).map (fun c => Tab.get Tally.zero sp.tally (x.1 * cN + c))
    let autos := ((List.range cN).zip recs).foldl (fun t y =>
      if zoomRatio l y.1 = 1 then Tab.set 0 t (exKey span y.1 x.2) y.2.auto else t) a.pass.autos
    let a1 : State := { a with pass := { a.pass with autos := autos } }
    (s.statFlags l span x.2 recs).foldl (fun b f => b.exclude span f.1 x.2 f.2) a1) s
  s1.setSpindle n { sp with tally := [], flushed := some span }

/-! ## Blocks (R203 to R206) -/

/-- A block void for any cause: counted, its slots excluded with class 2 over its reach (R206). -/
def State.voidBlock (s : State) (n blk : Nat) (slots : List Nat) : State :=
  let t := s.spinT
  let spans := sortN ((List.range 9).map (fun k => (blk + k) / t))
  let s1 := spans.foldl (fun a sp => slots.foldl (fun b x => b.exclude sp allChans x 2) a) s
  (s1.bump1 R.SPIN_VOID_VOID n 1).spinEvt R.SPIN_EVT_VOID n

/-- Where a fine sample goes: span of the channel and offset within it, none where the block completes no sample of a zoom
channel (R236, R238; notes). -/
def sampleAt (l : List Item) (t c blk : Nat) : Option (Nat × Nat) :=
  let r := zoomRatio l c
  if r = 1 then some (blk / t, blk % t)
  else if blk % r = 0 ∧ 0 < blk then some ((blk / r - 1) / t, (blk / r - 1) % t)
  else none

/-- Is a fine sample of a slot and channel watched by a tap or a capture stream (R390, R398)? -/
def State.tapWants (s : State) (l : List Item) (slot c : Nat) : Bool :=
  s.cap.units.any (fun u => u.2.cfgs.any (fun x =>
    x.kind == 1 && x.idx == slot && decide (x.first ≤ c ∧ c < x.first + x.nch))) ||
  s.cap.streams.any (fun u => u.2.cfgs.any (fun x =>
    x.source == 2 && decide (x.first ≤ c ∧ c < x.first + x.nch) && (groupSlots l x.group).contains slot))

/-- Does a regular span come after the last of a STOP (R69, R244)? -/
def State.afterSpan (s : State) (e : Nat) : Bool :=
  match s.draft.stopSpan with
  | none => false
  | some x => decide (x < e)

/-- The last regular span that span `z` of a channel covers (R238). -/
def lastRegular (l : List Item) (c z : Nat) : Nat := (z + 1) * zoomRatio l c - 1

/-- |q|² of a requantised sample as the corner turn holds it (R23): 4+4 in one byte, 8+8 in two. -/
def operandNorm (d : List Byte) : Nat :=
  let h := 4 * d.length
  let v := leNat d
  (sgn h (bits v 0 h) * sgn h (bits v 0 h) + sgn h (bits v h h) * sgn h (bits v h h)).toNat

/-- A sample of a zoom channel enters the autos of its zoom span, kept at the last regular span that it covers (R23, R238). -/
def State.zoomAuto (s : State) (l : List Item) (slot c z : Nat) (d : List Byte) : State :=
  let r := zoomRatio l c
  if r = 1 then s
  else { s with pass := { s.pass with autos := Tab.upd 0 s.pass.autos (exKey (lastRegular l c z) c slot) (fun v => v + operandNorm d) } }

/-- A fine sample that the corner-turn writer gets goes to the taps and streams that watch it (R390). -/
def State.tapFine (s : State) (l : List Item) (slot c blk : Nat) (d : List Byte) : State :=
  let gone := match sampleAt l s.spinT c blk with
    | none => s.afterSpan (blk / s.spinT)
    | some x => s.afterSpan (lastRegular l c x.1)
  if s.cap.run && s.tapWants l slot c && !gone then
    { s with cap := { s.cap with fine := Tab.set 0 s.cap.fine ((blk * 16384 + c) * 4096 + slot) (1 + leNat d) } }
  else s

/-- One fine sample taken by the corner-turn writer: gathered until its 64-byte unit is complete or the span's last sample
is there, then written through port 0 (R328). A sample of a span after the last of a STOP is discarded. -/
def State.cornerPut (s : State) (l : List Item) (slot c blk : Nat) (d : List Byte) : State :=
  let t := s.spinT
  match sampleAt l t c blk with
  | none => s
  | some (span, m) =>
    if s.afterSpan (lastRegular l c span) then s
    else
      let w := operandBytes l slot
      let key := (span % 2 * 16384 + c) * 4096 + slot
      let have_ := Tab.get [] s.spin.gather key ++ padTo w d
      let (o, _) := cornerOffset l (span % 2) c slot
      let s0 := s.zoomAuto l slot c span (padTo w d)
      if (m + 1) * w % 64 = 0 ∨ m + 1 = t then
        let s1 : State := { s0 with spin := { s0.spin with gather := Tab.set [] s0.spin.gather key [] } }
        s1.spaceWrite 0 (s1.useSpace 0) (o + (m + 1) * w - have_.length) have_
      else { s0 with spin := { s0.spin with gather := Tab.set [] s0.spin.gather key have_ } }

/-- Pushes that a position owes for a block (R205): ⌈C × w / 64⌉ with w = OUT_WIDTH / 4. -/
def posPushes (l : List Item) (x : Nat) : Nat := cdiv (fineChannels l * (curveWidth (curveBody l (seCurve (slotEntry l x))) / 4)) 64

/-- A block to the corner turn (R205, R206, R327): the positions' bytes, or zeros. -/
def State.writeBlock (s : State) (l : List Item) (slots : List Nat) (blk : Nat) (pushes : List Nat) (void : Bool) : State :=
  let bytes := pushes.flatMap (leBytes 64)
  let r := slots.foldl (fun (a : State × List Byte) x =>
    let w := curveWidth (curveBody l (seCurve (slotEntry l x))) / 4
    let mine := a.2.take (64 * posPushes l x)
    (forN (fineChannels l) (fun c b =>
      let d := if void then zeros w else (mine.drop (c * w)).take w
      (b.cornerPut l x c blk d).tapFine l x c blk d) a.1,
     a.2.drop (64 * posPushes l x))) (s, bytes)
  r.1

/-- The current block leaves the spindle: its waiting vectors are discarded, the next block becomes current. -/
def Spindle.nextBlock (sp : Spindle) : Spindle :=
  { sp with
    inq := sp.inq.filter (fun v => v.1 != sp.blk)
    drops := sp.drops.filter (fun v => v.1 != sp.blk)
    pops := 0, pushes := [], firstPop := none, blk := sp.blk + 1 }

/-! ## Banks (R223 to R225) -/

/-- Words of a bank as bytes, 4,096 words (R472). -/
def bankWords (b : ProgBank) : List Byte := (List.range 4096).flatMap (fun k => leBytes 4 (Tab.get 0 b.words k))

/-- A request or write refused and counted (R223 to R225). -/
def State.spinRefuse (s : State) (n : Nat) : State := (s.bump1 R.SPIN_PROG_STATUS_REFUSED n 1).spinEvt R.SPIN_EVT_PROG_REFUSED n

/-- A pending patch image among those of a spindle, by span; a later patch of the same span replaces it (R73, R74). -/
def putImage : List (Nat × ProgBank) → Nat → ProgBank → List (Nat × ProgBank)
  | [], e, b => [(e, b)]
  | x :: r, e, b => if e < x.1 then (e, b) :: x :: r else if e = x.1 then (e, b) :: r else x :: putImage r e b

/-- The pending patch images of a spindle: the first of them fills the inactive bank (R74, R223). -/
def State.pendImages (s : State) (n : Nat) (xs : List (Nat × ProgBank)) : State :=
  let sp := s.spindle n
  let b := 1 - s.activeBank n
  match xs with
  | [] => s.setSpindle n { sp with images := [], swapSpan := none }
  | (e, bank) :: _ => (s.setSpindle n { sp.setBank b bank with images := xs, swapSpan := some e }).put1 (validField b) n 1

/-- The inactive bank becomes active and its image starts (R224); a host swap is measured (R472). The next pending patch image then
fills the bank that is inactive. -/
def State.swapBank (s : State) (n : Nat) (host : Bool) : State :=
  let b := 1 - s.activeBank n
  let sp := s.spindle n
  let bank := sp.bankNo b
  let s1 := if host then s.measureSwap 8 n (sha384 (bankWords bank)) else s
  let sp1 := { sp.clearRegs with pc := bank.entry }
  let sp2 := if host then sp1 else { sp1 with lmem := lmemData sp1.lmem bank.dataAt bank.data }
  let s2 := ((s1.setSpindle n sp2).put1 R.SPIN_PROG_STATUS_ACTIVE n b).spinEvt R.SPIN_EVT_SWAPPED n
  if host then s2 else s2.pendImages n (sp.images.drop 1)

/-- The swaps due at the BLK that has closed block `blk` (R224, R227). -/
def State.swapsAt (s : State) (n blk : Nat) : State :=
  let sp := s.spindle n
  let want := s.is1 R.SPIN_PROG_STATUS_SWAP_PENDING n
  let s1 := s.put1 R.SPIN_PROG_STATUS_SWAP_PENDING n 0
  match sp.swapSpan with
  | some e =>
    let s2 := if want then s1.spinRefuse n else s1
    if e ≤ (blk + 1) / s.spinT then s2.swapBank n false else s2
  | none =>
    if !want then s
    else if s.is1 (validField (1 - s.activeBank n)) n then s1.swapBank n true
    else s1.spinRefuse n

/-- The image of a Draft as a bank. -/
def imageBank (b : List Byte) : ProgBank :=
  let code := imgCode b
  ⟨((List.range code.length).zip code).foldl (fun t x => Tab.set 0 t x.1 x.2) [], imgEntry b, imgDataOff b, imgData b, imgFlags b⟩

/-- The image number of a spindle's positions, if it has any. -/
def spinImage (l : List Item) (n : Nat) : Option Nat := (spinSlots l n).head?.map (fun x => seImage (slotEntry l x))

/-- A spindle loaded for the block `blk` on (R199, R202, R223): bank 0 active, local memory filled, every gain 32,767; the outputs of blocks
from `first` on count. -/
def State.spinLoad (s : State) (l : List Item) (n blk first : Nat) : State :=
  match spinImage l n with
  | none => s.setSpindle n Spindle.init
  | some i =>
    let bank := imageBank (imageBody l i)
    let sp : Spindle := { Spindle.init with
      bank0 := bank, lmem := lmemData [] bank.dataAt bank.data, pc := bank.entry, blk := blk, inBlk := blk, first := first }
    ((((s.setSpindle n sp).put1 R.SPIN_PROG_STATUS_ACTIVE n 0).put1 R.SPIN_PROG_STATUS_VALID0 n 1).put1
      R.SPIN_PROG_STATUS_VALID1 n 0).put1 R.SPIN_PROG_STATUS_SWAP_PENDING n 0

/-- A spindle that has no positions is loaded for a patch that gives it some at span `E` (R74, R223): it runs from the blocks that fill their
filter memory on, and has flushed the spans before. -/
def State.spinJoin (s : State) (l : List Item) (n E : Nat) : State :=
  let first := E * max 1 (tOf l)
  let a := s.spinLoad l n (first - 8) first
  a.setSpindle n { a.spindle n with run := s.get R.DRAFT_STATUS_STATE == 4, flushed := if E = 0 then none else some (E - 1) }

/-- The first pending patch, by span, whose structure gives a spindle positions. -/
def State.joinsAt (s : State) (n : Nat) : Option (Nat × List Item) :=
  ((s.draft.patches.map (·.effSpan)).zip s.pendingStructs).find? (fun e => (spinImage e.2 n).isSome)

/-- A spindle that has left its last block with positions is loaded for the pending patch that names it again, if one does. -/
def State.spinRejoin (s : State) (n : Nat) : State :=
  let sp := s.spindle n
  if !(spinSlots (s.structFor (max sp.blk sp.first / s.spinT)) n).isEmpty then s
  else
    match s.joinsAt n with
    | none => s
    | some (E, l) => s.spinJoin l n E

/-- The cycles of a stall on a port counted as it ends (R203). -/
def State.stallCount (s : State) (n : Nat) : State :=
  let sp := s.spindle n
  let d := spinCycles (s.now - sp.stallAt)
  if sp.stall = 1 then s.bump1 R.SPIN_STALL_IN_CYCLES n d
  else if sp.stall = 2 ∨ sp.stall = 3 then s.bump1 R.SPIN_STALL_OUT_CYCLES n d
  else s

/-- The running image aborted (R225 steps 1 to 3, R226): the current block is void and consumed, registers cleared, local
memory filled anew with the DATA of bank `b`; the image starts no sooner than 4,096 cycles later. -/
def State.spinAbort (s : State) (n b : Nat) : State :=
  let sp := s.spindle n
  let l := s.spinStruct sp sp.blk
  let slots := spinSlots l n
  let s1 := (s.stallCount n).voidBlock n sp.blk slots
  let s2 := if sp.blk < sp.first then s1 else s1.writeBlock l slots sp.blk [] true
  let bank := sp.bankNo b
  let sp1 := { (s2.spindle n).clearRegs.nextBlock with
    lmem := lmemData [] bank.dataAt bank.data
    restart := some (s.now + cyclesToT 4096) }
  s2.setSpindle n sp1

/-- A forced swap that qualifies (R225). Of a spindle that does not execute yet, steps 3 and 4 alone. -/
def State.forceSwap (s : State) (n : Nat) : State :=
  let b := 1 - s.activeBank n
  let sp := s.spindle n
  let bank := sp.bankNo b
  let s0 := s.measureSwap 8 n (sha384 (bankWords bank))
  let s1 := if sp.run then s0.spinAbort n b
    else s0.setSpindle n { sp.clearRegs with lmem := lmemData [] bank.dataAt bank.data, pc := bank.entry }
  (s1.put1 R.SPIN_PROG_STATUS_ACTIVE n b).spinEvt R.SPIN_EVT_SWAPPED n

/-- May a forced swap take place (R225)? -/
def State.forceOk (s : State) (n : Nat) : Bool :=
  s.is1 (validField (1 - s.activeBank n)) n && (s.spindle n).swapSpan.isNone

/-- A mirrored forced swap whose block has come (R227, R305). -/
def State.mirrorAbort (s : State) (n : Nat) : State :=
  let sp := s.spindle n
  match sp.abortAt with
  | none => s
  | some b =>
    if b ≤ sp.blk then
      let s1 := s.setSpindle n { sp with abortAt := none }
      if s1.forceOk n then s1.forceSwap n else s1.spinRefuse n
    else s

/-- A fault of the running image (R226); a mirrored forced swap of the block that begins aborts it as well (R227). -/
def State.spinFault (s : State) (n code : Nat) : State :=
  let pc := (s.spindle n).pc
  let s1 := ((s.put1 R.SPIN_FAULT_CODE n code).put1 R.SPIN_FAULT_PC n pc).bump1 R.SPIN_FAULT_COUNT n 1
  (s1.spinEvt R.SPIN_EVT_FAULT n).spinAbort n (s1.activeBank n) |>.mirrorAbort n |>.spinRejoin n

/-! ## BLK (R201, R204 to R206, R224) -/

/-- BLK closes the current block. -/
def State.closeBlock (s : State) (c : SCtx) : State :=
  let n := c.n
  let blk := c.sp.blk
  let t := s.spinT
  let span := blk / t
  let owed := sumN c.slots (posPushes c.l)
  let late := match c.sp.swapSpan with
    | some e => decide (e ≤ span)
    | none => false
  let void := c.sp.pushes.length != owed || c.blkVoid || late
  let l := s.spinStruct c.sp blk
  let slots := spinSlots l n
  let s1 := if late then s.spinEvt R.SPIN_EVT_LATE_SWAP n else s
  let s2 := if void then s1.voidBlock n blk slots else s1
  let s3 := if blk < c.sp.first then s2 else s2.writeBlock l slots blk c.sp.pushes void
  let s4 := match c.sp.firstPop with
    | none => s3
    | some t0 => s3.put1 R.SPIN_BLOCK_MAX_CYCLES n (max (s3.get1 R.SPIN_BLOCK_MAX_CYCLES n) (min (2 ^ 32 - 1) (spinCycles (s.now - t0))))
  let s5 := s4.setSpindle n { c.sp.nextBlock with pc := (c.sp.pc + 1) % 4096 }
  let s6 := if (blk + 1) % t ≠ 0 then s5
    else if c.sp.flushedTo span then s5.setSpindle n { s5.spindle n with tally := [] }
    else
      let a := s5.flushTally n span (s.blockStruct blk)
      a.setSpindle n { a.spindle n with flushAt := s.now }
  ((s6.swapsAt n blk).mirrorAbort n).spinRejoin n

/-! ## Running a word -/

/-- The effect of an instruction on the spindle, by opcode; BLK and EVT act on more than the spindle. -/
def semOf (op : Nat) : Option (SCtx → SRes) :=
  match op with
  | 0x00 => some semNop | 0x01 => some semRpt | 0x02 => some semJmp | 0x03 => some semBr | 0x04 => some semJal
  | 0x05 => some semJr | 0x08 => some semSalu | 0x09 => some semSalui | 0x0A => some semSsh | 0x0B => some semSmul
  | 0x0C => some semSget | 0x10 => some semAset | 0x11 => some semAget | 0x14 => some semLds | 0x15 => some semSts
  | 0x16 => some semVld | 0x17 => some semVst | 0x18 => some semVldb | 0x1C => some semPin | 0x1D => some semPout
  | 0x1E => some semPseek | 0x20 => some semVadd | 0x21 => some semVsub | 0x22 => some semVbf | 0x23 => some semVmul
  | 0x24 => some semVshr | 0x25 => some semVshl | 0x26 => some semVperm | 0x27 => some semVbcs | 0x28 => some semVcvt
  | 0x29 => some semVlut | 0x30 => some semVmac | 0x31 => some semVmacp | 0x32 => some semVacr | 0x33 => some semVacl
  | 0x34 => some semVsrch | 0x35 => some semVstat | 0x36 => some semVstatf | 0x37 => some semVrqs | 0x38 => some semVnco
  | _ => none

/-- Opcodes that R209 defines. -/
def spinDefined (op : Nat) : Bool := (semOf op).isSome || op == 6 || op == 7

/-- The spindle after an instruction that leaves `sp` (R215): PC goes to a jump's target, stays while the instruction is repeated,
or moves on. -/
def SCtx.goOn (c : SCtx) (sp : Spindle) (next : Option Nat) : Spindle :=
  let sp1 := match next with
    | some t => { sp with pc := t }
    | none =>
      if c.sp.left = 0 then { sp with pc := (c.sp.pc + 1) % 4096 }
      else if c.sp.left = 1 then { sp with pc := (c.sp.pc + 1) % 4096, left := 0, iter := 0 }
      else { sp with left := c.sp.left - 1, iter := c.sp.iter + 1 }
  { sp1 with stall := 0 }

/-- What an instruction did, put into the state: repeat and PC (R215), saturations (R216), stalls (R203), faults (R226). -/
def State.applySem (s : State) (c : SCtx) (r : SRes) : State :=
  match r with
  | .fault code => s.spinFault c.n code
  | .stall code =>
    let s1 := s.setSpindle c.n { c.sp with stall := code, stallAt := if c.sp.stall = 0 then s.now else c.sp.stallAt }
    if code = 2 then { s1 with free := s1.free + 1 } else s1
  | .done sp sats next used =>
    let s1 := s.setSpindle c.n (c.goOn sp next)
    let s2 := if used then { s1 with free := s1.free + 1 } else s1
    if sats = 0 then s2 else (s2.bump1 R.SPIN_SAT_COUNT c.n sats).spinEvt R.SPIN_EVT_SAT c.n

/-- One iteration of the word at PC, when it is of opcode `op` (R208, R209, R215, R226): an undefined opcode is a fault under
any command; a format C instruction after RPT is a fault. A spindle that runs nothing, that stalls or waits to restart does
nothing. -/
def State.spinRun (s : State) (n t op : Nat) (f : State → SCtx → State) : State :=
  let s0 := s.upTo t
  let c := s0.spinCtx n
  let code := c.w / 67108864 % 64
  if !c.sp.run || c.sp.restart.isSome || c.sp.stall != 0 || c.slots.isEmpty then s0
  else if !spinDefined code then s0.spinFault n 1
  else if code ≠ op then s0
  else if c.sp.left ≠ 0 ∧ 1 ≤ code ∧ code ≤ 7 then s0.spinFault n 4
  else f s0 c

/-- An instruction whose effect is on the spindle alone. -/
def State.spinExec (s : State) (n t op : Nat) (sem : SCtx → SRes) : State := s.spinRun n t op (fun a c => a.applySem c (sem c))

def execNop (spin t : Nat) (s : State) : Out := .next (s.spinExec spin t 0x00 semNop)
def execRpt (spin t : Nat) (s : State) : Out := .next (s.spinExec spin t 0x01 semRpt)
def execJmp (spin t : Nat) (s : State) : Out := .next (s.spinExec spin t 0x02 semJmp)
def execBr (spin t : Nat) (s : State) : Out := .next (s.spinExec spin t 0x03 semBr)
def execJal (spin t : Nat) (s : State) : Out := .next (s.spinExec spin t 0x04 semJal)
def execJr (spin t : Nat) (s : State) : Out := .next (s.spinExec spin t 0x05 semJr)

/-- BLK (R204 to R206, R209). -/
def State.blkStep (s : State) (spin t : Nat) : State :=
  (s.spinRun spin t 0x06 (fun a c => if c.sub ≠ 0 then a.spinFault spin 1 else a.closeBlock c))

/-- EVT: the code to SPIN_FAULT.PCODE, and SPIN_EVT.PROG_EVT (R209). -/
def execEvt (spin t : Nat) (s : State) : Out :=
  .next (s.spinRun spin t 0x07 (fun a c =>
    if c.sub ≠ 0 then a.spinFault spin 1
    else
      ((a.applySem c (.ok c.sp)).put1 R.SPIN_FAULT_PCODE spin (c.b 0 8)).spinEvt R.SPIN_EVT_PROG_EVT spin))

def execSalu (spin t : Nat) (s : State) : Out := .next (s.spinExec spin t 0x08 semSalu)
def execSalui (spin t : Nat) (s : State) : Out := .next (s.spinExec spin t 0x09 semSalui)
def execSsh (spin t : Nat) (s : State) : Out := .next (s.spinExec spin t 0x0A semSsh)
def execSmul (spin t : Nat) (s : State) : Out := .next (s.spinExec spin t 0x0B semSmul)
def execSget (spin t : Nat) (s : State) : Out := .next (s.spinExec spin t 0x0C semSget)
def execAset (spin t : Nat) (s : State) : Out := .next (s.spinExec spin t 0x10 semAset)
def execAget (spin t : Nat) (s : State) : Out := .next (s.spinExec spin t 0x11 semAget)
def execLds (spin t : Nat) (s : State) : Out := .next (s.spinExec spin t 0x14 semLds)
def execSts (spin t : Nat) (s : State) : Out := .next (s.spinExec spin t 0x15 semSts)
def execVld (spin t : Nat) (s : State) : Out := .next (s.spinExec spin t 0x16 semVld)
def execVst (spin t : Nat) (s : State) : Out := .next (s.spinExec spin t 0x17 semVst)
def execVldb (spin t : Nat) (s : State) : Out := .next (s.spinExec spin t 0x18 semVldb)
def execPin (spin t : Nat) (s : State) : Out := .next (s.spinExec spin t 0x1C semPin)
def execPout (spin t : Nat) (s : State) : Out := .next (s.spinExec spin t 0x1D semPout)
def execPseek (spin t : Nat) (s : State) : Out := .next (s.spinExec spin t 0x1E semPseek)
def execVadd (spin t : Nat) (s : State) : Out := .next (s.spinExec spin t 0x20 semVadd)
def execVsub (spin t : Nat) (s : State) : Out := .next (s.spinExec spin t 0x21 semVsub)
def execVbf (spin t : Nat) (s : State) : Out := .next (s.spinExec spin t 0x22 semVbf)
def execVmul (spin t : Nat) (s : State) : Out := .next (s.spinExec spin t 0x23 semVmul)
def execVshr (spin t : Nat) (s : State) : Out := .next (s.spinExec spin t 0x24 semVshr)
def execVshl (spin t : Nat) (s : State) : Out := .next (s.spinExec spin t 0x25 semVshl)
def execVperm (spin t : Nat) (s : State) : Out := .next (s.spinExec spin t 0x26 semVperm)
def execVbcs (spin t : Nat) (s : State) : Out := .next (s.spinExec spin t 0x27 semVbcs)
def execVcvt (spin t : Nat) (s : State) : Out := .next (s.spinExec spin t 0x28 semVcvt)
def execVlut (spin t : Nat) (s : State) : Out := .next (s.spinExec spin t 0x29 semVlut)
def execVmac (spin t : Nat) (s : State) : Out := .next (s.spinExec spin t 0x30 semVmac)
def execVmacp (spin t : Nat) (s : State) : Out := .next (s.spinExec spin t 0x31 semVmacp)
def execVacr (spin t : Nat) (s : State) : Out := .next (s.spinExec spin t 0x32 semVacr)
def execVacl (spin t : Nat) (s : State) : Out := .next (s.spinExec spin t 0x33 semVacl)
def execVsrch (spin t : Nat) (s : State) : Out := .next (s.spinExec spin t 0x34 semVsrch)
def execVstat (spin t : Nat) (s : State) : Out := .next (s.spinExec spin t 0x35 semVstat)
def execVstatf (spin t : Nat) (s : State) : Out := .next (s.spinExec spin t 0x36 semVstatf)
def execVrqs (spin t : Nat) (s : State) : Out := .next (s.spinExec spin t 0x37 semVrqs)
def execVnco (spin t : Nat) (s : State) : Out := .next (s.spinExec spin t 0x38 semVnco)

/-- STALL_RESUME (R203, R215): a stalled instruction completes when its port or tally record allows; the stall cycles of a
port are counted. -/
def execStallResume (spin t : Nat) (s : State) : Out :=
  let s0 := s.upTo t
  let c := s0.spinCtx spin
  if c.sp.stall = 0 ∨ c.sp.restart.isSome then .next s0
  else
    match semOf (c.w / 67108864 % 64) with
    | none => .next s0
    | some sem =>
      match sem c with
      | .stall _ => .next s0
      | .fault k => .next (s0.applySem c (.fault k))
      | .done sp sats next used => .next ((s0.stallCount spin).applySem c (.done sp sats next used))

/-! ## Flush, input, swaps -/

/-- The span whose flush a spindle owes next. -/
def State.flushNext (s : State) (sp : Spindle) : Nat :=
  match sp.flushed with
  | none => s.draft.base
  | some x => x + 1

/-- FLUSH_LATE (R201): 900 µs after a span ended without its closing BLK the bank flushes the records as they stand and
excludes the positions with class 2. -/
def execFlushLate (spin t : Nat) (s : State) : Out :=
  let s0 := s.upTo t
  let sp := s0.spindle spin
  let span := s0.flushNext sp
  let l := s0.structAt span
  let slots := spinSlots l spin
  if !sp.run || slots.isEmpty || decide (s0.now < s0.spanTime (span + 1) + nsToT 900000) then .next s0
  else
    let s1 := s0.flushTally spin span l
    let s2 := slots.foldl (fun a x => a.exclude span allChans x 2) s1
    .next (s2.cause1 R.SPIN_BANK_EVT_FLUSH_LATE (spin / 64) 0 (0x0A0 + spin / 64))

/-- One lane of an arriving vector: its value, and whether its coarse sample is missing (R22, R204, R236). -/
def State.inLane (s : State) (l : List Item) (n slot ch : Nat) : (Int × Int) × Bool :=
  if ncoarseOf l ≤ ch then ((0, 0), false)
  else if diverted l slot ch then
    let r := max 1 (zR (zoomBody l (slot / 64)))
    if n % r = 0 ∧ 0 < n then (cValue (Tab.get 0 s.zoom.out ((n / r - 1) * 4096 + slot)), false) else ((0, 0), false)
  else
    let v := Tab.get 0 s.spin.samples (sampleKey n slot ch)
    (cValue v, v == 0)

/-- Class 2 for the fine channels of a coarse channel over the spans that its filter memory reaches (R22). -/
def State.missingCoarse (s : State) (l : List Item) (slot ch blk : Nat) : State :=
  let per := 2 ^ splitOf l
  let spans := sortN ((List.range 9).map (fun k => (blk + k) / s.spinT))
  spans.foldl (fun a sp => forN per (fun k b => b.exclude sp (ch * per + k) slot 2) a) s

/-- Class 2 for a slot that a patch enables at span `E`, in the spans that its filter memory reaches from samples before `E` that the
part did not accept (R74); what samples it did accept there have served. -/
def State.newSlotMissing (s : State) (E x : Nat) : State :=
  let l := s.structAt E
  let per := 2 ^ splitOf l
  (List.range 8).foldl (fun a k =>
    let blk := E * s.spinT + k - 8
    forN (seNcoarse (slotEntry l x)) (fun ch b =>
      let keys := (List.range per).map (fun i => sampleKey (blk * per + i) x ch)
      let b1 := if keys.any (fun q => Tab.get 0 b.spin.samples q == 0) then b.missingCoarse l x ch blk else b
      { b1 with spin := { b1.spin with samples := keys.foldl Tab.del b1.spin.samples } }) a) s

/-- The slots that a patch enables at span `E` on a spindle that runs already (R74): on one that has just been loaded, IN delivers what
their filter memory needs. -/
def State.newSlots (s : State) (E : Nat) : List Nat :=
  (enabledSlots (s.structAt E)).filter (fun x =>
    !slotEnabled (s.structAt (E - 1)) x && !slotRemote (s.structAt E) (classedSlots (s.structAt E)) x &&
      (s.spindle (seSpindle (slotEntry (s.structAt E) x))).first != E * s.spinT)

/-- The samples and zoom outputs of a vector's lanes leave the frame unit and the zoom chain. -/
def State.takeLane (s : State) (l : List Item) (n slot ch : Nat) : State :=
  if diverted l slot ch then
    let r := max 1 (zR (zoomBody l (slot / 64)))
    if n % r = 0 ∧ 0 < n then { s with zoom := { s.zoom with out := Tab.del s.zoom.out ((n / r - 1) * 4096 + slot) } } else s
  else { s with spin := { s.spin with samples := Tab.del s.spin.samples (sampleKey n slot ch) } }

/-- Groups of 16 coarse channels. -/
def inGroups (l : List Item) : Nat := cdiv (ncoarseOf l) 16

/-- The lanes of a spindle's next vector (R204), with whether each is absent, and the state once they have been taken. -/
def State.inTake (s : State) (spin : Nat) : Nat × State :=
  let sp := s.spindle spin
  let l := s.spinStruct sp sp.inBlk
  let slots := spinSlots l spin
  let p := sp.inIdx / max 1 (inGroups l)
  let slot := slots.getD (p % slots.length) 0
  let n := sp.inBlk * 2 ^ splitOf l + p / slots.length
  let chans := (List.range 16).map (fun i => sp.inIdx % inGroups l * 16 + i)
  let lanes := chans.map (fun c => (c, s.inLane l n slot c))
  (vOf (lanes.map (fun x => x.2.1)), lanes.foldl (fun a x =>
    let b := if x.1 < ncoarseOf l then a.takeLane l n slot x.1 else a
    if x.2.2 then b.missingCoarse l slot x.1 sp.inBlk else b) s)

/-- The spindle with its input one vector further. -/
def State.inAhead (s : State) (spin : Nat) : Spindle :=
  let sp := s.spindle spin
  let l := s.spinStruct sp sp.inBlk
  if sp.inIdx + 1 = blockVecs l (spinSlots l spin).length then { sp with inBlk := sp.inBlk + 1, inIdx := 0 }
  else { sp with inIdx := sp.inIdx + 1 }

/-- Has a spindle's next vector come (R204)? -/
def State.inComes (s : State) (spin : Nat) : Bool :=
  let sp := s.spindle spin
  let l := s.spinStruct sp sp.inBlk
  sp.run && !(spinSlots l spin).isEmpty && inGroups l != 0 && decide (s.fineTime s.draft.struct sp.inBlk ≤ s.now)

/-- IN_VECTOR (R204): the next vector of a spindle's positions arrives at its IN FIFO (1,024 vectors); a full FIFO voids the
block; vectors of a block already given up are discarded. -/
def execInVector (spin t : Nat) (s : State) : Out :=
  let s0 := s.upTo t
  let sp := s0.spindle spin
  if !s0.inComes spin then .next s0
  else
    let (v, s1) := s0.inTake spin
    let ahead := s0.inAhead spin
    if sp.inBlk < sp.blk ∨ sp.drops.any (fun d => d.1 == sp.inBlk) then .next (s1.setSpindle spin ahead)
    else if 1024 ≤ sp.inq.length then
      let s2 := s1.setSpindle spin { ahead with drops := sp.drops ++ [(sp.inBlk, sp.inIdx)] }
      .next ((s2.bump1 R.SPIN_VOID_IN_DROP spin 1).spinEvt R.SPIN_EVT_IN_DROP spin)
    else .next (s1.setSpindle spin { ahead with inq := sp.inq ++ [(sp.inBlk, v)] })

/-- SWAP (R224): requested, or refused. -/
def execSpinSwap (spin : Nat) (s : State) : Out :=
  .next (if s.forceOk spin then s.put1 R.SPIN_PROG_STATUS_SWAP_PENDING spin 1 else s.spinRefuse spin)

/-- FORCE_SWAP (R225): aborts at once, or is refused; mirrored with the aborted block (R305). -/
def execSpinForceSwap (spin t : Nat) (s : State) : Out :=
  let s0 := s.upTo t
  if s0.forceOk spin then
    .next ((s0.mirror 4 (leBytes 2 spin ++ zeros 6 ++ leBytes 8 (s0.spindle spin).blk)).forceSwap spin)
  else .next (s0.spinRefuse spin)

/-- FORCED_IMAGE_START (R225 step 4, R226): at the first vector of the next block, once local memory is filled. -/
def execForcedImageStart (spin t : Nat) (s : State) : Out :=
  let s0 := s.upTo t
  let sp := s0.spindle spin
  match sp.restart with
  | none => .next s0
  | some r =>
    let came := decide (sp.blk < sp.inBlk) || (sp.inBlk == sp.blk && decide (0 < sp.inIdx))
    if r ≤ s0.now ∧ came then
      .next (s0.setSpindle spin { sp with restart := none, pc := (sp.bankNo (s0.activeBank spin)).entry })
    else .next s0

/-- SPIN_PROG_DATA (R223): a word of the inactive bank, or a refusal. A refused write leaves WORD (notes). -/
def execSpinProgData (spin word : Nat) (s : State) : Out :=
  let b := s.get1 R.SPIN_PROG_ADDR_BANK spin
  let k := s.get1 R.SPIN_PROG_ADDR_WORD spin
  let sp := s.spindle spin
  if b = s.activeBank spin ∨ sp.swapSpan.isSome then .next ((s.put1 R.SPIN_PROG_STATUS_BUSY spin 1).spinRefuse spin)
  else
    let bank := sp.bankNo b
    let s1 := s.setSpindle spin (sp.setBank b { bank with words := Tab.set 0 bank.words k (word % 4294967296) })
    .next ((s1.put1 (validField b) spin 0).wrap1 R.SPIN_PROG_ADDR_WORD spin 1)

/-- PROG_COMMIT (R223): the inactive bank is VALID with its entry word; its FLAGS are those of the positions' image (notes). A
bank that holds a pending patch image takes no commit. -/
def execProgCommit (spin entry : Nat) (s : State) : Out :=
  let b := 1 - s.activeBank spin
  let sp := s.spindle spin
  let s1 := s.put1 R.SPIN_PROG_ENTRY_ENTRY spin entry
  if sp.swapSpan.isSome then .next (s1.spinRefuse spin)
  else
    let fl := (sp.bankNo (s.activeBank spin)).flags
    let s2 := s1.setSpindle spin (sp.setBank b { sp.bankNo b with entry := entry % 4096, flags := fl, dataAt := 0, data := [] })
    .next (s2.put1 (validField b) spin 1)

/-- A host access of local memory (R199): the word read, and the state with the word written (`some v`) and the address advanced. -/
def State.lmemAccess (s : State) (n : Nat) (w : Option Nat) : Nat × State :=
  let k := s.get1 R.SPIN_LMEM_ADDR_WORD n
  let sp := s.spindle n
  let s1 := match w with
    | none => s
    | some v => s.setSpindle n { sp with lmem := Tab.set 0 sp.lmem k (v % 4294967296) }
  (Tab.get 0 sp.lmem k, s1.wrap1 R.SPIN_LMEM_ADDR_WORD n 1)

/-- SPIN_LMEM_DATA (R199): a host read (its value leaves the part) or write. -/
def execSpinLmemData (spin value : Nat) (write : Bool) (s : State) : Out :=
  let r := s.lmemAccess spin (if write then some value else none)
  .next (if write then r.2 else r.2.emit (.regRead 0 (R.SPIN_LMEM_DATA_DATA.addr + spin * R.SPIN_LMEM_DATA_DATA.s1) r.1))

/-- SPIN_GAIN_DATA (R202): one gain changes, the index advances. -/
def execSpinGainData (spin value : Nat) (s : State) : Out :=
  let k := s.get1 R.SPIN_GAIN_ADDR_INDEX spin
  let sp := s.spindle spin
  .next ((s.setSpindle spin { sp with gains := Tab.set 32767 sp.gains k (value % 4294967296) }).wrap1 R.SPIN_GAIN_ADDR_INDEX spin 1)

/-! ## Starts, patches, stops -/

/-- The spindles at the START of a full Draft. -/
def State.spinsStart (s : State) : State :=
  let s1 : State := { s with spin := ⟨[], [], [], 0, []⟩ }
  forN 512 (fun n a => a.spinLoad s.draft.struct n s.firstFine s.firstFine) s1

/-- Spindles with positions execute, or none does. -/
def State.spinsRun (s : State) (on : Bool) : State :=
  { s with spin := { s.spin with sp := s.spin.sp.map (fun (e : Nat × Spindle) => (e.1, { e.2 with run := on })) } }

/-- Contents of every spindle discarded (R227). -/
def State.spinsReset (s : State) : State :=
  forN 512 (fun n a => (((a.put1 R.SPIN_PROG_STATUS_ACTIVE n 0).put1 R.SPIN_PROG_STATUS_VALID0 n 0).put1
    R.SPIN_PROG_STATUS_VALID1 n 0).put1 R.SPIN_PROG_STATUS_SWAP_PENDING n 0) { s with spin := ⟨[], [], [], 0, []⟩ }

/-- A patch admitted for span `E` (R74, R223): where the image of a spindle's positions changes, the new image waits for `E` in the
inactive bank, behind those of earlier spans. A spindle without positions is loaded for the blocks that fill the filter memory of the first
block of `E`; one that still has positions of an earlier structure, once it has left them (`State.spinRejoin`; notes). -/
def State.spinsAdmit (s : State) (old new : List Item) (E : Nat) : State :=
  (sortN ((enabledSlots new).map (fun x => seSpindle (slotEntry new x)))).foldl (fun a n =>
    match spinImage old n, spinImage new n with
    | none, some _ =>
      let sp := a.spindle n
      if sp.run && !(spinSlots (a.structFor (max sp.blk sp.first / a.spinT)) n).isEmpty then a else a.spinJoin new n E
    | some i, some j =>
      if imageBody old i = imageBody new j || (a.spindle n).blk < (a.spindle n).first then a
      else a.pendImages n (putImage (a.spindle n).images E (imageBank (imageBody new j)))
    | _, none => a) s

/-- PASS_LIMIT as it stands when a span ends (R147). -/
def State.snapLimits (s : State) (span : Nat) : State :=
  let lo := R.PASS_LIMIT_LO_LO.key 0 0
  let hi := R.PASS_LIMIT_CTL_COARSE_MAX.key 4095 0
  { s with spin := { s.spin with limitSpan := span, limits := s.regs.filter (fun e => decide (lo ≤ e.1 ∧ e.1 ≤ hi)) } }

end Sys2Proof.Machine
end

