-- ==== Sys2Proof/Machine/Clock.lean ====
section
/-!
DEFINITION. The timebase's inputs, selection, states and pulls (R373 to R381), as the lanes and the TIME commands use them.
-/

namespace Sys2Proof.Machine

/-- States of the timebase (R378). -/
def tbFreerun : Nat := 0
def tbAcquire : Nat := 1
def tbLocked : Nat := 2
def tbHoldover : Nat := 3
def tbSwitching : Nat := 4
def tbDen : Nat := 5

def State.tb (s : State) : Nat := s.get R.TIME_STATUS_STATE
def State.withTime (s : State) (f : TimeState → TimeState) : State := { s with time := f s.time }

/-- The TBSTAT pins (R378, R459): the state, and 0b000 while the part is in POR_N or has no power. -/
def State.tbstat (s : State) : Nat := if s.power.d = 3 then 0 else s.tb

/-- The timebase enters a state: a change sets STATE (R378, R389); an entry to LOCKED begins the mean of the holdover rate. -/
def State.setTb (s : State) (st : Nat) : State :=
  if s.tb = st then s
  else
    let s1 := (s.put R.TIME_STATUS_STATE st).timeEvt 0
    if st = tbLocked then s1.withTime (fun x => { x with rates := [] }) else s1

/-- One second of array time. -/
def secT : Nat := 4294967296

/-- A signed number of 2^-48 s in ns, as an int32, saturating. -/
def ns32 (x : Int) : Nat := usgn 32 (satI 32 (Int.tdiv (x * 1000000000) 281474976710656))

/-! ## Inputs (R373, R374) -/

/-- The lane of a recovered clock: the lowest lane of the lowest hank of a role. -/
def State.rcLane (s : State) (roles : List Nat) : Option Nat :=
  match (List.range 12).find? (fun h => roles.contains (s.get1 R.HANK_STATUS_ROLE h)) with
  | none => none
  | some h => ((bitList 8 (s.get1 R.HANK_CTL_LANES h)).head?).map (· + 8 * h)

/-- Symbols per second of a RATE (R250): PAM4 carries two bits in a symbol. -/
def symbolRate (rate : Nat) : Nat := if rate = 0 then 56250000000 else if rate = 1 then 26562500000 else 25781250000

/-- The lane of code 3 (RCA) or 4 (RCB). -/
def State.rcOf (s : State) (code : Nat) : Option Nat := if code = 3 then s.rcLane [1] else s.rcLane [3, 4]

/-- The nominal frequency of an input in Hz (R373): that of FREQ, or the symbol rate of its lane. The reserved FREQ has none. -/
def State.refNominal (s : State) (code : Nat) : Option Nat :=
  if code = 1 ∨ code = 2 then [some 10000000, some 100000000, some 156250000, none].getD (s.get1 R.TIME_REF_CTL_FREQ (code - 1)) none
  else (s.rcOf code).map (fun l => symbolRate (s.get1 R.LANE_STATUS_RATE l))

def State.refQual (s : State) (code : Nat) : Bool := s.is1 R.TIME_REF_STATUS_QUAL (code - 1)
def State.netLive (s : State) : Bool := s.time.netAt != 0

/-- Is array time held by an absent TB_XO (R378)? -/
def State.xoGone (s : State) : Bool := s.is R.TIME_STATUS_XO_FAULT

/-! ## Selection (R377) -/

/-- The selected input's code, 0 for none: the lowest PRIO, then the lowest code. -/
def State.choose (s : State) : Nat :=
  let ok := (List.range 5).filter (fun i => s.is1 R.TIME_REF_CTL_EN i && s.is1 R.TIME_REF_STATUS_QUAL i)
  match ok with
  | [] => 0
  | i :: r => r.foldl (fun b k => if s.get1 R.TIME_REF_CTL_PRIO k < s.get1 R.TIME_REF_CTL_PRIO (b - 1) then k + 1 else b) (i + 1)

/-- The time source: 1 a PPS, 2 the network, 0 none. -/
def State.timeSource (s : State) : Nat :=
  let r := s.get R.TIME_STATUS_REF
  if (r = 1 ∨ r = 2) ∧ s.is1 R.TIME_REF_STATUS_PPS_QUAL (r - 1) then 1
  else if s.get R.TIME_NET_CTL_SRC ≠ 0 ∧ s.netLive then 2 else 0

/-- Rate of a pull in ns/s (R379, R381): SLOPE, or the network's SLEW. -/
def State.pullRate (s : State) : Nat :=
  if s.timeSource = 2 then 100 * clampN 1 1000 (s.get R.TIME_NET_CTL_SLEW) else clampN 1 1000 (s.get R.TIME_SLOPE_SLOPE)

/-- More than 1 ns? -/
def overNs (d : Int) : Bool := decide (281474976710656 < d.natAbs * 1000000000)

/-- What remains of the pull now (R379). -/
def State.pullLeft (s : State) : Int :=
  let done := s.time.pullNs * (s.now - s.time.pullAt) * 65536 / 1000000000
  let d := s.time.pull
  if d.natAbs ≤ done then 0 else if d < 0 then d + done else d - done

/-- Δ of the time source, in 2^-48 s (R376, R381): of the network, what remains of the correction that it is being slewed by. -/
def State.delta (s : State) : Int :=
  let r := s.get R.TIME_STATUS_REF
  match s.timeSource with
  | 1 => Tab.get 0 s.time.ppsDelta (r - 1) * 65536
  | 2 => if s.is R.TIME_STATUS_PULLING then s.pullLeft else 0
  | _ => 0

/-- A pull begun over a Δ, or ended by one of 0. -/
def State.startPull (s : State) (d : Int) : State :=
  (s.withTime (fun t => { t with pull := d, pullAt := s.now, pullNs := s.pullRate })).put R.TIME_STATUS_PULLING (b2n (d != 0))

/-- A pull in progress goes on at the slope that now holds (R379). -/
def State.rebase (s : State) : State := if s.is R.TIME_STATUS_PULLING then s.startPull s.pullLeft else s

/-! ## Rates (R372, R373, R378) -/

/-- The rate correction that carries array time, in 2^-48 s/s (R373, R378, R381): of the selected input, of the network, of holdover, or
TB_XO's own. -/
def State.carry (s : State) : Int :=
  let r := s.get R.TIME_STATUS_REF
  if s.tb = tbHoldover then s.time.holdover.getD 0
  else if r = 0 then sgn 32 (s.get R.TIME_XO_TRIM_RATE)
  else if r = 5 then sgn 32 (s.get R.TIME_NET_RATE_RATE)
  else Tab.get 0 s.time.gated r

/-- The rate of array time beside its nominal one, in 2^-48 s/s (R372): the correction, and the slope of a pull. -/
def State.rate (s : State) : Int :=
  let slope : Int := s.time.pullNs * 281474976710656 / 1000000000
  s.carry + (if !s.is R.TIME_STATUS_PULLING ∨ s.pullLeft = 0 then 0 else if s.pullLeft < 0 then -slope else slope)

/-- The correction that carries array time noted for the holdover rate: those of the last 64 s count (R378). -/
def State.noteRate (s : State) : State :=
  s.withTime (fun x => { x with rates := x.rates.filter (fun e => decide (s.now < e.1 + 64 * secT)) ++ [(s.now, s.carry)] })

/-- The mean rate correction over the 64 s before a loss, or since the entry to LOCKED (R378). -/
def State.meanRate (s : State) : Int :=
  let l := s.time.rates.filter (fun e => decide (s.now < e.1 + 64 * secT))
  if l.isEmpty then s.carry else (l.map (·.2)).sum / l.length

/-- HOLDOVER entered on the loss of every input (R378): a pull is abandoned; the rate is frozen at `rate`. -/
def State.holdover (s : State) (rate : Int) : State :=
  ((s.withTime (fun x => { x with holdover := some rate, hoAt := s.now })).startPull 0).setTb tbHoldover

/-- The state after a change of the selected input (R378); `mean` is the rate that a loss freezes. -/
def State.tbMove (s : State) (new : Nat) (mean : Int) : State :=
  let st := s.tb
  if s.xoGone ∨ st = tbDen then s
  else if st = tbFreerun then (if new ≠ 0 then s.setTb tbAcquire else s)
  else if st = tbAcquire then
    if new ≠ 0 then s
    else
      match s.time.holdover with
      | some r => s.holdover r
      | none => s.setTb tbFreerun
  else if st = tbHoldover then (if new ≠ 0 then s.setTb tbAcquire else s)
  else if new = 0 then s.holdover mean
  else (s.startPull s.delta).setTb tbSwitching

/-- SELECTION_CHANGE (R377): the selected input and the time source evaluated again; a changed selection sets SWITCH (R389). -/
def State.select (s : State) : State :=
  let old := s.get R.TIME_STATUS_REF
  let new := s.choose
  let s1 := forN 5 (fun i a => a.put1 R.TIME_REF_STATUS_SELECTED i (b2n (i + 1 == new))) (s.put R.TIME_STATUS_REF new)
  let s2 := (s1.put R.TIME_STATUS_TSRC s1.timeSource).rebase
  if new = old then s2 else (s2.timeEvt 3).tbMove new s.meanRate

/-- A wait-to-restore broken off (R375). -/
def State.waitBroken (s : State) (code : Nat) : State :=
  (s.withTime (fun t => { t with wtrAt := Tab.set 0 t.wtrAt code 0 })).put1 R.TIME_REF_STATUS_WTR_LEFT (code - 1) 0

/-- An input that is no longer qualified (R375): event 0x0F1 when it is the selected one. -/
def State.unqual (s : State) (code : Nat) : State :=
  let s0 := s.waitBroken code
  if !s.refQual code then s0
  else
    let s1 := s0.put1 R.TIME_REF_STATUS_QUAL (code - 1) 0
    let s2 := s1.withTime (fun t => { t with lost := Tab.set false t.lost code true })
    if s2.get R.TIME_STATUS_REF = code then s2.timeEvt 1 else s2

/-- An input disqualified (R375), and the selection made again. -/
def State.disqualify (s : State) (code : Nat) : State := if s.refQual code then (s.unqual code).select else s.unqual code

/-- An input that is qualified now (R375): event 0x0F2. -/
def State.qual (s : State) (code : Nat) : State :=
  if s.refQual code then s
  else
    ((s.waitBroken code).put1 R.TIME_REF_STATUS_QUAL (code - 1) 1).timeEvt 2

/-- An input qualified (R375), and the selection made again. -/
def State.qualify (s : State) (code : Nat) : State := if s.refQual code then s else (s.qual code).select

/-- A recovered clock whose lane is not LOCKED is disqualified at once (R374). -/
def State.rcCheck (s : State) : State :=
  [3, 4].foldl (fun a c =>
    let up := match a.rcOf c with
      | some l => a.locked l
      | none => false
    if up then a else (a.put1 R.TIME_REF_STATUS_ACTIVE (c - 1) 0).disqualify c) s

end Sys2Proof.Machine
end

