-- ==== Sys2Proof/Machine/Receive.lean ====
section
/-!
DEFINITION. The samples of a frame (R54, R55, R272, R276): decode of the sample sets that have arrived, and class 1 for a
frame that failed.
-/

namespace Sys2Proof.Machine

/-- FIRST, COUNT, LENGTH and the other header fields (R268). -/
def hdrSource (h : List Byte) : Nat := fld h 0 2
def hdrType (h : List Byte) : Nat := byteAt h 2
def hdrAlive (h : List Byte) : Nat := fld h 4 2
def hdrLen (h : List Byte) : Nat := fld h 6 2
def hdrTime (h : List Byte) : Nat := fld h 8 8
def hdrFirst (h : List Byte) : Nat := fld h 16 2
def hdrCount (h : List Byte) : Nat := fld h 18 2
def hdrAux (h : List Byte) : Nat := fld h 20 8
def hdrNode (h : List Byte) : Nat := byteAt h 28
def hdrEpoch (h : List Byte) : Nat := byteAt h 29
def hdrCrc (h : List Byte) : Nat := fld h 30 2

/-- Bytes of one sample set: the grains that give SG samples of every channel of the frame (R55, R272). -/
def setBytes (dec hdr : List Byte) : Nat := decGrain dec * (hdrCount hdr / max 1 (decCg dec))

/-- Samples per channel of a frame (R272). -/
def frameSamples (dec hdr : List Byte) : Nat := decSg dec * (hdrLen hdr / max 1 (setBytes dec hdr))

/-- A field of a grain (R54): `w` bits from bit `p`, sign-extended or not, swapped or not. -/
def grainField (g : List Byte) (e : Nat) : Int :=
  let p := bits e 0 16
  let w := bits e 16 5
  let raw := bits (leNat g) p w
  let v := if bit e 23 then raw % 256 * 256 + raw / 256 % 256 else raw
  if bit e 21 then sgn w v else (v : Int)

/-- A component of (channel, sample) of a grain: zero where no entry names it. -/
def grainPart (dec g : List Byte) (ch smp im : Nat) : Int :=
  match ((List.range (decEntries dec)).map (decEntry dec)).find? (fun e => decTarget e == (ch, smp, im)) with
  | none => 0
  | some e => grainField g e

/-- One decoded sample stored for the spindles and the zoom chain. -/
def State.putSample (s : State) (n slot ch : Nat) (x : Int × Int) : State :=
  { s with spin := { s.spin with samples := Tab.set 0 s.spin.samples (sampleKey n slot ch) (cEntry x) } }

/-- Sample set `k` of a frame decoded from its bytes (R55). -/
def State.decodeSet (s : State) (f : RxFrame) (k : Nat) (d : List Byte) : State :=
  let cg := max 1 (decCg f.decoder)
  let sg := decSg f.decoder
  let g := chunks (decGrain f.decoder) d
  ((List.range g.length).zip g).foldl (fun a x =>
    forN cg (fun c b => forN sg (fun m e =>
      e.putSample (f.n + k * sg + m) (ceSlot f.entry) (hdrFirst f.hdr + x.1 * cg + c)
        (grainPart f.decoder x.2 c m 0, grainPart f.decoder x.2 c m 1)) b) a) s

/-- The sample sets of the frame in reception on a lane that have arrived whole and are not yet decoded (R18). -/
def State.decodeArrived (s : State) (l : Nat) : State :=
  match Tab.get none s.frames.rx l, (s.lane l).runs with
  | some f, r :: _ =>
    if !f.accepted || f.entry.isEmpty then s
    else
      let w := setBytes f.decoder f.hdr
      let n := min r.bytes.length (hdrLen f.hdr) / max 1 w
      let s1 := (List.range (n - f.sets)).foldl (fun a k =>
        a.decodeSet f (f.sets + k) ((r.bytes.drop ((f.sets + k) * w)).take w)) s
      { s1 with frames := { s1.frames with rx := Tab.set none s1.frames.rx l (some { f with sets := max f.sets n }) } }
  | _, _ => s

/-- Class 1 for a frame's slot: the fine channels of its coarse channels over the spans its samples reach (R22, R276). A diverted
channel reaches them through the zoom outputs, from that of its first sample to the last that its last sample's memory reaches
(R240). -/
def State.frameBad (s : State) (f : RxFrame) : State :=
  let l := s.draft.struct
  let per := 2 ^ splitOf l
  let last := f.n + frameSamples f.decoder f.hdr - 1
  let lo := f.n / per / s.spinT
  let hi := (last / per + 8) / s.spinT
  let slot := ceSlot f.entry
  let b := zoomBody l (slot / 64)
  let r := max 1 (zR b)
  forN (hdrCount f.hdr) (fun c a =>
    let ch := hdrFirst f.hdr + c
    if diverted l slot ch then a.zoomReach l slot (f.n / r) (last / r + zM b * zD b + zL b - 2) 1
    else forN (hi + 1 - lo) (fun k d => forN per (fun x e => e.exclude (lo + k) (ch * per + x) slot 1) d) a) s

/-! ## The gap log (R275) -/

/-- A gap record. -/
def gapRecordBytes (src slot cause lane frames start smp first count exp got : Nat) : List Byte :=
  leBytes 2 src ++ leBytes 2 slot ++ leBytes 1 cause ++ leBytes 1 lane ++ leBytes 2 (min 65535 frames) ++ leBytes 8 start ++
    leBytes 4 smp ++ leBytes 2 first ++ leBytes 2 count ++ leBytes 2 exp ++ leBytes 2 got ++ zeros 4

/-- A gap record queued, or dropped and counted (R275). -/
def State.gapLog (s : State) (r : List Byte) : State :=
  if s.frames.gaps.length < 64 then
    ((({ s with frames := { s.frames with gaps := s.frames.gaps ++ [r] } } : State).put R.FRAME_GAP_CTL_COUNT (s.frames.gaps.length + 1)).noteDetail 0x1D2 r).frameEvt 2
  else (s.bump R.FRAME_GAP_CTL_DROPPED 1).frameEvt 3

/-- FRAME_GAP_POP (R275): the oldest record removed. -/
def execFrameGapPop (s : State) : Out :=
  .next (({ s with frames := { s.frames with gaps := s.frames.gaps.drop 1 } } : State).put R.FRAME_GAP_CTL_COUNT (s.frames.gaps.length - 1))

end Sys2Proof.Machine
end

