-- ==== Sys2Proof/Machine/Lanes.lean ====
section
/-!
DEFINITION. Skein lanes (R246 to R265): hank configuration, block lock, the block code and its scrambler, the elastic
buffer, the transmit schedule.
-/

namespace Sys2Proof.Machine

/-! ## Lock states (R260) -/

def laneOff : Nat := 0
def laneNoSignal : Nat := 1
def laneAdapt : Nat := 2
def laneHunt : Nat := 3
def laneVerify : Nat := 4
def laneLocked : Nat := 5

/-- Receivers of a hank that are LOCKED, and lanes with a powered direction, as masks (R267). -/
def State.hankLocked (s : State) (h : Nat) : Nat :=
  (List.range 8).foldl (fun m n => m + b2n (s.locked (8 * h + n)) * 2 ^ n) 0
def State.hankPowered (s : State) (h : Nat) : Nat :=
  (List.range 8).foldl (fun m n => m + b2n (s.is1 R.LANE_STATUS_RX_ON (8 * h + n) || s.is1 R.LANE_STATUS_TX_ON (8 * h + n)) * 2 ^ n) 0

/-- HANK_STATUS brought up to date, with UP's changes as events (R265). -/
def State.hankShow (s : State) (h : Nat) : State :=
  let m := s.get1 R.HANK_CTL_MIN_LANES h
  let up := decide (0 < m ∧ m ≤ popcount 8 (s.hankLocked h))
  let was := s.is1 R.HANK_STATUS_UP h
  let s1 := ((s.put1 R.HANK_STATUS_LOCKED h (s.hankLocked h)).put1 R.HANK_STATUS_POWERED h (s.hankPowered h)).put1 R.HANK_STATUS_UP h (b2n up)
  if m = 0 then s1
  else if up && !was then s1.hankEvt R.HANK_EVT_UP h
  else if was && !up then s1.hankEvt R.HANK_EVT_DOWN h
  else s1

/-- The last run of a receiver ends (R258). -/
def endRun (rs : List Run) : List Run :=
  match rs.reverse with
  | [] => []
  | r :: q => (q.reverse) ++ [{ r with ended := true }]

/-- A run that a lock loss or slip ends (R291): inside a run of a credited lane a new epoch begins with it. -/
def State.runBreak (s : State) (l : Nat) : State :=
  match (s.lane l).runs.reverse with
  | r :: q =>
    if r.ended then s
    else
      let credited := decide (3 ≤ s.laneRole l ∧ s.laneRole l ≤ 5)
      let s1 := s.setLane l { s.lane l with runs := q.reverse ++ [{ r with ended := true, broken := credited }] }
      if credited then s1.newEpoch l else s1
  | [] => s

/-- A lane leaves LOCKED (R260, R291): the run ends, the loss is counted and, other than by power-down, raised. -/
def State.lockLost (s : State) (l : Nat) (down : Bool) : State :=
  if !s.locked l then s
  else
    let s0 : State := { s with ledger := { s.ledger with lockedAll := s.ledger.lockedAll.filter (· != l) } }
    let s1 := s0.runBreak l
    if down then s1 else (s1.bump1 R.LANE_LOCKS_LOST l 1).laneEvt R.LANE_EVT_LOCK_LOST l

/-- A receiver moves to a lock state, its counters cleared. -/
def State.laneTo_ (s : State) (l st : Nat) : State :=
  let x := s.lane l
  let s1 := (s.setLane l { x with count := 0, pos := 0, misses := 0, hdrErr := 0, eb := [], prbsN := 0, prbs := 0 }).put1
    R.LANE_STATUS_STATE l st
  let s2 : State := { s1 with mesh := { s1.mesh with annSent := Tab.set 0 s1.mesh.annSent l 0 } }
  ((s2.put1 R.LANE_ESLIP_LEVEL l 0).hankShow (l / 8)).rcCheck

/-! ## Configuration (R247, R248, R267) -/

/-- A receive direction powered or not; a change restarts it from OFF. -/
def State.rxPower (s : State) (l : Nat) (on : Bool) : State :=
  let s1 := (s.lockLost l true).put1 R.LANE_STATUS_RX_ON l (b2n on)
  (s1.put1 R.LANE_STATUS_SIGNAL l 0).laneTo_ l (if on then laneNoSignal else laneOff)

/-- A transmit direction powered or not: what it was sending is gone. -/
def State.txPower (s : State) (l : Nat) (on : Bool) : State :=
  let x := s.lane l
  (s.setLane l { x with txB := 0, txBytes := [], txFrames := 0, txIdle := false, txCredit := [], stamps := [] }).put1
    R.LANE_STATUS_TX_ON l (b2n on)

/-- A hank's ROLE, RATE and LANES put in force (R248): only lanes and directions that change restart. -/
def State.hankApply (s : State) (h role rate lanes : Nat) : State :=
  let old := s.get1 R.LANE_STATUS_RATE (8 * h)
  let s1 := forN 8 (fun n a =>
    let l := 8 * h + n
    let rx := bit lanes n && decide (1 ≤ role)
    let tx := bit lanes n && decide (2 ≤ role)
    let a1 := if rx != a.is1 R.LANE_STATUS_RX_ON l || (rx && rate != old) then a.rxPower l rx else a
    let a2 := if tx != a1.is1 R.LANE_STATUS_TX_ON l || (tx && rate != old) then a1.txPower l tx else a1
    a2.put1 R.LANE_STATUS_RATE l rate) (s.put1 R.HANK_STATUS_ROLE h role)
  let s2 := if role = 0 ∨ rate ≠ old then s1.put1 R.HANK_STATUS_PLL_LOCK h 0 else s1
  (s2.hankShow h).rcCheck

/-- HANK_CTL (R248, R267): ignored whole for a RATE of 3 or a ROLE above 5; the RWL fields are ignored while a Draft runs
(R264). -/
def execHankCtl (hank value t : Nat) (s : State) : Out :=
  let s0 := s.upTo t
  let role := bits value 0 4
  let rate := bits value 4 2
  if rate = 3 ∨ 5 < role then .next s0
  else
    let s1 := s0.put1 R.HANK_CTL_MIN_LANES hank (bits value 16 4)
    if s0.draftRuns then .next (s1.hankShow hank)
    else
      let s2 := ((s1.put1 R.HANK_CTL_ROLE hank role).put1 R.HANK_CTL_RATE hank rate).put1 R.HANK_CTL_LANES hank (bits value 8 8)
      .next ((s2.put1 R.HANK_STATUS_DRAFT hank 0).hankApply hank role rate (bits value 8 8))

/-- The hank item of a Draft that enters ARMED overrides HANK_CTL (R248). -/
def State.hanksArm (s : State) (l : List Item) : State :=
  forN 12 (fun h a =>
    let a1 := ((a.put1 R.HANK_CTL_ROLE h (hankRole l h)).put1 R.HANK_CTL_RATE h (hankRate l h)).put1 R.HANK_CTL_LANES h (hankLanes l h)
    (a1.put1 R.HANK_STATUS_DRAFT h 1).hankApply h (hankRole l h) (hankRate l h) (hankLanes l h)) s

/-- Every lane off (R264): resets and the deeper power states. -/
def State.lanesOff (s : State) : State :=
  forN 12 (fun h a => (forN 8 (fun n b => (b.rxPower (8 * h + n) false).txPower (8 * h + n) false) a).put1 R.HANK_STATUS_PLL_LOCK h 0
    |>.hankShow h) s

/-- The lanes restart from OFF with HANK_CTL (R264). -/
def State.lanesWake (s : State) : State :=
  forN 12 (fun h a => a.hankApply h (a.get1 R.HANK_CTL_ROLE h) (a.get1 R.HANK_CTL_RATE h) (a.get1 R.HANK_CTL_LANES h)) s

/-- LANE_TX_FFE (R251): the taps, clamped; in force from the next comma block. -/
def execLaneTxFfe (lane pre post : Nat) (s : State) : Out :=
  let p := min 12 (pre % 32)
  let q := min 24 (post % 64)
  .next (((s.put1 R.LANE_TX_FFE_PRE lane p).put1 R.LANE_TX_FFE_POST lane q).put1 R.LANE_TX_FFE_MAIN lane (64 - p - q))

/-! ## PLL (R263) -/

/-- HANK_PLL_LOCK (R263): the transmitters of the hank start with block 0, the scrambler from any state (R254). -/
def execHankPllLock (hank t : Nat) (s : State) : Out :=
  let s0 := s.upTo t
  if s0.get1 R.HANK_STATUS_ROLE hank = 0 ∨ s0.is1 R.HANK_STATUS_PLL_LOCK hank then .next s0
  else
    let s1 := forN 8 (fun n a =>
      let (v, a1) := a.takeFree
      let x := a1.lane (8 * hank + n)
      a1.setLane (8 * hank + n) { x with txB := 0, scr := v % 2 ^ 58, txBytes := [], txFrames := 0, txIdle := false, stamps := [] }) s0
    .next (s1.put1 R.HANK_STATUS_PLL_LOCK hank 1)

/-- HANK_PLL_TIMEOUT (R263): no lock within 1 ms. -/
def execHankPllTimeout (hank t : Nat) (s : State) : Out :=
  let s0 := s.upTo t
  if s0.get1 R.HANK_STATUS_ROLE hank = 0 ∨ s0.is1 R.HANK_STATUS_PLL_LOCK hank then .next s0
  else .next (s0.hankEvt R.HANK_EVT_PLL_FAULT hank)

/-- HANK_PLL_LOSS (R263): the transmitters go quiet. -/
def execHankPllLoss (hank t : Nat) (s : State) : Out :=
  let s0 := s.upTo t
  if !s0.is1 R.HANK_STATUS_PLL_LOCK hank then .next s0
  else .next ((s0.put1 R.HANK_STATUS_PLL_LOCK hank 0).hankEvt R.HANK_EVT_PLL_FAULT hank)

/-! ## Block lock (R260) -/

/-- SIGNAL_PRESENT: the signal is there; a receiver that has seen it for 10 µs in NO_SIGNAL starts its adaptation. -/
def execSignalPresent (lane t : Nat) (s : State) : Out :=
  let s0 := s.upTo t
  if s0.laneState lane ≠ laneNoSignal then .next s0
  else if !s0.is1 R.LANE_STATUS_SIGNAL lane then
    .next ((s0.setLane lane { s0.lane lane with sigAt := s0.now }).put1 R.LANE_STATUS_SIGNAL lane 1)
  else if s0.now < (s0.lane lane).sigAt + nsToT 10000 then .next s0
  else .next (s0.laneTo_ lane laneAdapt)

/-- The values that an adaptation of the equaliser has come to (R252): FREEZE holds CTLE and DFE; the eye is measured anew. -/
def State.adapted (s : State) (lane eye ctle : Nat) (taps : List Nat) : State :=
  let fields := [R.LANE_DFE_TAP0, R.LANE_DFE_TAP1, R.LANE_DFE_TAP2, R.LANE_DFE_TAP3]
  let s1 := if s.is1 R.LANE_CTL_FREEZE lane then s
    else forN 12 (fun k a => a.put2 (fields.getD (k % 4) R.LANE_DFE_TAP0) lane (k / 4) (taps.getD k 0))
      (s.put1 R.LANE_RX_EQ_CTLE lane ctle)
  s1.put1 R.LANE_RX_EQ_EYE lane eye

/-- ADAPT_DONE (R252, R260): the equaliser's values; from ADAPT to HUNT unless RX_PRBS holds the receiver. In VERIFY and LOCKED it is
a step of the adaptation that goes on there. -/
def execAdaptDone (lane eye ctle : Nat) (taps : List Nat) (t : Nat) (s : State) : Out :=
  let s0 := s.upTo t
  let st := s0.laneState lane
  if st = laneVerify ∨ st = laneLocked then .next (s0.adapted lane eye ctle taps)
  else if st ≠ laneAdapt then .next s0
  else
    let s2 := s0.adapted lane eye ctle taps
    .next (if s2.is1 R.LANE_CTL_RX_PRBS lane then s2 else s2.laneTo_ lane laneHunt)

/-- COMMA_FOUND: alignment is taken and VERIFY entered with count 1. -/
def execCommaFound (lane t : Nat) (s : State) : Out :=
  let s0 := s.upTo t
  if s0.laneState lane ≠ laneHunt then .next s0
  else
    let s1 := s0.laneTo_ lane laneVerify
    .next (s1.setLane lane { s1.lane lane with count := 1, descr := 0 })

/-- SIGNAL_LOST: to NO_SIGNAL from any state but OFF. -/
def execSignalLost (lane t : Nat) (s : State) : Out :=
  let s0 := s.upTo t
  if s0.laneState lane = laneOff then .next s0
  else .next (((s0.lockLost lane false).put1 R.LANE_STATUS_SIGNAL lane 0).laneTo_ lane laneNoSignal)

/-- RELOCK: the receiver restarts from ADAPT. -/
def execLaneRelock (lane : Nat) (s : State) : Out :=
  if s.laneState lane < laneAdapt then .next s else .next ((s.lockLost lane false).laneTo_ lane laneAdapt)

/-- HEADER_ERROR_LIMIT: 64 invalid headers within one comma interval. -/
def execHeaderErrorLimit (lane t : Nat) (s : State) : Out :=
  let s0 := s.upTo t
  if s0.locked lane ∧ 64 ≤ (s0.lane lane).hdrErr then .next ((s0.lockLost lane false).laneTo_ lane laneHunt) else .next s0

/-! ## Blocks (R253 to R258) -/

/-- Raw payloads of COMMA and FILLER (R256), byte 0 lowest. -/
def commaPayload : Nat := 0x5BE3869C27D14E3AC962B500000FFFFF
def fillerPayload : Nat := 0x5555555555555555555555555555552D

/-- Kinds of a block in the elastic buffer. -/
def kData : Nat := 0
def kFiller : Nat := 1
def kComma : Nat := 2
def kCredit : Nat := 3
def kIdle : Nat := 4
/-- An unknown control block or one with an invalid header: it ends the run. -/
def kEnd : Nat := 5

/-- The scrambler and descrambler (R254) over `n` payload bits from the least significant: the output bits, and the last 58
scrambled bits (bit 0 the most recent). `tx` says which side. -/
def scramble (tx : Bool) : Nat → Nat → Nat → Nat × Nat
  | 0, _, h => (0, h)
  | n + 1, v, h =>
    let x := (v + h / 2 ^ 38 + h / 2 ^ 57) % 2
    let sbit := if tx then x else v % 2
    let (r, h') := scramble tx n (v / 2) ((2 * h + sbit) % 2 ^ 58)
    (x + 2 * r, h')

/-- PRBS31 (R263): the next bit after the last 31 (bit 0 the most recent). -/
def prbsNext (h : Nat) : Nat := (h / 2 ^ 30 + h / 2 ^ 27) % 2

/-- The PRBS checker's count after a bit: it takes 31 bits, must then foresee 31 in a row from what it received, and is synchronised
from 62 on; there an error adds 2 and a good bit takes 1 away, and at 126 it begins again (R263 says only that it synchronises
itself: DESIGN CHOICE, notes/assumptions/92.md). -/
def prbsStep (k : Nat) (good : Bool) : Nat :=
  if k < 31 then k + 1
  else if k < 62 then (if good then k + 1 else 31)
  else if good then max 62 (k - 1)
  else if 124 ≤ k then 0
  else k + 2

/-- The PRBS checker over `n` bits: its count, its last 31 bits, the errors of a synchronised checker. Synchronised, it goes on with its
own sequence, so that each wrong bit counts once. -/
def prbsCheck : Nat → Nat → Nat → Nat → Nat × Nat × Nat
  | 0, _, k, h => (k, h, 0)
  | n + 1, v, k, h =>
    let b := v % 2
    let e := prbsNext h
    let use := if k < 62 then b else e
    let (k', h', c) := prbsCheck n (v / 2) (prbsStep k (b == e)) ((2 * h + use) % 2 ^ 31)
    (k', h', c + (if k < 62 ∨ b = e then 0 else 1))

/-- The kind of a block with its payload after the descrambler, and the descrambler's state. -/
def blockKind (blk h : Nat) : Nat × Nat × Nat :=
  let hdr := blk % 4
  let raw := blk / 4 % 2 ^ 128
  if hdr = 1 then
    let (d, h') := scramble false 128 raw h
    (kData, d, h')
  else if hdr = 2 then
    if raw = commaPayload then (kComma, 0, h)
    else if raw = fillerPayload then (kFiller, 0, h)
    else
      let (d, h') := scramble false 128 raw h
      (if d % 256 = 0x1E then kIdle else if d % 256 = 0x4B then kCredit else kEnd, d, h')
  else
    let (_, h') := scramble false 128 raw h
    (kEnd, 2 ^ 128, h')

/-- A data payload joins the current run, or begins one (R258). -/
def runData (rs : List Run) (d : List Byte) : List Run :=
  match rs.reverse with
  | r :: q => if r.ended then rs ++ [⟨d, false, false, false⟩]
      else q.reverse ++ [if r.dead then r else { r with bytes := r.bytes ++ d }]
  | [] => [⟨d, false, false, false⟩]

/-- A block read from the elastic buffer reaches the units behind it (R257, R262). -/
def State.deliver (s : State) (l : Nat) (b : Nat × Nat) : State :=
  let x := s.lane l
  if b.1 = kData then (s.setLane l { x with runs := runData x.runs (leBytes 16 b.2) }).decodeArrived l
  else if b.1 = kCredit then s.setLane l { x with credits := x.credits ++ [leBytes 16 b.2] }
  else if b.1 = kIdle then
    let s1 := s.setLane l { x with runs := endRun x.runs }
    let s2 := ((s1.put1 R.LANE_STATUS_REMOTE_LANE l (bits b.2 8 3)).put1 R.LANE_STATUS_REMOTE_HANK l (bits b.2 12 4)).put1
      R.LANE_STATUS_REMOTE_NODE l (bits b.2 16 8)
    (s2.put1 R.LANE_STATUS_REMOTE_RX_LOCKED l (bits b.2 24 1)).put1 R.LANE_STATUS_REMOTE_VALID l 1
  else if b.1 = kEnd then s.setLane l { x with runs := endRun x.runs }
  else s

/-- A slip (R262, R291): the buffer recentres to 32 blocks; the run ends; the slip is counted and raised. -/
def State.slip (s : State) (l : Nat) (full : Bool) : State :=
  let x := s.lane l
  let eb := if full then x.eb.drop (x.eb.length - 32) else x.eb ++ List.replicate (32 - x.eb.length) (kFiller, 0)
  let s1 := (s.setLane l { x with eb := eb }).runBreak l
  (s1.bump1 (if full then R.LANE_ESLIP_OVERFLOW else R.LANE_ESLIP_UNDERFLOW) l 1).laneEvt R.LANE_EVT_ESLIP l

/-- One read of the elastic buffer at a local block time (R262). -/
def State.ebRead (s : State) (l : Nat) : State :=
  let x := s.lane l
  if x.eb.length < 24 then s.bump1 R.LANE_FILL_INS_COUNT l 1
  else
    let del := decide (40 < x.eb.length) && (match x.eb with
      | b :: _ => b.1 == kFiller
      | [] => false)
    let q := if del then x.eb.drop 1 else x.eb
    let s1 := if del then s.bump1 R.LANE_FILL_DEL_COUNT l 1 else s
    match q with
    | [] => s1
    | b :: r => (s1.setLane l { x with eb := r }).deliver l b

/-- A block enters the elastic buffer of a LOCKED receiver and `reads` local block times pass (R262). -/
def State.ebBlock (s : State) (l : Nat) (b : Nat × Nat) (reads : Nat) : State :=
  let s1 := s.setLane l { s.lane l with eb := (s.lane l).eb ++ [b] }
  let s2 := if 64 ≤ (s1.lane l).eb.length then s1.slip l true else s1
  let s3 := forN reads (fun _ a =>
    let a1 := a.ebRead l
    if (a1.lane l).eb.isEmpty then a1.slip l false else a1) s2
  s3.put1 R.LANE_ESLIP_LEVEL l (s3.lane l).eb.length

/-- An invalid header in LOCKED counted (R261). -/
def State.hdrError (s : State) (l : Nat) : State :=
  let x := s.lane l
  let s0 : State := { s with ledger := { s.ledger with hdr := Tab.upd 0 s.ledger.hdr l (· + 1) } }
  let s1 := (s0.setLane l { x with hdrErr := x.hdrErr + 1 }).bump1 R.LANE_ERR_HDR_COUNT l 1
  if x.hdrErr + 1 = 8 then s1.laneEvt R.LANE_EVT_ERR_HIGH l else s1

/-- A received block on an aligned receiver, at a comma place or not: descrambled, and in LOCKED checked, counted and passed
on (R254, R255, R261). -/
def State.takeBlock (s : State) (l blk reads : Nat) (place : Bool) : State :=
  let x := s.lane l
  let (k, d, h) := blockKind blk x.descr
  let s1 := s.setLane l { x with descr := h }
  if !s.locked l then s1
  else
    let s2 := if k = kEnd ∧ d = 2 ^ 128 then s1.hdrError l
      else if k = kEnd ∨ (k = kComma ∧ !place) then s1.bump1 R.LANE_ERR_CTRL_UNKNOWN l 1
      else s1
    s2.ebBlock l (k, d) reads

/-! ### Symbols (R250) -/

/-- The level of a PAM4 symbol, by its bits 2i and 2i + 1. -/
def pamLevel (b0 b1 : Nat) : Int :=
  match b0, b1 with
  | 0, 0 => -3
  | 0, _ => -1
  | _, 0 => 3
  | _, _ => 1

/-- The bits of a level: bit 2i, and twice bit 2i + 1. -/
def pamBits (v : Int) : Nat := if v = -3 then 0 else if v = -1 then 2 else if v = 1 then 3 else 1

/-- The levels of `n` bits of the serial stream at a rate: PAM4 at rates 0 and 1, NRZ at rate 2. -/
def lineLevels (rate n bits : Nat) : List Int :=
  if rate < 2 then (List.range (n / 2)).map (fun i => pamLevel (bits / 4 ^ i % 2) (bits / 4 ^ i / 2 % 2))
  else (List.range n).map (fun i => if bits / 2 ^ i % 2 = 1 then 1 else -1)

/-- The bits that levels spell at a rate. -/
def levelBits (rate : Nat) (vs : List Int) : Nat :=
  if rate < 2 then vs.foldr (fun v a => pamBits v + 4 * a) 0
  else vs.foldr (fun v a => (if 0 < v then 1 else 0) + 2 * a) 0

/-- A block with its polarity inverted: every level negated (R250, R266). -/
def invertBlock (rate bits : Nat) : Nat := levelBits rate ((lineLevels rate 130 bits).map (fun v => -v))

/-- Received polarity (LANE_CTL.RX_INVERT). -/
def State.rxBits (s : State) (l blk : Nat) : Nat :=
  if s.is1 R.LANE_CTL_RX_INVERT l then invertBlock (s.get1 R.LANE_STATUS_RATE l) (blk % 2 ^ 130) else blk % 2 ^ 130

/-- BLOCK_RECEIVE (R261 to R263): a 130-bit block that is not at a comma place; `reads` local block times pass. In ADAPT with
RX_PRBS the bits go to the PRBS checker. -/
def execBlockReceive (lane blk reads t : Nat) (s : State) : Out :=
  let s0 := s.upTo t
  let x := s0.lane lane
  let b := s0.rxBits lane blk
  let st := s0.laneState lane
  if st = laneAdapt ∧ s0.is1 R.LANE_CTL_RX_PRBS lane then
    let (k, h, e) := prbsCheck 130 b x.prbsN x.prbs
    .next ((s0.setLane lane { x with prbsN := k, prbs := h }).bump1 R.LANE_PRBS_ERR_COUNT lane e)
  else if (st = laneVerify ∨ st = laneLocked) ∧ x.pos < 1023 then
    .next ((s0.setLane lane { x with pos := x.pos + 1 }).takeBlock lane b reads false)
  else .next s0

/-- A lane enters LOCKED (R260, R288): counted, raised, a new credit epoch; the elastic buffer starts at its centre. -/
def State.lockGained (s : State) (l : Nat) : State :=
  let x := s.lane l
  let s1 := s.setLane l { x with count := 0, misses := 0, hdrErr := 0, eb := List.replicate 32 (kFiller, 0), runs := endRun x.runs }
  let s2 := (s1.put1 R.LANE_STATUS_STATE l laneLocked).put1 R.LANE_STATUS_REMOTE_VALID l 0
  let s3 := ((s2.put1 R.LANE_ESLIP_LEVEL l 32).bump1 R.LANE_LOCKS_GAINED l 1).laneEvt R.LANE_EVT_LOCK_GAINED l
  (s3.newEpoch l).hankShow (l / 8)

/-- COMMA_INTERVAL (R260, R261): the block at an expected comma place. -/
def execCommaInterval (lane blk reads t : Nat) (s : State) : Out :=
  let s0 := s.upTo t
  let x := s0.lane lane
  let b := s0.rxBits lane blk
  let comma := b == 4 * commaPayload + 2
  let st := s0.laneState lane
  if x.pos ≠ 1023 ∨ ¬(st = laneVerify ∨ st = laneLocked) then .next s0
  else if st = laneVerify then
    if !comma then .next (s0.laneTo_ lane laneHunt)
    else
      let s1 := (s0.setLane lane { x with pos := 0, count := x.count + 1 }).takeBlock lane b reads true
      .next (if x.count = 3 then s1.lockGained lane else s1)
  else
    let s1 := (s0.setLane lane { x with pos := 0, hdrErr := 0, misses := if comma then 0 else x.misses + 1 }).takeBlock lane b reads true
    let s2 := if comma then s1 else s1.bump1 R.LANE_ERR_CTRL_COMMA_MISS lane 1
    .next (if !comma ∧ x.misses = 3 then (s2.lockLost lane false).laneTo_ lane laneHunt else s2)

/-! ## Transmit (R257, R259) -/

/-- The IDLE payload of a lane (R257). -/
def State.idlePayload (s : State) (l : Nat) : Nat :=
  0x1E + (l % 8) * 256 + (l / 8) * 4096 + s.node * 65536 + (b2n (s.locked l) + 2 * s.get1 R.LANE_STATUS_RATE l) * 16777216

/-- Transmit polarity (LANE_CTL.TX_INVERT). -/
def State.txBits (s : State) (l v : Nat) : Nat :=
  if s.is1 R.LANE_CTL_TX_INVERT l then invertBlock (s.get1 R.LANE_STATUS_RATE l) v else v

/-- A block leaves a lane, as bits and as levels (R250, R253). -/
def State.sendBlock (s : State) (l v : Nat) : State :=
  s.emit (.block l (s.txBits l v) (lineLevels (s.get1 R.LANE_STATUS_RATE l) 130 (s.txBits l v)))

/-- 130 bits of PRBS31 after a state: the bits and the last 31. -/
def prbsGen : Nat → Nat → Nat × Nat
  | 0, h => (0, h)
  | n + 1, h =>
    let b := prbsNext h
    let (r, h') := prbsGen n ((2 * h + b) % 2 ^ 31)
    (b + 2 * r, h')

/-- A scrambled block sent (R254). -/
def State.sendScrambled (s : State) (l hdr payload : Nat) : State :=
  let x := s.lane l
  let (v, h) := scramble true 128 payload x.scr
  (s.setLane l { x with scr := h }).sendBlock l (hdr + 4 * v)

/-- May a transmitter send blocks (R253, R259)? -/
def State.txMay (s : State) (lane : Nat) : Bool :=
  s.is1 R.LANE_STATUS_TX_ON lane && s.is1 R.HANK_STATUS_PLL_LOCK (lane / 8) && !s.is1 R.LANE_CTL_TX_QUIET lane

/-- A block of PRBS31 (R261); where the generator starts is open: a free value (notes). -/
def State.txPrbsBlock (s : State) (lane : Nat) : State :=
  let (f, s1) := if (s.lane lane).txPrbs = 0 then s.takeFree else (0, s)
  let h0 := if (s.lane lane).txPrbs = 0 then 1 + f % (2 ^ 31 - 1) else (s.lane lane).txPrbs
  let (v, h) := prbsGen 130 h0
  (s1.setLane lane { s1.lane lane with txPrbs := h }).sendBlock lane v

/-- Bits per second of a rate (R250). -/
def lineRate (rate : Nat) : Nat := if rate = 0 then 112500000000 else if rate = 1 then 53125000000 else 25781250000

/-- Array time at which byte `o` of a data block that begins now leaves (R253, R285). -/
def State.byteTime (s : State) (l o : Nat) : Nat := s.now + (2 + 8 * o) * 4294967296 / lineRate (s.get1 R.LANE_STATUS_RATE l)

/-- The time beacon at byte `o` stamped with array time `t` (R285): its TIME, and both checks. -/
def restamp (b : List Byte) (o t : Nat) : List Byte :=
  let f := b.drop o
  let h := f.take 8 ++ leBytes 8 t ++ (f.drop 16).take 14
  let hd := h ++ leBytes 2 (crc16 h)
  let body := (f.drop 32).take 32
  b.take o ++ hd ++ body ++ leBytes 4 (crc32c (hd ++ body)) ++ f.drop 68

/-- A block of a run's bytes; the padding after a run's last frame is free (R258 gives no value). A time beacon whose byte 0 the block
holds is stamped as it leaves. A block that the bytes do not fill ends the run, and so does the 64th frame (R259). -/
def State.txData (s : State) (lane : Nat) : State :=
  let x := s.lane lane
  let (f, s2) := if x.txBytes.length < 16 then s.takeFree else (0, s)
  let bytes := (x.stamps.filter (· < 16)).foldl (fun b o => restamp b o (s.byteTime lane o)) x.txBytes
  let d := bytes.take 16 ++ leBytes (16 - x.txBytes.length) f
  let rest := bytes.drop 16
  (s2.setLane lane { s2.lane lane with
      txBytes := rest
      txIdle := decide (x.txBytes.length < 16) || (rest.isEmpty && decide (64 ≤ x.txFrames))
      stamps := (x.stamps.filter (16 ≤ ·)).map (· - 16) }).sendScrambled lane 1 (leNat d)

/-- Block `b` of a transmitter that carries frames (R256, R259): comma, filler, CREDIT, IDLE or data. -/
def State.txPayload (s : State) (lane b : Nat) : State :=
  let x := s.lane lane
  if b % 1024 = 0 then
    let ffe := (s.get1 R.LANE_TX_FFE_PRE lane, s.get1 R.LANE_TX_FFE_POST lane)
    (s.setLane lane { x with ffe := ffe }).sendBlock lane (2 + 4 * commaPayload)
  else if b % 2048 = 512 then s.sendBlock lane (2 + 4 * fillerPayload)
  else
    match x.txCredit with
    | c :: r => (s.setLane lane { x with txCredit := r }).sendScrambled lane 2 (leNat c)
    | [] =>
      if x.txIdle ∨ x.txBytes.isEmpty then
        (s.setLane lane { x with txIdle := false, txFrames := 0 }).sendScrambled lane 2 (s.idlePayload lane)
      else s.txData lane

/-- TX_BLOCK (R259): the next block of a transmitter. -/
def execTxBlock (lane t : Nat) (s : State) : Out :=
  let s0 := s.upTo t
  if !s0.txMay lane then .next s0
  else if s0.is1 R.LANE_CTL_TX_PRBS lane then .next (s0.txPrbsBlock lane)
  else
    let b := (s0.lane lane).txB
    .next ((s0.setLane lane { s0.lane lane with txB := b + 1 }).txPayload lane b)

end Sys2Proof.Machine
end

