-- ==== Sys2Proof/Machine/Frames.lean ====
section
/-!
DEFINITION. The frame unit (R268 to R292): checks and placement of arriving frames, verdicts, credits, sending.
-/

namespace Sys2Proof.Machine

/-! ## Discards (R271) -/

/-- A frame discarded with a code: counted, latched in FRAME_LAST_DISCARD, raised (R271, R292). -/
def State.discard (s : State) (l code src : Nat) : State :=
  let s1 := ((s.put R.FRAME_LAST_DISCARD_REASON code).put R.FRAME_LAST_DISCARD_LANE l).put R.FRAME_LAST_DISCARD_SOURCE_ID
    (if code = 1 then 0 else src)
  let h := l / 8
  match code with
  | 1 => (s1.bump R.FRAME_ERR_HDR_BAD 1).frameEvt 0
  | 2 => (s1.bump R.FRAME_DISCARD_UNCLASSIFIED 1).frameEvt 4
  | 3 => (s1.bump1 R.FRAME_HANK_CREDIT_STALE_EPOCH h 1).frameEvt 5
  | 4 => (s1.bump1 R.FRAME_HANK_CREDIT_OVERRUN h 1).frameEvt 5
  | 5 => s1.bump R.FRAME_DISCARD_UNCLASSIFIED 1
  | 6 => (s1.bump R.FRAME_DISCARD_UNCLASSIFIED 1).frameEvt 4
  | 7 => (s1.bump R.FRAME_DISCARD_SHAPE 1).frameEvt 4
  | 8 => (s1.bump R.FRAME_DISCARD_MISALIGNED 1).frameEvt 4
  | 9 => s1.bump R.FRAME_DISCARD_EDGE_EARLY 1
  | 10 => s1.bump R.FRAME_DISCARD_EDGE_AFTER_STOP 1
  | 11 => s1.bump R.FRAME_DUP_DUPLICATE 1
  | 12 => (s1.bump R.FRAME_DUP_MISNUMBERED 1).frameEvt 4
  | 13 => (s1.bump R.FRAME_DISCARD_LATE 1).frameEvt 4
  | _ => s1.bump R.FRAME_LOSS_OVERFLOW 1

/-- May a TYPE arrive on a role (R270)? -/
def typeAllowed (role type : Nat) : Bool :=
  match role with
  | 1 => type == 0x01
  | 3 => type == 0x08 || type == 0x09 || type == 0x0A || type == 0x0C || type == 0x0D || type == 0x0E
  | 4 => type == 0x07 || type == 0x0C || type == 0x0D || type == 0x0E
  | 5 => type == 0x0B || type == 0x0D
  | _ => false

/-! ## Placement (R273, R274) -/

/-- Where TIME falls (R273): a coarse index, or code 8 (no coarse sample) or 9 (before the first). -/
def State.placeTime (s : State) (time : Nat) : Except Nat Nat :=
  let q := pcQ s.draft.struct * 4294967296
  let x : Int := (time : Int) - (s.draft.t0 : Int)
  if q = 0 then .error 8
  else
    let k : Int := ((x : Rat) / q).ceil
    if ((k : Rat) * q).floor ≠ x then .error 8
    else if k < 0 then .error 9
    else .ok (s.firstCoarse + k.toNat)

/-- What step 8 does with a frame (R274): discard code if any, the gap it reveals (cause, frames, first missing index,
samples), the placement state after it. -/
structure Placed where
  code : Option Nat
  gap : Option (Nat × Nat × Nat × Nat)
  place : Option Place

/-- Step 8 of R271 for a frame of `cnt` samples a channel at index `n`. -/
def placeFrame (p : Option Place) (alive time n cnt : Nat) : Placed :=
  match p with
  | none => ⟨none, none, some ⟨alive, time, n + cnt⟩⟩
  | some q =>
    let d := (alive + 65536 - q.alive) % 65536
    if d = 0 ∧ time = q.time then ⟨some 11, none, some q⟩
    else if d = 0 then
      if q.next ≤ n then ⟨some 12, some (4, 1, q.next, n + cnt - q.next), some { q with next := n + cnt }⟩
      else ⟨some 12, none, some q⟩
    else if 32768 < d then ⟨some 13, none, some q⟩
    else if n < q.next then ⟨some 13, none, some { q with alive := alive }⟩
    else if n = q.next then
      ⟨none, if 2 ≤ d then some (1, d - 1, n, 0) else none, some ⟨alive, time, n + cnt⟩⟩
    else ⟨none, some (if 2 ≤ d then 1 else 2, d - 1, q.next, n - q.next), some ⟨alive, time, n + cnt⟩⟩

/-- Bytes of a hank's input buffer that hold frames whose samples the IN ports have not all taken (R277). -/
def State.inWaiting (s : State) (h : Nat) : List InFrame :=
  (Tab.get [] s.frames.inbuf h).filter (fun e =>
    let sp := s.spindle (seSpindle (slotEntry s.draft.struct e.slot))
    decide (sp.inBlk * 2 ^ splitOf s.draft.struct ≤ e.last))

/-- A frame in reception recorded for a lane. -/
def State.setRx (s : State) (l : Nat) (f : Option RxFrame) : State :=
  { s with frames := { s.frames with rx := Tab.set none s.frames.rx l f } }

/-- A header whose frame is discarded: its bytes still pass. -/
def rxSkip (hdr : List Byte) (t : Nat) : RxFrame := ⟨hdr, t, false, 0, [], [], 0, 0, 0, 0, 0⟩

/-- Coarse samples of a TEST or CAL frame remembered for the monitor ports (R452), as long as their buffers reach (R451). -/
def State.keepTest (s : State) (x : Nat × Nat × Nat) (n : Nat) : State :=
  { s with monTest := s.monTest.filter (fun y => decide (x.2.1 ≤ y.2.2 + 65536 * 64 * n)) ++ [x] }

/-- Steps 4 to 9 of R271 for a sample frame. -/
def State.sampleHeader (s : State) (l : Nat) (hdr : List Byte) : State :=
  let src := hdrSource hdr
  let drop := fun (a : State) (code : Nat) => (a.discard l code src).setRx l (some (rxSkip hdr s.now))
  let st := s.get R.DRAFT_STATUS_STATE
  let dr := s.draft.struct
  let idx := src % 8192
  let e := classEntry dr idx
  let slot := ceSlot e
  let dec := decoderBody dr (ceDecoder e)
  let first := hdrFirst hdr
  let count := hdrCount hdr
  let cg := max 1 (decCg dec)
  let w := setBytes dec hdr
  if ¬(st = 4 ∨ st = 5) then drop s 5
  else if !ceValid e || ceTag e != src / 8192 || !slotEnabled dr slot then drop s 6
  else if first < ceFirst e ∨ ceFirst e + ceNch e < first + count ∨ seNcoarse (slotEntry dr slot) < first + count ∨
      count = 0 ∨ count % cg ≠ 0 ∨ hdrLen hdr = 0 ∨ w = 0 ∨ hdrLen hdr % max 1 w ≠ 0 then drop s 7
  else
    match s.placeTime (hdrTime hdr) with
    | .error c => drop s c
    | .ok n =>
      let after := match s.draft.stopSpan with
        | none => false
        | some x => decide ((x + 1) * s.spinT * 2 ^ splitOf dr ≤ n)
      if after then drop s 10
      else
        let cnt := frameSamples dec hdr
        let old := Tab.get none s.frames.places idx
        let p := placeFrame old (hdrAlive hdr) (hdrTime hdr) n cnt
        let exp := match old with
          | none => hdrAlive hdr
          | some q => (q.alive + 1) % 65536
        let rec_ := fun cause frames n0 k =>
          gapRecordBytes src slot cause l frames (s.coarseTime n0) k first count exp (hdrAlive hdr)
        let s1 : State := { s with frames := { s.frames with places := Tab.set none s.frames.places idx p.place } }
        let s2 := match p.gap with
          | none => s1
          | some (c, fr, n0, k) => s1.gapLog (rec_ c fr n0 k)
        match p.code with
        | some c => drop s2 c
        | none =>
          let wait := s2.inWaiting (l / 8)
          let size := 40 + hdrLen hdr
          if 262144 < sumN wait (·.size) + size then (drop s2 14).gapLog (rec_ 3 1 n cnt)
          else
            let s3 : State := { s2 with frames := { s2.frames with
              inbuf := Tab.set [] s2.frames.inbuf (l / 8) (wait ++ [⟨slot, n + cnt - 1, size, idx, Tab.get 0 s2.frames.gens idx⟩]) } }
            let s3t := if byteAt hdr 3 % 4 = 0 then s3 else s3.keepTest (slot, n, n + cnt - 1) (2 ^ splitOf dr)
            let s4 := s3t.setRx l (some ⟨hdr, s.now, true, idx, e, dec, Tab.get 0 s.frames.gens idx, n, 0, exp, 0⟩)
            let s5 := if s4.frames.newSrc.contains idx then
                ({ s4 with frames := { s4.frames with newSrc := s4.frames.newSrc.filter (· != idx) } } : State).zoomSource slot n
              else s4
            s5.decodeArrived l

/-- Bytes of management frames that wait on a lane (R286). -/
def State.mgmtBytes (s : State) (l : Nat) : Nat :=
  sumN ((Tab.get [] s.frames.rxQ l).filter (fun f => f.cls == clsMgmt)) (fun f => 40 + f.payload.length)

/-- ALIVE of a frame on a mesh, mirror or far-store lane (R279): a gap starts a new epoch (R288). -/
def State.noteAlive (s : State) (l alive : Nat) : State :=
  let gap := match Tab.get none s.frames.rxAlive l with
    | none => false
    | some a => alive != (a + 1) % 65536
  let s1 := if gap then s.newEpoch l else s
  { s1 with frames := { s1.frames with rxAlive := Tab.set none s1.frames.rxAlive l (some alive) } }

/-- Is a frame discarded as foreign (R295)? From a node that is not in the layout a member takes management frames alone; a spectator
also takes requests, which it answers (R303). -/
def State.foreign (s : State) (role : Nat) (hdr : List Byte) : Bool :=
  (role == 3 || role == 4) && frameClass (hdrType hdr) (hdrFirst hdr) != clsMgmt &&
    !(s.meshState == 1 && hdrType hdr == 0x09) && !(decide (hdrNode hdr < 128) && s.inLayout (hdrNode hdr % 64))

/-- Step 3 of R271 and the rule of R295 for a frame that is not a sample frame. A foreign frame frees its units at once. -/
def State.linkHeader (s : State) (l role : Nat) (hdr : List Byte) : State :=
  let src := hdrSource hdr
  let cls := frameClass (hdrType hdr) (hdrFirst hdr)
  let u := frameUnits (hdrLen hdr)
  let drop := fun (a : State) (code : Nat) => (a.discard l code src).setRx l (some (rxSkip hdr s.now))
  let take := fun (a : State) => a.setRx l (some ⟨hdr, s.now, true, 0, [], [], 0, 0, 0, 0, cls⟩)
  let stale := decide (hdrEpoch hdr ≠ Tab.get 0 s.frames.rxEpoch l)
  let s1 :=
    if cls = clsMgmt then
      if 4096 < s.mgmtBytes l + 40 + hdrLen hdr then drop s 4 else take s
    else if stale then drop s 3
    else if classUnits cls < Tab.get 0 s.frames.rxHeld (laneCls l cls) + u then drop s 4
    else if s.foreign role hdr then (((s.bump R.MESH_COUNT_FOREIGN 1).setRx l (some (rxSkip hdr s.now))).rxHold l cls u).rxFree l cls u
    else take (s.rxHold l cls u)
  s1.noteAlive l (hdrAlive hdr)

/-- The head run of a lane replaced. -/
def State.setRun (s : State) (l : Nat) (rs : List Run) : State := s.setLane l { s.lane l with runs := rs }

/-- A frame header is examined (R271, steps 1 and 2): the header check, the TYPE for the lane's ROLE, the length. -/
def State.headerStep (s : State) (lane : Nat) (r : Run) (rest : List Run) : State :=
  let hdr := r.bytes.take 32
  let s1 := s.setRun lane ({ r with bytes := r.bytes.drop 32 } :: rest)
  let role := s1.laneRole lane
  let s2 := (s1.discard lane 1 0).setRun lane (if r.ended then rest else ⟨[], false, true, false⟩ :: rest)
  let s3 := if 3 ≤ role ∧ role ≤ 5 then s1.noteAlive lane (hdrAlive hdr) else s1
  if crc16 (hdr.take 30) ≠ hdrCrc hdr then (if 3 ≤ role ∧ role ≤ 5 then s2.newEpoch lane else s2)
  else if !typeAllowed role (hdrType hdr) || decide (8192 < hdrLen hdr) then
    (s3.discard lane 2 (hdrSource hdr)).setRx lane (some (rxSkip hdr s1.now))
  else if role = 1 then s1.sampleHeader lane hdr
  else s1.linkHeader lane role hdr

/-- What is left of an ended run that holds no whole header (R258, R276): less than a block is padding and is dropped; more is a frame
that the end of its run has cut short. -/
def State.runLeft (s : State) (lane : Nat) (r : Run) (rest : List Run) : State :=
  let s1 := s.setRun lane rest
  if r.bytes.length < 16 then s1
  else
    let s2 := s1.bump R.FRAME_LOSS_TRUNCATED 1
    if 3 ≤ s.laneRole lane ∧ s.laneRole lane ≤ 5 ∧ !r.broken then s2.newEpoch lane else s2

/-- FRAME_HEADER (R271): the next header of a lane's byte stream. -/
def execFrameHeader (lane t : Nat) (s : State) : Out :=
  let s0 := s.upTo t
  match Tab.get none s0.frames.rx lane, (s0.lane lane).runs with
  | none, r :: rest =>
    if r.bytes.length < 32 then .next (if r.ended then s0.runLeft lane r rest else s0) else .next (s0.headerStep lane r rest)
  | _, _ => .next s0

/-- A frame's last byte and trailer have come (R271 step 9, R275): the frame check decides. -/
def State.trailerStep (s : State) (lane : Nat) (f : RxFrame) (r : Run) (rest : List Run) : State :=
  let len := hdrLen f.hdr
  let payload := r.bytes.take len
  let tr := (r.bytes.drop len).take 8
  let good := crc32c (f.hdr ++ payload) == fld tr 0 4
  let s1 := ((s.decodeArrived lane).setRun lane ({ r with bytes := r.bytes.drop (len + 8) } :: rest)).setRx lane none
  let s2 := (s1.bump R.FRAME_ERR_CRC 1).frameEvt 1
  if !f.accepted then s1
  else if !f.entry.isEmpty then (if good then s1 else s2.frameBad f)
  else if good then
    { s1 with frames := { s1.frames with
      rxQ := Tab.set [] s1.frames.rxQ lane (Tab.get [] s1.frames.rxQ lane ++ [⟨f.cls, f.hdr, payload, fld tr 4 4⟩]) } }
  else if f.cls = clsMgmt then s2 else s2.rxFree lane f.cls (frameUnits len)

/-- FRAME_TRAILER (R271): the verdict on the frame in reception; a good frame of another unit waits for it. -/
def execFrameTrailer (lane t : Nat) (s : State) : Out :=
  let s0 := s.upTo t
  match Tab.get none s0.frames.rx lane, (s0.lane lane).runs with
  | some f, r :: rest =>
    if r.bytes.length < hdrLen f.hdr + 8 then .next s0 else .next (s0.trailerStep lane f r rest)
  | _, _ => .next s0

/-- A frame given up (R271 step 1, R277): its bytes go, its units return, and an accepted sample frame leaves a gap record. -/
def State.frameCut (s : State) (lane : Nat) (r : Run) (rest : List Run) (f0 : RxFrame) : State :=
  let len := hdrLen f0.hdr
  let sd := s.decodeArrived lane
  let f := (Tab.get none sd.frames.rx lane).getD f0
  let s1 := (sd.setRx lane none).setRun lane (if r.ended then rest else ⟨[], false, true, false⟩ :: rest)
  let role := s1.laneRole lane
  let s2 := if 3 ≤ role ∧ role ≤ 5 ∧ !r.broken then s1.newEpoch lane else s1
  if !f.accepted then s2
  else if f.entry.isEmpty then
    let s3 := s2.bump R.FRAME_LOSS_TRUNCATED 1
    if f.cls = clsMgmt then s3 else s3.rxFree lane f.cls (frameUnits len)
  else
    let sg := decSg f.decoder
    let total := frameSamples f.decoder f.hdr
    let s3 := (s2.bump R.FRAME_LOSS_TRUNCATED 1).frameBad f
    s3.gapLog (gapRecordBytes (hdrSource f.hdr) (ceSlot f.entry) 5 lane 1 (s3.coarseTime (f.n + f.sets * sg))
      (total - f.sets * sg) (hdrFirst f.hdr) (hdrCount f.hdr) f.aliveExp (hdrAlive f.hdr))

/-- FRAME_TRUNCATED (R276): the run has ended before the trailer, or 900 µs have passed since the header without it. -/
def execFrameTruncated (lane t : Nat) (s : State) : Out :=
  let s0 := s.upTo t
  match Tab.get none s0.frames.rx lane, (s0.lane lane).runs with
  | some f, r :: rest =>
    let whole := decide (hdrLen f.hdr + 8 ≤ r.bytes.length)
    if whole || (!r.ended && decide (s0.now < f.t + nsToT 900000)) then .next s0 else .next (s0.frameCut lane r rest f)
  | _, _ => .next s0

/-! ## Classification changes (R278) -/

/-- The entries of structure `new` that give their slot another source than structure `old` did (R239): the source is the entry's
number with its TAG. -/
def newSources (old new : List Item) (idx : List Nat) : List Nat :=
  idx.filter (fun i =>
    let a := classEntry old i
    let b := classEntry new i
    ceValid b && !(ceValid a && ceSlot a == ceSlot b && ceTag a == ceTag b))

/-- A change of the entries from structure `old` to `new`, by a patch: generations, placement states, DRAIN. -/
def State.classChange (s : State) (old new : List Item) : State :=
  let n := max (classEntries old).length (classEntries new).length
  let idx := (List.range n).filter (fun i => classEntry old i != classEntry new i)
  if idx.isEmpty then s
  else
    let g := idx.foldl (fun t i => Tab.upd 0 t i (fun v => (v + 1) % 16)) s.frames.gens
    let p := idx.foldl (fun t i => Tab.del t i) s.frames.places
    ({ s with frames := { s.frames with
      gens := g, places := p, newSrc := sortN (s.frames.newSrc ++ newSources old new idx) } }).put R.CLASS_STATUS_DRAIN 1

/-- A generation that no entry has: that of the frames of the Draft before. -/
def oldGen : Nat := 16

/-- The entries of a full Draft that is armed: every generation 0, placement states clear; frames still inside are of a superseded
generation. -/
def State.classArm (s : State) : State :=
  ({ s with frames := { s.frames with
      gens := [], places := [], newSrc := []
      rx := s.frames.rx.map (fun (e : Nat × Option RxFrame) => (e.1, e.2.map (fun (f : RxFrame) => { f with gen := oldGen })))
      inbuf := [] } }).put
    R.CLASS_STATUS_DRAIN 1

/-- CLASS_DRAIN_DONE (R278): no frame of a superseded generation is left inside, in reception or in an input buffer. -/
def execClassDrainDone (t : Nat) (s : State) : Out :=
  let s0 := s.upTo t
  let left := s0.frames.rx.any (fun e =>
    match e.2 with
    | none => false
    | some f => f.accepted && !f.entry.isEmpty && f.gen != Tab.get 0 s0.frames.gens f.idx) ||
    (List.range 12).any (fun h => (s0.inWaiting h).any (fun f => f.gen != Tab.get 0 s0.frames.gens f.idx))
  if !s0.is R.CLASS_STATUS_DRAIN || left then .next s0 else .next ((s0.put R.CLASS_STATUS_DRAIN 0).frameEvt 7)

/-! ## Credits (R287 to R289) -/

/-- CREDIT_RECEIVE (R287, R288): the oldest CREDIT block of a lane. -/
def execCreditReceive (lane t : Nat) (s : State) : Out :=
  let s0 := s.upTo t
  let x := s0.lane lane
  match x.credits with
  | [] => .next s0
  | b :: r =>
    let s1 := s0.setLane lane { x with credits := r }
    if crc16 (b.take 13) ≠ fld b 13 2 then .next ((s1.bump1 R.FRAME_HANK_CREDIT_CHK_ERR (lane / 8) 1).frameEvt 5)
    else
      let e := byteAt b 10
      let lim := fun (t : Tab Nat) c v => Tab.set 0 t (laneCls lane c) v
      let fresh := !Tab.get false s1.frames.txHas lane || e != Tab.get 0 s1.frames.txEpoch lane
      let used := if fresh then lim (lim (lim s1.frames.txUsed clsPosted 0) clsNonPosted 0) clsCompl 0 else s1.frames.txUsed
      .next { s1 with frames := { s1.frames with
        txUsed := used
        txLimit := lim (lim (lim s1.frames.txLimit clsPosted (fld b 1 3)) clsNonPosted (fld b 4 3)) clsCompl (fld b 7 3)
        txEpoch := Tab.set 0 s1.frames.txEpoch lane e
        txHas := Tab.set false s1.frames.txHas lane true } }

/-- The CREDIT block of a receiving lane (R287). -/
def State.creditBlock (s : State) (l : Nat) : List Byte :=
  let lim := fun c => leBytes 3 (Tab.get 0 s.frames.rxLimit (laneCls l c))
  let b := leBytes 1 0x4B ++ lim clsPosted ++ lim clsNonPosted ++ lim clsCompl ++
    leBytes 1 (Tab.get 0 s.frames.rxEpoch l) ++ zeros 2
  b ++ leBytes 2 (crc16 b) ++ zeros 1

/-- CREDIT_SEND (R289): a CREDIT block joins the lane's transmit direction. -/
def execCreditSend (lane t : Nat) (s : State) : Out :=
  let s0 := s.upTo t
  let role := s0.laneRole lane
  if role < 3 ∨ !s0.locked lane then .next s0
  else
    let x := s0.lane lane
    .next { (s0.setLane lane { x with txCredit := x.txCredit ++ [s0.creditBlock lane] }) with
      frames := { (s0.setLane lane { x with txCredit := x.txCredit ++ [s0.creditBlock lane] }).frames with
        freed := Tab.set 0 s0.frames.freed lane 0 } }

/-! ## Sending (R279, R280, R286, R288, R290) -/

/-- A frame as it leaves: header, payload, trailer. -/
def State.wireFrame (s : State) (f : OutFrame) (alive epoch : Nat) : List Byte :=
  let h := leBytes 2 f.src ++ leBytes 1 f.type ++ zeros 1 ++ leBytes 2 alive ++ leBytes 2 f.payload.length ++
    leBytes 8 (if f.stamp then s.now else f.time) ++ leBytes 2 f.first ++ leBytes 2 f.count ++ leBytes 8 f.aux ++
    leBytes 1 s.nodeByte ++ leBytes 1 epoch
  let hd := h ++ leBytes 2 (crc16 h)
  hd ++ f.payload ++ leBytes 4 (crc32c (hd ++ f.payload)) ++ leBytes 4 f.tword

/-- May a frame of a class leave on a lane under its credits (R286, R288)? -/
def State.creditOk (s : State) (l cls len : Nat) : Bool :=
  let role := s.laneRole l
  let needs := creditedOn role cls || (role == 2 && s.is1 R.FRAME_HANK_CFG_CREDITED (l / 8))
  let k := laneCls l cls
  let room := (Tab.get 0 s.frames.txLimit k + 16777216 * 2 - Tab.get 0 s.frames.txUsed k - frameUnits len) % 16777216
  !needs || (Tab.get false s.frames.txHas l && decide (room < 8388608))

/-- Room in the requester's completion buffer for a read's completion, beside those of the requests already sent (R290). -/
def State.completionRoom (s : State) (h : Nat) (f : OutFrame) : Bool :=
  let units := fun (op len : Nat) => if op = 1 then frameUnits len else 1
  decide (sumN (s.frames.outst.filter (fun o => o.hank == h && o.t != 0)) (fun o => units o.op (64 * cdiv (o.addr % 64 + o.len) 64)) + units f.first (64 * f.count) ≤ 1024)

/-- The bytes of a frame put on a lane, its class's units consumed. -/
def State.putWire (s : State) (l cls : Nat) (f : OutFrame) (alive : Nat) : State :=
  let role := s.laneRole l
  let credited := creditedOn role cls || (role == 2 && s.is1 R.FRAME_HANK_CFG_CREDITED (l / 8))
  let x := s.lane l
  let w := s.wireFrame f alive (if credited then Tab.get 0 s.frames.txEpoch l else 0)
  let s1 := s.setLane l { x with
    txBytes := x.txBytes ++ w, txFrames := x.txFrames + 1
    stamps := if f.type = 0x0C then x.stamps ++ [x.txBytes.length] else x.stamps }
  let used := if credited then Tab.upd 0 s1.frames.txUsed (laneCls l cls) (fun v => (v + frameUnits f.payload.length) % 16777216)
    else s1.frames.txUsed
  let w0 := Tab.get 0 s1.frames.waitAt l
  let s2 : State := { s1 with frames := { s1.frames with txUsed := used, waitAt := Tab.set 0 s1.frames.waitAt l 0 } }
  if w0 = 0 then s2 else s2.bump1 R.FRAME_HANK_STALL_CYCLES (l / 8) ((s.now + 1 - w0) * 650000000 / 4294967296)

/-- A frame waits for credits from now on. -/
def State.waits (s : State) (l : Nat) : State :=
  if Tab.get 0 s.frames.waitAt l = 0 then { s with frames := { s.frames with waitAt := Tab.set 0 s.frames.waitAt l (s.now + 1) } } else s

/-- Does a lane reach the node byte that a frame is for, and may frames go there (R294, R295)? -/
def State.reaches (s : State) (l : Nat) (f : OutFrame) : Bool :=
  let role := s.laneRole l
  !(role == 3 || role == 4) || ((s.announce l).node + 1 == f.hanks && s.meshWith ((f.hanks - 1) % 64))

/-- The frames of a lane that wait for a node which the lane no longer reaches, or which has left the layout, are dropped; requests
among them complete with status 1 (R294, R295, R303). -/
def State.purgeLane (s : State) (l : Nat) : State :=
  let q := fun (c : Nat) => Tab.get [] s.frames.laneQ (laneCls l c)
  let keep := s.reaches l
  if [clsCompl, clsPosted, clsNonPosted].all (fun c => (q c).all keep) then s
  else
    let lost := (q clsNonPosted).filter (fun f => !keep f)
    let np := ((q clsNonPosted).filter keep).map (fun (f : OutFrame) => { f with item := (((q clsPosted).take f.item).filter keep).length })
    let s1 : State := { s with frames := { s.frames with
      laneQ := Tab.set [] (Tab.set [] (Tab.set [] s.frames.laneQ (laneCls l clsCompl) ((q clsCompl).filter keep))
        (laneCls l clsPosted) ((q clsPosted).filter keep)) (laneCls l clsNonPosted) np } }
    lost.foldl (fun a f => match a.frames.outst.find? (fun o => o.hank == l / 8 && o.tag == f.aux / 281474976710656) with
      | some o => a.endRequest o stOffline []
      | none => a) s1

/-- Frames of the part's classes on a mesh, mirror or far-store lane: the first class whose head may be sent. To a node byte in
conflict only management frames go (R294). -/
def State.nextLink (s : State) (l : Nat) : Option (Nat × OutFrame) :=
  [clsMgmt, clsCompl, clsPosted, clsNonPosted].findSome? (fun c =>
    match Tab.get [] s.frames.laneQ (laneCls l c) with
    | [] => none
    | f :: _ =>
      if (c == clsMgmt || s.laneRole l == 5 || s.nodeOpen (f.hanks - 1)) && s.creditOk l c f.payload.length &&
        (c != clsNonPosted || (f.item == 0 && s.completionRoom (l / 8) f)) then some (c, f) else none)

/-- A frame of a lane queue sent: ALIVE of the lane; posted frames go ahead of the non-posted behind them; a request is sent
now. -/
def State.sendLink (s : State) (l c : Nat) (f : OutFrame) : State :=
  let k := laneCls l c
  let a := Tab.get 0 s.frames.laneAlive l
  let s1 := s.putWire l c f a
  let q := Tab.set [] s1.frames.laneQ k ((Tab.get [] s1.frames.laneQ k).drop 1)
  let q2 := if c = clsPosted then
      Tab.upd [] q (laneCls l clsNonPosted) (fun fs => fs.map (fun (g : OutFrame) => { g with item := g.item - 1 }))
    else q
  let tag := f.aux / 281474976710656
  { s1 with frames := { s1.frames with
      laneQ := q2
      laneAlive := Tab.set 0 s1.frames.laneAlive l ((a + 1) % 65536)
      outst := s1.frames.outst.map (fun (o : Outstanding) =>
        if c = clsNonPosted ∧ o.hank = l / 8 ∧ o.tag = tag then { o with t := s.now + 1 } else o) } }

/-- The lanes of a set of hanks that are LOCKED and transmit, ascending. -/
def State.outLanes (s : State) (hanks : Nat) : List Nat :=
  (List.range 96).filter (fun l => bit hanks (l / 8) && s.laneRole l == 2 && s.locked l && s.is1 R.LANE_STATUS_TX_ON l)

/-- The lane in turn for a destination (R279). -/
def State.turn (s : State) (d hanks : Nat) : Option Nat :=
  let ls := s.outLanes hanks
  let n := Tab.get 0 s.frames.destLane d
  match ls.filter (fun l => decide (n ≤ l)) with
  | l :: _ => some l
  | [] => ls.head?

/-- The next frame of the destinations for an output lane: the lowest destination whose turn it is. -/
def State.nextOut (s : State) (l : Nat) : Option (Nat × OutFrame) :=
  s.frames.destQ.findSome? (fun e =>
    match e.2 with
    | [] => none
    | f :: _ => if s.turn e.1 f.hanks = some l then some (e.1, f) else none)

/-- A frame of a destination sent (R279, R308): its ALIVE, its turn, and the item it completes. A beam frame counts in BEAM_FRAMES, the
records of a retraction frame in RETRACT_SENT, with event 0x0C4 (R179, R193). -/
def State.sendOut (s : State) (l d : Nat) (f : OutFrame) : State :=
  let a := Tab.get 0 s.frames.destAlive d
  let s1 := s.putWire l clsPosted f a
  let rest := (Tab.get [] s1.frames.destQ d).drop 1
  let whole := !rest.any (fun g => g.item == f.item)
  let s2 : State := { s1 with frames := { s1.frames with
      destQ := Tab.set [] s1.frames.destQ d rest
      destAlive := Tab.set 0 s1.frames.destAlive d ((a + 1) % 65536)
      destLane := Tab.set 0 s1.frames.destLane d (l + 1) } }
  let s3 := if f.type = 3 then s2.bump R.BEAM_FRAMES_COUNT 1
    else if f.type = 6 then (s2.bump R.RETRACT_SENT_COUNT f.count).foxEvt 4
    else s2
  if whole then s3.itemSent d f.item else s3

/-- As many whole records as fit a frame. -/
def packRecords : Nat → List (List Byte) → List (List Byte) × List (List Byte)
  | _, [] => ([], [])
  | room, r :: rs => if room < r.length then ([], r :: rs) else let (a, b) := packRecords (room - r.length) rs; (r :: a, b)

/-- Node byte of the partner (R304). -/
def State.partnerByte (s : State) : Nat := s.node + 64 * (1 - s.get R.PAIR_CTL_SIDE)

/-- The lane that mirror records take: the lowest LOCKED one of the ROLE 4 hanks that the partner announced itself on (R294). -/
def State.mirrorLane (s : State) : Option Nat :=
  (List.range 96).find? (fun l => s.laneRole l == 4 && s.locked l && (s.announce l).node == s.partnerByte && s.nodeOpen s.partnerByte)

/-- The waiting mirror records join the posted queue of their lane as one frame (R282, R305). -/
def State.mirrorPack (s : State) (l : Nat) : State :=
  if s.pair.mirrorQ.isEmpty || s.mirrorLane != some l then s
  else
    let (a, b) := packRecords 8192 s.pair.mirrorQ
    ({ s with pair := { s.pair with mirrorQ := b } } : State).queueLane l
      (s.linkFrame 0x07 0 a.length (fld (a.headD []) 4 4) a.flatten 0)

/-- May a lane take a frame (R257, R258, R294): it transmits, its run has room, and a mesh, mirror or far-store lane is LOCKED? -/
def State.frameMay (s : State) (lane : Nat) : Bool :=
  let x := s.lane lane
  s.is1 R.LANE_STATUS_TX_ON lane && s.is1 R.HANK_STATUS_PLL_LOCK (lane / 8) && !x.txIdle && decide (x.txBytes.length < 16) &&
    decide (x.txFrames < 64) && (decide (s.laneRole lane < 3) || s.locked lane)

/-- FRAME_TRANSMIT (R279, R280, R286 to R288, R290, R308): at a frame boundary a lane takes its next frame, at most 64 in a
run. A silent side of a pair sends no output frame and only management frames on the mesh (R304, R313). -/
def execFrameTransmit (lane t : Nat) (s : State) : Out :=
  let s0 := ((s.upTo t).mirrorPack lane).purgeLane lane
  let role := s0.laneRole lane
  if !s0.frameMay lane then .next s0
  else if role = 2 then
    if s0.silent then .next s0
    else
      match s0.nextOut lane with
      | none => .next s0
      | some (d, f) =>
        if s0.creditOk lane clsPosted f.payload.length then .next (s0.sendOut lane d f) else .next (s0.waits lane)
  else
    match s0.nextLink lane with
    | some (c, f) => if role = 3 ∧ s0.silent ∧ c ≠ clsMgmt then .next s0 else .next (s0.sendLink lane c f)
    | none =>
      let any := [clsCompl, clsPosted, clsNonPosted].any (fun c => !(Tab.get [] s0.frames.laneQ (laneCls lane c)).isEmpty)
      .next (if any then s0.waits lane else s0)

/-- Placement states, gap log, requests and epochs cleared (R291), with what the lanes have received and nothing has taken. -/
def State.framesReset (s : State) : State :=
  ({ s with frames := { s.frames with
      places := [], gaps := [], outst := [], rxEpoch := [], txEpoch := [], txHas := [], rxLimit := [], rxHeld := [], txUsed := [],
      txLimit := [], rx := [], rxQ := [], laneQ := [], rxAlive := [], inbuf := [], newSrc := [], waitAt := [], freed := [],
      laneWrote := [], destQ := [], gens := [], reqQ := []
      lanes := s.frames.lanes.map (fun (e : Nat × Lane) => (e.1, { e.2 with runs := [], credits := [] })) } } : State).put
    R.FRAME_GAP_CTL_COUNT 0

end Sys2Proof.Machine
end

