-- ==== Sys2Proof/Machine/Timebase.lean ====
section
/-!
DEFINITION. The timebase (R372 to R389): gates, PPS edges, locking, setting and stepping array time, network time and beacons,
TRIGOUT, TRIGIN, the den's count.
-/

namespace Sys2Proof.Machine

/-! ## Durations over a set or step of array time (R380) -/

/-- An instant moved with array time; before 0 it stands at 0. -/
def moved (d : Int) (x : Nat) : Nat := ((x : Int) + d).toNat

/-- The same for an instant held plus 1, of which 0 is none. -/
def movedS (d : Int) (x : Nat) : Nat := if x = 0 then 0 else max 1 (moved d x)

/-- The queued requests of the stacks, whose age goes on. -/
def movedQ (d : Int) (q : Tab (List MemReq)) : Tab (List MemReq) :=
  q.map (fun e => (e.1, e.2.map (fun (r : MemReq) => { r with t := moved d r.t })))

/-- The instants of the timebase from which a duration runs. -/
def TimeState.moved (x : TimeState) (d : Int) : TimeState :=
  let m := fun (l : Tab Nat) => l.map (fun e => (e.1, movedS d e.2))
  { x with
    pullAt := Machine.moved d x.pullAt
    rates := x.rates.map (fun e => (Machine.moved d e.1, e.2))
    hoAt := Machine.moved d x.hoAt
    wtrAt := m x.wtrAt
    ppsAt := m x.ppsAt
    netAt := movedS d x.netAt
    choiceAt := movedS d x.choiceAt
    beaconAt := m x.beaconAt
    edgeAt := m x.edgeAt
    trig := x.trig.map (fun e => (e.1, { e.2 with busyTo := Machine.moved d e.2.busyTo })) }

/-- The instants of a stack site from which a duration runs. -/
def Site.moved (x : Site) (d : Int) : Site :=
  let m := Machine.moved d
  { x with
    migStart := m x.migStart, shedSince := m x.shedSince, coolSince := x.coolSince.map (fun e => (e.1, movedS d e.2))
    scrubAt := m x.scrubAt, pressedAt := m x.pressedAt, lateAt := m x.lateAt, firmAt := m x.firmAt, msAt := m x.msAt }

/-- A set or step has moved array time by `d`: what the part measures as a duration goes on from where it stood, since only the count has
moved (R380; notes/assumptions/109.md). -/
def State.retime (s : State) (d : Int) : State :=
  let m := moved d
  let tab := fun (l : Tab Nat) => l.map (fun e => (e.1, movedS d e.2))
  let cyc : Int := if d < 0 then -(loomCycles 0 d.natAbs) else loomCycles 0 d.natAbs
  { s with
    time := s.time.moved d
    store := { s.store with hostReads := s.store.hostReads.map (fun e => (e.1, (e.2.1, m e.2.2))) }
    loom := { s.loom with
      testAt := s.loom.testAt.map (fun e => (e.1, m e.2))
      busy := s.loom.busy.map (fun e => (e.1, e.2.map (fun x => (moved cyc x.1, moved cyc x.2)))) }
    stk := { s.stk with
      sites := s.stk.sites.map (fun e => (e.1, e.2.moved d))
      bankQ := movedQ d s.stk.bankQ, ingress := movedQ d s.stk.ingress
      winStart := s.stk.winStart.map (fun e => (e.1, m e.2))
      throttle := s.stk.throttle.map (fun e => (e.1, { e.2 with
        ends := m e.2.ends, nextAt := m e.2.nextAt, counted := m e.2.counted })) }
    frames := { s.frames with
      lanes := s.frames.lanes.map (fun e => (e.1, { e.2 with sigAt := movedS d e.2.sigAt }))
      rx := s.frames.rx.map (fun e => (e.1, e.2.map (fun (f : RxFrame) => { f with t := m f.t })))
      outst := s.frames.outst.map (fun (o : Outstanding) => { o with t := movedS d o.t })
      waitAt := tab s.frames.waitAt }
    mon := s.mon.map (fun e => (e.1, { e.2 with edge := m e.2.edge, since := m e.2.since }))
    mesh := { s.mesh with annSent := tab s.mesh.annSent, devs := s.mesh.devs.map (fun e => (e.1, (e.2.1, m e.2.2))) }
    pair := { s.pair with
      tests := s.pair.tests.map m, testAt := movedS d s.pair.testAt, hbAt := movedS d s.pair.hbAt, emitAt := movedS d s.pair.emitAt
      fencedAt := movedS d s.pair.fencedAt, partnerAt := movedS d s.pair.partnerAt, arbAt := movedS d s.pair.arbAt }
    mgmt := { s.mgmt with
      carrier := movedS d s.mgmt.carrier
      tx := s.mgmt.tx.map (fun (x : MgmtTx) => { x with start := m x.start, backoff := movedS d x.backoff }) }
    scp := { s.scp with flashAt := m s.scp.flashAt }
    power := { s.power with waitAt := m s.power.waitAt, hpAt := m s.power.hpAt, bootAt := m s.power.bootAt, denAt := m s.power.denAt }
    trust := { s.trust with fwAt := m s.trust.fwAt }
    xbar := { s.xbar with held := s.xbar.held.map (fun e => (e.1, (e.2.1, m e.2.2))) } }

/-! ## Qualification (R375, R376) -/

/-- An offset from nominal as a gate measures it, in 0.01 ppm, to the nearest. -/
def centiPpm (mHz nom : Nat) : Int :=
  let x : Int := ((mHz : Int) - 1000 * nom) * 200000000
  (x + 1000 * nom) / (2000 * nom)

/-- A gate of 100 ms that measures an enabled input at a frequency, in mHz (R375); the selection is not made again yet. -/
def State.gate (s : State) (code mHz : Nat) : State :=
  let i := code - 1
  let up : Bool := code == 1 || code == 2 || (match s.rcOf code with
    | some l => s.locked l
    | none => false)
  match s.refNominal code with
  | none => s
  | some nom =>
    if code = 0 ∨ 4 < code ∨ up = false ∨ !s.is1 R.TIME_REF_CTL_EN i then s
    else
      let off : Int := ((mHz : Int) - 1000 * nom) * 281474976710656 / (1000 * nom)
      let s1 := (s.put1 R.TIME_REF_STATUS_ACTIVE i 1).withTime (fun x => { x with gated := Tab.set 0 x.gated code off })
      let inside := decide ((centiPpm mHz nom).natAbs ≤ 100 * max 1 (s1.get1 R.TIME_REF_WIN_WINDOW i))
      if !inside then s1.unqual code
      else if s1.refQual code then (if s1.get R.TIME_STATUS_REF = code then s1.noteRate else s1)
      else
        let wtr := s1.get1 R.TIME_REF_CTL_WTR i
        if !Tab.get false s1.time.lost code ∨ wtr = 0 then s1.qual code
        else if Tab.get 0 s1.time.wtrAt code ≠ 0 then s1
        else (s1.withTime (fun x => { x with wtrAt := Tab.set 0 x.wtrAt code (s1.now + 1) })).put1 R.TIME_REF_STATUS_WTR_LEFT i wtr

/-- No edge of an input for 1 µs. -/
def State.edgeLoss (s : State) (code : Nat) : State :=
  if code = 0 ∨ 4 < code then s else (s.put1 R.TIME_REF_STATUS_ACTIVE (code - 1) 0).unqual code

/-- A second of a running wait-to-restore has elapsed; a disabled input is not measured and waits for nothing. -/
def State.wtrSecond (s : State) (code : Nat) : State :=
  let at_ := Tab.get 0 s.time.wtrAt code
  let left := s.get1 R.TIME_REF_STATUS_WTR_LEFT (code - 1)
  if at_ = 0 ∨ left = 0 ∨ !s.is1 R.TIME_REF_CTL_EN (code - 1) ∨ s.now + 1 < at_ + secT then s
  else
    let s1 := (s.withTime (fun x => { x with wtrAt := Tab.set 0 x.wtrAt code (at_ + secT) })).put1 R.TIME_REF_STATUS_WTR_LEFT (code - 1) (left - 1)
    if left = 1 then s1.qual code else s1

/-- What one cycle brings to the inputs: losses, gates and seconds of wait-to-restore; one selection, made with all of them known
(R377, R388). -/
def State.refCycle (s : State) (lost : List Nat) (gates : List (Nat × Nat)) (ticks : List Nat) : State :=
  let s1 := ticks.foldl State.wtrSecond (gates.foldl (fun a g => a.gate g.1 g.2) (lost.foldl State.edgeLoss s))
  if (List.range 5).any (fun i => s1.refQual (i + 1) != s.refQual (i + 1)) then s1.select else s1

/-- REF_GATE (R375, R388): a gate of 100 ms measured inputs (code, mHz); `ticks`: waits-to-restore of which a second ends in that cycle. -/
def execRefGate (gates : List (Nat × Nat)) (ticks : List Nat) (t : Nat) (s : State) : Out := .next ((s.upTo t).refCycle [] gates ticks)

/-- REF_EDGE_LOSS (R375, R388): inputs without an edge for 1 µs, with the gates and ticks of the same cycle. -/
def execRefEdgeLoss (cycle : RefCycle) (t : Nat) (s : State) : Out := .next ((s.upTo t).refCycle cycle.lost cycle.gates cycle.ticks)

/-- WTR_TICK (R375): a second of a running wait-to-restore has elapsed. -/
def execWtrTick (code t : Nat) (s : State) : Out := .next ((s.upTo t).refCycle [] [] [code])

/-- The instant nearest to `t` whose fraction is `f`. -/
def nearest (t f : Nat) : Int :=
  let d : Int := ((f : Int) - (t % secT : Nat)) % (secT : Int)
  (t : Int) + (if d < (secT : Int) / 2 then d else d - secT)

/-- A pull begun in LOCKED, or restarted in SWITCHING, when the time source shows a Δ (R378, R379). -/
def State.pullTo (s : State) (d : Int) : State :=
  if s.tb = tbLocked ∧ overNs d then (s.startPull d).setTb tbSwitching
  else if s.tb = tbSwitching then s.startPull d
  else s

/-- A PPS input disqualified (R376): event 0x0F4; the time source may change. -/
def State.ppsLost (s : State) (p : Nat) : State :=
  let s1 := s.withTime (fun x => { x with ppsGood := Tab.set 0 x.ppsGood p 0 })
  if s1.is1 R.TIME_REF_STATUS_PPS_QUAL p then ((s1.put1 R.TIME_REF_STATUS_PPS_QUAL p 0).timeEvt 4).select else s1

/-- Window of a PPS input, in ns. -/
def State.ppsWin (s : State) (p : Nat) : Nat := 10 * max 1 (s.get1 R.TIME_REF_CTL_PPS_WIN p)

/-- Array time set to a value (R380). -/
def State.setNow (s : State) (v : Nat) : State :=
  let s1 := s.retime ((v : Int) - s.now)
  { s1 with now := v, time := { s1.time with frac := 0 } }

/-- PPS_EDGE (R376, R378, R380): a rising edge of PPSA (0) or PPSB (1), `ns` after the previous one by its own reference. -/
def execPpsEdge (pps ns t : Nat) (s : State) : Out :=
  let s0 := s.upTo t
  let p := pps % 2
  let first := Tab.get 0 s0.time.ppsAt p = 0
  let good := decide (1000000000 ≤ ns + s0.ppsWin p ∧ ns ≤ 1000000000 + s0.ppsWin p)
  let s1 := s0.withTime (fun x => { x with ppsAt := Tab.set 0 x.ppsAt p (s0.now + 1) })
  if first then .next s1
  else if !good then .next (s1.ppsLost p)
  else
    let n := Tab.get 0 s1.time.ppsGood p + 1
    let s2 := s1.withTime (fun x => { x with ppsGood := Tab.set 0 x.ppsGood p n })
    let s3 := if 3 ≤ n then (s2.put1 R.TIME_REF_STATUS_PPS_QUAL p 1).select else s2
    if !s3.is1 R.TIME_REF_STATUS_PPS_QUAL p then .next s3
    else
      let d : Int := nearest s3.now (s3.get1 R.TIME_REF_OFS_FRACTION p) - s3.now
      let s4 := (s3.withTime (fun x => { x with ppsDelta := Tab.set 0 x.ppsDelta p d })).put1 R.TIME_REF_OFFSET_NS p (ns32 (d * 65536))
      if s4.get R.TIME_STATUS_REF ≠ p + 1 then .next s4
      else
        match s4.time.setAt with
        | some v =>
          if s4.draftRuns then .next (s4.withTime (fun x => { x with setAt := none }))
          else
            let s5 := (s4.setNow v).withTime (fun x => { x with setAt := none })
            .next (if s5.is R.TIME_STATUS_PULLING then s5.startPull ((nearest v (s5.get1 R.TIME_REF_OFS_FRACTION p) - v) * 65536) else s5)
        | none => .next (s4.pullTo (d * 65536))

/-- PPS_MISSING (R376): no edge within 1 s + PPS_WIN of the last one. -/
def execPpsMissing (pps t : Nat) (s : State) : Out :=
  let s0 := s.upTo t
  let p := pps % 2
  let last := Tab.get 0 s0.time.ppsAt p
  if last = 0 ∨ s0.now + 1 < last + secT + nsToT (s0.ppsWin p) then .next s0
  else .next ((s0.withTime (fun x => { x with ppsAt := Tab.set 0 x.ppsAt p 0 })).ppsLost p)

/-! ## Locking, pulls, steps (R378 to R380) -/

/-- Array time moved by an amount of 2^-48 s, at once. -/
def State.jump (s : State) (d : Int) : State :=
  let x := (max 0 ((s.now * 65536 + s.time.frac : Nat) + d)).toNat
  let s1 := s.retime (((x / 65536 : Nat) : Int) - s.now)
  { s1 with now := x / 65536, time := { s1.time with frac := x % 65536 } }

/-- FREQ_LOCK (R378): the frequency has been within 1 ppb of the input for 1 s. -/
def execFreqLock (t : Nat) (s : State) : Out :=
  let s0 := s.upTo t
  if s0.tb ≠ tbAcquire ∨ s0.xoGone then .next s0
  else
    let d := s0.delta
    if s0.timeSource = 0 ∨ !overNs d then .next (s0.setTb tbLocked)
    else if !s0.draftRuns then .next (((s0.jump d).startPull 0).setTb tbLocked)
    else .next ((s0.startPull d).setTb tbSwitching)

/-- PULL_DONE (R378, R379): what remains is within 1 ns and the frequency is locked. -/
def execPullDone (t : Nat) (s : State) : Out :=
  let s0 := s.upTo t
  if overNs s0.pullLeft then .next s0
  else if s0.tb = tbSwitching then .next (((s0.startPull 0).setTb tbLocked).timeEvt 6)
  else if s0.is R.TIME_STATUS_PULLING then .next ((s0.startPull 0).timeEvt 6)
  else .next s0

/-- Δ against the time source once array time is set to `v` in a pull (R376, R388): of a PPS within half a second, of the network as it
stands; nothing without a time source. -/
def State.setDelta (s : State) (v : Nat) : Int :=
  let d : Int := s.pullLeft - ((v : Int) - s.now) * 65536
  let sec : Int := 281474976710656
  match s.timeSource with
  | 1 => (d + sec / 2) % sec - sec / 2
  | 2 => d
  | _ => 0

/-- TIME_SET (R380, R388): the write of TIME_SET_HI. -/
def execTimeSet (hi t : Nat) (s : State) : Out :=
  let s0 := s.upTo t
  let v := putBits (s0.get R.TIME_SET_TIME) 32 32 hi
  let s1 := s0.put R.TIME_SET_TIME v
  if s1.draftRuns then .next (s1.bump R.TIME_STATUS_IGNORED 1)
  else if s1.is R.TIME_CTL_SET_AT_PPS then .next (s1.withTime (fun x => { x with setAt := some v }))
  else
    let d := s1.setDelta v
    let s2 := s1.setNow v
    .next (if s1.is R.TIME_STATUS_PULLING then s2.startPull d else s2)

/-- TIME_STEP (R380, R388): the write of TIME_STEP_HI. -/
def execTimeStep (hi t : Nat) (s : State) : Out :=
  let s0 := s.upTo t
  let v := putBits (s0.get R.TIME_STEP_STEP) 32 32 hi
  let s1 := s0.put R.TIME_STEP_STEP v
  let d := sgn 64 v
  if !s1.draftRuns && !s1.is R.TIME_STATUS_PULLING then .next (s1.jump d)
  else
    let s2 := s1.startPull (s1.pullLeft + d)
    .next (if s2.tb = tbLocked then s2.setTb tbSwitching else s2)

/-! ## Network time (R381, R383) -/

/-- A correction of the network source, in 2^-48 s, which replaces what remains of the one before (R381): slewed while the network is the
time source, else only reported. -/
def State.netDeliver (s : State) (c : Int) : State :=
  let s1 := (s.withTime (fun x => { x with netAt := s.now + 1 })).put R.TIME_NET_OFFSET_NS (ns32 c)
  let s2 := (s1.put1 R.TIME_REF_STATUS_ACTIVE 4 1).qual 5
  let s3 := s2.select
  let s4 := if s3.get R.TIME_STATUS_REF = 5 then s3.noteRate else s3
  if s4.timeSource ≠ 2 then s4
  else
    let s5 := s4.startPull c
    if s5.tb = tbLocked ∧ overNs c then s5.setTb tbSwitching else s5

/-- TIME_NET_ADJ (R381, R382): a correction from IEEE 1588; other sources deliver none this way. -/
def execTimeNetAdj (value t : Nat) (s : State) : Out :=
  let s0 := s.upTo t
  if s0.get R.TIME_NET_CTL_SRC ≠ 1 then .next s0 else .next (s0.netDeliver (sgn 32 value * 65536))

/-- The network source stops being live. -/
def State.netLost (s : State) : State :=
  let s1 := (s.withTime (fun x => { x with netAt := 0 })).put1 R.TIME_REF_STATUS_ACTIVE 4 0
  ((s1.timeEvt 5).unqual 5).select

/-- NET_TIMEOUT (R381): no offset within TIMEOUT × 100 ms. -/
def execNetTimeout (t : Nat) (s : State) : Out :=
  let s0 := s.upTo t
  let lim := nsToT (100000000 * max 1 (s0.get R.TIME_NET_CTL_TIMEOUT))
  if !s0.netLive || decide (s0.now + 1 ≤ s0.time.netAt + lim) then .next s0 else .next s0.netLost

/-- XO_FAULT (R378): TB_XO shows no edge for 1 µs. -/
def execXoFault (t : Nat) (s : State) : Out :=
  let s0 := s.upTo t
  if s0.xoGone ∨ s0.tb = tbDen then .next s0
  else .next ((((s0.put R.TIME_STATUS_XO_FAULT 1).startPull 0).setTb tbFreerun).timeEvt 10)

/-- Is the part following beacons (R383)? -/
def State.following (s : State) : Bool := s.timeSource == 2 && s.get R.TIME_NET_CTL_SRC == 2 && s.get R.TIME_STATUS_BEACON_HOPS != 15

/-- HOPS and ERR_NS of the part's beacons. -/
def State.beaconHops (s : State) : Nat :=
  if s.timeSource = 1 ∨ (s.timeSource = 2 ∧ s.get R.TIME_NET_CTL_SRC = 1) then 0
  else if s.following then s.get R.TIME_STATUS_BEACON_HOPS + 1 else 15
def State.beaconErr (s : State) : Nat :=
  let f := if s.following then s.time.followErr + s.get R.TIME_ERR_HOP_NS else 0
  let h := if s.tb = tbHoldover then s.get R.TIME_ERR_HO_NS * ((s.now - s.time.hoAt) / secT) else 0
  min 4294967295 (s.get R.TIME_ERR_BASE_NS + f + h)

/-- BEACON_SEND (R383): every 1 ms on a LOCKED lane of ROLE 3 or 4. -/
def execBeaconSend (lane t : Nat) (s : State) : Out :=
  let s0 := s.upTo t
  let last := Tab.get 0 s0.time.beaconAt lane
  if !s0.is R.TIME_CTL_BEACON_TX || !s0.locked lane || !(s0.laneRole lane == 3 || s0.laneRole lane == 4) ||
      (last != 0 && decide (s0.now + 1 < last + nsToT 1000000)) then .next s0
  else
    let d := leBytes 1 s0.tb ++ leBytes 1 (s0.get R.TIME_STATUS_REF) ++ leBytes 2 s0.beaconHops ++ leBytes 4 s0.beaconErr ++ zeros 24
    let s1 := s0.withTime (fun x => { x with beaconAt := Tab.set 0 x.beaconAt lane (s0.now + 1) })
    .next (s1.queueLane lane (s1.linkFrame 0x0C 0 0 0 d 0))

/-- BEACON_RECEIVE (R383): a usable beacon's offset; its header byte 0 arrived at `arrival`. -/
def execBeaconReceive (lane arrival t : Nat) (s : State) : Out :=
  let s0 := s.upTo t
  match s0.rxTake lane (fun f => hdrType f.hdr == 0x0C) with
  | none => .next s0
  | some (f, s1) =>
    let st := byteAt f.payload 0
    let hops := fld f.payload 2 2
    if s1.get R.TIME_NET_CTL_SRC ≠ 2 ∨ !(s1.laneRole lane == 3 || s1.laneRole lane == 4) ∨ !(st == 2 || st == 3) || decide (15 ≤ hops) || hdrNode f.hdr == s1.nodeByte then .next s1
    else
      let off : Int := (hdrTime f.hdr : Int) + sgn 32 (s1.get1 R.TIME_BEACON_DELAY_DELAY lane) - arrival
      let b := Tab.get Beacon.init s1.time.beacons lane
      .next (s1.withTime (fun x => { x with
        beacons := Tab.set Beacon.init x.beacons lane ⟨hops, fld f.payload 4 4, b.sum + off, b.n + 1⟩ }))

/-- The beacon followed: lowest HOPS, then ERR_NS, then lane. -/
def bestBeacon : List (Nat × Beacon) → Option (Nat × Beacon)
  | [] => none
  | e :: r =>
    match bestBeacon r with
    | none => some e
    | some b =>
      if b.2.hops < e.2.hops ∨ (b.2.hops = e.2.hops ∧ b.2.err < e.2.err) then some b else some e

/-- BEACON_CHOICE (R383): each second with SRC 2, the choice, its mean offset as a correction, an eighth of it into NET_RATE. -/
def execBeaconChoice (t : Nat) (s : State) : Out :=
  let s0 := s.upTo t
  if s0.get R.TIME_NET_CTL_SRC ≠ 2 ∨ (s0.time.choiceAt ≠ 0 ∧ s0.now + 1 < s0.time.choiceAt + secT) then .next s0
  else
    let best := bestBeacon s0.time.beacons
    let s1 := s0.withTime (fun x => { x with beacons := [], choiceAt := s0.now + 1 })
    match best with
    | none => .next (s1.put R.TIME_STATUS_BEACON_HOPS 15)
    | some (lane, b) =>
      let mean : Int := b.sum * 65536 / b.n
      let s2 := (s1.put R.TIME_STATUS_BEACON_LANE lane).put R.TIME_STATUS_BEACON_HOPS b.hops
      let s3 := s2.withTime (fun x => { x with followErr := b.err })
      let rate := usgn 32 (sgn 32 (s3.get R.TIME_NET_RATE_RATE) + mean / 8)
      .next ((s3.put R.TIME_NET_RATE_RATE rate).netDeliver mean)

/-! ## TRIGOUT (R386) -/

def State.trigOut (s : State) (u : Nat) : TrigOut := Tab.get TrigOut.init s.time.trig u
def State.setTrigOut (s : State) (u : Nat) (x : TrigOut) : State :=
  s.withTime (fun t => { t with trig := Tab.set TrigOut.init t.trig u x })

/-- One pulse of a unit at an instant; a single schedule, or the last pulse of a counted one, disarms it. -/
def State.firePulse (s : State) (u at_ : Nat) : State :=
  let x := s.trigOut u
  let fin := at_ + nsToT (10 * s.get1 R.TRIGOUT_CTL_WIDTH u)
  let s1 := (s.emit (.pulse u at_ fin (s.is1 R.TRIGOUT_CTL_POLARITY u))).setTrigOut u { x with next := x.next + x.period, busyTo := fin }
  if !x.periodic then s1.put1 R.TRIGOUT_STATUS_ARMED u 0
  else if x.endless then s1
  else
    let n := s1.get1 R.TRIGOUT_COUNT_COUNT u
    let s2 := s1.put1 R.TRIGOUT_COUNT_COUNT u (n - 1)
    if n ≤ 1 then s2.put1 R.TRIGOUT_STATUS_ARMED u 0 else s2

/-- A schedule began late (R386). -/
def State.trigLate (s : State) (u : Nat) : State := (s.put1 R.TRIGOUT_STATUS_LATE u 1).timeEvt 7

/-- TRIGOUT_ARM (R386). -/
def execTrigoutArm (unit t : Nat) (s : State) : Out :=
  let s0 := s.upTo t
  let u := unit % 4
  let w := s0.get1 R.TRIGOUT_CTL_WIDTH u
  let per := s0.get1 R.TRIGOUT_PERIOD_PERIOD u
  let start := s0.get1 R.TRIGOUT_START_TIME u
  let mode := s0.is1 R.TRIGOUT_CTL_MODE u
  if w = 0 ∨ (mode = true ∧ per * 1000000000 ≤ w * 10 * secT) then .next (s0.bump1 R.TRIGOUT_STATUS_REFUSED u 1)
  else
    let k := if start ≤ s0.now then (s0.now - start) / max 1 per + 1 else 0
    let next := if mode then start + k * per else start
    let s1 := (s0.setTrigOut u ⟨next, mode, if mode then per else 0, s0.get1 R.TRIGOUT_COUNT_COUNT u == 0, (s0.trigOut u).busyTo⟩).put1
      R.TRIGOUT_STATUS_ARMED u 1
    if s0.now < start then .next s1
    else if mode then .next ((s1.bump1 R.TRIGOUT_STATUS_SKIPPED u k).trigLate u)
    else .next ((s1.firePulse u (max s0.now (s0.trigOut u).busyTo)).trigLate u)

/-- TRIGOUT_CANCEL (R386): disarms after the pulse in progress. -/
def execTrigoutCancel (unit : Nat) (s : State) : Out := .next (s.put1 R.TRIGOUT_STATUS_ARMED (unit % 4) 0)

/-- TRIGOUT_PULSE (R385, R386): array time reaches the next instant; one passed by a step fires at once, late. -/
def execTrigoutPulse (unit t : Nat) (s : State) : Out :=
  let s0 := s.upTo t
  let u := unit % 4
  let x := s0.trigOut u
  if !s0.is1 R.TRIGOUT_STATUS_ARMED u || decide (s0.now < x.next) || decide (s0.now < x.busyTo) then .next s0
  else .next (if x.next < s0.now then (s0.firePulse u s0.now).trigLate u else s0.firePulse u x.next)

/-! ## TRIGIN (R387) -/

/-- The registers of the oldest stamp. -/
def State.triginShow (s : State) : State :=
  let (p, x) := s.time.stamps.headD (0, 0)
  ((s.put R.TRIGIN_CTL_COUNT s.time.stamps.length).put R.TRIGIN_CTL_PIN p).put R.TRIGIN_STAMP_TIME x

/-- A stamped edge kept for the external taps that have not yet passed it (R390). -/
def State.tapEdge (s : State) (pin : Nat) : State :=
  if s.cap.run then { s with cap := { s.cap with edges := s.cap.edges ++ [(pin, s.now)] } } else s

/-- TRIGIN_EDGE (R387). -/
def execTriginEdge (pin t : Nat) (s : State) : Out :=
  let s0 := s.upTo t
  let p := pin % 4
  let last := Tab.get 0 s0.time.edgeAt p
  let s1 := s0.withTime (fun x => { x with edgeAt := Tab.set 0 x.edgeAt p (s0.now + 1) })
  if last ≠ 0 ∧ s0.now + 1 < last + nsToT 50 then .next (s1.bump R.TRIGIN_CTL_CLOSE 1)
  else if 32 ≤ s1.time.stamps.length then .next (((s1.tapEdge p).bump R.TRIGIN_CTL_DROPPED 1).timeEvt 9)
  else
    let empty := s1.time.stamps.isEmpty
    let s2 := ((s1.withTime (fun x => { x with stamps := x.stamps ++ [(p, s1.now)] })).triginShow).tapEdge p
    .next (if empty then s2.timeEvt 8 else s2)

/-- TRIGIN_POP (R387). -/
def execTriginPop (s : State) : Out := .next (s.withTime (fun x => { x with stamps := x.stamps.drop 1 })).triginShow

/-! ## The den (R384) -/

/-- DEN_TICK (R384): 320 ns of the den's oscillator. -/
def execDenTick (s : State) : Out :=
  if s.tb ≠ tbDen then .next s
  else
    let n := s.time.denTicks + 1
    .next { s with now := s.time.denBase + n * 320 * secT / 1000000000, time := { s.time with denTicks := n } }

/-- DEN_PPS_EDGE (R384): PPSA (0), or PPSB (1) while PPSA shows none, within 10 µs of the expected instant. -/
def execDenPpsEdge (pps : Nat) (s : State) : Out :=
  let p := pps % 2
  let s0 := if p = 0 then s.withTime (fun x => { x with denA := s.now + 1 }) else s
  let aSeen := s0.time.denA != 0 && decide (s0.now + 1 ≤ s0.time.denA + secT + nsToT 20000)
  let m := nearest s0.now (if p = 0 then s0.time.denOfs.1 else s0.time.denOfs.2)
  let near := decide ((m - s0.now).natAbs ≤ nsToT 10000)
  if s0.tb ≠ tbDen ∨ (p = 1 ∧ aSeen = true) ∨ near = false then .next s0
  else .next { s0 with now := m.toNat, time := { s0.time with denBase := m.toNat, denTicks := 0 } }

/-- Entry to D2 (R378, R384): the den takes the count over. -/
def State.enterDen (s : State) : State :=
  (s.withTime (fun x => { x with
    denBase := s.now, denTicks := 0, denA := 0
    denOfs := (s.get1 R.TIME_REF_OFS_FRACTION 0, s.get1 R.TIME_REF_OFS_FRACTION 1) })).put R.TIME_STATUS_STATE tbDen

/-- A warm reset or D1 (R384): TRIGOUT arming and the TRIGIN queue are cleared. -/
def State.timeWarm (s : State) : State :=
  let s1 := forN 4 (fun u a => a.put1 R.TRIGOUT_STATUS_ARMED u 0) s
  (s1.withTime (fun x => { x with trig := [], stamps := [] })).triginShow

/-- The timebase as a cold reset or a wake leaves it (R375, R384): array time is kept by its caller. -/
def State.timeCold (s : State) : State := (s.withTime (fun _ => TimeState.init)).put R.TIME_STATUS_STATE tbFreerun

end Sys2Proof.Machine
end

