-- ==== Sys2Proof/Machine/Capture.lean ====
section
/-!
DEFINITION. Trigger units and capture streams (R58, R174 to R178, R390 to R407).
-/

namespace Sys2Proof.Machine

def State.withCap (s : State) (f : CapState → CapState) : State := { s with cap := f s.cap }

def State.unit (s : State) (u : Nat) : TrigUnit := Tab.get TrigUnit.init s.cap.units u
def State.setUnit (s : State) (u : Nat) (x : TrigUnit) : State := s.withCap (fun c => { c with units := Tab.set TrigUnit.init c.units u x })
def State.stream (s : State) (k : Nat) : CapStream := Tab.get CapStream.init s.cap.streams k
def State.setStream (s : State) (k : Nat) (x : CapStream) : State :=
  s.withCap (fun c => { c with streams := Tab.set CapStream.init c.streams k x })

/-- Samples of a span. -/
def State.capT (s : State) : Nat := max 1 (tOf s.draft.struct)

/-- The ring regions of the streams, in stream order (R397). -/
def State.rings (s : State) : List Region := s.place.regions.filter (fun r => r.use == 4)

/-- The running streams. -/
def State.capStreams (s : State) : List Nat := if s.cap.run then List.range (min 16 s.rings.length) else []

/-- Causes of a unit and of a stream (R407). -/
def State.trigEvt (s : State) (f : Field) (u : Nat) : State := s.cause1 f u 0 (0x0E0 + u)

/-! ## Configurations (R391, R398) -/

/-- The registers of a unit's and of a stream's configuration, written as pending (R391, R398). -/
def trigFields : List Field := [R.TRIG_CTL_KIND, R.TRIG_CTL_SHIFT, R.TRIG_CTL_IMAG, R.TRIG_CTL_PIN, R.TRIG_CTL_STREAMS, R.TRIG_SRC_INDEX,
  R.TRIG_CHAN_FIRST, R.TRIG_CHAN_NCHM1]
def capFields : List Field := [R.CAP_CTL_SOURCE, R.CAP_CTL_UNIT, R.CAP_CTL_GROUP, R.CAP_CTL_DEST_EN, R.CAP_CTL_DEST, R.CAP_CHAN_FIRST,
  R.CAP_CHAN_NCHM1]

/-- What stands in them is applied: unit `k`, or stream `k` - 16. -/
def State.capApplied (s : State) (fs : List Field) (i k : Nat) : State :=
  s.withCap (fun c => { c with applied := Tab.set [] c.applied k (fs.map (fun f => s.get1 f i)) })

/-- Pending writes discarded (R406): the registers hold what was last applied. -/
def State.capDiscard (s : State) (fs : List Field) (pend : Field) (i k : Nat) : State :=
  if s.is1 pend i then
    let old := Tab.get [] s.cap.applied k
    (((List.range fs.length).zip fs).foldl (fun (a : State) f => a.put1 f.2 i (old.getD f.1 f.2.rst)) s).put1 pend i 0
  else s

/-- Is a configuration one under which tap samples are evaluated? -/
def TapCfg.live (c : TapCfg) : Bool := c.kind != 0 && !c.mach.isEmpty

/-- Does a tap exist in a structure (R391)? -/
def tapOk (l : List Item) (node : Nat) (c : TapCfg) : Bool :=
  let regular := (List.range c.nch).all (fun k => decide (c.first + k < fineChannels l) && zoomRatio l (c.first + k) == 1)
  match c.kind with
  | 0 => true
  | 1 => slotEnabled l c.idx && (!hasWide l || bit (classedSlots l) c.idx) && regular
  | 2 | 3 =>
    let p := plyBody l (bmPly (beamBody l c.idx))
    c.nch == 1 && !(beamBody l c.idx).isEmpty && plyLocal node p && regular &&
      decide (plyFirst p ≤ c.first ∧ c.first < plyFirst p + plyNfine p)
  | 4 => true
  | _ => false

/-- The configuration that applies to a span: the last that starts at or before its first sample. -/
def cfgAt (cs : List TapCfg) (m : Nat) : Option TapCfg := (cs.filter (fun c => decide (c.start ≤ m))).getLast?

/-- A unit enters its START state with every detector and timer cleared (R391, R393). -/
def State.unitEnter (s : State) (u n : Nat) (cs : List TapCfg) : State :=
  let st := byteAt ((cs.headD ⟨0, 0, 0, 0, 0, 0, false, 0, 0, [], false⟩).mach) 8 % 16
  (s.setUnit u { n := n, cfgs := cs, st := st, timer := n, dets := List.replicate 4 (none, none), hist := [] }).put1 R.TRIG_STATUS_STATE u st

/-- Configurations that are over are left behind, and those that start at sample `n` come into force. -/
def cfgSkip (n : Nat) : List TapCfg → List TapCfg
  | c :: d :: r => if !c.live || decide (d.start ≤ n) then cfgSkip (max n d.start) (d :: r) else c :: d :: r
  | cs => cs

/-- A new configuration from span start `m` on. -/
def State.unitApply (s : State) (u : Nat) (c : TapCfg) : State :=
  let x := s.unit u
  let cs := x.cfgs ++ [c]
  let s1 := (s.put1 R.TRIG_STATUS_KIND u c.kind).put1 R.TRIG_STATUS_RUN u (b2n c.live)
  if (x.cfgs.any TapCfg.live) then s1.setUnit u { x with cfgs := cs } else s1.unitEnter u c.start [c]

/-- A unit at the start of a span (R391, R406): pending writes, a patch of its machine and a source that is gone apply. -/
def State.unitSpan (s : State) (u span : Nat) : State :=
  let l := s.structAt span
  let mach := trigBody l u
  let last := (s.unit u).cfgs.getLast?
  let pend := s.is1 R.TRIG_STATUS_PENDING u || last.isNone
  let base : TapCfg := if pend then
      ⟨0, s.get1 R.TRIG_CTL_KIND u, s.get1 R.TRIG_SRC_INDEX u, s.get1 R.TRIG_CHAN_FIRST u, s.get1 R.TRIG_CHAN_NCHM1 u + 1,
       s.get1 R.TRIG_CTL_SHIFT u, s.is1 R.TRIG_CTL_IMAG u, s.get1 R.TRIG_CTL_PIN u, s.get1 R.TRIG_CTL_STREAMS u, [], false⟩
    else last.getD ⟨0, 0, 0, 0, 0, 0, false, 0, 0, [], false⟩
  let ok := tapOk l s.node base
  let lastMach := (last.map (·.mach)).getD []
  if !pend && ok && mach == lastMach then s
  else
    let kind := if ok then base.kind else 0
    let s1 := if ok then s else s.trigEvt R.TRIG_EVT_TAP_INVALID u
    ((if pend then s1.capApplied trigFields u u else s1).put1 R.TRIG_STATUS_PENDING u 0).unitApply u
      { base with start := span * s.capT, kind := kind, mach := mach, bad := !ok || base.bad }

/-- The slots of a stream's group, and SPS of SOURCE 2 (R398). -/
def groupSps (l : List Item) (g nch : Nat) : Nat := sumN (groupSlots l g) (fun x => nch * operandBytes l x)

/-- Are the units of the configurations valid, and does a stream's configuration keep the rules (R398)? -/
def State.capOk (s : State) (l : List Item) (c : CapCfg) : Bool :=
  match c.source with
  | 0 => true
  | 1 => !(((s.unit c.unit).cfgs.getLast?.map (·.bad)).getD true)
  | 2 =>
    let g := groupSlots l c.group
    !g.isEmpty && g.all (fun x => slotEnabled l x && (!hasWide l || bit (classedSlots l) x)) && decide (c.sps ≤ 2008) &&
      (List.range c.nch).all (fun k => decide (c.first + k < fineChannels l) && zoomRatio l (c.first + k) == 1)
  | _ => false

/-! ## Records (R399 to R403) -/

/-- Bytes of records, and of a stream's data area (R402). -/
def recBytes (l : List CapRec) : Nat := sumN l (fun r => r.bytes.length)
def ctlArea : Nat := 262144
def dataArea : Nat := 1835008

/-- Bytes that a stream's data uses, the open record included; and those that records of a full control queue leave it. -/
def CapStream.dataUsed (x : CapStream) : Nat :=
  recBytes x.closed + match x.data with
    | none => 0
    | some (_, n, sps, _) => 32 + roundUp (n * sps) 8
def CapStream.dataRoom (x : CapStream) : Nat := dataArea - (recBytes x.ctl - ctlArea)

/-- A control record (R401 to R403): TYPE, LEN 4, and the rest from byte 2. -/
def ctlRec (type : Nat) (b : List Byte) : CapRec := ⟨padTo 32 (leBytes 1 type ++ leBytes 1 4 ++ b), 0, 0⟩

/-- A GAP record (R402). -/
def State.gapRec (s : State) (causes n first : Nat) : CapRec :=
  ctlRec 3 (leBytes 1 causes ++ zeros 1 ++ leBytes 4 n ++ leBytes 8 (s.fineTime s.draft.struct first) ++ leBytes 8 first)

/-- Samples lost (R402): the pending gap grows. -/
def State.gapAdd (s : State) (k cause n first : Nat) : State :=
  let x := s.stream k
  let g := match x.gap with
    | none => (cause, n, first)
    | some (c, m, f) => (orN 3 c cause, m + n, min f first)
  ((s.setStream k { x with gap := some g }).bump1 R.CAP_GAP_SAMPLES_COUNT k n).trigEvt R.CAP_EVT_GAP k

/-- The newest data records displaced until the data area fits its room (R402). -/
def State.displace (k : Nat) : Nat → State → State
  | 0, s => s
  | f + 1, s =>
    let x := s.stream k
    if x.dataUsed ≤ x.dataRoom then s
    else
      match x.data with
      | some (first, n, _, _) => State.displace k f ((s.setStream k { x with data := none }).gapAdd k 1 n first)
      | none =>
        match x.closed.getLast? with
        | none => s
        | some r => State.displace k f ((s.setStream k { x with closed := x.closed.dropLast }).gapAdd k 1 r.count r.first)

/-- A GAP, WITHDRAWAL, SETTLED or CONFIG record queued: past a full control queue it takes space of the data area (R402). -/
def State.ctlPut (s : State) (k : Nat) (r : CapRec) : State :=
  let x := s.stream k
  State.displace k (x.closed.length + 2) (s.setStream k { x with ctl := x.ctl ++ [r] })

/-- The pending gap closed: its record is queued (R402). -/
def State.gapClose (s : State) (k : Nat) : State :=
  let x := s.stream k
  match x.gap with
  | none => s
  | some (c, n, f) => (s.setStream k { x with gap := none }).ctlPut k (s.gapRec c n f)

/-- The open DATA record closed (R400). -/
def State.dataClose (s : State) (k : Nat) : State :=
  let x := s.stream k
  match x.data with
  | none => s
  | some (first, n, sps, d) =>
    let body := padTo (roundUp (n * sps) 8) d
    let hdr := leBytes 1 1 ++ leBytes 1 (4 + body.length / 8) ++ leBytes 2 n ++ leBytes 2 sps ++ zeros 2 ++
      leBytes 8 (s.fineTime s.draft.struct first) ++ leBytes 8 first ++ zeros 8
    s.setStream k { x with data := none, closed := x.closed ++ [⟨hdr ++ body, first, n⟩] }

/-! ## Writing (R404, R405) -/

/-- A record that is written enters the frame queue of a stream that copies its records (R405). -/
def CapStream.frameIn (x : CapStream) (now : Nat) (d : List Byte) : CapStream :=
  match (x.cfgs.getLast?.bind (·.dest)) with
  | none => x
  | some e => { x with fq := x.fq ++ [(x.off, now, e, d)] }

/-- PAD records for `w` words, at most 255 each. -/
def padRecs (w : Nat) : List (List Byte) :=
  (chunks 255 (List.replicate w ())).map (fun c => padTo (8 * c.length) (leBytes 1 7 ++ leBytes 1 c.length))

/-- One record written at the stream's offset; the status. -/
def State.ringWrite (s : State) (k : Nat) (r : Region) (d : List Byte) : State × Nat :=
  let x := s.stream k
  let (s1, st) := s.storeWrite (16 + k) (r.base + x.off % max 1 r.size) d
  if st = stOk then (s1.setStream k { ((s1.stream k).frameIn s1.now d) with off := x.off + d.length }, st) else (s1, st)

/-- PAD records up to the ring's end, until one is refused. -/
def State.ringPad (k : Nat) (r : Region) : List (List Byte) → State → State × Nat
  | [], s => (s, stOk)
  | d :: ds, s =>
    let (s1, st) := s.ringWrite k r d
    if st = stOk then State.ringPad k r ds s1 else (s1, st)

/-- A record with the padding before it. -/
def State.ringPut (s : State) (k : Nat) (r : Region) (d : List Byte) : State × Nat :=
  let left := r.size - (s.stream k).off % max 1 r.size
  let (s1, st) := if left < d.length then State.ringPad k r (padRecs (left / 8)) s else (s, stOk)
  if st = stOk then s1.ringWrite k r d else (s1, st)

/-- Records of a stream written while no more than 256 KiB lie beyond CAP_WPTR (R404): the control queue first, then data. A
refused data record is lost (R402); a refused control record waits for its retry (R177, R368). -/
def State.capDrain (k : Nat) : Nat → State → State
  | 0, s => s
  | f + 1, s =>
    let x := s.stream k
    match s.rings[k]? with
    | none => s
    | some r =>
      if x.blocked then s
      else
        let ahead := fun (d : CapRec) => x.off + d.bytes.length + (if r.size < x.off % max 1 r.size + d.bytes.length then
            r.size - x.off % max 1 r.size else 0) - s.get1 R.CAP_WPTR_OFFSET k
        match x.ctl, x.closed with
        | c :: cs, _ =>
          if ctlArea < ahead c then s
          else
            let (s0, st) := s.ringPut k r c.bytes
            let s1 := s0.noteRetry (16 + k) r.base r.size (st != stOk)
            let s2 := if st = stOk ∧ byteAt c.bytes 0 = 4 then (s1.bump R.WITHDRAW_WRITTEN_COUNT 1).foxEvt 5 else s1
            if st = stOk then State.capDrain k f (s2.setStream k { s2.stream k with ctl := cs })
            else s1.setStream k { s1.stream k with blocked := true }
        | [], d :: ds =>
          if ctlArea < ahead d then s
          else
            let (s1, st) := s.ringPut k r d.bytes
            let s2 := s1.setStream k { s1.stream k with closed := ds }
            State.capDrain k f (if st = stOk then s2 else s2.gapAdd k (if st = stShed then 2 else 4) d.count d.first)
        | [], [] => s

/-- All that a stream may write now. -/
def State.drainOnce (s : State) (k : Nat) : State :=
  let x := s.stream k
  State.capDrain k (x.ctl.length + x.closed.length) s

/-- All that a stream may write now; a gap that this opens in a span already settled is closed at once, for its span has ended (R402). -/
def State.drain (s : State) (k : Nat) : State :=
  let s1 := s.drainOnce k
  match (s1.stream k).gap with
  | none => s1
  | some (_, _, f) => if f / s.capT < (s1.stream k).settled then (s1.gapClose k).drainOnce k else s1

/-- The configuration of a stream that a sample falls under. -/
def capCfgAt (cs : List CapCfg) (m : Nat) : Option CapCfg := (cs.filter (fun c => decide (c.start ≤ m))).getLast?

/-- Samples of fine sample `n` enter a stream's data (R400, R402). -/
def State.capStore (s : State) (k n : Nat) (d : List Byte) : State :=
  let sps := d.length
  let x := s.stream k
  let s1 := match x.data with
    | some (f, m, w, _) => if f + m = n ∧ w = sps then s else s.dataClose k
    | none => s
  let y := s1.stream k
  let used := recBytes y.closed + match y.data with
    | none => 32 + roundUp sps 8
    | some (_, m, _, _) => 32 + roundUp ((m + 1) * sps) 8
  let s2 :=
    if y.dataRoom < used then s1.gapAdd k 1 1 n
    else
      let s3 := s1.gapClose k
      let z := s3.stream k
      let (f, m, b) := match z.data with
        | none => (n, 0, [])
        | some (f, m, _, b) => (f, m, b)
      let s4 := s3.setStream k { z with data := some (f, m + 1, sps, b ++ d) }
      if m + 1 = 2008 / max 1 sps then s4.dataClose k else s4
  let s5 := if (n + 1) % s.capT = 0 then (s2.dataClose k).gapClose k else s2
  s5.drain k

/-- Bytes of fine sample `n` of a stream's group (R398): none while a slot has not pushed it. -/
def State.groupBytes (s : State) (l : List Item) (c : CapCfg) (n : Nat) : Option (List Byte) :=
  (groupSlots l c.group).foldl (fun (acc : Option (List Byte)) x =>
    (List.range c.nch).foldl (fun (a : Option (List Byte)) ch =>
      match a, Tab.get 0 s.cap.fine ((n * 16384 + (c.first + ch)) * 4096 + x) with
      | some b, v + 1 => some (b ++ leBytes (operandBytes l x) v)
      | _, _ => none) acc) (some [])

/-- The fine samples that SOURCE 2 streams have not had yet and that are all pushed, taken into them; fuelled. -/
def State.capPullK (k : Nat) : Nat → State → State
  | 0, s => s
  | f + 1, s =>
    let x := s.stream k
    match capCfgAt x.cfgs x.n with
    | none => s
    | some c =>
      let cs := x.cfgs.map (fun (e : CapCfg) => if e.source = 2 ∧ e.start < c.start then { e with source := 0 } else e)
      if c.source = 2 then
        match s.groupBytes (s.structAt (x.n / s.capT)) c x.n with
        | none => s.setStream k { x with cfgs := cs }
        | some d => State.capPullK k f ((s.setStream k { x with n := x.n + 1, cfgs := cs }).capStore k x.n d)
      else
        match x.cfgs.find? (fun d => decide (x.n < d.start)) with
        | none => s
        | some d => State.capPullK k f (s.setStream k { x with n := d.start, cfgs := cs })

/-- Fine and beam samples that no unit or stream needs any more are dropped. -/
def State.capPrune (s : State) : State :=
  let wants := fun (ks : List Nat) => (s.cap.units.filterMap (fun u =>
    if u.2.cfgs.any (fun c => ks.contains c.kind) then some u.2.n else none))
  let lowF := wants [1] ++ s.cap.streams.filterMap (fun x => if x.2.cfgs.any (fun c => c.source == 2) then some x.2.n else none)
  let lowB := wants [2, 3]
  let keep := fun (low : List Nat) (key : Nat) => low.any (fun n => decide (n ≤ key / 67108864))
  let edge := fun (e : Nat × Nat) => s.cap.units.any (fun u => u.2.cfgs.any (fun c =>
    c.kind == 4 && c.pin == e.1 && decide (s.fineTime s.draft.struct u.2.n ≤ e.2)))
  s.withCap (fun c => { c with
    fine := c.fine.filter (fun e => keep lowF e.1), beam := c.beam.filter (fun e => keep lowB e.1), edges := c.edges.filter edge })

/-- Every stream takes what the corner turn has given it. -/
def State.capPull (s : State) : State :=
  if s.cap.run then (s.capStreams.foldl (fun a k => State.capPullK k (a.cap.fine.length + 4) a) s).capPrune else s

/-- BLK (R201 to R206): closes the current block; the streams take its fine samples (R390, R398). -/
def execBlk (spin t : Nat) (s : State) : Out :=
  .next (s.blkStep spin t).capPull

/-! ## Streams at a span's start -/

/-- A stream at the start of a span (R398, R402, R403, R405): its gap closes; a pending write applies, and one whose source, sample size or
destination the structure changes applies again. -/
def State.streamSpan (s0 : State) (k span : Nat) : State :=
  let s := (s0.gapClose k).drain k
  let l := s.structAt span
  let x := s.stream k
  let last := x.cfgs.getLast?
  let pend := s.is1 R.CAP_STATUS_PENDING k || last.isNone
  let unit := s.get1 R.CAP_CTL_UNIT k
  let group := s.get1 R.CAP_CTL_GROUP k
  let nch := s.get1 R.CAP_CHAN_NCHM1 k + 1
  let wantDest := s.is1 R.CAP_CTL_DEST_EN k
  let old : CapCfg := last.getD ⟨0, 0, 0, 0, 0, 0, 0, none⟩
  let asked : CapCfg := if pend then
      ⟨0, s.get1 R.CAP_CTL_SOURCE k, unit, group, s.get1 R.CAP_CHAN_FIRST k, nch, 0, if wantDest then some (s.get1 R.CAP_CTL_DEST k) else none⟩
    else old
  let destOk := asked.dest.all (fun d => !(destBody l d).isEmpty && destKind (destBody l d) == 0)
  let base : CapCfg := { asked with
    sps := if asked.source = 1 then 4 else if asked.source = 2 then groupSps l asked.group asked.nch else 0
    dest := if destOk then asked.dest else none }
  let ok := s.capOk l base
  if !pend && ok && destOk && base.sps == old.sps then s
  else
    let c : CapCfg := { base with start := span * s.capT, source := if ok then base.source else 0, sps := if ok then base.sps else 0 }
    let s1 := (if pend then s.capApplied capFields k (16 + k) else s).setStream k { x with cfgs := x.cfgs ++ [c] }
    let s2 := ((s1.put1 R.CAP_STATUS_PENDING k 0).put1 R.CAP_STATUS_SOURCE k c.source).put1 R.CAP_STATUS_SPS k c.sps
    let s3 := if ok && destOk then s2 else s2.trigEvt R.CAP_EVT_CONFIG_INVALID k
    (s3.ctlPut k (ctlRec 6 (leBytes 1 c.source ++ leBytes 1 c.unit ++ leBytes 1 c.group ++ zeros 1 ++ leBytes 2 c.sps ++
      leBytes 2 c.first ++ leBytes 2 c.nch ++ zeros 4 ++ leBytes 8 c.start ++ leBytes 8 (s.get R.DRAFT_SERIAL_SERIAL)))).drain k

/-- TRIG and CAP at the start of span `span` (R391, R398, R406). -/
def State.capSpan (s : State) (span : Nat) : State :=
  if !s.cap.run then s
  else
    let s1 := forN 16 (fun u a => a.unitSpan u span) s.capPull
    s1.capStreams.foldl (fun a k => a.streamSpan k span) s1

/-- Units and streams begin with a Draft at its first span (R391, R394, R397, R404). -/
def State.capStart (s : State) (span : Nat) : State :=
  let m := span * s.capT
  let s0 := s.withCap (fun _ => { CapState.init with run := true, applied := s.cap.applied })
  let s1 := forN 16 (fun u a => a.put1 R.TRIG_MSEQ_NEXT u 0) s0
  let s2 := ((List.range 16).zip s1.rings).foldl (fun (a : State) kr =>
    (((a.setStream kr.1 { CapStream.init with n := m, settled := span }).put1 R.CAP_STATUS_RUN kr.1 1).put1
      R.CAP_STATUS_REGION kr.1 kr.2.num).put1 R.CAP_WPTR_OFFSET kr.1 0) s1
  s2.capSpan span

/-- Units and streams stop (R406): staging is discarded. -/
def State.capStop (s : State) : State :=
  forN 16 (fun k a => (((((a.put1 R.TRIG_STATUS_RUN k 0).put1 R.TRIG_STATUS_KIND k 0).put1 R.TRIG_STATUS_STATE k 0).put1
    R.CAP_STATUS_RUN k 0).put1 R.CAP_STATUS_SOURCE k 0).put1 R.CAP_STATUS_SPS k 0) (s.withCap (fun c => { CapState.init with applied := c.applied }))

/-- A reset, D1 or D2 (R406): pending writes are discarded too. -/
def State.capReset (s : State) : State :=
  forN 16 (fun k a => (a.capDiscard trigFields R.TRIG_STATUS_PENDING k k).capDiscard capFields R.CAP_STATUS_PENDING k (16 + k)) s.capStop

/-! ## Tap samples (R390 to R395) -/

/-- Fields of a machine (R58): parameter `p` as LOW, HIGH, A, B; transition `i` of state `st`. -/
def machParam (b : List Byte) (p : Nat) : Int × Int × Nat × Nat :=
  (fldI b (16 + 16 * p) 4, fldI b (20 + 16 * p) 4, fld b (24 + 16 * p) 4, fld b (28 + 16 * p) 4)
def machTrans (b : List Byte) (st i : Nat) : Nat := fld b (80 + 4 * (4 * st + i)) 4

/-- The first stamp at or after the time of fine sample `m` (R24, R387). -/
def State.fineCeil (s : State) (l : List Item) (m : Nat) : Nat :=
  ((s.draft.t0 : Int) - (((s.firstFine : Int) - (m : Int) : Int) * fineQ l * 4294967296 : Rat).floor).toNat

/-- A tap value before its shift (R390); none while its sample is not there. -/
def State.tapRaw (s : State) (c : TapCfg) (n : Nat) : Option Int :=
  match c.kind with
  | 1 =>
    let l := s.structAt (n / s.capT)
    let w := operandBytes l c.idx
    (List.range c.nch).foldl (fun (acc : Option Int) ch =>
      match acc, Tab.get 0 s.cap.fine ((n * 16384 + (c.first + ch)) * 4096 + c.idx) with
      | some a, v + 1 =>
        let q := operandAt w 0 (leBytes w v)
        some (a + q.1 * q.1 + q.2 * q.2)
      | _, _ => none) (some 0)
  | 2 => (Tab.get none s.cap.beam ((n * 16384 + c.first) * 4096 + c.idx)).map (fun y => y.1 * y.1 + y.2 * y.2)
  | 3 => (Tab.get none s.cap.beam ((n * 16384 + c.first) * 4096 + c.idx)).map (fun y => if c.imag then y.2 else y.1)
  | 4 =>
    let l := s.structAt (n / s.capT)
    let fin := s.fineCeil l (n + 1)
    if s.now < fin then none
    else some (if s.cap.edges.any (fun e => e.1 == c.pin && decide (s.fineCeil l n ≤ e.2 ∧ e.2 < fin)) then 1 else 0)
  | _ => none

/-- Tap value v[n] (R390). -/
def State.tapValue (s : State) (c : TapCfg) (n : Nat) : Option Int :=
  (s.tapRaw c n).map (fun x => satI 32 (x / (2 ^ c.shift : Int)))

/-- What a parameter set's detectors give at a sample (R392): the width of a pulse that ends, of a runt that ends. -/
structure Ends where
  pulse : Option Nat
  runt : Option Nat
deriving DecidableEq, Repr

/-- The pulse and runt detectors of a parameter set with one sample (R392). -/
def detStep (low high v : Int) (n : Nat) (d : Option Nat × Option (Nat × Bool)) : (Option Nat × Option (Nat × Bool)) × Ends :=
  let (p, pe) : Option Nat × Option Nat := match d.1 with
    | some a => if v < low then (none, some (n - a)) else (some a, none)
    | none => (if high ≤ v then some n else none, none)
  let (r, re) : Option (Nat × Bool) × Option Nat := match d.2 with
    | some (a, hit) => if v < low then (none, if hit then none else some (n - a)) else (some (a, hit || decide (high ≤ v)), none)
    | none => (if low ≤ v then some (n, decide (high ≤ v)) else none, none)
  ((p, r), ⟨pe, re⟩)

/-- Is a condition true (R58, R392)? And the width that a mark reports (R401). -/
def condTrue (cond : Nat) (par : Int × Int × Nat × Nat) (e : Ends) (n timer : Nat) (v : Int) (hist : List Int) : Bool × Nat :=
  let (low, high, a, b) := par
  match cond with
  | 1 => (true, 0)
  | 2 => match e.pulse with
    | some w => (decide (a ≤ w ∧ w ≤ b), w)
    | none => (false, 0)
  | 3 => match e.pulse with
    | some w => (decide (w < a ∨ b < w), w)
    | none => (false, 0)
  | 4 => match e.runt with
    | some w => (decide (a ≤ w), w)
    | none => (false, 0)
  | 5 => (decide (n = timer + a), 0)
  | 6 =>
    let d := v - hist.getD a 0
    (decide (high ≤ d ∨ d ≤ low), 0)
  | 7 => (decide (high < v), 0)
  | 8 => (decide (v < low), 0)
  | _ => (false, 0)

/-- Samples that the slew history must hold: the largest A, at most 4,096. -/
def slewDepth (b : List Byte) : Nat := 1 + (List.range 4).foldl (fun m p => max m (min 4096 (machParam b p).2.2.1)) 0

/-- A mark placed on sample `n` (R394, R401): its record goes into the streams of the unit. -/
def State.placeMark (s : State) (u : Nat) (x : TrigUnit) (c : TapCfg) (n width st trans cond : Nat) (event : Bool) : State :=
  let t := s.capT
  let lo := max x.timer (n - 65535)
  let spec := (List.range (n / t + 1 - lo / t)).any (fun k => !s.isFinal (lo / t + k))
  let mseq := s.get1 R.TRIG_MSEQ_NEXT u
  let time := s.fineTime (s.structAt (n / t)) n
  let ks := s.capStreams.filter (bit c.streams)
  let r := ctlRec 2 (leBytes 2 u ++ leBytes 4 mseq ++ leBytes 8 time ++ leBytes 4 width ++ leBytes 1 st ++
    leBytes 1 (trans + 16 * cond) ++ leBytes 1 (b2n spec + 2 * b2n event) ++ zeros 1 ++ leBytes 8 n)
  let s1 := (s.put1 R.TRIG_MSEQ_NEXT u (mseq + 1)).withCap (fun cp => { cp with
    marks := cp.marks ++ [⟨u, mseq, n, lo, time, c.kind, c.idx, c.first, c.nch, ks, false⟩] })
  let s2 := ks.foldl (fun (a : State) k =>
    let y := a.stream k
    if recBytes y.ctl + 32 ≤ ctlArea then (a.setStream k { y with ctl := y.ctl ++ [r] }).drain k
    else (a.bump1 R.CAP_LOSS_MARKS_LOST k 1).trigEvt R.CAP_EVT_MARK_LOST k) s1
  if event then s2.trigEvt R.TRIG_EVT_MARK_EVT u else s2

/-- One tap sample (R394). -/
def State.tapStep (s : State) (u : Nat) (c : TapCfg) (v : Int) : State :=
  let x := s.unit u
  let n := x.n
  let b := c.mach
  let pars := (List.range 4).map (machParam b)
  let ds := (pars.zip x.dets).map (fun d => detStep d.1.1 d.1.2.1 v n d.2)
  let hist := (v :: x.hist).take (slewDepth b)
  let tr := (List.range 4).map (fun i =>
    let e := machTrans b x.st i
    let p := bits e 4 2
    let r := condTrue (e % 16) (pars.getD p (0, 0, 0, 0)) ((ds.map (·.2)).getD p ⟨none, none⟩) n x.timer v hist
    (i, e, r.1, r.2))
  let x1 := { x with n := n + 1, dets := ds.map (·.1), hist := hist }
  let s1 : State := match tr.find? (fun y => y.2.2.1) with
    | none => s.setUnit u x1
    | some (i, e, _, w) =>
      let next := bits e 8 4
      let act := bits e 12 4
      let restart := decide (act = 3) || (next == byteAt b 8 % 16 && x.st != next)
      let s2 := if act = 1 ∨ act = 2 then s.placeMark u x c n w x.st i (e % 16) (act = 2) else s
      (s2.setUnit u { x1 with st := next, timer := if restart then n else x.timer }).put1 R.TRIG_STATUS_STATE u next
  -- the streams that carry the unit's values
  let s3 : State := s1.capStreams.foldl (fun (a : State) k =>
    match capCfgAt (a.stream k).cfgs n with
    | some cc => if cc.source = 1 ∧ cc.unit = u then a.capStore k n (leBytes 4 (usgn 32 v)) else a
    | none => a) s1
  let y := s3.unit u
  let cs := cfgSkip y.n y.cfgs
  if cs = y.cfgs then s3
  else s3.unitEnter u (max y.n ((cs.headD c).start)) cs

/-- TAP_SAMPLE (R390, R394): a unit evaluates its next tap sample, if it is available and no later than a STOP's last span. -/
def execTapSample (unit t : Nat) (s : State) : Out :=
  let s0 := s.upTo t
  let x := s0.unit unit
  match x.cfgs with
  | [] => .next s0
  | c :: _ =>
    let past := match s0.draft.stopSpan with
      | none => false
      | some e => decide (e < x.n / s0.capT)
    if !s0.cap.run || !c.live || past then .next s0
    else
      match s0.tapValue c x.n with
      | none => .next s0
      | some v => .next (s0.tapStep unit c v).capPrune

/-! ## Withdrawal and settling (R174 to R177, R395) -/

/-- The excluded source of a mark's evidence that comes first in a span not yet settled in every stream that holds the mark (R176): its
span, classes, SOURCE, whether a stale record alone is the cause. -/
def State.markCause (s : State) (m : Mark) : Option (Nat × Nat × Nat × Bool) :=
  let t := s.capT
  (List.range (m.n / t + 1 - m.lo / t)).findSome? (fun k =>
    let span := m.lo / t + k
    let l := s.structAt span
    let (slots, chans) : List Nat × List Nat := match m.kind with
      | 1 => ([m.idx], (List.range m.nch).map (· + m.first))
      | 2 | 3 => (beamSlots l m.idx, [m.first])
      | _ => ([], [])
    let now := slots.foldl (fun a x => chans.foldl (fun a c => orN 16 a (s.causes span c x)) a) 0
    let old := slots.any (s.stale [span])
    let settled := !m.streams.isEmpty && m.streams.all (fun k => decide (span < (s.stream k).settled))
    if settled || (now = 0 ∧ !old) then none
    else some (span, if old then orN 16 now 64 else now, m.idx, decide (now = 0)))

/-- Has a mark been withdrawn wherever it can be? -/
def Mark.gone (m : Mark) : Bool := m.withdrawn && m.streams.isEmpty

/-- WITHDRAWAL_WRITE (R174 to R176, R395): the oldest mark with an excluded source is withdrawn in every stream that holds it and has
not settled the source's span. It is counted once. -/
def execWithdrawalWrite (t : Nat) (s : State) : Out :=
  let s0 := s.upTo t
  match s0.cap.marks.findSome? (fun m => if m.gone then none else (s0.markCause m).map (fun c => (m, c))) with
  | none => .next s0
  | some (m, span, cl, src, late) =>
    let r := ctlRec 4 (leBytes 2 m.unit ++ leBytes 4 m.mseq ++ leBytes 8 m.time ++ leBytes 2 cl ++ leBytes 2 src ++
      leBytes 1 (b2n (decide (m.kind ≠ 1)) + 2 * b2n late) ++ zeros 3 ++ leBytes 8 span)
    let ks := m.streams.filter (fun k => decide ((s0.stream k).settled ≤ span))
    let s1 := s0.withCap (fun c => { c with marks := c.marks.map (fun (x : Mark) =>
      if x = m then { x with withdrawn := true, streams := x.streams.filter (fun k => !ks.contains k) } else x) })
    let s2 := ks.foldl (fun a k => (a.ctlPut k r).drain k) s1
    if m.withdrawn then .next s2 else .next ((s2.bump1 R.TRIG_WITHDRAWN_COUNT m.unit 1).trigEvt R.TRIG_EVT_WITHDRAWN m.unit)

/-- Has a unit evaluated every tap sample whose sources lie in a span (R176)? -/
def State.unitDone (s : State) (u span : Nat) : Bool :=
  let x := s.unit u
  decide ((span + 1) * s.capT ≤ x.n) ||
    match cfgAt x.cfgs (span * s.capT) with
    | none => true
    | some c => !c.live || c.kind == 4

/-- May a stream's next SETTLED record be written (R176, R178)? -/
def State.mayRecord (s : State) (k : Nat) : Bool :=
  let span := (s.stream k).settled
  s.isFinal span &&
    (match s.draft.stopSpan with
      | none => true
      | some e => decide (span ≤ e)) &&
    (List.range 16).all (fun u => !(s.unit u).cfgs.any (fun c => bit c.streams k) || s.unitDone u span) &&
    s.cap.marks.all (fun m => !m.streams.contains k ||
      match s.markCause m with
      | none => true
      | some c => decide (span ≠ c.1))

/-- Marks whose evidence lies wholly in spans settled in all their streams are decided (R176); a mark that no stream holds is
decided when its spans are final. -/
def State.pruneMarks (s : State) : State :=
  s.withCap (fun c => { c with marks := c.marks.filter (fun m =>
    if m.streams.isEmpty then !m.withdrawn && (!s.isFinal (m.n / s.capT) || (s.markCause m).isSome)
    else m.streams.any (fun k => decide ((s.stream k).settled ≤ m.n / s.capT))) })

/-- SETTLED_WRITE (R176): the record of each running stream's next span, where it is due. -/
def execSettledWrite (t : Nat) (s : State) : Out :=
  let s0 := s.upTo t
  .next ((s0.capStreams.foldl (fun (a : State) k =>
    if a.mayRecord k then
      let a := match (a.stream k).gap with
        | none => a
        | some (_, _, f) => if f / a.capT ≤ (a.stream k).settled then a.gapClose k else a
      let x := a.stream k
      let r : CapRec := ⟨leBytes 1 5 ++ leBytes 1 2 ++ zeros 6 ++ leBytes 8 x.settled, 0, 0⟩
      ((a.setStream k { x with settled := x.settled + 1 }).ctlPut k r).drain k
    else a) s0).pruneMarks)

/-- Withdrawal and SETTLED records still owed for spans up to `last`, or not yet written (R178). -/
def State.capOwes (s : State) (last : Nat) : Bool :=
  s.capStreams.any (fun k =>
    let x := s.stream k
    decide (x.settled ≤ last) || !x.ctl.isEmpty || x.gap.isSome)

/-- CAP_WPTR_ADVANCE (R404): what is written is visible, and CAP_WPTR moves to its end. -/
def execCapWptrAdvance (stream t : Nat) (s : State) : Out :=
  let s0 := s.upTo t
  if !s0.capStreams.contains stream then .next s0
  else .next ((s0.put1 R.CAP_WPTR_OFFSET stream (s0.stream stream).off).drain stream)

/-! ## Capture frames (R405) -/

/-- The records at the head of a frame queue that go to destination `d` and fit in a number of bytes. -/
def frameTake (d : Nat) : Nat → List (Nat × Nat × Nat × List Byte) → List (Nat × Nat × Nat × List Byte) × List (Nat × Nat × Nat × List Byte)
  | _, [] => ([], [])
  | room, x :: r =>
    if x.2.2.1 = d ∧ x.2.2.2.length ≤ room then
      let (a, b) := frameTake d (room - x.2.2.2.length) r
      (x :: a, b)
    else ([], x :: r)

/-- CAPTURE_FRAME_SEND (R282, R405): a frame to the destination that its records were queued for, when the next record would not fit or goes
elsewhere, or 100 µs after its first record. -/
def execCaptureFrameSend (stream t : Nat) (s : State) : Out :=
  let s0 := s.upTo t
  let x := s0.stream stream
  match x.fq with
  | [] => .next s0
  | f :: _ =>
    let d := f.2.2.1
    let (recs, rest) := frameTake d 8192 x.fq
    if rest.isEmpty ∧ s0.now < f.2.1 + nsToT 100000 then .next s0
    else
      let db := destBody s0.draft.struct d
      if db.isEmpty ∨ destKind db ≠ 0 then .next s0
      else
        let (item, s1) := s0.nextItem d
        .next ((s1.setStream stream { x with fq := rest }).queueDest d
          ⟨destSrc s0.draft.struct d, 0x04, f.2.1, true, 0, recs.length, f.1 % 2 ^ 56 + stream * 2 ^ 56, recs.flatMap (·.2.2.2), 0, item,
            destHanks db⟩)

/-- A capture frame of a stream, in a destination's queue (R270). -/
def capFrame (k : Nat) (f : OutFrame) : Bool := f.type == 4 && f.aux / 2 ^ 56 == k

/-- FRAME_SKIP (R405): a record waits for 1 ms: it and every record queued with it are skipped. -/
def execFrameSkip (stream t : Nat) (s : State) : Out :=
  let s0 := s.upTo t
  let x := s0.stream stream
  let old := fun (e : Nat) => decide (e + nsToT 1000000 ≤ s0.now)
  let waiting := s0.frames.destQ.flatMap (fun q => q.2.filter (capFrame stream))
  if s0.silent ∨ !(x.fq.any (fun f => old f.2.1) || waiting.any (fun f => old f.time)) then .next s0
  else
    let n := x.fq.length + sumN waiting (fun f => f.count)
    let q := (s0.frames.destQ.map (fun (q : Nat × List OutFrame) => (q.1, q.2.filter (fun f => !capFrame stream f)))).filter
      (fun (q : Nat × List OutFrame) => !q.2.isEmpty)
    let s1 : State := { s0 with frames := { s0.frames with destQ := q } }
    .next (((s1.setStream stream { x with fq := [] }).bump1 R.CAP_LOSS_FRAME_SKIP stream n).trigEvt R.CAP_EVT_FRAME_SKIP stream)

/-- RECORD_RETRY (R177, R189, R368): what was refused is written again: the control records of stream `unit`, the oldest page's
header (`unit` 16), the retraction page of destination `unit` − 17. -/
def execRecordRetry (unit t : Nat) (s : State) : Out :=
  let s0 := s.upTo t
  if unit < 16 then
    let x := s0.stream unit
    if x.blocked then .next ((s0.setStream unit { x with blocked := false }).drain unit) else .next s0
  else if unit = 16 then (if s0.beam.retry.contains 65536 then execBeamPageHeader t s0 else .next s0)
  else if s0.beam.retry.contains (unit - 17) then execRetractionSend (unit - 17) 128 t s0
  else .next s0

end Sys2Proof.Machine
end

