-- ==== Sys2Proof/Machine/Check.lean ====
section
/-!
DEFINITION. The check-value units (R426 to R428).
-/

namespace Sys2Proof.Machine

/-- Check that a unit computes: POLY as of its last INIT, 3 as 0 (R426). -/
def State.checkKind (s : State) (u : Nat) : Nat := Tab.get 0 s.checkPoly u

/-- Width of a check's register in bits (R428). -/
def checkWidth (k : Nat) : Nat := if k = 1 then 64 else if k = 2 then 16 else 32

/-- Initial register of a check (R62, R269, R307). -/
def checkInit (k : Nat) : Nat := if k = 1 then 0 else if k = 2 then 0xFFFF else 0xFFFFFFFF

/-- Running register after bytes. -/
def checkFeed (k st : Nat) (d : List Byte) : Nat :=
  if k = 1 then (crc64Feed (BitVec.ofNat 64 st) d).toNat
  else if k = 2 then (crc16Feed (BitVec.ofNat 16 st) d).toNat
  else (crc32cFeed (BitVec.ofNat 32 st) d).toNat

/-- Value after the final exclusive-OR. -/
def checkFinal (k st : Nat) : Nat := if k = 1 ∨ k = 2 then st else xorN 32 st 0xFFFFFFFF

/-- A unit's running register changed, its result with it. -/
def State.checkPut (s : State) (u st : Nat) : State :=
  let k := s.checkKind u
  let v := st % 2 ^ checkWidth k
  (s.put1 R.CHECK_STATE_STATE u v).put1 R.CHECK_RESULT_RESULT u (checkFinal k v)

/-- INIT (R426): the initial value of the check of POLY; the alive history is cleared. -/
def execCheckInit (unit : Nat) (s : State) : Out :=
  let p := s.get1 R.CHECK_CTL_POLY unit
  let s1 : State := { s with checkPoly := Tab.set 0 s.checkPoly unit (if p = 3 then 0 else p) }
  .next (((s1.checkPut unit (checkInit (s1.checkKind unit))).put1 R.CHECK_ALIVE_LAST_VALID unit 0).put1 R.CHECK_ALIVE_LAST_LAST unit 0)

/-- CHECK_DATA (R426): the first BYTES bytes of the word, all four for 0. -/
def execCheckData (unit word : Nat) (s : State) : Out :=
  let b := s.get1 R.CHECK_CTL_BYTES unit
  let d := (leBytes 4 word).take (if b = 0 then 4 else b)
  .next ((s.checkPut unit (checkFeed (s.checkKind unit) (s.get1 R.CHECK_STATE_STATE unit) d)).put1 R.CHECK_CTL_BYTES unit 0)

/-- A cause of a unit: event 0x120 + u while EVT_EN is 1 (R428). -/
def State.checkCause (s : State) (f : Field) (u : Nat) : State := s.cause1 f u 0 (0x120 + u)

/-- CHECK_ALIVE_IN (R427). -/
def execCheckAliveIn (unit value : Nat) (s : State) : Out :=
  let v := value % 65536
  let d := (v + 65536 - s.get1 R.CHECK_ALIVE_LAST_LAST unit) % 65536
  let take := fun (a : State) => (a.put1 R.CHECK_ALIVE_LAST_LAST unit v).put1 R.CHECK_ALIVE_LAST_VALID unit 1
  if !s.is1 R.CHECK_ALIVE_LAST_VALID unit || d == 1 then .next (take s)
  else if d = 0 ∨ 32768 < d then .next ((s.bump1 R.CHECK_COUNT_DUPS unit 1).checkCause R.CHECK_STATUS_DUP unit)
  else
    .next (((take s).put1 R.CHECK_STATUS_MISSED unit (d - 1)).bump1 R.CHECK_COUNT_JUMPS unit 1 |>.checkCause R.CHECK_STATUS_JUMP unit)

/-- CHECK_STATE (R428): a write loads its own word; bits above the width are ignored. -/
def execCheckState (unit : Nat) (high : Bool) (word : Nat) (s : State) : Out :=
  .next (s.checkPut unit (putBits (s.get1 R.CHECK_STATE_STATE unit) (if high then 32 else 0) 32 word))

end Sys2Proof.Machine
end

