-- ==== Sys2Proof/Machine/Dma.lean ====
section
/-!
DEFINITION. The DMA channels (R418 to R425): their descriptors, the moves, what a channel leaves when everything of it is dropped.
A move is carried out within its command (notes/assumptions/6.md); how registers are read and written is an argument of it,
because registers come later in the model.
-/

namespace Sys2Proof.Machine

def dmaIdle : Nat := 0
def dmaRunning : Nat := 1
def dmaDone : Nat := 2
def dmaError : Nat := 3
def dmaDisabled : Nat := 4

/-- Port of the channels (R329). -/
def dmaPort : Nat := 33

def State.dmaChan (s : State) (n : Nat) : DmaChan := Tab.get DmaChan.init s.dma n
def State.setDma (s : State) (n : Nat) (x : DmaChan) : State := { s with dma := Tab.set DmaChan.init s.dma n x }
def State.dmaState (s : State) (n : Nat) : Nat := s.get1 R.DMA_STATUS_STATE n

/-- A cause of channel n. -/
def State.dmaEvt (s : State) (f : Field) (n : Nat) : State := s.cause1 f n 0 (0x100 + n)

/-- A fetch of the descriptor at an address is due. -/
def State.dmaNext (s : State) (n a : Nat) : State :=
  (((s.setDma n DmaChan.init).put1 R.DMA_CUR_ADDR n a).put1 R.DMA_REMAIN_BYTES n 0)

/-- DMA_ARM (R423): from any state but RUNNING the descriptor at DMA_DESC is fetched. -/
def execDmaArm (chan : Nat) (s : State) : Out :=
  if s.dmaState chan = dmaRunning then .next (s.bump1 R.DMA_STATUS_IGNORED chan 1)
  else
    let s1 := ((s.put1 R.DMA_STATUS_STATE chan dmaRunning).put1 R.DMA_STATUS_ERR chan 0).put1 R.DMA_STATUS_POISON chan 0
    .next (s1.dmaNext chan (s.get1 R.DMA_DESC_ADDR chan / 64 * 64))

/-! ## The descriptor (R418, R419) -/

def dmaSrc (d : List Byte) : Nat := fld d 0 8
def dmaDst (d : List Byte) : Nat := fld d 8 8
def dmaLen (d : List Byte) : Nat := fld d 16 4
def dmaCtrl (d : List Byte) : Nat := fld d 20 2
def dmaSrcFixed (d : List Byte) : Bool := bit (dmaCtrl d) 0
def dmaDstFixed (d : List Byte) : Bool := bit (dmaCtrl d) 1
def dmaElem (d : List Byte) : Nat := if bit (dmaCtrl d) 2 then 64 else 4
def dmaCheck (d : List Byte) : Nat := bits (dmaCtrl d) 3 2
def dmaBarrier (d : List Byte) : Bool := bit (dmaCtrl d) 5
def dmaIrq (d : List Byte) : Bool := bit (dmaCtrl d) 6
def dmaLast (d : List Byte) : Bool := bit (dmaCtrl d) 7
def dmaNextAddr (d : List Byte) : Nat := fld d 24 8
def dmaCheckAddr (d : List Byte) : Nat := fld d 32 8

/-- Bytes of addresses that a side covers. -/
def dmaCover (d : List Byte) (fixed : Bool) : Nat := if fixed then dmaElem d else dmaLen d

/-- The register offsets that a store range reaches through the map, if it reaches any (R356). -/
def State.dmaRegs (s : State) (write : Bool) (a n : Nat) : List (Nat × Nat) :=
  (segments a n).filterMap (fun sg =>
    match (s.translate dmaPort write sg.1).1 with
    | .aper off => some (off, sg.2)
    | _ => none)

/-- The registers of both sides of a descriptor. -/
def State.dmaSides (s : State) (d : List Byte) : List (Nat × Nat) :=
  s.dmaRegs false (dmaSrc d) (dmaCover d (dmaSrcFixed d)) ++ s.dmaRegs true (dmaDst d) (dmaCover d (dmaDstFixed d))

/-- R419: everything that a descriptor must meet before a byte is moved. -/
def State.dmaValid (s : State) (d : List Byte) : Bool :=
  let e := dmaElem d
  let fixedOk := fun (fixed : Bool) (a : Nat) => !fixed || (a % e == 0 && dmaLen d % e == 0)
  let regOk := fun (write fixed : Bool) (a : Nat) =>
    (s.dmaRegs write a (dmaCover d fixed)).isEmpty || (a % 4 == 0 && dmaLen d % 4 == 0)
  let checkAt := if dmaDstFixed d then dmaCheckAddr d else dmaDst d + dmaLen d
  let checkOk := dmaCheck d == 0 || (dmaDstFixed d && checkAt == 0) || checkAt % 4 == 0 ||
    (s.dmaRegs true checkAt (if dmaCheck d = 1 then 4 else 8)).isEmpty
  checkOk && fld d 6 2 == 0 && fld d 14 2 == 0 && dmaLen d != 0 && dmaCheck d != 3 && bits (dmaCtrl d) 8 8 == 0 && fld d 22 2 == 0 &&
    fixedOk (dmaSrcFixed d) (dmaSrc d) && fixedOk (dmaDstFixed d) (dmaDst d) &&
    regOk false (dmaSrcFixed d) (dmaSrc d) && regOk true (dmaDstFixed d) (dmaDst d)

/-- Do source and destination overlap (R425)? -/
def dmaOverlap (d : List Byte) : Bool :=
  decide (dmaSrc d < dmaDst d + dmaCover d (dmaDstFixed d) ∧ dmaDst d < dmaSrc d + dmaCover d (dmaSrcFixed d))

/-- The pieces of an incrementing move: byte of the move, source, destination, length. No piece crosses a segment of either side
(R352), nor, where the sides overlap, a unit of the source. Fuelled by their number. -/
def dmaCutF (unit : Nat) : Nat → Nat → Nat → Nat → Nat → List (Nat × Nat × Nat × Nat)
  | 0, _, _, _, _ => []
  | f + 1, o, a, b, n =>
    if n = 0 then []
    else
      let m := min n (min (unit - a % unit) (2097152 - b % 2097152))
      (o, a, b, m) :: dmaCutF unit f (o + m) (a + m) (b + m) (n - m)

/-- The pieces of a descriptor's first `n` bytes, in order (R419). -/
def dmaPieces (d : List Byte) (n : Nat) : List (Nat × Nat × Nat × Nat) :=
  let e := dmaElem d
  if dmaSrcFixed d || dmaDstFixed d then
    (List.range (cdiv n e)).map (fun k =>
      (k * e, if dmaSrcFixed d then dmaSrc d else dmaSrc d + k * e, if dmaDstFixed d then dmaDst d else dmaDst d + k * e, min e (n - k * e)))
  else
    let unit := if dmaOverlap d then 64 else 2097152
    dmaCutF unit (n / unit + n / 2097152 + 3) 0 (dmaSrc d) (dmaDst d) n

/-! ## Reads and writes of a channel -/

/-- Bytes read, each with whether its unit is poisoned; the status; the state. -/
structure DmaData where
  data : List (Byte × Bool)
  status : Nat
  st : State
deriving DecidableEq, Repr

/-- One segment read. `rd` reads a register, or answers none where it is off line (R123, R463); `ext` is what a target outside the part
returns, `bad` the store units of it that came poisoned (R437). -/
def State.dmaReadSeg (rd : State → Nat → Option Nat × State) (s : State) (a n : Nat) (ext : List Byte) (bad : List Nat) : DmaData :=
  if s.get R.STORE_STATUS_STATE ≠ storeOpen then ⟨[], stClosed, s.refusedUnits dmaPort stClosed (Machine.unitSpan a n)⟩
  else
    match s.translate dmaPort false a with
    | (.aper off, s1) =>
      let r := (List.range (n / 4)).foldl (fun (acc : DmaData) k =>
        let (v, b) := rd acc.st (off + 4 * k)
        ⟨acc.data ++ (leBytes 4 (v.getD 0)).map (fun x => (x, false)), if v.isNone then stOffline else acc.status, b⟩) ⟨[], stOk, s1⟩
      if r.status = stOk then r else { r with data := [] }
    | (.loc rg o, s1) =>
      match s1.place.region rg with
      | none => ⟨[], stError, s1⟩
      | some r =>
        let st := s1.localStatus dmaPort r o n
        if st = stOk then
          let s2 := s1.ask dmaPort dmaPort (s1.unitKeys r o n)
          ⟨(s2.regionKeys r o n).map (fun k => (s2.rd k, s2.poisoned (k / 64))), stOk, s2⟩
        else ⟨[], st, s1.refusedUnits dmaPort st (Machine.unitSpan o n)⟩
    | (t, _) =>
      let (d, _, st, s1) := s.segRead dmaPort a n ext
      let out := ((List.range n).zip d).map (fun x => (x.2, bad.contains ((a + x.1) / 64)))
      let hit := ((out.map (·.2)).any id)
      match t with
      | .host _ => ⟨out, st, if st = stOk ∧ hit then s1.pciePoison else s1⟩
      | _ => ⟨out, st, s1⟩

/-- A range read, segment by segment, up to the first that fails. -/
def State.dmaRead (rd : State → Nat → Option Nat × State) (s : State) (a n : Nat) (ext : List Byte) (bad : List Nat) : DmaData :=
  (segments a n).foldl (fun (acc : DmaData) sg =>
    if acc.status ≠ stOk then acc
    else
      let x := acc.st.dmaReadSeg rd sg.1 sg.2 (ext.drop (sg.1 - a)) bad
      ⟨acc.data ++ x.data, x.status, x.st⟩) ⟨[], stOk, s⟩

/-- A host-initiated write into a local stack, mirrored in whole 8-byte words of at most 2,024 bytes a record (R305). -/
def State.mirrorStore (s : State) (a n : Nat) (r : Region) (o : Nat) : State :=
  if s.get R.PAIR_CTL_MODE = 1 ∧ s.side = sideActive then
    let lo := o % 8
    let w := (s.readRegion r (o - lo) (roundUp (lo + n) 8)).1
    (s.noteStore (a - lo) w.length).mirrorWords (a - lo) w
  else s

/-- Consecutive bytes of equal poison, as runs: where each begins, its bytes, its poison. -/
def poisonRuns : Nat → List (Byte × Bool) → List (Nat × List Byte × Bool)
  | _, [] => []
  | o, (b, p) :: r =>
    match poisonRuns (o + 1) r with
    | (o', d, q) :: t => if q = p ∧ o' = o + 1 then (o, b :: d, p) :: t else (o, [b], p) :: (o', d, q) :: t
    | [] => [(o, [b], p)]

/-- One segment written. `wr` writes a register, and answers whether it is on line (R123, R463); a poisoned unit is dropped for a register (R422). -/
def State.dmaWriteSeg (wr : State → Nat → Nat → Bool × State) (s : State) (a : Nat) (d : List (Byte × Bool)) : State × Nat :=
  if s.get R.STORE_STATUS_STATE ≠ storeOpen then (s.refusedUnits dmaPort stClosed (Machine.unitSpan a d.length), stClosed)
  else
    match s.translate dmaPort true a with
    | (.aper off, s1) =>
      ((List.range (d.length / 4)).zip (chunks 4 d)).foldl (fun (acc : State × Nat) x =>
        if x.2.any (·.2) then acc
        else
          let (ok, b) := wr acc.1 (off + 4 * x.1) (leNat (x.2.map (·.1)))
          (b, if ok then acc.2 else stOffline)) (s1, stOk)
    | (t, _) =>
      let r := (poisonRuns 0 d).foldl (fun (acc : State × Nat) x =>
        let y := acc.1.segWriteP dmaPort (a + x.1) x.2.1 x.2.2
        (y.1, if acc.2 = stOk then y.2 else acc.2)) (s, stOk)
      match t with
      | .loc rg o =>
        match r.1.place.region rg with
        | none => r
        | some g => (if r.2 = stOk then r.1.mirrorStore a d.length g o else r.1, r.2)
      | _ => r

/-- A range written, segment by segment, up to the first that fails. -/
def State.dmaWrite (wr : State → Nat → Nat → Bool × State) (s : State) (a : Nat) (d : List (Byte × Bool)) : State × Nat :=
  (segments a d.length).foldl (fun (acc : State × Nat) sg =>
    if acc.2 ≠ stOk then acc else acc.1.dmaWriteSeg wr sg.1 ((d.drop (sg.1 - a)).take sg.2)) (s, stOk)

/-! ## A move (R419 to R422) -/

/-- A move as far as it went: bytes moved, failure code, the bytes that enter the check value, a poisoned unit among them. -/
structure DmaRun where
  st : State
  moved : Nat
  err : Nat
  check : List Byte
  poison : Bool
deriving DecidableEq, Repr

/-- The data that a piece carries. Where source and destination overlap, each unit may have been read before any write of the move
(from `s0`) or after the earlier ones (R425): a free choice. -/
def State.dmaFetch (rd : State → Nat → Option Nat × State) (s0 s : State) (d : List Byte) (a n : Nat) (ext : List Byte)
    (bad : List Nat) : DmaData :=
  let x := s.dmaRead rd a n ext bad
  if !dmaOverlap d then x
  else
    let (v, s1) := x.st.takeFree
    if v % 2 = 0 then { x with st := s1 } else { x with data := (s0.dmaRead rd a n ext bad).data, st := s1 }

/-- The first `n` bytes of a descriptor's move. -/
def State.dmaMove (rd : State → Nat → Option Nat × State) (wr : State → Nat → Nat → Bool × State) (s : State) (d : List Byte) (n : Nat)
    (ext : List Byte) (bad : List Nat) : DmaRun :=
  (dmaPieces d n).foldl (fun (x : DmaRun) p =>
    if x.err ≠ 0 then x
    else
      let (o, a, b, m) := p
      let y := s.dmaFetch rd x.st d a m (ext.drop o) bad
      if y.status ≠ stOk then { x with st := y.st, err := 3 }
      else
        let (s1, st) := y.st.dmaWrite wr b y.data
        if st ≠ stOk then { x with st := s1, err := 4 }
        else ⟨s1, x.moved + m, 0, x.check ++ y.data.map (fun z => if z.2 then 0#8 else z.1), x.poison || y.data.any (·.2)⟩)
    ⟨s, 0, 0, [], false⟩

/-- The check value of a move and its width in bytes (R420). -/
def dmaCheckValue (d data : List Byte) : Nat × Nat :=
  match dmaCheck d with
  | 1 => (crc32c data, 4)
  | 2 => (fletcher64 data, 8)
  | _ => (0, 0)

/-- A channel stops in ERROR (R422); the status goes to the descriptor where it is `reachable`. -/
def State.dmaFail (s : State) (n err moved : Nat) (reachable : Bool) : State :=
  let x := s.dmaChan n
  let s1 := if reachable then
      (s.storePut dmaPort (s.get1 R.DMA_CUR_ADDR n + 48)
        (leBytes 4 (err * 16 + 256 * b2n x.poison) ++ leBytes 4 moved ++ leBytes 8 s.now) false).1
    else s
  let s2 := ((s1.put1 R.DMA_STATUS_STATE n dmaError).put1 R.DMA_STATUS_ERR n err).put1 R.DMA_REMAIN_BYTES n (dmaLen x.desc - moved)
  (s2.setDma n { x with desc := [], moved := moved }).dmaEvt R.DMA_EVT_ERROR n

/-- The poison of a move noted (R422). -/
def State.dmaPoison (s : State) (n : Nat) (p : Bool) : State :=
  if p then (s.setDma n { s.dmaChan n with poison := true }).put1 R.DMA_STATUS_POISON n 1 else s

/-- A whole move with its check value (R420): what the move gave, and the check value's bytes as a number. -/
def State.dmaBody (rd : State → Nat → Option Nat × State) (wr : State → Nat → Nat → Bool × State) (s : State) (n : Nat) (ext : List Byte)
    (bad : List Nat) : DmaRun × Nat :=
  let d := (s.dmaChan n).desc
  let x := s.dmaMove rd wr d (dmaLen d) ext bad
  let x1 := { x with st := x.st.dmaPoison n x.poison }
  if x.err ≠ 0 then (x1, 0)
  else
    let (v, w) := dmaCheckValue d x.check
    let at_ := if dmaDstFixed d then dmaCheckAddr d else dmaDst d + dmaLen d
    if w = 0 ∨ (dmaDstFixed d ∧ at_ = 0) then (x1, v)
    else
      let (s2, st) := x1.st.dmaWrite wr at_ ((leBytes w v).map (fun b => (b, false)))
      ({ x1 with st := s2, err := if st = stOk then 0 else 4 }, v)

/-- The writes made visible before the completion of a descriptor with BARRIER (R421); `s` is the state before the move. -/
def State.dmaVisible (s1 s : State) : State :=
  let wroteHost := (s1.sent.drop s.sent.length).any (fun m => match m with | .extWrite _ _ _ => true | _ => false)
  if wroteHost then (s1.flushLanes dmaPort).emit .extFlush else s1.flushLanes dmaPort

/-- The completion of a descriptor whose writes are visible (R421, R423): write-back, DESC, and what follows. -/
def State.dmaFinish (s : State) (n v moved : Nat) : State :=
  let d := (s.dmaChan n).desc
  let (s4, st) := s.storePut dmaPort (s.get1 R.DMA_CUR_ADDR n + 40)
    (leBytes 8 v ++ leBytes 4 (1 + 256 * b2n (s.dmaChan n).poison) ++ leBytes 4 moved ++ leBytes 8 s.now) false
  if st ≠ stOk then s4.dmaFail n 2 moved false
  else
    let s5 := (if dmaIrq d then s4.dmaEvt R.DMA_EVT_DESC n else s4).put1 R.DMA_REMAIN_BYTES n 0
    if dmaLast d then ((s5.setDma n DmaChan.init).put1 R.DMA_STATUS_STATE n dmaDone).dmaEvt R.DMA_EVT_DONE n
    else s5.dmaNext n (dmaNextAddr d)

/-- Is a flush of the channels' writes under way (R283, R421)? A flush of a lane covers whatever that lane carried before it. -/
def State.dmaFlushing (s : State) : Bool :=
  s.frames.outst.any (fun o => o.port == dmaPort && o.op == 3) || s.frames.reqQ.any (fun q => q.port == dmaPort && q.op == 3)

/-- A whole descriptor: move, check value, and its completion (R420 to R423). With BARRIER, writes to host memory, a peer or a far store are
made visible first: the channel waits for the flushes. -/
def State.dmaComplete (rd : State → Nat → Option Nat × State) (wr : State → Nat → Nat → Bool × State) (s : State) (n : Nat)
    (ext : List Byte) (bad : List Nat) : State :=
  let d := (s.dmaChan n).desc
  let (x, v) := s.dmaBody rd wr n ext bad
  if x.err ≠ 0 then x.st.dmaFail n x.err x.moved true
  else if !dmaBarrier d then x.st.dmaFinish n v x.moved
  else
    let s3 := x.st.dmaVisible s
    if s3.dmaFlushing ∨ s3.sent.length ≠ x.st.sent.length then s3.setDma n { s3.dmaChan n with held := some (v, x.moved) }
    else s3.dmaFinish n v x.moved

/-! ## Everything of a channel dropped (R424, R425) -/

/-- The writes that a dropped channel had issued: a free number of the descriptor's first bytes, or all of them
where only their visibility was awaited. -/
def State.dmaIssued (rd : State → Nat → Option Nat × State) (wr : State → Nat → Nat → Bool × State) (s : State) (n : Nat)
    (ext : List Byte) (bad : List Nat) : State :=
  let d := (s.dmaChan n).desc
  if d.isEmpty || (s.dmaChan n).held.isSome then s
  else
    let (v, s1) := s.takeFree
    (s1.dmaMove rd wr d (v % (dmaLen d + 1)) ext bad).st

/-- DMA_CUR and DMA_REMAIN are undefined until the next ARM. -/
def State.dmaDrop (s : State) (n st : Nat) : State :=
  let s0 := (s.setDma n DmaChan.init).put1 R.DMA_STATUS_STATE n st
  let (a, s1) := s0.takeFree
  let (b, s2) := s1.takeFree
  (s2.put1 R.DMA_CUR_ADDR n a).put1 R.DMA_REMAIN_BYTES n b

/-- The same within another access, where no register write of the channel has been issued (DESIGN CHOICE) and bytes from outside the
part are free. -/
def State.dmaAbandon (s : State) (n st : Nat) : State :=
  let d := (s.dmaChan n).desc
  if d.isEmpty || !(s.dmaSides d).isEmpty then s.dmaDrop n st
  else
    let (v, s1) := s.takeFree
    (s1.dmaIssued (fun a _ => (some 0, a)) (fun a _ _ => (true, a)) n (leBytes (dmaLen d) v) []).dmaDrop n st

/-- DISABLE by a write of DMA_CTL. A channel that is not RUNNING only moves to DISABLED. -/
def State.dmaDisable (s : State) (n : Nat) : State :=
  if s.dmaState n = dmaRunning then s.dmaAbandon n dmaDisabled else s.put1 R.DMA_STATUS_STATE n dmaDisabled

/-- A reset or D1 (R425): as DISABLE, then IDLE. -/
def State.dmaReset (s : State) : State :=
  forN 32 (fun n a => if a.dmaState n = dmaRunning then a.dmaAbandon n dmaIdle else a.put1 R.DMA_STATUS_STATE n dmaIdle) s

end Sys2Proof.Machine
end

