-- ==== Sys2Proof/Machine/Mesh.lean ====
section
/-!
DEFINITION. The mesh (R283, R284, R293 to R303): requests of peers, completions, announces, layouts, operand blocks and
summaries of remote slots, lost nodes.
-/

namespace Sys2Proof.Machine

/-! ## Requests and completions (R283, R284, R303) -/

/-- A completion queued on a lane (R283): STATUS, the request's TAG and address, the data. -/
def State.complete (s : State) (l status aux : Nat) (d : List Byte) : State :=
  s.queueLane l (s.linkFrame 0x0A status 0 aux d 0)

/-- Does the part serve peers now (R303)? Status otherwise: a spectator is UNIT_OFFLINE, a closed store STORE_CLOSED. -/
def State.peerStatus (s : State) : Nat :=
  if s.meshState = 1 then stOffline else if s.get R.STORE_STATUS_STATE ≠ storeOpen then stClosed else stOk

/-- Status of a request that is to be completed: RETRY while Badger's firmware is updated (R284, R303). The part may hold such a request
for up to 1 ms; the model answers at once (DESIGN CHOICE, notes/assumptions/93.md). -/
def State.askStatus (s : State) : Nat :=
  if s.peerStatus = stOk ∧ s.get R.TRUST_FW_STATUS_STATE ≠ 0 then stRetry else s.peerStatus

/-- A received request served (R283, R303): reads and flushes are completed, writes are not. -/
def State.servePeer (s : State) (l : Nat) (f : RxDone) : State :=
  let aux := hdrAux f.hdr
  let a := bits aux 0 48
  let st := s.askStatus
  match hdrFirst f.hdr with
  | 1 =>
    let n := 64 * hdrCount f.hdr
    if st ≠ stOk then s.complete l st aux []
    else if n = 0 ∨ 8192 < n then s.complete l stError aux []
    else
      let (d, p, r, s1) := s.segRead 9 a n []
      if r ≠ stOk then s1.complete l r aux [] else s1.complete l (if p then stPoisoned else stOk) aux d
  | 2 => if s.peerStatus ≠ stOk then s else (s.segWrite 9 a f.payload).1
  | 3 => s.complete l st aux []
  | _ => s

/-- MESH_REQUEST (R283): the oldest request received on a lane is served against the store. The part is no far-store
appliance: a request of type 0x0B has no effect. -/
def execMeshRequest (lane t : Nat) (s : State) : Out :=
  let s0 := s.upTo t
  match s0.rxTake lane (fun f => hdrType f.hdr == 0x09 || (hdrType f.hdr == 0x0B && hdrFirst f.hdr != 8)) with
  | none => .next s0
  | some (f, s1) => .next (if hdrType f.hdr = 0x09 then s1.servePeer lane f else s1)

/-- COMPLETION_RECEIVE (R284): the oldest completion received on a lane ends the request with its TAG, or is discarded and
counted. A far-store completion states no STATUS beside its OP: that is free. -/
def execCompletionReceive (lane t : Nat) (s : State) : Out :=
  let s0 := s.upTo t
  match s0.rxTake lane (fun f => hdrType f.hdr == 0x0A || (hdrType f.hdr == 0x0B && hdrFirst f.hdr == 8)) with
  | none => .next s0
  | some (f, s1) =>
    let tag := bits (hdrAux f.hdr) 48 16
    match s1.frames.outst.find? (fun o => o.hank == lane / 8 && o.tag == tag && o.t != 0) with
    | none => .next ((s1.bump R.FRAME_NP_TIMEOUT_UNMATCHED 1).frameEvt 6)
    | some o =>
      if hdrType f.hdr = 0x0A then .next (s1.endRequest o (hdrFirst f.hdr) f.payload)
      else
        let (v, s2) := s1.takeFree
        .next (s2.endRequest o (v % 6) f.payload)

/-- NP_TIMEOUT (R284): every request sent 1 ms ago or earlier completes locally with status 3. -/
def execNpTimeout (t : Nat) (s : State) : Out :=
  let s0 := s.upTo t
  let late := s0.frames.outst.filter (fun o => o.t != 0 && decide (o.t - 1 + nsToT 1000000 ≤ s0.now))
  .next (late.foldl (fun a o => ((a.endRequest o stError []).bump R.FRAME_NP_TIMEOUT_TIMEOUT 1).frameEvt 6) s0)

/-! ## Announces (R285, R294) -/

/-- The value of SYS_ID (R4). -/
def State.sysId (s : State) : Nat := 0x59000000 + 0x400000 + 0xB000 + 16 * nStacks s.part

/-- STATE of an announce and ROLE of a heartbeat: spectator, member, active, standby, arbiter. -/
def State.announceRole (s : State) : Nat :=
  let m := s.get R.PAIR_CTL_MODE
  if m = 2 then 4
  else if m = 1 ∧ s.side = sideActive then 2
  else if m = 1 ∧ s.side ≠ sideOff then 3
  else b2n (s.meshState == 2)

/-- The payload of an announce. -/
def State.announceBytes (s : State) : List Byte :=
  leBytes 4 s.sysId ++ leBytes 1 s.nodeByte ++ leBytes 1 s.announceRole ++ zeros 2 ++ leBytes 8 (s.get R.DRAFT_SERIAL_SERIAL) ++
    leBytes 8 Config.deviceId ++ zeros 8

/-- ANNOUNCE_SEND (R294): after lock and then every 1 ms while LOCKED. -/
def execAnnounceSend (lane t : Nat) (s : State) : Out :=
  let s0 := s.upTo t
  let role := s0.laneRole lane
  let last := Tab.get 0 s0.mesh.annSent lane
  if !(decide (3 ≤ role ∧ role ≤ 5)) || !s0.locked lane || (last != 0 && decide (s0.now + 1 < last + nsToT 1000000)) then .next s0
  else
    let s1 : State := { s0 with mesh := { s0.mesh with annSent := Tab.set 0 s0.mesh.annSent lane (s0.now + 1) } }
    .next (s1.queueLane lane (s1.linkFrame 0x0D 0 0 0 s1.announceBytes 0))

/-- An announce is taken in (R294): nodes seen, DEVICE_IDs in conflict, the lane's neighbour. -/
def State.announceTake (s1 : State) (lane : Nat) (p : List Byte) : State :=
  let nb := byteAt p 4
  let dev := fld p 16 8
  let new := decide (nb < 128) && !s1.bitOf R.MESH_SEEN_NODES (nb % 64)
  let s2 := if new then (s1.setBit R.MESH_SEEN_NODES (nb % 64)).meshEvt 0 else s1
  let old := Tab.get (0, 0) s2.mesh.devs nb
  let clash := decide (nb < 128) && (nb == s2.nodeByte ||
    (old != (0, 0) && old.1 != dev && decide (s2.now < old.2 + nsToT 10000000)))
  let s3 := if clash then
      ({ s2 with mesh := { s2.mesh with conflict := insN nb s2.mesh.conflict } } : State).meshEvt 3
    else s2
  { s3 with mesh := { s3.mesh with
    ann := Tab.set Announce.init s3.mesh.ann lane ⟨nb, byteAt p 5, fld p 8 8, dev, s3.now⟩
    devs := Tab.set (0, 0) s3.mesh.devs nb (dev, s3.now) } }

/-- ANNOUNCE_RECEIVE (R294): the sender is recorded; this chip's own node byte, or one that another DEVICE_ID announced less
than 10 ms earlier, is a conflict. -/
def execAnnounceReceive (lane t : Nat) (s : State) : Out :=
  let s0 := s.upTo t
  match s0.rxTake lane (fun f => hdrType f.hdr == 0x0D) with
  | none => .next s0
  | some (f, s1) => .next (s1.announceTake lane f.payload)

/-! ## Layouts (R295, R296) -/

/-- MESH_ARM (R294, R296): refused when NEXT_TIME is less than 10 ms ahead; a node left out is in conflict no more. -/
def execMeshArm (t : Nat) (s : State) : Out :=
  let s0 := s.upTo t
  let at_ := s0.get R.MESH_NEXT_TIME_TIME
  if at_ < s0.now + nsToT 10000000 then .next (s0.meshEvt 4)
  else
    .next (({ s0 with mesh := { s0.mesh with
      armed := some at_
      conflict := s0.mesh.conflict.filter (fun nb => s0.bitOf R.MESH_NEXT_NODES (nb % 64)) } } : State).put R.MESH_STATUS_ARMED 1)

/-- MESH_CANCEL (R296). -/
def execMeshCancel (s : State) : Out :=
  .next (({ s with mesh := { s.mesh with armed := none } } : State).put R.MESH_STATUS_ARMED 0)

/-- Requests queued for sending whose TAG has ended. -/
def dropRequests (os : List Outstanding) (h : Nat) (q : List OutFrame) : List OutFrame :=
  q.filter (fun f => !os.any (fun o => o.hank == h && o.tag == f.aux / 281474976710656))

/-- Every request to the nodes that a test chooses, sent or not, ends offline (R302, R303). -/
def State.endNodes (s : State) (sel : Nat → Bool) : State :=
  let mine := s.frames.outst.filter (fun o => sel o.node)
  let s1 := (s.frames.reqQ.filter (fun q => sel q.node)).foldl (fun a q => a.emit (.storeDone q.port q.addr stOffline [] false))
    { s with frames := { s.frames with reqQ := s.frames.reqQ.filter (fun q => !sel q.node) } }
  let s2 := mine.foldl (fun a o => a.endRequest o stOffline []) s1
  { s2 with frames := { s2.frames with
    laneQ := (s2.frames.laneQ.map (fun (e : Nat × List OutFrame) =>
      if e.1 % 4 = clsNonPosted then (e.1, dropRequests mine (e.1 / 4 / 8) e.2) else e)).filter (fun e => !e.2.isEmpty) } }

/-- LAYOUT_APPLY (R296, R303): at NEXT_TIME, or while a Draft runs at the start of the first span that begins at or after it. Requests to a node that
leaves the layout, a spectator now, end offline. -/
def execLayoutApply (t : Nat) (s : State) : Out :=
  let s0 := s.upTo t
  match s0.mesh.armed with
  | none => .next s0
  | some at_ =>
    let st := s0.get R.DRAFT_STATUS_STATE
    let runs := st = 4 ∨ st = 5
    if s0.now < at_ ∨ (runs ∧ s0.spanTime (s0.get R.DRAFT_SPAN_SPAN) < at_) then .next s0
    else
      let s1 : State := { s0 with mesh := { s0.mesh with armed := none } }
      let s2 := (s1.put R.MESH_STATUS_ARMED 0).put R.MESH_LAYOUT_NODES (s0.get R.MESH_NEXT_NODES)
      .next ((s2.endNodes (fun nd => s0.inLayout nd && !s2.inLayout nd)).meshEvt 2)

/-! ## Remote slots (R298 to R301) -/

/-- The line groups of a ply, in order. -/
def plyGroups (l : List Item) (p : Nat) : List Nat :=
  let lv := plyLevel (plyBody l p)
  sortN ((tileSteps l p).flatMap (fun t => (stepGroups t).flatMap (fun g => (List.range (runLen lv)).map (· + g))))

/-- Members other than this chip that a ply covers. -/
def State.plyMembers (s : State) (b : List Byte) : List Nat :=
  (bitList 64 (s.get R.MESH_LAYOUT_NODES)).filter (fun n => n != s.node && plyLocal n b)

/-- The wide plies that hold a channel. -/
def wideWith (l : List Item) (c : Nat) : List Nat :=
  ((plies l).filter (fun x => decide (6 ≤ plyLevel x.body ∧ plyFirst x.body ≤ c ∧ c < plyFirst x.body + plyNfine x.body) &&
    plyFunction x.body != 0)).map (·.idx)

/-- The channel's span that ends with a regular span, if one does (R238). -/
def endedSpan (l : List Item) (c span : Nat) : Option Nat :=
  let r := zoomRatio l c
  if (span + 1) % r = 0 then some ((span + 1) / r - 1) else none

/-- Lanes that reach a node's sides: one LOCKED lane of ROLE 3 for each side in the mesh (R294, R304). -/
def State.sideLanes (s : State) (nd : Nat) : List Nat :=
  [nd, nd + 64].filterMap (fun nb =>
    if s.nodeOpen nb then (List.range 96).find? (fun l => s.laneRole l == 3 && s.locked l && (s.announce l).node == nb) else none)

/-- A mesh operand frame. -/
def State.operandFrame (s : State) (time chan p g off : Nat) (d : List Byte) (last : Bool) : OutFrame :=
  ⟨s.meshSrc, 0x08, time, false, chan, 1, off + g * 4294967296 + p * 281474976710656, d, b2n last, 0, 0⟩

/-- A run of consecutive blocks of a line group grown by one block at an offset. -/
def runAdd (runs : List (Nat × List Byte)) (o : Nat) (d : List Byte) : List (Nat × List Byte) :=
  match runs.reverse with
  | [] => [(o, d)]
  | (o', d') :: r => if o' + d'.length = o then (r.reverse) ++ [(o', d' ++ d)] else runs ++ [(o, d)]

/-- The blocks of one line group, channel and span for a member (R282, R299), read through port 6. -/
def State.groupFrames (s : State) (l : List Item) (p c z g : Nat) (need : List Nat) : List OutFrame × State :=
  let local_ := classedSlots l
  let (_, runs, s1) := (groupSlots l g).foldl (fun (acc : Nat × List (Nat × List Byte) × State) x =>
    let n := tOf l * operandBytes l x
    if bit local_ x && need.contains x then
      let (d, bad, a) := acc.2.2.readBlock l 6 z c x
      (acc.1 + n, runAdd acc.2.1 acc.1 d, if bad then a.exclude ((z + 1) * zoomRatio l c - 1) c x 7 else a)
    else (acc.1 + n, acc.2.1, acc.2.2)) (0, [], s)
  let parts := runs.flatMap (fun r => ((List.range (cdiv r.2.length 8192)).zip (chunks 8192 r.2)).map (fun k => (r.1 + 8192 * k.1, k.2)))
  let time := s.spanTime (z * zoomRatio l c)
  (((List.range parts.length).zip parts).map (fun k =>
    s.operandFrame time c p g k.2.1 k.2.2 (k.1 + 1 == parts.length)), s1)

/-- OPERAND_SEND (R299): the operand blocks of this home node's slots go to the members that use them, channel by channel; once
for a span, and only by a side in ACTIVE (R304). -/
def State.operandSend (s : State) (span : Nat) : State :=
  let l := s.structAt span
  if !hasWide l || Tab.get false s.mesh.sent (2 * span) then s
  else
    let s0 : State := { s with mesh := { s.mesh with sent := Tab.set false s.mesh.sent (2 * span) true } }
    if s0.silent then s0
    else
      forN (fineChannels l) (fun c a =>
        match endedSpan l c span with
        | none => a
        | some z => (wideWith l c).foldl (fun b p =>
            (b.plyMembers (plyBody l p)).foldl (fun e n =>
              let lanes := e.sideLanes n
              if lanes.isEmpty then e
              else (plyGroups l p).foldl (fun f g =>
                let (fs, f1) := f.groupFrames l p c z g (memberSlots l p n)
                lanes.foldl (fun h ln => fs.foldl (fun k x => k.queueLane ln x) h) f1) e) b) a) s0

/-- Summary frames (R300): the exclusions of this home node's slots, for each channel and wide ply, to each member whose part of the ply
uses its slots. -/
def State.summarySend (s : State) (span : Nat) : State :=
  let l := s.structAt span
  if !hasWide l || Tab.get false s.mesh.sent (2 * span + 1) then s
  else
    let s0 : State := { s with mesh := { s.mesh with sent := Tab.set false s.mesh.sent (2 * span + 1) true } }
    if s0.silent then s0
    else
      let local_ := classedSlots l
      let mine := (enabledSlots l).filter (bit local_)
      forN (fineChannels l) (fun c a =>
        match endedSpan l c span with
        | none => a
        | some z =>
          let ex := mine.filterMap (fun x =>
            let m := a.causesOver l c span [] x
            if m = 0 then none else some (x, m))
          let d := flagMask (nTop l) (ex.map (·.1)) ++ causeList ex
          (wideWith l c).foldl (fun b p =>
           ((b.plyMembers (plyBody l p)).filter (fun n => (memberSlots l p n).any mine.contains)).foldl (fun e n =>
            (e.sideLanes n).foldl (fun h ln =>
              h.queueLane ln (h.operandFrame (h.spanTime (z * zoomRatio l c)) c p 0xFFFF 0 d true)) e) b) a) s0

/-- The channel's span whose first fine sample lies at a time, among the spans that can still matter. -/
def State.spanAt (s : State) (c time : Nat) : Option Nat :=
  let cur := s.get R.DRAFT_SPAN_SPAN
  let r := zoomRatio (s.structAt cur) c
  ((List.range 4).map (fun k => cur / r - k)).find? (fun z => s.spanTime (z * r) == time)

/-- The home node of a remote slot learned. -/
def State.learnHome (s : State) (slot nd : Nat) : State :=
  { s with mesh := { s.mesh with home := Tab.set 0 s.mesh.home slot (nd + 1) } }

/-- A range of bytes joined to those of a block that have come, which are disjoint and ascending. -/
def addRange : List (Nat × Nat) → Nat → Nat → List (Nat × Nat)
  | [], a, b => [(a, b)]
  | (c, d) :: r, a, b =>
    if b < c then (a, b) :: (c, d) :: r
    else if d < a then (c, d) :: addRange r a b
    else addRange r (min a c) (max b d)

/-- Bytes of a remote block written in the corner turn (R299); the block is complete when every one of its bytes has come. -/
def State.remoteBytes (s : State) (l : List Item) (z c slot off : Nat) (d : List Byte) : State :=
  let (o, n) := cornerOffset l (z % 2) c slot
  let s1 := s.spaceWrite 5 (s.useSpace 0) (o + off) d
  let k := exKey z c slot
  let got := addRange (Tab.get [] s1.mesh.got k) off (off + d.length)
  let s2 : State := { s1 with mesh := { s1.mesh with got := Tab.set [] s1.mesh.got k got } }
  if got.any (fun x => x.1 == 0 && decide (n ≤ x.2)) then { s2 with pass := { s2.pass with blocks := Tab.set false s2.pass.blocks k true } } else s2

/-- A frame of operands of channel span `z` is taken in (R299): each slot of its group that this node lacks gets its bytes. -/
def State.operandTake (s1 : State) (f : RxDone) (z : Nat) : State :=
  let c := hdrFirst f.hdr
  let g := bits (hdrAux f.hdr) 32 16
  let off := bits (hdrAux f.hdr) 0 32
  let l := s1.structAt (z * zoomRatio s1.draft.struct c)
  let local_ := classedSlots l
  ((groupSlots l g).foldl (fun (acc : Nat × State) x =>
    let n := tOf l * operandBytes l x
    let lo := max acc.1 off
    let hi := min (acc.1 + n) (off + f.payload.length)
    let held := bit local_ x || Tab.get false acc.2.pass.blocks (exKey z c x)
    (acc.1 + n,
      if hi ≤ lo ∨ held then acc.2
      else ((acc.2.learnHome x (hdrNode f.hdr % 64)).remoteBytes l z c x (lo - acc.1) ((f.payload.drop (lo - off)).take (hi - lo)))))
    (0, s1)).2

/-- MESH_OPERAND (R299): the oldest operand frame of a lane is written where local slots of the same numbers would lie; blocks
that are local or held already are left alone. -/
def execMeshOperand (lane t : Nat) (s : State) : Out :=
  let s0 := s.upTo t
  match s0.rxTake lane (fun f => hdrType f.hdr == 0x08 && bits (hdrAux f.hdr) 32 16 != 0xFFFF) with
  | none => .next s0
  | some (f, s1) =>
    match s1.spanAt (hdrFirst f.hdr) (hdrTime f.hdr) with
    | none => .next s1
    | some z => .next (s1.operandTake f z)

/-- Key of a summary held. -/
def sumKey (z c nd : Nat) : Nat := (z * 16384 + c) * 64 + nd

/-- A summary of channel span `z` is taken in (R300): the slots that its mask excludes, with the classes it lists. -/
def State.summaryTake (s1 : State) (f : RxDone) (z : Nat) : State :=
  let c := hdrFirst f.hdr
  let r := zoomRatio s1.draft.struct c
  let l := s1.structAt (z * r)
  let last := z * r + r - 1
  let w := nTop l
  let mask := leNat (f.payload.take (w / 8))
  let listed := (chunks 2 ((f.payload.drop (w / 8)).take 128)).map (fun e => (fld e 0 2 % 4096, fld e 0 2 / 4096))
  let nd := hdrNode f.hdr % 64
  let s2 := (bitList w mask).foldl (fun a x =>
    match listed.find? (fun e => e.1 == x && e.2 != 0) with
    | some e => (a.exclude last c x e.2).learnHome x nd
    | none =>
      let (v, b) := a.takeFree
      (b.exclude last c x (1 + v % 9)).learnHome x nd) s1
  { s2 with mesh := { s2.mesh with summaries := Tab.set false s2.mesh.summaries (sumKey z c nd) true } }

/-- SUMMARY_RECEIVE (R300): the sender's slots of the mask are excluded, with their causes; a slot beyond the 64 listed has a free
class. -/
def execSummaryReceive (lane t : Nat) (s : State) : Out :=
  let s0 := s.upTo t
  match s0.rxTake lane (fun f => hdrType f.hdr == 0x08 && bits (hdrAux f.hdr) 32 16 == 0xFFFF) with
  | none => .next s0
  | some (f, s1) =>
    match s1.spanAt (hdrFirst f.hdr) (hdrTime f.hdr) with
    | none => .next s1
    | some z => .next (s1.summaryTake f z)

/-- The remote slots of the wide plies of a channel on this chip. -/
def State.remoteSlots (s : State) (l : List Item) (c : Nat) : List Nat :=
  let local_ := classedSlots l
  sortN (((wideWith l c).filter (fun p => plyLocal s.node (plyBody l p))).flatMap (fun p =>
    (memberSlots l p s.node).filter (fun x => slotEnabled l x && !bit local_ x)))

/-- The members of the layout beside this node. -/
def State.others (s : State) : List Nat := (bitList 64 (s.get R.MESH_LAYOUT_NODES)).filter (· != s.node)

/-- Is a remote slot's exclusion of a channel's span settled: its home's summary is held, or class 9 stands (R300)? Where no frame has
told which node is its home, every other member's summary settles it, and from F after the span's end any that is held, because a member
that homes none of the slots sends none (DEDUCED, notes/assumptions/104.md). -/
def State.remoteSettled (s : State) (z c last slot : Nat) : Bool :=
  let h := Tab.get 0 s.mesh.home slot
  let held := fun (nd : Nat) => Tab.get false s.mesh.summaries (sumKey z c nd)
  let past := decide (s.spanTime (last + 1) + nsToT 1000000 ≤ s.now)
  (if h = 0 then !s.others.isEmpty && (s.others.all held || (past && s.others.any held)) else held (h - 1)) || bit (s.causes last c slot) 9

/-- Does the chip hold every summary that a span needs (R300)? -/
def State.remoteFinal (s : State) (span : Nat) : Bool :=
  let l := s.structAt span
  !hasWide l || (List.range (fineChannels l)).all (fun c =>
    match endedSpan l c span with
    | none => true
    | some z => (s.remoteSlots l c).all (s.remoteSettled z c span))

/-- Remote slots of a fine channel whose summary of an ended span has not come are excluded with class 9 (R300). -/
def State.summaryMiss (s : State) (l : List Item) (span c : Nat) : State :=
  match endedSpan l c span with
  | none => s
  | some z => ((s.remoteSlots l c).filter (fun x => !s.remoteSettled z c span x)).foldl (fun b x => b.exclude span c x 9) s

/-- SUMMARY_TIMEOUT (R300): F after a span's end, the slots of every node whose summary has not come are excluded with class 9. -/
def execSummaryTimeout (span t : Nat) (s : State) : Out :=
  let s0 := s.upTo t
  let l := s0.structAt span
  if !hasWide l || decide (s0.now < s0.spanTime (span + 1) + nsToT 1000000) || decide (s0.get R.DRAFT_SPAN_SPAN ≤ span) then .next s0
  else .next (forN (fineChannels l) (fun c a => a.summaryMiss l span c) s0)

/-! ## Lost nodes (R302) -/

/-- LOCKED lanes whose last announce came from a node, whatever the side. -/
def State.reached (s : State) (nd : Nat) : Bool :=
  (List.range 96).any (fun l => s.locked l && decide ((s.announce l).node < 128) && (s.announce l).node % 64 == nd)

/-- Is a remote slot homed on a lost node, as far as this chip can tell: a frame has told so; or none has told its home, and every other
member that can be reached has told its own slots (notes/assumptions/104.md)? -/
def State.homedOn (s : State) (nd slot : Nat) : Bool :=
  let h := Tab.get 0 s.mesh.home slot
  h == nd + 1 || (h == 0 && s.others.all (fun n => n == nd || !s.reached n || s.mesh.home.any (fun e => e.2 == n + 1)))

/-- The blocks and summaries that a lost node still owes for an ended span: zeros and class 9 (R302). -/
def State.fillLost (s : State) (nd span : Nat) : State :=
  let l := s.structAt span
  if !hasWide l then s
  else
    forN (fineChannels l) (fun c a =>
      match endedSpan l c span with
      | none => a
      | some z => ((a.remoteSlots l c).filter (a.homedOn nd)).foldl (fun b x =>
          let k := exKey z c x
          let done := Tab.get false b.pass.blocks k
          let sum := Tab.get false b.mesh.summaries (sumKey z c nd)
          let b1 := if done && sum then b else b.exclude span c x 9
          if done then b1
          else
            let (o, n) := cornerOffset l (z % 2) c x
            let b2 := b1.spaceWrite 5 (b1.useSpace 0) o (zeros n)
            { b2 with pass := { b2.pass with blocks := Tab.set false b2.pass.blocks k true } }) a) s

/-- The nodes that remote slots belong to, and the lost ones, that no lane reaches: their blocks of a span that ends are filled. -/
def State.fillAllLost (s : State) (span : Nat) : State :=
  (sortN (s.mesh.home.map (fun e => e.2 - 1) ++ s.others.filter (s.bitOf R.MESH_LOST_NODES))).foldl
    (fun a nd => if a.reached nd then a else a.fillLost nd span) s

/-- The ended spans that passes or their finality still wait for. -/
def State.openSpans (s : State) : List Nat :=
  let cur := s.get R.DRAFT_SPAN_SPAN
  let f := s.get R.PASS_FINAL_SPAN_SPAN
  (sortN ((s.pass.passes.filter (fun p => decide (p.state < 5))).map (·.last) ++
    (s.beam.passes.filter (fun p => decide (p.state < 3))).map (·.last) ++
    ((List.range (min 4 cur)).map (fun k => cur - 1 - k)).filter (fun e => f == 2 ^ 64 - 1 || decide (f < e)))).filter (fun e => decide (e < cur))

/-- A node is lost (R302, R303, R321): its requests end offline, its announces go, and its slots of the spans that wait are filled. -/
def State.nodeGone (s0 : State) (node : Nat) : State :=
  let s1 := (((s0.setBit R.MESH_LOST_NODES node).meshEvt 1).ledCount 6).endNodes (fun nd => nd == node)
  let s2 : State := { s1 with
    mesh := { s1.mesh with ann := s1.mesh.ann.filter (fun e => !(decide (e.2.node < 128) && e.2.node % 64 == node)) } }
  if s2.draftRuns then s2.openSpans.foldl (fun a e => a.fillLost node e) s2 else s2

/-- NODE_LOST (R302, R303, R321): no lane to any side of a node is LOCKED. -/
def execNodeLost (node t : Nat) (s : State) : Out :=
  let s0 := s.upTo t
  let known := s0.mesh.ann.any (fun e => decide (e.2.node < 128) && e.2.node % 64 == node)
  if !known || s0.reached node || node == s0.node then .next s0 else .next (s0.nodeGone node)

end Sys2Proof.Machine
end

