-- ==== Sys2Proof/Machine/Pairing.lean ====
section
/-!
DEFINITION. Pairing, Owl and the Badger pair (R304 to R321): health, heartbeats, leases, the state of a side, self-tests of a
standby, takeover.
-/

namespace Sys2Proof.Machine

/-- Owl's times in µs (R313 to R315): the guard G, a lease, the silence that is noticed, the age of a READY heartbeat. -/
def usT (us : Nat) : Nat := nsToT (1000 * us)
def guardT : Nat := usT 10
def leaseT : Nat := usT 400

/-! ## Health (R309) -/

/-- Is every hank of a role UP? -/
def State.roleUp (s : State) (role : Nat) : Bool :=
  (List.range 12).all (fun h => s.get1 R.HANK_STATUS_ROLE h != role || s.is1 R.HANK_STATUS_UP h)

/-- Are a temperature field's degrees within the Draft's TEMP_MAX? -/
def State.cool (s : State) (v : Nat) : Bool := decide (sgn 8 v ≤ tempMax s.draft.struct)

/-- STACKS_OK: no uncorrectable error stands unresolved, and no rank has failed without a spare. -/
def State.stacksOk (s : State) : Bool := !s.stk.secondFail && s.poison.isEmpty

/-- The health word. -/
def State.health (s : State) : Nat :=
  let p := s.pair
  let tb := s.get R.TIME_STATUS_STATE
  let tbOk := tb == 2 || tb == 3 || tb == 4
  let inOk := s.roleUp 1
  let outOk := s.roleUp 2
  let thermal := s.cool (s.get R.POWER_TEMP_DIE_MAX) && s.cool (s.get R.POWER_TEMP_STACK_MAX)
  let badger := s.is R.PAIR_BADGER_STANDBY_OK && !s.is R.PAIR_BADGER_FAILED
  let ready := p.inStep && p.mirrorOk && tbOk && inOk && outOk && s.stacksOk && !p.testFailed
  let tests := (p.tests.filter (fun x => decide (s.now < x + 4294967296))).length
  min 65535 tests * 65536 + 2048 * b2n (!p.testFailed) + 1024 * b2n thermal + 512 * b2n badger + 256 * b2n s.stacksOk +
    128 * b2n outOk + 64 * b2n inOk + 32 * b2n tbOk + 16 * b2n p.partnerSeen + 8 * b2n p.arbSeen + 4 * b2n p.mirrorOk +
    2 * b2n p.inStep + b2n ready

/-! ## The state of a side (R316) -/

/-- Is an unexpired lease this side's (PAIR_STATUS.LEASE)? -/
def State.leaseHeld (s : State) : Bool := decide (s.now < s.get R.PAIR_LEASE_END_TIME)


/-- The items that a standby kept for store destinations leave in the order in which they were formed (R308). -/
def State.sendHeld (s : State) : State :=
  let xs := s.pass.held
  let ps := s.beam.held
  let s1 : State := { s with pass := { s.pass with held := [] }, beam := { s.beam with held := [] } }
  (sortN (xs.map (·.made) ++ ps.map (·.made))).foldl (fun a m =>
    (ps.filter (fun h => h.made == m)).foldl State.writeHeld ((xs.filter (fun x => x.made == m)).foldl State.writeItem a)) s1

/-- A side enters ACTIVE (R316 action 2, R318). -/
def State.goActive (s : State) : State :=
  let s1 := ((s.put R.PAIR_STATUS_STATE sideActive).put R.PAIR_STATUS_PAIR_ACTIVE 1).bump R.PAIR_FAILOVERS_FAILOVERS 1
  ((s1.ledCount 5).pairEvt 0).sendHeld

/-- A side leaves ACTIVE (R316 action 3): emission stops at the next frame boundary. -/
def State.fence (s : State) : State :=
  ((s.put R.PAIR_STATUS_STATE sideFenced).put R.PAIR_STATUS_PAIR_ACTIVE 0).pairEvt 1

/-- A side goes OFF (R316 action 5), Owl's state with it. -/
def State.sideOff_ (s : State) : State :=
  let was := s.side == sideActive
  let s1 := ((s.put R.PAIR_STATUS_STATE sideOff).put R.PAIR_STATUS_PAIR_ACTIVE 0).put R.PAIR_LEASE_END_TIME 0
  let s2 : State := { s1 with pair := { s1.pair with resyncR := none, mine := [], theirs := [], hbQueue := none } }
  if was then s2.pairEvt 1 else s2

/-- A Draft enters RUNNING with MODE 1 (R316, row 2): STANDBY, in step. -/
def State.sideRun (s : State) : State :=
  if s.get R.PAIR_CTL_MODE = 1 ∧ s.side = sideOff then
    ({ s with pair := { s.pair with inStep := true, mirrorOk := true, resyncR := none } } : State).put R.PAIR_STATUS_STATE sideStandby
  else s

/-- A Draft leaves RUNNING and STOPPING (R316, row 1). -/
def State.sideStop (s : State) : State := if s.side = sideOff then s else s.sideOff_

/-- Owl's state cleared by a reset, D1 or D2 (R321). -/
def State.pairReset (s : State) : State :=
  let s1 := (s.sideOff_.put R.MESH_LOST_NODES 0).put R.MESH_SEEN_NODES 0
  let s2 := (s1.put R.PAIR_STATUS_WITNESS 0).put R.PAIR_PEER_HEALTH_HEALTH 0
  { s2 with pair := { PairState.init with testFailed := s2.pair.testFailed } }

/-- A grant of the instant at which the lease ended wins: the side stays in ACTIVE (R321; notes/assumptions/95.md). -/
def State.stayActive (s : State) : State := (s.put R.PAIR_STATUS_STATE sideActive).put R.PAIR_STATUS_PAIR_ACTIVE 1

/-- A grant (R312, R313, R316, R321): a node byte and the end of its lease. -/
def State.grant (s : State) (nb fin : Nat) : State :=
  let s0 : State := { s with pair := { s.pair with leaseNode := nb, leaseSeen := fin } }
  if s0.get R.PAIR_CTL_MODE ≠ 1 ∨ s0.side = sideOff then s0
  else if nb = s0.nodeByte then
    if fin ≤ s0.now then s0
    else
      let s1 := (s0.put R.PAIR_LEASE_END_TIME fin).put R.PAIR_STATUS_WITNESS 0
      if s1.side = sideFenced ∧ s1.pair.fencedAt = s1.now + 1 then s1.stayActive
      else if s1.side = sideStandby ∨ s1.side = sideFenced then s1.goActive else s1
  else if nb = s0.partnerByte then
    let s1 := s0.put R.PAIR_LEASE_END_TIME 0
    if s1.side = sideActive then s1.fence else s1
  else s0

/-- LEASE_END (R313, R316): array time reaches LEASE_END − G on the active side. -/
def execLeaseEnd (t : Nat) (s : State) : Out :=
  let s0 := s.upTo t
  if s0.side = sideActive ∧ s0.get R.PAIR_LEASE_END_TIME ≤ s0.now + guardT then
    .next { s0.fence with pair := { s0.fence.pair with fencedAt := s0.now + 1 } }
  else .next s0

/-- PAIR_GRANT_END (R312): the write of PAIR_GRANT_END_HI delivers a host-software grant; ignored when ARB is not 0x80. -/
def execPairGrantEnd (hi t : Nat) (s : State) : Out :=
  let s0 := s.upTo t
  if s0.get R.PAIR_CTL_ARB ≠ 0x80 then .next s0
  else
    let fin := putBits (s0.get R.PAIR_GRANT_END_TIME) 32 32 hi
    .next ((s0.put R.PAIR_GRANT_END_TIME fin).grant (s0.get R.PAIR_GRANT_NODE_NODE) fin)

/-! ## Heartbeats (R285, R312, R314, R315) -/

/-- The lease holder as a side sees it, and the arbiter's own. -/
def State.leaseSeenNode (s : State) : Nat :=
  if s.get R.PAIR_CTL_MODE = 2 then (if s.now < s.pair.lease then s.pair.holder.getD 255 else 255)
  else if s.leaseHeld then s.nodeByte
  else if s.now < s.pair.leaseSeen then s.pair.leaseNode else 255

/-- LEASE_END of a heartbeat: the sender's own lease; an arbiter's that of its holder. -/
def State.leaseSent (s : State) : Nat := if s.get R.PAIR_CTL_MODE = 2 then s.pair.lease else s.get R.PAIR_LEASE_END_TIME

/-- The payload of a heartbeat. -/
def State.heartbeatBytes (s : State) : List Byte :=
  leBytes 8 s.pair.hseq ++ leBytes 1 s.nodeByte ++ leBytes 1 s.announceRole ++ leBytes 1 s.leaseSeenNode ++ zeros 1 ++
    leBytes 4 s.health ++ leBytes 8 s.leaseSent ++ leBytes 8 s.pass.commitSpan

/-- A heartbeat queued on the management port: a whole frame; one not yet begun is replaced (R312, R444). -/
def State.mgmtHeartbeat (s : State) : State :=
  let f := s.wireFrame (s.linkFrame 0x0E 0 0 0 s.heartbeatBytes 0) (s.pair.hseq % 65536) 0
  let s1 := if s.pair.hbQueue.isSome then s.bump R.MGMT_TX_HB_REPLACED 1 else s
  { s1 with pair := { s1.pair with hbQueue := some f } }

/-- A heartbeat leaves on every LOCKED lane of ROLE 3 and 4 and through the management port (R312). -/
def State.heartbeat (s : State) : State :=
  let ls := (List.range 96).filter (fun l => (s.laneRole l == 3 || s.laneRole l == 4) && s.locked l)
  let s1 := ls.foldl (fun a l => a.queueLane l (a.linkFrame 0x0E 0 0 0 a.heartbeatBytes 0)) s
  let s2 := s1.mgmtHeartbeat.wrap R.PAIR_HB_SENT_COUNT 1
  { s2 with pair := { s2.pair with hseq := (s2.pair.hseq + 1) % 18446744073709551616, hbAt := s2.now + 1 } }

/-- HEARTBEAT_SEND (R312): every 100 µs, by a side that is not OFF and by an arbiter. -/
def execHeartbeatSend (t : Nat) (s : State) : Out :=
  let s0 := s.upTo t
  let m := s0.get R.PAIR_CTL_MODE
  if !((m == 1 && s0.side != sideOff) || m == 2) || (s0.pair.hbAt != 0 && decide (s0.now + 1 < s0.pair.hbAt + usT 100)) then .next s0
  else .next s0.heartbeat

/-- The arbiter grants a side (R314): a lease of 400 µs, announced at once. -/
def State.arbGrant (s : State) (nb : Nat) : State :=
  ({ s with pair := { s.pair with holder := some nb, lease := s.now + leaseT, decided := none } } : State).heartbeat

/-- The sides that an arbiter has heard, and whether one is READY. -/
def State.sideReady (s : State) (nb : Nat) : Bool := (Tab.get (0, false) s.pair.beats nb).2

/-- The arbiter's choice while no lease is held (R314): the preferred side if READY, otherwise the other. -/
def State.arbChoose (s : State) : State :=
  let ready := (s.pair.beats.map (·.1)).filter s.sideReady
  if s.now < s.pair.lease + (if s.pair.holder.isSome then guardT else 0) then s
  else
    match ready.find? (fun nb => nb / 64 == s.get R.PAIR_CTL_PREFER), ready with
    | some nb, _ => s.arbGrant nb
    | none, nb :: _ => s.arbGrant nb
    | none, [] => s

/-- A heartbeat of a side reaches the arbiter (R314). -/
def State.arbBeat (s : State) (nb role health time : Nat) : State :=
  let s1 : State := { s with pair := { s.pair with beats := Tab.set (0, false) s.pair.beats nb (time, bit health 0) } }
  if s1.pair.holder = some nb ∧ role = 2 then
    ({ s1 with pair := { s1.pair with lease := time + leaseT, decided := none } } : State).heartbeat
  else if s1.pair.lease ≤ s1.now then s1.arbChoose
  else s1

/-- A heartbeat of the partner reaches a side (R309, R315, R316). -/
def State.partnerBeat (s : State) (role leaseNode health fin time : Nat) : State :=
  let old := s.get R.PAIR_PEER_HEALTH_HEALTH
  let s1 : State := { s.put R.PAIR_PEER_HEALTH_HEALTH health with pair := { s.pair with partnerSeen := true, partnerAt := s.now } }
  let s2 := if bit old 0 != bit health 0 then s1.pairEvt 7 else s1
  let s3 : State := if role = 2 then { s2 with pair := { s2.pair with leaseNode := leaseNode, leaseSeen := fin } } else s2
  let vouch := role == 3 && !bit health 3 && leaseNode == s3.nodeByte && s3.side == sideActive
  let s4 := if vouch then (s3.put R.PAIR_LEASE_END_TIME (time + leaseT)).put R.PAIR_STATUS_WITNESS 1 else s3
  if s4.side = sideFenced ∧ role = 2 then s4.toSyncing else s4

/-- The oldest heartbeat of a lane, or, with `lane` 96, of the management port: header, payload. -/
def State.beatTake (s : State) (lane : Nat) : Option (List Byte × List Byte × State) :=
  if lane < 96 then
    match s.rxTake lane (fun f => hdrType f.hdr == 0x0E) with
    | none => none
    | some (f, s1) => some (f.hdr, f.payload, s1)
  else
    match s.mgmt.beats with
    | [] => none
    | f :: r => some (f.take 32, (f.drop 32).take 32, { s with mgmt := { s.mgmt with beats := r } })

/-- A heartbeat is acted on (R312 to R316): by an arbiter, by its sender's partner, or as the arbiter's word. -/
def State.beatHeard (s1 : State) (h p : List Byte) : State :=
  let nb := byteAt p 8
  let role := byteAt p 9
  let ln := byteAt p 10
  let health := fld p 12 4
  let fin := fld p 16 8
  let time := hdrTime h
  let m := s1.get R.PAIR_CTL_MODE
  if m = 2 then (if nb < 128 ∧ (role = 2 ∨ role = 3) then s1.arbBeat nb role health time else s1)
  else if m ≠ 1 ∨ s1.side = sideOff then s1
  else if nb = s1.partnerByte then s1.partnerBeat role ln health fin time
  else if nb = s1.get R.PAIR_CTL_ARB ∧ role = 4 then
    ({ s1 with pair := { s1.pair with arbSeen := true, arbAt := s1.now } } : State).grant ln fin
  else s1

/-- HEARTBEAT_RECEIVE (R312 to R316): the oldest heartbeat of a lane, or, with `lane` 96, of the management port, whose checks
held (R442). -/
def execHeartbeatReceive (lane t : Nat) (s : State) : Out :=
  let s0 := s.upTo t
  match s0.beatTake lane with
  | none => .next s0
  | some (h, p, s1) => .next (s1.beatHeard h p)

/-- The side that an arbiter gives the lease to when its holder has been silent for 300 µs, if it has one (R314). -/
def State.arbOther (s : State) (h : Nat) : Option Nat :=
  match s.pair.decided with
  | some nb => some nb
  | none =>
    if (Tab.get (0, false) s.pair.beats h).1 + usT 300 ≤ s.now then
      (s.pair.beats.map (·.1)).find? (fun nb =>
        nb != h && s.sideReady nb && decide (s.now ≤ (Tab.get (0, false) s.pair.beats nb).1 + usT 200))
    else none

/-- ARBITER_TIMEOUT (R314): 300 µs after the holder's last heartbeat the other side, READY within the last 200 µs, is decided on,
and granted once the old lease and the guard are over. -/
def execArbiterTimeout (t : Nat) (s : State) : Out :=
  let s0 := s.upTo t
  match s0.get R.PAIR_CTL_MODE, s0.pair.holder with
  | 2, some h =>
    match s0.arbOther h with
    | none => .next (if s0.pair.lease ≤ s0.now then s0.arbChoose else s0)
    | some nb =>
      if s0.pair.lease + guardT ≤ s0.now then
        .next (if s0.sideReady nb then s0.arbGrant nb else { s0 with pair := { s0.pair with decided := none } })
      else .next { s0 with pair := { s0.pair with decided := some nb } }
  | _, _ => .next s0

/-- PARTNER_LOST (R309, R322): 300 µs without a heartbeat of the partner. -/
def execPartnerLost (t : Nat) (s : State) : Out :=
  let s0 := s.upTo t
  if s0.pair.partnerSeen ∧ s0.pair.partnerAt + usT 300 ≤ s0.now then
    .next (({ s0 with pair := { s0.pair with partnerSeen := false } } : State).pairEvt 5)
  else .next s0

/-- ARBITER_LOST (R309, R315, R322): 300 µs without a heartbeat of the arbiter. -/
def execArbiterLost (t : Nat) (s : State) : Out :=
  let s0 := s.upTo t
  if s0.pair.arbSeen ∧ s0.pair.arbAt + usT 300 ≤ s0.now then
    .next (({ s0 with pair := { s0.pair with arbSeen := false } } : State).pairEvt 6)
  else .next s0

/-! ## Mirroring and resync (R306, R308, R311) -/

/-- EMITTED_SEND (R305, R308): the active reports, for every destination of the Draft, the last item sent whole. -/
def execEmittedSend (t : Nat) (s : State) : Out :=
  let s0 := s.upTo t
  if s0.get R.PAIR_CTL_MODE ≠ 1 ∨ s0.side ≠ sideActive ∨ (s0.pair.emitAt ≠ 0 ∧ s0.now + 1 < s0.pair.emitAt + usT 100) then .next s0
  else
    let ds := ((itemsOf s0.draft.struct secRoutes 2).map (·.idx)).filter (fun d => Tab.get 0 s0.frames.destDone d != 0)
    let s1 := ds.foldl (fun a d => a.mirrorRec 6 (leBytes 2 d ++ zeros 2 ++
      leBytes 4 ((Tab.get 0 a.frames.destAlive d + 65535) % 65536) ++ leBytes 8 (Tab.get 0 a.frames.destDone d - 1))) s0
    .next { s1 with pair := { s1.pair with emitAt := s1.now + 1 } }

/-- RESYNC (R311, R321): from STANDBY or SYNCING. -/
def execPairResync (s : State) : Out :=
  .next (if s.side = sideStandby ∨ s.side = sideSyncing then s.toSyncing else s)

/-- SOLO (R316, R321): MODE becomes 0 and the side leaves pairing. As an unpaired chip it emits what it held. -/
def execPairSolo (s : State) : Out :=
  .next (if s.get R.PAIR_CTL_MODE = 0 then s else (s.sideStop.put R.PAIR_CTL_MODE 0).sendHeld)

/-- The last span from which a channel or beam comes into step, for a resync from span `r` (R311): a channel from its first
integration that begins at or after `r`, a beam from `r` + 1. -/
def lastInStep (l : List Item) (r : Nat) : Nat :=
  let k := max 1 (kOf l)
  let chan := fun (x : Item) => (List.range (plyNfine x.body)).map (fun i =>
    let c := plyFirst x.body + i
    let z := zoomRatio l c
    let r' := cdiv r z
    (r' + (c % max 1 (pOf l) % k + k - r' % k) % k) * z)
  let cs := ((plies l).filter (fun x => plyCorr x.body)).flatMap chan
  let bs := if (plies l).any (fun x => plyBeam x.body) then [r + 1] else []
  (cs ++ bs).foldl max r

/-- The numbers of output items that a resync brings into step begin here (R308; notes/assumptions/105.md). -/
def itemsFrom (r : Nat) : Nat := r * 4294967296

/-- From span R on both sides number their output items alike (R308, R311). -/
def State.itemsAt (s : State) (r : Nat) : State :=
  let ds := (itemsOf s.draft.struct secRoutes 2).map (·.idx)
  { s with frames := { s.frames with destItem := ds.foldl (fun t d => Tab.upd 0 t d (max (itemsFrom r))) s.frames.destItem } }

/-- RESYNC_DONE (R311 step 5): at the start of span R′ + 1. The active side has met no gap since, either (R309). -/
def State.resyncSpan (s0 : State) (span : Nat) : State :=
  match s0.pair.resyncR with
  | none => s0
  | some r =>
    let s := if span = r then s0.itemsAt r else s0
    if span < lastInStep s.draft.struct r + 1 then s
    else
      let s1 : State := { s with pair := { s.pair with resyncR := none, peerOut := false, mirrorOk := true } }
      if s1.side = sideSyncing then
        (({ s1 with pair := { s1.pair with inStep := true } } : State).put R.PAIR_STATUS_STATE sideStandby).pairEvt 4
      else s1

/-- STANDBY_SELF_TEST (R310): every 100 µs a self-test of the next knot that no non-idle ply covers, in a section that is ON. -/
def execStandbySelfTest (t : Nat) (s : State) : Out :=
  let s0 := s.upTo t
  if !(s0.side == sideStandby || s0.side == sideSyncing) || (s0.pair.testAt != 0 && decide (s0.now + 1 < s0.pair.testAt + usT 100)) then
    .next s0
  else
    let order := (List.range 1024).map (fun k => (s0.pair.nextKnot + k) % 1024)
    match order.find? (fun K => s0.pstate (K / 64) == 2 && (knotPly s0.draft.struct s0.node K).isNone && !s0.is1 R.KNOT_STATUS_TEST_BUSY K) with
    | none => .next s0
    | some K =>
      let s1 := s0.testBegins K
      .next { s1 with pair := { s1.pair with nextKnot := (K + 1) % 1024, testAt := s1.now + 1 } }

/-! ## Badger (R320) -/

/-- A mailbox request that the failed core was serving completes with RETRY, for whose form in the mailbox the manual gives no bytes: LEN and
the response are free (notes/assumptions/96.md). One that was only received waits for the new core. -/
def State.mboxRetry (s : State) : State :=
  if !s.trust.spdm.any (fun q => q.transport == 2) then s
  else
    let (n, s1) := s.takeFree
    let (v, s2) := s1.takeFree
    let s3 := (s2.put R.TRUST_MBOX_CTL_BUSY 0).put R.TRUST_MBOX_CTL_DONE 1
    let s4 := s3.put R.TRUST_MBOX_CTL_LEN n
    { s4 with trust := { s4.trust with
      spdm := s4.trust.spdm.filter (fun q => q.transport != 2)
      mboxResp := leBytes (s4.get R.TRUST_MBOX_CTL_LEN) v, mboxRead := 0, mboxReq := [] } }

/-- The standby core takes over: event 0x1A8; what was in service completes with RETRY, what was received is kept. -/
def State.takeover (s0 : State) : State :=
  let s := s0.mboxRetry
  let s1 := (s.put R.PAIR_BADGER_ACTIVE_CORE (1 - s.get R.PAIR_BADGER_ACTIVE_CORE)).bump R.PAIR_BADGER_TAKEOVERS 1
  (((s1.put R.PAIR_BADGER_FAILED 1).put R.PAIR_BADGER_STANDBY_OK 0).ledCount 9).raise 0x1A8

end Sys2Proof.Machine
end

