-- ==== Sys2Proof/Machine/Ports.lean ====
section
/-!
DEFINITION. The PCIe link and function (R435 to R438), the management port (R439 to R445), the flash master (R448).
-/

namespace Sys2Proof.Machine

/-- Does the fabric run, so that the ports of this chapter work (R455, R461, R489)? -/
def State.alive (s : State) : Bool := decide (s.power.d ≤ 1) && decide (2 ≤ s.get R.SYS_BOOT_STAGE)

/-! ## PCIe (R437, R438) -/

/-- DWORD `k` of the configuration header of the function (R435; the places of its fields are PCI Express's, PRESUMED): identity, class code
with a free revision, the two 64-bit BARs as they read before an address is assigned, no other BAR and no expansion ROM. -/
def configWord (k : Nat) : Nat :=
  match k with
  | 0 => 0x4096 * 65536 + Config.pcieVendor % 65536
  | 2 => 0x118000 * 256 + Config.freeValue 0 % 256
  | 4 => 0x4
  | 6 => 0xC
  | _ => 0

/-- COMPLETION_TIMEOUT (R437): a read of host memory that has stood for 10 ms without a completion ends with status 3. -/
def execCompletionTimeout (read : HostRead) (t : Nat) (s : State) : Out :=
  let s0 := s.upTo t
  match s0.store.hostReads.find? (fun e => e.1 == read.port && e.2.1 == read.addr) with
  | none => .next s0
  | some e =>
    if s0.now < e.2.2 + nsToT 10000000 then .next s0
    else
      let s1 : State := { s0 with store := { s0.store with hostReads := s0.store.hostReads.erase e } }
      .next (s1.pcieCto.emit (.storeDone read.port read.addr stError [] false))

/-- LINK_DOWN (R438). -/
def execLinkDown (s : State) : Out :=
  if !s.is R.PCIE_STATUS_UP then .next s
  else
    let s1 := ((s.put R.PCIE_STATUS_UP 0).put R.PCIE_STATUS_SPEED 0).put R.PCIE_STATUS_WIDTH 0
    .next ((s1.bump R.PCIE_STATUS_DOWNS 1).pcieEvt 0).hostReadsEnd

/-- LINK_UP (R438): one message for each vector still pending and unmasked whose message has not been sent. -/
def execLinkUp (speed width : Nat) (s : State) : Out :=
  if s.is R.PCIE_STATUS_UP || !s.alive then .next s
  else
    let s1 := ((s.put R.PCIE_STATUS_UP 1).put R.PCIE_STATUS_SPEED speed).put R.PCIE_STATUS_WIDTH width
    .next (s1.pcieEvt 1).vecFlush

/-- The PCIe block reset (R438): the link, MSI-X and the DOE mailbox with its connection. -/
def State.fnReset (s : State) : State :=
  let s1 := ((s.put R.PCIE_STATUS_UP 0).put R.PCIE_STATUS_SPEED 0).put R.PCIE_STATUS_WIDTH 0
  { s1 with
    evt := { s1.evt with msix := [], enable := false, fmask := false }
    power := { s1.power with d3hot := false }
    trust := { s1.trust with conns := Tab.set 0 s1.trust.conns 0 0, spdm := s1.trust.spdm.filter (fun q => q.transport != 0) } }

/-- FN_RESET (R438): PERST_N, hot reset or FLR. -/
def execFnReset (s : State) : Out := .next (if decide (s.power.d ≤ 1) then (s.fnReset.pcieEvt 5).hostReadsEnd else s)

/-- D3HOT (R438): the function enters D3hot, and requests to host targets end; with `on` false it returns to its D0. -/
def execD3hot (on : Bool) (s : State) : Out :=
  let s1 : State := { s with power := { s.power with d3hot := on } }
  .next (if on then s1.hostReadsEnd else s1)

/-! ## Management frames (R439 to R445) -/

/-- The station address as octets, the first in LO [7:0]. -/
def State.mgmtMac (s : State) : List Byte := leBytes 6 (s.get R.MGMT_MAC_ADDR)

/-- EtherType at octet 12 (R441). -/
def etherType (d : List Byte) : Nat := beNat ((d.drop 12).take 2)

/-- A frame without its one tag (TPID 0x8100, PRESUMED: IEEE 802.1Q). -/
def untag (d : List Byte) : List Byte := if etherType d = 0x8100 then d.take 12 ++ d.drop 16 else d

/-- Filter 5 (R441). -/
def State.tagOk (s : State) (d : List Byte) : Bool :=
  if etherType d = 0x8100 then
    etherType (untag d) != 0x8100 &&
      (!s.is R.MGMT_VLAN_RX_MATCH || beNat ((d.drop 14).take 2) % 4096 == s.get R.MGMT_VLAN_VID)
  else s.is R.MGMT_VLAN_RX_UNTAGGED

/-- Filter 4 (R440). -/
def State.destOk (s : State) (d : List Byte) : Bool :=
  let a := d.take 6
  a == s.mgmtMac || a == List.replicate 6 0xFF#8 ||
    (List.range 2).any (fun k => s.is1 R.MGMT_MCAST_EN k && a == leBytes 6 (s.get1 R.MGMT_MCAST_ADDR k)) ||
    (s.get R.TIME_NET_CTL_SRC == 1 && a == [0x01#8, 0x1B#8, 0x19#8, 0#8, 0#8, 0#8])

/-- Octets of the receive buffer (R440). -/
def rxBuffer : Nat := 16384

/-- Octets of it that frames hold which the part has still to act on: register and MCTP requests, heartbeats. -/
def State.rxHeld (s : State) : Nat :=
  (s.mgmt.reqs.map (fun e => 14 + e.2.length)).sum + (s.mgmt.beats.map (fun b => 14 + b.length)).sum +
    (s.trust.mctp.map (fun p => 12 + p.length)).sum

/-- The first filter of R440 that a frame fails, 0 for none. `d` runs from the destination address to the octet before the FCS; `ok`:
the FCS is right and MII showed no error; `held`: octets of the receive buffer that Badger's frames hold. -/
def State.mgmtFilter (s : State) (d : List Byte) (ok : Bool) (held : Nat) : Nat :=
  if d.length + 4 < 64 then 1
  else if 1522 < d.length + 4 then 2
  else if !ok then 3
  else if !s.destOk d then 4
  else if !s.tagOk d then 5
  else if rxBuffer < s.rxHeld + held + d.length then 6
  else 0

/-- The registers of the stamp queue that DIR shows (R445). -/
def State.tsShow (s : State) : State :=
  let q := if s.get R.MGMT_TS_CTL_DIR = 1 then s.mgmt.txTs else s.mgmt.rxTs
  let e := q.headD (0, 0, 0)
  (((s.put R.MGMT_TS_CTL_COUNT q.length).put R.MGMT_TS_TIME_TIME e.1).put R.MGMT_TS_INFO_MSGTYPE e.2.1).put R.MGMT_TS_INFO_SEQ e.2.2

/-- The time that the stamp of an IEEE 1588 message tells (R382, R445): as master the part stamps the messages of its domain from array time
plus OFS (domainNumber is octet 4 of the message, PRESUMED: IEEE 1588). -/
def State.ptpTime (s : State) (t : Nat) (msg : List Byte) : Nat :=
  if s.is R.TIME_NET_CTL_PTP_MODE ∧ byteAt msg 4 = s.get R.TIME_NET_CTL_DOMAIN then usgn 64 ((t : Int) + sgn 64 (s.get R.TIME_PTP_OFS_OFS)) else t

/-- A stamp of an IEEE 1588 message queued (R445): messageType and sequenceId stand where IEEE 1588 has them (PRESUMED). -/
def State.stamp (s : State) (tx : Bool) (t : Nat) (msg : List Byte) : State :=
  let e := (s.ptpTime t msg, byteAt msg 0 % 16, beNat ((msg.drop 30).take 2))
  let q := if tx then s.mgmt.txTs else s.mgmt.rxTs
  if 8 ≤ q.length then (s.bump R.MGMT_TS_CTL_DROPPED 1).mgmtEvt 3
  else
    let m := if tx then { s.mgmt with txTs := q ++ [e] } else { s.mgmt with rxTs := q ++ [e] }
    ({ s with mgmt := m } : State).tsShow

/-- A frame of the part: destination, own address, EtherType, payload. -/
def State.etherFrame (s : State) (dest : List Byte) (type : Nat) (payload : List Byte) : List Byte :=
  dest ++ s.mgmtMac ++ beBytes 2 type ++ payload

/-- A response queued (R443, R444). -/
def State.respond (s : State) (dest payload : List Byte) : State :=
  { s with mgmt := { s.mgmt with resps := s.mgmt.resps ++ [s.etherFrame dest 0x88B6 payload] } }

/-- A command packet of KIND 0x8001 (R443). -/
def mctpPacket (p : List Byte) : List Byte := leBytes 2 0x8001 ++ leBytes 2 p.length ++ p

/-- The answer to an MCTP control message (R477; layouts PRESUMED: DMTF DSP0236): Set Endpoint ID, Get Endpoint ID, Get MCTP Version
Support, Get Message Type Support; none for any other. -/
def State.mctpControl (s : State) (p : List Byte) : Option (List Byte × State) :=
  let head := fun (a : State) => [0x01#8, p.getD 2 0#8] ++ leBytes 1 (a.get R.TRUST_CTL_MCTP_EID) ++
    leBytes 1 (0xC0 + byteAt p 3 % 8) ++ [0#8] ++ leBytes 1 (byteAt p 5 % 32) ++ [p.getD 6 0#8, 0#8]
  match byteAt p 6 with
  | 1 =>
    let s1 := s.put R.TRUST_CTL_MCTP_EID (byteAt p 8)
    some (head s1 ++ [0#8, p.getD 8 0#8, 0#8], s1)
  | 2 => some (head s ++ leBytes 1 (s.get R.TRUST_CTL_MCTP_EID) ++ [0#8, 0#8], s)
  | 4 =>
    let (v, s1) := s.takeFree
    some (head s1 ++ [1#8] ++ leBytes 4 v, s1)
  | 5 => some (head s ++ [1#8, 5#8], s)
  | _ => none

/-- A control message of MCTP (R477). -/
def mctpIsControl (p : List Byte) : Bool := byteAt p 4 % 128 == 0 && byteAt p 3 / 64 == 3

/-- A control message answered (R477). -/
def State.mctpAnswer (s : State) (src p : List Byte) : State :=
  match s.mctpControl p with
  | some (r, s1) => s1.respond src (mctpPacket r)
  | none => s

/-- A KIND 0x8001 packet received (R443, R477): a control message is answered at once, or waits behind the register requests that arrived
before it; SPDM packets wait; a LEN outside 5 to 68, or beyond the payload, makes it malformed. -/
def State.mctpReceive (s : State) (src payload : List Byte) : State :=
  let n := fld payload 2 2
  let p := (payload.drop 4).take n
  if n < 5 ∨ 68 < n ∨ p.length < n then s.mgmtEvt 4
  else if mctpIsControl p then
    if s.mgmt.reqs.isEmpty then s.mctpAnswer src p else { s with mgmt := { s.mgmt with reqs := s.mgmt.reqs ++ [(src, payload)] } }
  else { s with trust := { s.trust with mctp := s.trust.mctp ++ [src ++ p] } }

/-- The control messages at the front of the requests answered: nothing that arrived before them waits. Fuelled by their number. -/
def mctpTurnF : Nat → State → State
  | 0, s => s
  | f + 1, s =>
    match s.mgmt.reqs with
    | [] => s
    | (src, q) :: r =>
      if fld q 0 2 = 0x8001 then
        mctpTurnF f (({ s with mgmt := { s.mgmt with reqs := r } } : State).mctpAnswer src ((q.drop 4).take (fld q 2 2)))
      else s

def State.mctpTurn (s : State) : State := mctpTurnF s.mgmt.reqs.length s

/-- A complete Skein frame of type 0x0E whose HCRC and FCRC are right (R442). -/
def heartbeatOk (p : List Byte) : Bool :=
  let h := p.take 32
  decide (72 ≤ p.length) && hdrType h == 0x0E && hdrLen h == 32 && crc16 (h.take 30) == hdrCrc h &&
    crc32c (h ++ (p.drop 32).take 32) == fld p 64 4

/-- An accepted frame goes where R442 sends it. `t`: the instant of its stamp. -/
def State.mgmtDispatch (s : State) (d : List Byte) : State :=
  let type := etherType d
  let src := (d.drop 6).take 6
  let p := d.drop 14
  if type = 0x88F7 then
    (s.stamp false (s.now - nsToT (s.get R.MGMT_TS_LAT_RX)) p).emit (.badger type src p)
  else if type = 0x88B5 then
    if heartbeatOk p then { s with mgmt := { s.mgmt with beats := s.mgmt.beats ++ [p.take 72] } } else s
  else if type = 0x88B6 then
    match fld p 0 2 with
    | 0x8001 => s.mctpReceive src p
    | 0x8002 => { s with mgmt := { s.mgmt with reqs := s.mgmt.reqs ++ [(src, p)] } }
    | k => if k < 0x8000 then s.bump R.MGMT_RX_FOREIGN 1 else s
  else s.emit (.badger type src p)

/-- Array time that octets take on the medium at 10 Mb/s (R439). -/
def octetsT (n : Nat) : Nat := nsToT (800 * n)

/-- Carrier on the medium until `at_` (R439). -/
def State.carrierTo (s : State) (at_ : Nat) : State := { s with mgmt := { s.mgmt with carrier := max s.mgmt.carrier (at_ + 1) } }

/-- MGMT_RECEIVE (R440 to R442, R445): `t` is the instant at which the last nibble of the SFD crossed the MII. -/
def execMgmtReceive (frame : List Byte) (ok : Bool) (held t : Nat) (s : State) : Out :=
  let s0 := (s.upTo t).carrierTo (t + octetsT (frame.length + 4))
  if !s0.is R.MGMT_CTL_EN || !s0.alive then .next s0
  else
    match s0.mgmtFilter frame ok held with
    | 0 => .next (s0.mgmtDispatch (untag frame))
    | 1 => .next ((s0.bump R.MGMT_RX_RUNT 1).mgmtEvt 0)
    | 2 => .next ((s0.bump R.MGMT_RX_OVERSIZE 1).mgmtEvt 0)
    | _ => .next ((s0.bump R.MGMT_RX_BAD 1).mgmtEvt 0)

/-- A frame as it is transmitted (R441): padded to 64 octets with its FCS, then tagged. -/
def State.txFrame (s : State) (f : List Byte) : List Byte :=
  let d := padTo (max 60 f.length) f
  if s.is R.MGMT_VLAN_TX_TAG then
    d.take 12 ++ beBytes 2 0x8100 ++ beBytes 2 (s.get R.MGMT_VLAN_PCP * 8192 + s.get R.MGMT_VLAN_VID) ++ d.drop 12
  else d

/-- An attempt begins now: the frame leaves, with its preamble and SFD before it and its FCS behind; it is stamped, if it is an IEEE 1588
message, as the last nibble of its SFD goes, 8 octets on (R445). -/
def State.attempt (s : State) (x : MgmtTx) : State :=
  let room := decide (s.mgmt.txTs.length < 8)
  let s1 : State := ({ s with mgmt := { s.mgmt with
    tx := some { x with start := s.now, backoff := 0, stamped := x.ptp && room } } } : State).emit (.mgmt x.frame)
  let s2 := s1.carrierTo (s.now + octetsT (x.frame.length + 12))
  if x.ptp then s2.stamp true (s2.now + octetsT 8 + nsToT (s2.get R.MGMT_TS_LAT_TX)) ((untag x.frame).drop 14) else s2

/-- Has the gap of 96 bit times passed since the end of carrier (R439)? -/
def State.gapOver (s : State) : Bool := s.mgmt.carrier == 0 || decide (s.mgmt.carrier + nsToT 9600 ≤ s.now + 1)

/-- Is the MAC free (R439): no frame in back-off, the medium quiet for a gap? -/
def State.macFree (s : State) : Bool :=
  (match s.mgmt.tx with
  | none => true
  | some x => x.backoff == 0) && s.gapOver

/-- The next frame of the queues, in the order of R444. `ptp` and `other` are what Badger offers. A destination address of heartbeats
and event frames is stated nowhere: free. -/
def State.nextMgmt (s : State) (ptp other : List Byte) : Option (List Byte × Bool × State) :=
  match s.pair.hbQueue with
  | some f =>
    let (v, s1) := s.takeFree
    some (s1.etherFrame (leBytes 6 v) 0x88B5 f, false, { s1 with pair := { s1.pair with hbQueue := none } })
  | none =>
    if !ptp.isEmpty then some (ptp, true, s)
    else
      match s.mgmt.resps, s.evt.frames with
      | f :: r, _ => some (f, false, { s with mgmt := { s.mgmt with resps := r } })
      | [], f :: r =>
        let (v, s1) := s.takeFree
        some (s1.etherFrame (leBytes 6 v) 0x88B6 f, false,
          ({ s1 with evt := { s1.evt with frames := r } } : State).put R.EVT_MGMT_QUEUED r.length)
      | [], [] => if other.isEmpty then none else some (other, false, s)

/-- MGMT_TRANSMIT (R444). -/
def execMgmtTransmit (ptp other : List Byte) (t : Nat) (s : State) : Out :=
  let s0 := s.upTo t
  if !s0.is R.MGMT_CTL_EN || !s0.alive || !s0.power.hpEn || !s0.macFree then .next s0
  else
    match s0.nextMgmt ptp other with
    | none => .next s0
    | some (f, p, s1) => .next (s1.attempt ⟨s1.txFrame f, 0, 0, 0, p, false⟩)

/-- COLLISION (R439): a late one, or the 16th, abandons the frame; else back-off, whose r is free. Carrier ends with
the jam of 32 bits (PRESUMED: IEEE 802.3). -/
def execCollision (t : Nat) (s : State) : Out :=
  let s0 := s.upTo t
  match s0.mgmt.tx with
  | none => .next s0
  | some x =>
    if x.backoff ≠ 0 ∨ x.start + octetsT (x.frame.length + 12) < s0.now then .next s0
    else
      let q := if x.stamped then s0.mgmt.txTs.dropLast else s0.mgmt.txTs
      let s1 := ({ s0 with mgmt := { s0.mgmt with tx := none, txTs := q, carrier := s0.now + octetsT 4 + 1 } } : State).tsShow
      let n := x.tries + 1
      if x.start + nsToT 51200 < s0.now then .next ((s1.bump R.MGMT_TX_LATE 1).mgmtEvt 2)
      else if 16 ≤ n then .next ((s1.bump R.MGMT_TX_EXCESS 1).mgmtEvt 1)
      else
        let (v, s2) := s1.takeFree
        .next { s2 with mgmt := { s2.mgmt with
          tx := some { x with tries := n, stamped := false, backoff := s2.now + nsToT (51200 * (v % 2 ^ min n 10)) + 1 } } }

/-- BACKOFF_EXPIRY (R439): the next attempt, once back-off has ended and the medium has been quiet for a gap. -/
def execBackoffExpiry (t : Nat) (s : State) : Out :=
  let s0 := s.upTo t
  match s0.mgmt.tx with
  | none => .next s0
  | some x =>
    if x.backoff = 0 ∨ s0.now + 1 < x.backoff ∨ !s0.gapOver ∨ !s0.is R.MGMT_CTL_EN ∨ !s0.alive ∨ !s0.power.hpEn then .next s0
    else .next (s0.attempt x)

/-- MGMT_TS_POP (R445). -/
def execMgmtTsPop (dir : Nat) (s : State) : Out :=
  let s1 := s.put R.MGMT_TS_CTL_DIR dir
  let m := if s1.get R.MGMT_TS_CTL_DIR = 1 then { s1.mgmt with txTs := s1.mgmt.txTs.drop 1 } else { s1.mgmt with rxTs := s1.mgmt.rxTs.drop 1 }
  .next ({ s1 with mgmt := m } : State).tsShow

/-- What a reset, D1 or D2 does to the port (R453): stamps and queued frames are gone. -/
def State.mgmtReset (s : State) : State :=
  ({ s with
    mgmt := ⟨none, [], [], [], [], [], s.mgmt.carrier⟩
    evt := { s.evt with frames := [] }
    pair := { s.pair with hbQueue := none } } : State).tsShow.put R.EVT_MGMT_QUEUED 0

/-! ## Flash (R448) -/

/-- Does the boot sequencer hold the flash (R448, R491)? -/
def State.bootHolds (s : State) : Bool := s.get R.SYS_BOOT_STAGE == 2 && decide (s.power.image < 2)

/-- Data bytes of a FLASH_CTL word. -/
def flashLen (ctl : Nat) : Nat := min 256 (bits ctl 9 9)

/-- Bytes of FLASH_BUF. -/
def State.flashBuf (s : State) (n : Nat) : List Byte := ((List.range 64).flatMap (fun k => leBytes 4 (s.get1 R.FLASH_BUF_DATA k))).take n

/-- A flash command issued. -/
def State.flashStart (s : State) : State :=
  let ab := s.get R.FLASH_CTL_ABYTES
  let w := s.get R.FLASH_CTL_WRITE
  let len := min 256 (s.get R.FLASH_CTL_LEN)
  let s1 : State := { s with scp := { s.scp with flashWait := false, flashAt := s.now, flashCtl := len * 512 + w * 2 ^ 29 } }
  (s1.put R.FLASH_CTL_BUSY 1).emit (.flash (s.get R.FLASH_CTL_OPCODE) (if ab = 1 then 3 else if ab = 2 then 4 else 0)
    (s.get R.FLASH_ADDR_ADDR) (s.get R.FLASH_DUMMY_CLOCKS) len (s.get R.FLASH_CTL_QUAD) (if w = 1 then s.flashBuf len else []))

/-- FLASH_GO (R448). -/
def execFlashGo (t : Nat) (s : State) : Out :=
  let s0 := s.upTo t
  if s0.is R.FLASH_CTL_BUSY then .next (s0.bump R.FLASH_CTL_IGNORED 1)
  else if s0.bootHolds then .next { s0 with scp := { s0.scp with flashWait := true } }
  else .next s0.flashStart

/-- The boot sequencer lets the flash go: a GO that waited is issued. -/
def State.flashFree (s : State) : State := if s.scp.flashWait then s.flashStart else s

/-- FLASH_DONE (R448): a read's data stands in FLASH_BUF. -/
def execFlashDone (data : List Byte) (s : State) : Out :=
  if !s.is R.FLASH_CTL_BUSY then .next s
  else
    let s1 := s.put R.FLASH_CTL_BUSY 0
    if bit s.scp.flashCtl 29 then .next s1
    else
      let d := padTo (flashLen s.scp.flashCtl) data
      let all := d ++ (s1.flashBuf 256).drop d.length
      .next (forN 64 (fun k a => a.put1 R.FLASH_BUF_DATA k (fld all (4 * k) 4)) s1)

/-- FLASH_TIMEOUT (R448). -/
def execFlashTimeout (t : Nat) (s : State) : Out :=
  let s0 := s.upTo t
  if !s0.is R.FLASH_CTL_BUSY || decide (s0.now < s0.scp.flashAt + nsToT 10000000) then .next s0
  else .next (((s0.put R.FLASH_CTL_BUSY 0).bump R.FLASH_CTL_ERRORS 1).scpEvt 2)

end Sys2Proof.Machine
end

