-- ==== Sys2Proof/Machine/Ledger.lean ====
section
/-!
DEFINITION. The Ledger (R482 to R485): commits, load and emergency records, access to the live image, histograms.
-/

namespace Sys2Proof.Machine

/-! ## Commits (R482) -/

/-- The `n` bytes of a sparse image from offset `o`, in one walk of its entries. -/
def imageBytes : Nat → Nat → Tab Byte → List Byte
  | 0, _, _ => []
  | n + 1, o, [] => 0#8 :: imageBytes n (o + 1) []
  | n + 1, o, (k, v) :: r => if k = o then v :: imageBytes n (o + 1) r else 0#8 :: imageBytes n (o + 1) ((k, v) :: r)

/-- The header of a commit at `t` (R483), its CRC over the whole image. -/
def ledgerHeader (img : Tab Byte) (commits t : Nat) : Tab Byte :=
  let i1 := ledgerPut img 0
    (leBytes 4 0x5247444C ++ leBytes 2 1 ++ zeros 2 ++ leBytes 8 commits ++ leBytes 8 t ++ leBytes 8 Config.deviceId ++ zeros 32)
  ledgerPut i1 60 (leBytes 4 (crc32c (imageBytes 65536 0 i1)))

/-- COMMITS of an image. -/
def ledgerCommits (img : Tab Byte) : Nat := leNat (ledgerBytes img 8 8)

/-- LEDGER_COMMIT (R482): the live image, COMMITS one higher, goes to the next copy in rotation, which holds nothing valid until it
has read back well. Ignored while BUSY, and in D2 and D3, which hold no live image. -/
def execLedgerCommit (t : Nat) (s : State) : Out :=
  let s0 := s.upTo t
  if s0.is R.LEDGER_STATUS_BUSY || !s0.alive then .next s0
  else
    let img := ledgerHeader s0.ledger.image (ledgerCommits s0.ledger.image + 1) s0.now
    .next (({ s0 with ledger := { s0.ledger with
      image := img, commit := some img, tries := 0
      copies := Tab.del s0.ledger.copies s0.ledger.next } } : State).put R.LEDGER_STATUS_BUSY 1)

/-- COMMIT_DONE (R482): the copy has been read back, well or not; a bad one is written to the following copy, and the third bad
one ends the commit. -/
def execCommitDone (ok : Bool) (s : State) : Out :=
  match s.ledger.commit with
  | none => .next s
  | some img =>
    let k := s.ledger.next
    let k' := (k + 1) % 63
    if ok then
      .next ((({ s with ledger := { s.ledger with
        commit := none, next := k', since := [], copies := Tab.set [] s.ledger.copies k img } } : State).put
          R.LEDGER_STATUS_COPY k).put R.LEDGER_STATUS_BUSY 0)
    else
      let s1 := s.bump R.LEDGER_STATUS_FAILS 1
      if s.ledger.tries + 1 < 3 then
        .next { s1 with ledger := { s1.ledger with next := k', tries := s.ledger.tries + 1, copies := Tab.del s1.ledger.copies k' } }
      else
        let s2 : State := { s1 with ledger := { s1.ledger with commit := none, next := k', tries := 0 } }
        .next (((s2.put R.LEDGER_STATUS_BUSY 0).put R.LEDGER_STATUS_FAIL 1).ledgerEvt 0)

/-! ## Emergency records and the load (R482) -/

/-- The den writes an emergency record: cause, rail, array time, the den's seconds count (its layout is the model's). -/
def State.emergency (s : State) (cause rail : Nat) : State :=
  let r := padTo 64 (leBytes 1 cause ++ leBytes 1 rail ++ zeros 6 ++ leBytes 8 s.now ++ leBytes 8 (s.led 0x48 8))
  let ring := s.ledger.ring ++ [r]
  { s with ledger := { s.ledger with ring := ring.drop (ring.length - 1024), since := s.ledger.since ++ [r] } }

/-- A record folded into the image: the supply fault or thermal trip, and the entry to the den, are counted. -/
def State.foldRecord (s : State) (r : List Byte) : State := (s.ledCount (if byteAt r 0 = 2 then 8 else 7)).ledCount 2

/-- The latest valid copy: the one with the highest COMMITS. -/
def State.latestCopy (s : State) : Option (Nat × Tab Byte) :=
  s.ledger.copies.foldl (fun (m : Option (Nat × Tab Byte)) c =>
    match m with
    | none => some c
    | some b => if ledgerCommits b.2 < ledgerCommits c.2 then some c else m) none

/-- The boot sequencer loads the image (R482). -/
def State.ledgerLoad (s : State) : State :=
  let s1 : State := match s.latestCopy with
    | some (k, img) =>
      ({ s with ledger := { s.ledger with image := img, next := (k + 1) % 63 } } : State).put R.LEDGER_STATUS_COPY k
    | none =>
      ({ s with ledger := { s.ledger with image := ledgerPut [] 24 (leBytes 8 Config.deviceId) } } : State).ledgerEvt 1
  if s1.ledger.since.isEmpty then s1 else (s1.ledger.since.foldl State.foldRecord s1).ledgerEvt 2

/-! ## Access (R485) -/

/-- May a word of the live image be written: retirement bytes, delay-set area, software area? -/
def ledgerWritable (o : Nat) : Bool :=
  decide (0x2C0 ≤ o ∧ o < 0x2C8) || decide (0x2000 ≤ o ∧ o < 0x6400) || decide (0x8000 ≤ o ∧ o < 0x10000)

/-- A word written: in the retirement bytes a 0 clears and anything else leaves the byte as it is. -/
def State.ledgerWord (s : State) (o v : Nat) : State :=
  let old := ledgerBytes s.ledger.image o 4
  let new := leBytes 4 v
  let d := if o < 0x2C8 then (old.zip new).map (fun p => if p.2 = 0#8 then p.2 else p.1) else new
  { s with ledger := { s.ledger with image := ledgerPut s.ledger.image o d } }

/-- An access of LEDGER_DATA: the word read, and the address advanced. -/
def State.ledgerAccess (s : State) (w : Option Nat) : Nat × State :=
  let word := s.get R.LEDGER_ADDR_WORD
  let o := 4 * word
  let s1 := match w with
    | none => s
    | some v => if ledgerWritable o then s.ledgerWord o v else (s.bump R.LEDGER_STATUS_REFUSED 1).ledgerEvt 3
  (s.led o 4, s1.put R.LEDGER_ADDR_WORD (word + 1))

/-- LEDGER_DATA (R485): a write, or a read of a master. -/
def execLedgerData (master value : Nat) (write : Bool) (s : State) : Out :=
  let (v, s1) := s.ledgerAccess (if write then some value else none)
  .next (if write then s1 else s1.emit (.regRead master R.LEDGER_DATA_DATA.addr v))

/-! ## Histograms (R484) -/

/-- Bin of a junction temperature in °C. -/
def tempBin (c : Int) : Nat := if c < -30 then 0 else if 110 ≤ c then 15 else ((c + 30) / 10).toNat + 1

/-- Bin of a rail's deviation from nominal in hundredths of a percent. -/
def railBin (d : Int) : Nat :=
  if d < -400 then 0 else if d < -200 then 1 else if d < -100 then 2 else if d < 0 then 3
  else if d < 100 then 4 else if d < 200 then 5 else if d < 400 then 6 else 7

/-- Bin of a lane's invalid headers in a second. -/
def hdrBin (n : Nat) : Nat :=
  if n = 0 then 0 else if n = 1 then 1 else if n < 10 then 2 else if n < 100 then 3 else if n < 1000 then 4
  else if n < 10000 then 5 else if n < 100000 then 6 else 7

/-- LEDGER_SAMPLE (R483, R484): once per second in D0 and D1; `rails`: the deviation of each rail, in POWER_SUPPLY order. A lane is
counted for a second that it spends LOCKED. -/
def execLedgerSample (rails : List Int) (t : Nat) (s : State) : Out :=
  let s0 := s.upTo t
  if 2 ≤ s0.power.d then .next s0
  else
    let s1 := (s0.ledCount 0).ledBump (0xC0 + 4 * tempBin (sgn 8 (s0.get R.POWER_TEMP_DIE_MAX))) 4 1
    let s2 := forN 8 (fun k a => a.ledBump (0x100 + 32 * k + 4 * railBin (rails.getD k 0)) 4 1) s1
    let s3 := (s0.ledger.lockedAll.filter s0.locked).foldl (fun a l =>
      a.ledBump (0x400 + 32 * l + 4 * hdrBin (Tab.get 0 s0.ledger.hdr l)) 4 1) s2
    .next { s3 with ledger := { s3.ledger with hdr := [], lockedAll := (List.range 96).filter s0.locked } }

end Sys2Proof.Machine
end

