-- ==== Sys2Proof/Machine/Maps.lean ====
section
/-!
DEFINITION. The map that a Draft builds, invalidation, the states of the store, the fault log (R358 to R363, R367).
-/

namespace Sys2Proof.Machine

/-! ## The build (R358) -/

/-- The regions of a placement that hold stack bytes. -/
def sited (rs : List Region) : List Region := rs.filter (fun r => r.sites != 0)

/-- L1_COUNT: the largest multiple of 512, up to 262,144, that fits a root region of `size` bytes beside `n` level-2 tables. -/
def l1Count (size n : Nat) : Nat := min 262144 ((size - 4096 * n) / 4096 * 512)

/-- A local entry with GEN 0 (R354, R355). -/
def localEntry (table : Bool) (region off : Nat) : Nat := 1 + 8 * b2n table + 256 * region + 262144 * (off / 4096)

/-- The region that holds a store address. -/
def regionAt (rs : List Region) (a : Nat) : Option Region := rs.find? (fun r => decide (r.base ≤ a ∧ a < r.base + r.size))

/-- The level-1 entry of a window: a region that covers it whole, or its level-2 table. -/
def l1Entry (rs : List Region) (root l1 : Nat) (parts : List Nat) (w : Nat) : Nat :=
  match findIdx? (· == w) parts with
  | some k => localEntry true root (8 * l1 + 4096 * k)
  | none =>
    match regionAt rs (w * gib) with
    | some r => localEntry false r.num (w * gib - r.base)
    | none => 0

/-- The level-2 table of a window. -/
def l2Table (rs : List Region) (w : Nat) : List Byte :=
  (List.range 512).flatMap (fun p =>
    let a := w * gib + p * 2097152
    match regionAt rs a with
    | some r => leBytes 8 (localEntry false r.num (a - r.base))
    | none => zeros 8)

/-- The maps that the region list asks for stand in the root region, and translation uses them (R356 to R358). -/
def State.mapBuilt (s : State) (root : Region) : State :=
  let rs := sited s.place.regions
  let parts := partWindows rs
  let l1 := l1Count root.size parts.length
  let tables := (List.range l1).flatMap (fun w => leBytes 8 (l1Entry rs root.num l1 parts w)) ++ parts.flatMap (l2Table rs)
  let s1 := s.writeRegion root 0 tables
  let s2 := ((s1.put R.STORE_ROOT_VALID 1).put R.STORE_ROOT_L1_COUNT l1).put R.STORE_ROOT_REGION root.num
  (s2.put R.STORE_STATUS_DEFAULT 0).cacheClear

/-- MAP_BUILD_DONE (R358): the tables are in the root region, and the built map is in force. -/
def execMapBuildDone (s : State) : Out :=
  match s.place.regions.find? (fun r => r.use == 6) with
  | none => .next s
  | some root =>
    if !s.store.building || !s.sitesReady root.sites then .next s
    else .next { s.mapBuilt root with store := { (s.mapBuilt root).store with building := false } }

/-- The default map and placement brought back (R326, R360): cold reset, D2, D3. -/
def State.mapReset (s : State) : State :=
  let s1 := ((s.put R.STORE_ROOT_VALID 0).put R.STORE_ROOT_L1_COUNT 0).put R.STORE_ROOT_REGION 0
  let s2 := (s1.put R.STORE_STATUS_DEFAULT 1).cacheClear.defaultPlace
  { s2 with store := { s2.store with building := false } }

/-! ## Invalidation (R362) -/

/-- Does an access in flight use a translation that an invalidate removes (R362)? Reads that have gone to a peer or a far store are the
accesses that outlast their command. -/
def State.usesLine (s : State) (sel : CacheLine → Bool) (op port a : Nat) : Bool :=
  op == 1 && decide (7 ≤ port) && (s.cached a).any sel

/-- An invalidate of the translations that meet a test; ignored and counted while one is under way. -/
def State.invalidate (s : State) (sel : CacheLine → Bool) : State :=
  if s.is R.STORE_STATUS_INV_BUSY then s.bump R.STORE_STATUS_IGNORED 1
  else
    ({ s with
      store := { s.store with
        cache := s.store.cache.filter (fun c => !sel c)
        walks := s.store.walks.map (fun (w : Walk) => { w with uncached := true }) }
      frames := { s.frames with
        outst := s.frames.outst.map (fun (o : Outstanding) => { o with inv := s.usesLine sel o.op o.port o.addr })
        reqQ := s.frames.reqQ.map (fun (q : WaitReq) => { q with inv := s.usesLine sel q.op q.port q.addr }) } } : State).put
      R.STORE_STATUS_INV_BUSY 1

/-- INV_GO (R362): the translations with a recorded generation equal to `gen`. -/
def execInvGo (gen : Nat) (s : State) : Out :=
  let s1 := s.put R.STORE_INV_GEN gen
  .next (s1.invalidate (fun c => c.gen == gen % 256 || (c.level == 2 && bits c.entry1 56 8 == gen % 256)))

/-- INV_ALL (R362). -/
def execInvAll (s : State) : Out := .next (s.invalidate (fun _ => true))

/-- INV_DONE (R362): the accesses through invalidated translations and the walks in flight at the write have completed. -/
def execInvDone (s : State) : Out :=
  if s.is R.STORE_STATUS_INV_BUSY ∧ ¬s.store.walks.any (·.uncached) ∧ ¬s.frames.outst.any (·.inv) ∧ ¬s.frames.reqQ.any (·.inv) then .next ((s.put R.STORE_STATUS_INV_BUSY 0).storeEvt 3)
  else .next s

/-! ## Open and closed (R363) -/

/-- Every populated site not in FAULT is READY. -/
def State.sitesUp (s : State) : Bool := s.populated.all (fun x => s.siteState x == siteReady || s.siteState x == siteFault)

/-- STORE_OPEN (R363): from CLOSED once the sites are READY and the creel is swept, from REMAPPING once every sweep has ended; a
build under way is completed first. -/
def execStoreOpen (s : State) : Out :=
  let st := s.get R.STORE_STATUS_STATE
  if s.store.building || !s.sitesUp then .next s
  else if st = storeClosed ∧ s.store.creelSwept then .next ((s.cacheClear.put R.STORE_STATUS_STATE storeOpen).storeEvt 1)
  else if st = storeRemapping then .next ((s.put R.STORE_STATUS_STATE storeOpen).storeEvt 1)
  else .next s

/-- The store leaves OPEN: an access not yet translated completes with status 2 (R364). -/
def State.walksDead (s : State) : State :=
  { s with store := { s.store with walks := s.store.walks.map (fun (w : Walk) => { w with dead := true }) } }

/-- A full Draft enters ARMED (R358, R363): the cache is cleared, the build begins. -/
def State.storeRemap (s : State) : State :=
  let s1 : State := { s.cacheClear with store := { s.cacheClear.store with building := true } }
  if s.get R.STORE_STATUS_STATE = storeOpen then (s1.walksDead.put R.STORE_STATUS_STATE storeRemapping).storeEvt 2 else s1

/-- The store closes (R363, R364): D1, resets, D2, D3. `quiet`: the island loses power. -/
def State.storeClose (s : State) (quiet : Bool) : State :=
  if s.get R.STORE_STATUS_STATE = storeClosed then s
  else
    let s1 := s.cacheClear.walksDead.put R.STORE_STATUS_STATE storeClosed
    if quiet then s1 else s1.storeEvt 2

/-- STORE_FAULT_POP (R367). -/
def execStoreFaultPop (s : State) : Out :=
  let l := s.store.faults.drop 1
  .next (({ s with store := { s.store with faults := l } } : State).put R.STORE_FAULT_CTL_COUNT l.length)

end Sys2Proof.Machine
end

