-- ==== Sys2Proof/Machine/Monitor.lean ====
section
/-!
DEFINITION. The monitor ports (R449 to R453).
-/

namespace Sys2Proof.Machine

def State.monPort (s : State) (p : Nat) : MonPort := Tab.get MonPort.init s.mon p
def State.setMon (s : State) (p : Nat) (x : MonPort) : State := { s with mon := Tab.set MonPort.init s.mon p x }

/-- A cause of port p. -/
def State.monEvt (s : State) (f : Field) (p : Nat) : State := s.cause1 f p 0 (0x174 + p)

/-- MON_CTL as a word, and MON_SLOT of a slot. -/
def State.monCtl (s : State) (p : Nat) : Nat :=
  s.get1 R.MON_CTL_EN p + 2 * s.get1 R.MON_CTL_RATE p + 8 * s.get1 R.MON_CTL_SLAVE p + 16 * s.get1 R.MON_CTL_GANG p +
    4096 * s.get1 R.MON_CTL_DELAY p
def State.monSlot (s : State) (p k : Nat) : Nat :=
  s.get2 R.MON_SLOT_CHAN p k + 4096 * s.get2 R.MON_SLOT_INDEX p k + 2 ^ 24 * s.get2 R.MON_SLOT_SCALE p k +
    2 ^ 29 * s.get2 R.MON_SLOT_IMAG p k + 2 ^ 30 * s.get2 R.MON_SLOT_KIND p k

/-- Frame rate of a CTL word in Hz (R449). -/
def monRate (ctl : Nat) : Nat :=
  match bits ctl 1 2 with
  | 1 => 96000
  | 2 => 192000
  | _ => 48000

/-- Is an instant one at which a block of a port in master mode begins (R449)? Every whole second begins one, and 1,000 frames last one. -/
def monGrid (ctl t : Nat) : Bool :=
  let i := t % 4294967296 * monRate ctl / 4294967296000
  cdiv (i * 4294967296000) (monRate ctl) == t % 4294967296

/-- Does a port follow another clock than array time: slave, or part of the ganged port (R451)? -/
def State.ganged (s : State) : Bool := (s.monPort 0).run && bit (s.monPort 0).ctl 4
def State.monFifo (s : State) (p : Nat) : Bool := bit (s.monPort p).ctl 3 || (p == 0 && s.ganged)

/-- Does a slot's source exist in the structure in force, on this chip (R450)? -/
def State.monSource (s : State) (w : Nat) : Bool :=
  let l := s.draft.struct
  let x := bits w 12 12
  let c := bits w 0 12
  let st := s.get R.DRAFT_STATUS_STATE
  let runs := st == 4 || st == 5
  match bits w 30 2 with
  | 1 => runs && slotEnabled l x && bit (classedSlots l) x && decide (c < fineChannels l)
  | 2 => runs && (itemsOf l secBeams 1).any (fun b => b.idx == x) &&
      (let b := plyBody l (bmPly (beamBody l x)); decide (plyFirst b ≤ c ∧ c < plyFirst b + plyNfine b))
  | _ => true

/-- Sample of a channel at an array time, and whether the buffer of 32,768 samples limits the delay (R451); times in 2^-32 s. -/
def State.monSample (s : State) (c t delay : Nat) : Int × Bool :=
  let l := s.draft.struct
  let r := zoomRatio l c
  let p : Rat := fineQ l * (r : Nat) * 4294967296
  let lim := p ≠ 0 ∧ 32768 * p < (delay : Rat)
  let d : Rat := if lim then 32768 * p else (delay : Rat)
  let m : Int := if p = 0 then 0 else (((t : Rat) - d - (s.draft.t0 : Rat)) / p).floor
  (m + ((s.firstFine / r : Nat) : Int), lim)

/-- Causes that mute for one source sample (R452), as MON_SLOT_STATUS.CAUSE shows them: bit 0 TEST or CAL, 1 missing or void,
2 excluded or retracted, 3 not present. -/
def State.monCauses (s : State) (w : Nat) (m : Int) : Nat :=
  let l := s.draft.struct
  let c := bits w 0 12
  let x := bits w 12 12
  let r := zoomRatio l c
  let q := m.toNat
  let z := q / s.capT
  let last := z * r + r - 1
  if m < 0 then 8
  else if bits w 30 2 = 1 then
    let n := 2 ^ splitOf l
    let test := s.monTest.any (fun e => e.1 == x && decide (e.2.1 < (q + 1) * r * n ∧ q * r * n ≤ e.2.2))
    let cl := s.causesOver l c last [] x
    let here := decide ((q + 1) * r - 1 + (if r = 1 then 0 else 1) < (s.spindle (seSpindle (slotEntry l x))).blk)
    b2n test + 2 * b2n (bit cl 2) + 4 * b2n (cl != 0) + 8 * b2n (!here)
  else
    let pass := s.beam.passes.find? (fun p => p.ply == bmPly (beamBody l x) && p.chan == c && p.span == z)
    let here := match pass with
      | some p => decide (2 ≤ p.state) || p.sums.any (fun y => y.1 == x)
      | none => decide (last + 1 < s.get R.DRAFT_SPAN_SPAN)
    4 * b2n (Tab.get false s.monBad ((z * 16384 + c) * 4096 + x)) + 8 * b2n (!here)

/-- Block time in a slot of frame `k` of the block (R450), zero while slot `j` is muted (R452). -/
def MonPort.blockTime (x : MonPort) (j k : Nat) : Nat :=
  if x.mute.contains j then 0
  else if k = 0 then x.edge / 4294967296 % 4294967296
  else if k = 1 then x.edge % 4294967296
  else k

/-- A frame out of the FIFO as frame `k` of the block in which it leaves: block time is that block's (R450). -/
def MonPort.leaving (x : MonPort) (k : Nat) (f : List Nat) : List Nat :=
  (List.range f.length).map (fun j => if bits (x.slots.getD j 0) 30 2 = 3 then x.blockTime j k else f.getD j 0)

/-- One slot of the frame formed at `t`, number `k` of its block (R450 to R452). The resampling filter's coefficients are stated
nowhere: its result is free. The 32 samples that it reaches are those about the source's instant (notes). -/
def State.monValue (s : State) (p j k t : Nat) : Nat × State :=
  let x := s.monPort p
  let w := x.slots.getD j 0
  let muted := x.mute.contains j
  let mute := fun (a : State) (cause : Nat) =>
    (a.put2 R.MON_SLOT_STATUS_MUTED p j 1).put2 R.MON_SLOT_STATUS_CAUSE p j (orN 5 (a.get2 R.MON_SLOT_STATUS_CAUSE p j) cause)
  let kind := bits w 30 2
  let s0 := if muted then mute s 16 else s
  if kind = 0 then (0, s0)
  else if kind = 3 then
    (x.blockTime j k, s0)
  else if !s.monSource w then (0, s0.monEvt R.MON_EVT_INVALID p)
  else
    let (m, lim) := s0.monSample (bits w 0 12) t (nsToT (1000000 * bits x.ctl 12 10))
    let s1 := if lim then s0.monEvt R.MON_EVT_LIMITED p else s0
    let cause := (List.range 32).foldl (fun a i => orN 5 a (s1.monCauses w (m + (i : Int) - 15))) 0
    if cause ≠ 0 then (0, mute s1 cause)
    else if muted then (0, s1)
    else
      let (v, s2) := s1.takeFree
      let y := sgn 32 v * 2 ^ bits w 24 5
      (usgn 32 (satI 32 y), if fitsI 32 y then s2 else s2.bump1 R.MON_STATUS_SAT p 1)

/-- The eight slots of a port's frame. -/
def State.monForm (s : State) (p k t : Nat) : List Nat × State :=
  (List.range 8).foldl (fun (acc : List Nat × State) j =>
    let (v, a) := acc.2.monValue p j k t
    (acc.1 ++ [v], a)) ([], s)

/-- Frames formed since a FIFO was last served enter it, each as it was at its own instant; a full one (2,048 frames) drops the oldest
(R451). -/
def State.monFill (s : State) (p : Nat) : State :=
  let x := s.monPort p
  let n := (s.now - x.since) * monRate x.ctl / 4294967296 - x.formed
  let kept := min n 2048
  let s1 := (List.range kept).foldl (fun (a : State) i =>
    let y := a.monPort p
    let k := x.formed + (n - kept) + i
    let (f, b) := a.monForm p (k % 1000) (x.since + cdiv ((k + 1) * 4294967296) (monRate x.ctl))
    b.setMon p { y with fifo := y.fifo ++ [f] }) s
  let y := s1.monPort p
  let lost := (n - kept) + (y.fifo.length - 2048)
  let s2 := s1.setMon p { y with fifo := y.fifo.drop (y.fifo.length - 2048), formed := x.formed + n }
  if lost = 0 ∨ s.ganged then s2 else (s2.bump1 R.MON_STATUS_SLIPS p lost).monEvt R.MON_EVT_SLIP p

/-- The first FCLK edge of a port's next frame in single master mode (R449, R451). -/
def MonPort.frameAt (x : MonPort) : Nat := x.edge + cdiv (x.frame * 4294967296) (monRate x.ctl)

/-- Do a port's frames leave on the grid of array time: master, single (R449, R451)? -/
def State.monTimed (s : State) (p : Nat) : Bool := !(s.monFifo p || (s.ganged && p != 0))

/-- One frame of a port leaves. -/
def State.monSend (s : State) (p : Nat) : State :=
  let x := s.monPort p
  if !s.monTimed p then
    let s1 := s.monFill p
    let y := s1.monPort p
    match y.fifo with
    | f :: r =>
      let d := y.leaving y.frame f
      (s1.setMon p { y with fifo := r, last := d, frame := y.frame + 1 }).emit (.mon p d)
    | [] =>
      let s2 := (s1.setMon p { y with frame := y.frame + 1 }).emit (.mon p y.last)
      if s.ganged then s2 else (s2.bump1 R.MON_STATUS_SLIPS p 1).monEvt R.MON_EVT_SLIP p
  else
    let (f, s1) := s.monForm p x.frame x.frameAt
    (s1.setMon p { s1.monPort p with frame := x.frame + 1, last := f }).emit (.mon p f)

/-- MON_FRAME (R449 to R452): the next frame of a port that runs; the ganged port sends one on each of its four, and
in single master mode a frame leaves at its own instant. -/
def execMonFrame (port t : Nat) (s : State) : Out :=
  let s0 := s.upTo t
  let p := port % 4
  let x := s0.monPort p
  if !x.run || decide (1000 ≤ x.frame) || (s0.ganged && p != 0) || decide (1 < s0.power.d) ||
      (s0.monTimed p && decide (s0.now < x.frameAt)) then .next s0
  else .next (if s0.ganged then forN 4 (fun q a => a.monSend q) s0 else s0.monSend p)

/-- A port starts or restarts (R451, R452): every slot is muted for one block; the FIFO starts half full. -/
def State.monStart (s : State) (p ctl : Nat) : State :=
  s.setMon p ⟨ctl, (List.range 8).map (s.monSlot p), List.range 8, 0, s.now, true,
    List.replicate 1024 (List.replicate 8 0), 0, s.now, List.replicate 8 0⟩

/-- A block boundary of one port, whose CTL word is `ctl`: what has changed since the last applies. -/
def State.monEdge (s : State) (p ctl : Nat) : State :=
  let x := s.monPort p
  let s1 := if !x.run || ctl != x.ctl then s.monStart p ctl
    else
      let ws := (List.range 8).map (s.monSlot p)
      s.setMon p { x with slots := ws, mute := (List.range 8).filter (fun j => ws.getD j 0 != x.slots.getD j 0), frame := 0, edge := s.now }
  let seq := if x.run then s.get1 R.MON_BLOCK_SEQ_SEQ p + 1 else 1
  (s1.put1 R.MON_BLOCK_TIME_TIME p s.now).put1 R.MON_BLOCK_SEQ_SEQ p (seq % 4294967296)

/-- MON_BLOCK (R449, R451, R452): a block begins at `t`. A port that EN disables stops here; in single master
mode blocks begin on the grid of array time. -/
def execMonBlock (port t : Nat) (s : State) : Out :=
  let s0 := s.upTo t
  let p := port % 4
  let x := s0.monPort p
  if (x.run && decide (x.frame < 1000)) || (s0.ganged && p != 0) || decide (0 < s0.power.d) then .next s0
  else if !s0.is1 R.MON_CTL_EN p then .next (s0.setMon p MonPort.init)
  else if !bit (s0.monCtl p) 3 && !(p == 0 && s0.is1 R.MON_CTL_GANG 0) && !monGrid (s0.monCtl p) s0.now then .next s0
  else if p = 0 ∧ s0.is1 R.MON_CTL_GANG 0 then
    .next (forN 4 (fun q a => a.monEdge q (s0.monCtl 0)) s0)
  else .next (s0.monEdge p (s0.monCtl p))

/-- The ports stop (R453). -/
def State.monReset (s : State) : State := { s with mon := [] }

end Sys2Proof.Machine
end

