-- ==== Sys2Proof/Machine/Stacks.lean ====
section
/-!
DEFINITION. The memory stacks' commands (R329 to R348): scheduling, errors and sparing, row disturbance, site states,
training, refresh temperature, the sweep and shedding.
-/

namespace Sys2Proof.Machine

/-! ## Migration and row disturbance (R333, R334, R344) -/

/-- The bytes and poison of a rank's address range copied to the spare of the same pseudo-channel (R344). -/
def State.copyRank (s : State) (site sid pch lo hi : Nat) : State :=
  let src := ((site * 32 + pch) * 4 + sid) * 536870912
  let dst := ((site * 32 + pch) * 4 + 3) * 536870912
  let cleared := s.mem.filter (fun c => !decide (dst + lo ≤ c.1 ∧ c.1 < dst + hi))
  let moved := (s.mem.filter (fun c => decide (src + lo ≤ c.1 ∧ c.1 < src + hi))).foldl
    (fun m c => Tab.set 0#8 m (c.1 - src + dst) c.2) cleared
  let pc := s.poison.filter (fun c => !decide (dst + lo ≤ c.1 * 64 ∧ c.1 * 64 < dst + hi))
  let pm := (s.poison.filter (fun c => decide (src + lo ≤ c.1 * 64 ∧ c.1 * 64 < src + hi))).foldl
    (fun m c => Tab.set false m (c.1 - src / 64 + dst / 64) c.2) pc
  { s with mem := moved, poison := pm }

/-- The rows that a migration copies from one watermark to another, in all pseudo-channels: each unit is read once and written once on
port 38 (R332, R344); one that cannot be read goes to the spare poisoned. -/
def State.copyRows (s : State) (site sid lo hi : Nat) : State :=
  let (a, b) := (wholeRows lo, wholeRows hi)
  let mine := fun (e : Nat × Bool) => decide (siteOfKey (e.1 * 64) = site) && decide (e.1 * 64 / 536870912 % 4 = sid) &&
    decide (a ≤ e.1 * 64 % 536870912) && decide (e.1 * 64 % 536870912 < b)
  let s1 := (s.stk.latent.filter mine).foldl (fun x e => x.meet 38 (e.1 * 64)) s
  (forN 32 (fun p x => x.copyRank site sid p a b) s1).served 38 (32 * 2 * ((b - a) / 64))

/-- A migration brought up to array time `t` (R344): every row below its watermark is in the spare. -/
def State.migrateTo (s : State) (site t : Nat) : State :=
  match (s.site site).migSid with
  | none => s
  | some sid =>
    if s.get1 R.MEM_STATUS_SPARE site ≠ 2 ∨ s.siteState site ≠ siteReady then s
    else
      let lo := (s.site site).migDone
      let hi := max lo (s.watermark site t)
      ((s.copyRows site sid lo hi).updSite site (fun x => { x with migDone := hi })).put1 R.MEM_MIG_PROGRESS site
        (min 65535 (hi * 65536 / sidBytes))

/-- A unit that the migration cannot read (R344): the `n`-th of the row that it copies on a pseudo-channel is an uncorrectable error, and
goes to the spare poisoned. -/
def State.migrateUe (s : State) (site pch n : Nat) : State :=
  match (s.site site).migSid with
  | none => s
  | some sid =>
    if s.get1 R.MEM_STATUS_SPARE site ≠ 2 then s
    else s.readUe (((site * 32 + pch) * 4 + sid) * 536870912 + wholeRows (s.site site).migDone + n % 256 * 64)

/-- A migration goes on from its watermarks after a pause (R344). -/
def State.migrateResume (s : State) (site : Nat) : State :=
  s.updSite site (fun x => { x with migBase := x.migDone, migStart := s.now })

/-- MIG_RATE changed, by a write or a reset: the watermark goes on from where it stands (R344). -/
def State.setMigRate (s : State) (site rate : Nat) : State :=
  (s.migrateResume site).put1 R.MEM_CTL_MIG_RATE site rate

/-- Controller cycles by array time `t` (R332). -/
def ctlCycles (t : Nat) : Nat := t * 1150000000 / 4294967296

/-- The cycles up to array time `t` during which ports run under a throttle are counted (R332). -/
def State.throttleCount (s : State) (t : Nat) : State :=
  s.stk.throttle.foldl (fun a e =>
    let upto := min t e.2.ends
    if e.2.on ∧ e.2.counted < upto then
      { a.bump1 R.MEM_PORT_THROTTLE_CYCLES e.1 (ctlCycles upto - ctlCycles e.2.counted) with
        stk := { a.stk with throttle := Tab.set Throttle.init a.stk.throttle e.1 { e.2 with counted := upto } } }
    else a) s

/-- Time at levels 2 and 3 counted in whole milliseconds (MEM_SHED_TIME). -/
def State.shedTime (s : State) (site : Nat) : State :=
  let ms := tToNs (s.now - (s.site site).msAt) / 1000000
  let s1 := s.updSite site (fun x => { x with msAt := x.msAt + nsToT (ms * 1000000) })
  match s.get1 R.MEM_STATUS_SHED site with
  | 2 => s1.bump1 R.MEM_SHED_TIME_ASSURED_MS site ms
  | 3 => s1.bump1 R.MEM_SHED_TIME_GUAR_MS site ms
  | _ => s1

/-- Array time reaches `t` with every migration brought along, and the cycles of the throttles. -/
def State.memTime (s : State) (t : Nat) : State :=
  let u := max s.now t
  ((forN 6 (fun x a => a.migrateTo x u) s).throttleCount u).upTo t

/-! ## Scheduling (R330, R331) -/

/-- Urgency step of a request at array time `t` (R330): class 2 goes no further than step 1. -/
def urgency (r : MemReq) (t : Nat) : Nat :=
  let a := tToNs (t - r.t)
  let u := if a * 2 < r.lat then 0 else if a * 4 < 3 * r.lat then 1 else if a < r.lat then 2 else 3
  if r.cls = 2 then min u 1 else u

/-- Priority of a request, the larger the sooner: urgency step, then class (0 first), then age (R331). -/
def prio (r : MemReq) (t : Nat) : Nat × Nat := (urgency r t * 4 + (3 - min r.cls 3), t - r.t)

/-- Is the first priority above the second, age included? -/
def prioAbove (a b : Nat × Nat) : Bool := decide (b.1 < a.1) || (a.1 == b.1 && decide (b.2 < a.2))

/-- A bank's candidate (R331): the highest priority; among requests of the same step and class as the highest, one
that hits the open row goes ahead of an older that misses, for at most 16 hits in a row. A row stays open for 64 cycles
after its last access. -/
def candidate (q : List MemReq) (row : OpenRow) (cyc t : Nat) : Option MemReq :=
  match q with
  | [] => none
  | x :: r =>
    let best := r.foldl (fun b y => if prioAbove (prio y t) (prio b t) then y else b) x
    if row.isOpen ∧ cyc ≤ row.last + 64 ∧ best.row ≠ row.row ∧ row.hits < 16 then
      match (q.filter (fun y => y.row == row.row && (prio y t).1 == (prio best t).1)) with
      | [] => some best
      | h :: hs => some (hs.foldl (fun b y => if prioAbove (prio y t) (prio b t) then y else b) h)
    else some best

/-- Is a port held back by its row-disturbance throttle at `t` (R334)? -/
def State.throttled (s : State) (port t : Nat) : Bool :=
  let th := Tab.get Throttle.init s.stk.throttle port
  th.on && (th.cap == 0 || decide (t < th.nextAt))

/-- One more unit issued by a throttled port: the next one follows at the earliest when its share of a unit per microsecond has come
(R334; notes/assumptions/7.md). -/
def State.throttleUse (s : State) (port t : Nat) : State :=
  let use := fun (th : Throttle) =>
    if !th.on then th else { th with nextAt := max t th.nextAt + cdiv (512000 * 4294967296) (max 1 th.cap * 1000000) }
  { s with stk := { s.stk with throttle := Tab.upd Throttle.init s.stk.throttle port use } }

/-- A served request leaves its queue; the oldest at the ingress takes its place. -/
def State.dequeue (s : State) (b : Nat) (r : MemReq) : State :=
  let q := (Tab.get [] s.stk.bankQ b).erase r
  match Tab.get [] s.stk.ingress b with
  | [] => { s with stk := { s.stk with bankQ := Tab.set [] s.stk.bankQ b q } }
  | x :: r' => { s with stk := { s.stk with
      bankQ := Tab.set [] s.stk.bankQ b (q ++ [x]), ingress := Tab.set [] s.stk.ingress b r' } }

/-- A throttle begins on every site: for the rest of the window and the whole of the next (R334). A second flag restarts the duration of
one that runs. -/
def State.throttlePort (s : State) (site port t : Nat) : State :=
  let ends := Tab.get 0 s.stk.winStart site + 2 * nsToT 32000000
  let old := Tab.get Throttle.init s.stk.throttle port
  let cap := max 1 (s.get1 R.MEM_RD_CTL_FRAC site) * Tab.get 0 s.stk.winServed (site * 64 + port)
  let th := if old.on ∧ t < old.ends then { old with ends := ends } else ⟨true, ends, cap, t, t⟩
  { s with stk := { s.stk with throttle := Tab.set Throttle.init s.stk.throttle port th } }

/-- A row's tracker advanced, and the row flagged when its count reaches LIMIT (R333, R334): refresh management is due before its next
activate. The model's tracker counts exactly, which the rule's bounds allow, and flags a row once in a window (notes/assumptions/7.md). -/
def State.activate (s : State) (site b row port t : Nat) : State :=
  let k := (b * 32768 + row) * 64
  let acts := Tab.upd 0 s.stk.acts (k + port) (· + 1)
  let s1 := { s with stk := { s.stk with acts := acts } }
  let counts := (List.range 64).map (fun p => Tab.get 0 acts (k + p))
  let total := counts.foldl (· + ·) 0
  if total < s.get1 R.MEM_RD_CTL_LIMIT site ∨ s.stk.flagged.contains (b, row) then s1
  else
    let top := counts.foldl max 0
    let culprit := (findIdx? (· == top) counts).getD 0
    let s2 := ((((((s1.put1 R.MEM_RD_LAST_PORT site culprit).put1 R.MEM_RD_LAST_PCH site (b / 64 % 32)).put1
      R.MEM_RD_LAST_SID site (b / 16 % 4)).put1 R.MEM_RD_LAST_BANK site (b % 16)).put1 R.MEM_RD_LAST_ROW site row).bump1
      R.MEM_RD_FLAGS_COUNT site 1).memEvt R.MEM_EVT_THROTTLE site 3
    let s3 : State := { s2 with stk := { s2.stk with
      refreshDue := s2.stk.refreshDue ++ [(b, row)], flagged := s2.stk.flagged ++ [(b, row)] } }
    if 36 ≤ culprit ∧ culprit ≤ 39 then s3 else s3.throttlePort site culprit t

/-- Is the row that a request needs open in its bank (R331)? -/
def State.rowHit (s : State) (b cyc : Nat) (r : MemReq) : Bool :=
  let row := Tab.get OpenRow.init s.stk.openRows b
  row.isOpen && decide (cyc ≤ row.last + 64) && row.row == r.row

/-- Ports whose reads belong to a pass: an uncorrectable error that a queued read meets reaches the pass (R341). The data of the other ports'
reads has left with the command that made them: what their cells hold, the next read of the unit meets (notes/assumptions/97.md). -/
def passPorts : List Nat := [1, 2, 4]

/-- A unit that a pass's read found uncorrectable once its pass had it (R341), noted for that pass. -/
def State.noteLate (s : State) (r : MemReq) : State :=
  { s with stk := { s.stk with
    lateBad := s.stk.lateBad.filter (fun e => s.poisoned e.2) ++ [(r.port, r.key / 64)] } }

/-- Writes to the unit of a request that stand in its bank's queue or at its ingress, the oldest first. -/
def State.writesBehind (s : State) (b : Nat) (r : MemReq) : List MemReq :=
  (Tab.get [] s.stk.bankQ b ++ Tab.get [] s.stk.ingress b).filter (fun y => y.write && y.key / 64 == r.key / 64)

/-- A byte of a refused write goes back to what it was, unless a later write has set it since. -/
def unwrite (old after cur : Byte) : Byte := if cur = after then old else cur

/-- A write refused once it stood in the queue (R342, R346): its unit holds what it held before, with what later writes put there. -/
def State.undoWrite (s : State) (b : Nat) (r : MemReq) : State :=
  let k := r.key / 64 * 64
  let cur := (List.range 64).map (fun d => s.rd (k + d))
  let after := match s.writesBehind b r with
    | [] => cur
    | y :: _ => y.old
  let fix := fun (l : List Byte) => (List.range 64).map (fun d => unwrite (r.old.getD d 0#8) (after.getD d 0#8) (l.getD d 0#8))
  let redo := fun (q : List MemReq) => q.map (fun (y : MemReq) =>
    if y.write && y.key / 64 == r.key / 64 then { y with old := fix y.old, oldBad := if r.whole then r.oldBad || y.oldBad else y.oldBad } else y)
  let s1 := s.wrKeys ((List.range 64).map (· + k)) (fix cur)
  let s2 : State := { s1 with stk := { s1.stk with
    bankQ := Tab.set [] s1.stk.bankQ b (redo (Tab.get [] s1.stk.bankQ b))
    ingress := Tab.set [] s1.stk.ingress b (redo (Tab.get [] s1.stk.ingress b)) } }
  if r.whole ∧ (s.writesBehind b r).all (fun y => !y.whole) then s2.setPoison (r.key / 64) r.oldBad else s2

/-- What the requester of a refused write records of it (R346, R368): a dump's entries of the unit are lost, a page is lost, a write of
BAR2 is dropped. What others have recorded with the command that wrote stands (notes/assumptions/97.md). -/
def State.writeRefused (s : State) (r : MemReq) : State :=
  if r.port = 32 then s.bump R.STORE_BAR2_DROP_COUNT 1
  else if r.port = 7 then
    let hit := fun (d : StoreDump) => decide (d.addr ≤ r.addr) && decide (r.addr < d.addr + d.size)
    let lost := fun (d : StoreDump) => fld d.header 48 4 + (if d.addr + d.head ≤ r.addr then 64 / max 1 d.per else 0)
    let mark := fun (d : StoreDump) => { d with header := reHeader d.header (orN 8 (byteAt d.header 39) 4) (lost d) }
    let s1 : State := { s with pass := { s.pass with dumps := s.pass.dumps.map (fun (d : StoreDump) => if hit d then mark d else d) } }
    if s.pass.dumps.any hit then s1.passEvt 5 else s1
  else if r.port = 8 then
    let hit := fun (p : BeamPage) => byteAt p.hdr 0 == 1 && decide (p.addr ≤ r.addr) && decide (r.addr < p.addr + 16384)
    let s1 : State := { s with beam := { s.beam with pages := s.beam.pages.filter (fun p => !hit p) } }
    if s.beam.pages.any hit then (s1.bump R.BEAM_STORE_LOST_COUNT 1).beamEvt 3 else s1
  else s

/-- One request gone from its site: when the last of each kind that R346 asks about was there. -/
def State.shedMark (s : State) (site t : Nat) (r : MemReq) : State :=
  let u := urgency r t
  s.updSite site (fun x => { x with
    pressedAt := if r.cls ≤ 1 ∧ 2 ≤ u then t else x.pressedAt
    lateAt := if r.cls = 0 ∧ u = 3 then t else x.lateAt
    firmAt := if r.cls = 0 ∧ 2 ≤ u then t else x.firmAt })

/-- An uncorrectable read (R341). A whole write to its unit that stands behind it clears the poison again. -/
def State.queuedUe (s : State) (b : Nat) (r : MemReq) (parity : Bool) : State :=
  let u := r.key / 64
  let s1 := (if parity then s.parityFail r.key r.port false else s.readUe r.key).noteLate r
  if (s.writesBehind b r).any (·.whole) then s1.setPoison u (s.poisoned u) else s1

/-- The cells of a unit hold an uncorrectable error that the next read of it meets; one that a read has met already stays poisoned. -/
def State.goesBad (s : State) (r : MemReq) (parity : Bool) : State :=
  let u := r.key / 64
  if s.poisoned u || s.stk.latent.any (fun e => e.1 == u) then s
  else { s with stk := { s.stk with latent := s.stk.latent ++ [(u, parity)] } }

/-- One request served (R330 to R332, R340 to R342): the row opened, the tracker, the counters, the error met. A write that parity fails is
refused. -/
def State.serveReq (s : State) (site b cyc t err : Nat) (r : MemReq) : State :=
  let row := Tab.get OpenRow.init s.stk.openRows b
  let hit := s.rowHit b cyc r
  let missWaits := (Tab.get [] s.stk.bankQ b).any (fun y => y.row != r.row)
  let row' : OpenRow := ⟨true, r.row, cyc, if hit && missWaits then row.hits + 1 else 0⟩
  let s1 := ((s.dequeue b r).throttleUse r.port t).shedMark site t r
  let s2 := { s1 with stk := { s1.stk with
      openRows := Tab.set OpenRow.init s1.stk.openRows b row'
      winServed := (List.range 6).foldl (fun m x => Tab.upd 0 m (x * 64 + r.port) (· + 1)) s1.stk.winServed } }
  let s3 := if hit then s2 else s2.activate site b r.row r.port t
  if r.write ∧ 4 ≤ err then ((s3.undoWrite b r).writeRefused r).parityFail r.key r.port true
  else
    let s4 := s3.served r.port 1
    let age := tToNs (t - r.t)
    let s5 := if age < r.lat then s4
      else (s4.bump1 R.MEM_PORT_DELAYED_UNITS r.port 1).bump1 R.MEM_PORT_DELAY_CYC_CYCLES r.port
        ((age - r.lat) * 1150000000 / 1000000000)
    let bad := !r.write && (err == 2 || decide (4 ≤ err))
    let ue := bad && passPorts.contains r.port
    let s6 := if ue then s5.queuedUe b r (decide (4 ≤ err))
      else if bad then s5.goesBad r (decide (4 ≤ err))
      else if err = 3 ∨ (err = 1 ∧ !r.write) then s5.readCe r.key else s5
    if r.write then s6
    else s6.emit (.memData r.port r.key ((List.range 64).map (fun o => s6.rd (r.key / 64 * 64 + o)))
      (ue || s6.poisoned (r.key / 64)))

/-- The banks of a pseudo-channel from its pointer on, in rotation (R331). -/
def bankOrder (ptr : Nat) : List Nat := (List.range 64).map (fun k => (ptr + k) % 64)

/-- The request that a command cycle takes (R331, R346): among the banks that the timing rules allow (`banks`), whose
candidates share the highest step and class present, the first at or after the pointer. At shed level 1 or more a
class-2 request goes only when no class-0 or class-1 request can. -/
def State.pick (s : State) (site pch cyc t banks : Nat) : Option (Nat × MemReq) :=
  let base := (site * 32 + pch) * 64
  let cands := (bankOrder (Tab.get 0 s.stk.ptr (site * 32 + pch))).filterMap (fun k =>
    if !bit banks k then none
    else
      let q := (Tab.get [] s.stk.bankQ (base + k)).filter (fun r => !s.throttled r.port t)
      (candidate q (Tab.get OpenRow.init s.stk.openRows (base + k)) cyc t).map (fun r => (k, r)))
  let lead := fun (r : MemReq) =>
    (prio r t).1 + (if s.get1 R.MEM_STATUS_SHED site ≥ 1 ∧ r.cls ≠ 2 then 64 else 0)
  let top := cands.foldl (fun m c => max m (lead c.2)) 0
  cands.find? (fun c => lead c.2 == top)

/-- The refreshes that a pseudo channel has put off. -/
def State.setPostponed (s : State) (k n : Nat) : State := { s with stk := { s.stk with postponed := Tab.set 0 s.stk.postponed k n } }

/-- MEM_COMMAND_CYCLE (R331, R334): a refresh postponed for 4 intervals goes first; else a request, or the refresh management that its row
needs before it is activated; else a postponed refresh. `refreshDue` says that a refresh interval of the pseudo-channel has passed, `banks`
which banks the stack's timing rules allow, `err` what the access meets (0 nothing, 1 correctable, 2 uncorrectable, 3 parity cleared by a
retry, 4 parity not cleared by 4; from 5 on the cycle is the migration's, whose read of unit `err` − 5 of its row cannot be done). -/
def execMemCommandCycle (site pch cyc t banks err : Nat) (refreshDue : Bool) (s : State) : Out :=
  let s0 := s.memTime t
  if s0.siteState site ≠ siteReady then .next s0
  else
    let k := site * 32 + pch % 32
    let post := Tab.get 0 s0.stk.postponed k + b2n refreshDue
    let s1 := s0.setPostponed k post
    let refreshed := s1.setPostponed k (post - 1)
    if 4 < post ∨ (post = 4 ∧ !refreshDue) then .next refreshed
    else if 5 ≤ err then .next (s1.migrateUe site (pch % 32) (err - 5))
    else
      match s1.pick site (pch % 32) cyc t banks with
      | none => .next (if 0 < post then refreshed else s1)
      | some (b, r) =>
        let due := (k * 64 + b, r.row)
        if !s1.rowHit (k * 64 + b) cyc r && s1.stk.refreshDue.contains due then
          .next { s1 with stk := { s1.stk with refreshDue := s1.stk.refreshDue.erase due } }
        else
          let s2 := s1.serveReq site (k * 64 + b) cyc t err r
          .next { s2 with stk := { s2.stk with ptr := Tab.set 0 s2.stk.ptr k ((b + 1) % 64) } }

/-- The row trackers of a site start afresh, their window at `t` (R333). -/
def State.trackersRestart (s : State) (site t : Nat) : State :=
  { s with stk := { s.stk with
    acts := s.stk.acts.filter (fun e => e.1 / 64 / 32768 / 2048 != site)
    winServed := s.stk.winServed.filter (fun e => e.1 / 64 != site)
    flagged := s.stk.flagged.filter (fun e => e.1 / 2048 != site)
    winStart := Tab.set 0 s.stk.winStart site t } }

/-- RD_WINDOW (R333): a 32 ms window of a site ends and its trackers restart; the next begins where it ended. -/
def execRdWindow (site t : Nat) (s : State) : Out :=
  let s1 := s.memTime t
  let fin := Tab.get 0 s1.stk.winStart site + nsToT 32000000
  if s1.now < fin then .next s1 else .next (s1.trackersRestart site fin)

/-- THROTTLE_END (R334): a port's throttle ends, once its duration is over. -/
def execThrottleEnd (port : Nat) (s : State) : Out :=
  let s0 := s.throttleCount s.now
  if s.now < (Tab.get Throttle.init s0.stk.throttle port).ends then .next s0
  else .next { s0 with stk := { s0.stk with throttle := Tab.set Throttle.init s0.stk.throttle port Throttle.init } }

/-! ## Site states (R335) and training (R336 to R338) -/

/-- The delay table's key of a line: channel, pseudo-channel, KIND, BIT. -/
def dlyKey (ch pc kind b : Nat) : Nat := ((ch * 2 + pc) * 8 + kind) * 64 + b

/-- Lines of a KIND (R336). -/
def kindLines (kind : Nat) : Nat := if kind = 0 then 10 else if kind = 3 ∨ kind = 4 then 40 else 1

/-- CA and WCK are selected by the channel alone (R336). -/
def kindPc (kind pc : Nat) : Nat := if kind < 2 then 0 else pc

/-- The (channel, pseudo-channel, KIND, BIT) of a site's VALUES, in order (R338). -/
def valueLines : List Nat :=
  (List.range 16).flatMap (fun ch =>
    (List.range 10).map (fun b => dlyKey ch 0 0 b) ++ [dlyKey ch 0 1 0] ++
    [0, 1].flatMap (fun pc => [dlyKey ch pc 2 0] ++ (List.range 40).map (fun b => dlyKey ch pc 3 b) ++
      (List.range 40).map (fun b => dlyKey ch pc 4 b)))

/-- The VALUES of a site as they stand (R338). -/
def State.siteValues (s : State) (site : Nat) : List Byte :=
  valueLines.map (fun k => BitVec.ofNat 8 (Tab.get 0 (s.site site).dly k))

/-- The delays are committed (R335, R338, R345): slot 4 is extended with the set as applied, and the sweep starts. -/
def State.commitDelays (s : State) (site : Nat) : State :=
  (s.measure 4 6 (2 ^ site) (sha384 (s.siteValues site))).sweepBegins site

/-- The values that a stored delay set of the Ledger holds for a site, if the set matches the part (R338). -/
def State.storedSet (s : State) (site : Nat) : Option (List Byte) :=
  let hdr := ledgerBytes s.ledger.image 0x2000 64
  let sites := byteAt hdr 6
  let n := 64 + 2768 * popcount 6 sites
  let body := ledgerBytes s.ledger.image 0x2000 n
  if fld hdr 0 4 = 0x53444C44 ∧ fld hdr 4 2 = 1 ∧ bit sites site ∧ fld hdr 24 8 = Config.deviceId % 2 ^ 64 ∧
      s.led (0x2000 + n) 4 = crc32c body ∧ (bitList 8 sites).all (fun x => decide (x < nStacks s.part)) then
    some ((body.drop (64 + 2768 * popcount site sites)).take 2768)
  else none

/-- SITE_POWER_GOOD (R335, R338): TRAINING at the minimum delays; a stored set that matches is applied and, when its
verification probes pass (`verify`), committed in place of a search. -/
def execSitePowerGood (site t : Nat) (verify : Bool) (s : State) : Out :=
  let s0 := s.memTime t
  if nStacks s.part ≤ site ∨ s0.siteState site ≠ sitePowering then .next s0
  else
    let s1 := (s0.put1 R.MEM_STATUS_STATE site siteTraining).updSite site (fun x => { x with dly := [] })
    match s1.storedSet site with
    | none => .next s1
    | some vals =>
      let dly := (valueLines.zip vals).foldl (fun m p => Tab.set 0 m p.1 (p.2.toNat % 128)) []
      let s2 := s1.updSite site (fun x => { x with dly := dly })
      .next (if verify then s2.commitDelays site else s1)

/-- SITE_POWER_TIMEOUT (R335): no power good within 10 ms. -/
def execSitePowerTimeout (site : Nat) (s : State) : Out :=
  if nStacks s.part ≤ site ∨ s.siteState site ≠ sitePowering then .next s
  else .next ((s.siteFaults site).memEvt R.MEM_EVT_CA_FAIL site 1)

/-- A training write outside TRAINING is ignored and counted (R336). -/
def State.trainRefused (s : State) (site : Nat) : State := s.bump1 R.MEM_TRAIN_STATUS_REFUSED site 1

/-- PROBE (R336): the probe runs at the delays in force. -/
def execMemProbe (site : Nat) (s : State) : Out :=
  if s.siteState site = siteTraining then .next (s.put1 R.MEM_TRAIN_STATUS_BUSY site 1) else .next (s.trainRefused site)

/-- PROBE_DONE (R336): a pass bit for each line of the selected KIND. -/
def execProbeDone (site pass : Nat) (s : State) : Out :=
  if s.is1 R.MEM_TRAIN_STATUS_BUSY site then
    let n := kindLines (s.get1 R.MEM_TRAIN_SEL_KIND site)
    .next ((s.put1 R.MEM_TRAIN_STATUS_BUSY site 0).put1 R.MEM_TRAIN_RESULT_PASS site (pass % 2 ^ n))
  else .next s

/-- MEM_TRAIN_DLY (R336): the selected line's delay, or every line's of the KIND, at the selected channel. -/
def execMemTrainDly (site dly : Nat) (all : Bool) (s : State) : Out :=
  if s.siteState site ≠ siteTraining then .next (s.trainRefused site)
  else
    let kind := s.get1 R.MEM_TRAIN_SEL_KIND site
    let ch := s.get1 R.MEM_TRAIN_SEL_CH site
    let pc := kindPc kind (s.get1 R.MEM_TRAIN_SEL_PC site)
    let lines := if all then List.range (kindLines kind) else [s.get1 R.MEM_TRAIN_SEL_BIT site]
    let set := fun (m : Tab Nat) => lines.foldl (fun m b => Tab.set 0 m (dlyKey ch pc kind b) (dly % 128)) m
    .next ((s.updSite site (fun x => { x with dly := set x.dly })).put1 R.MEM_TRAIN_DLY_DLY site dly)

/-- TRAIN_COMMIT (R335, R338). -/
def execTrainCommit (site t : Nat) (s : State) : Out :=
  let s0 := s.memTime t
  if s0.siteState site = siteTraining then .next (s0.commitDelays site) else .next (s0.trainRefused site)

/-- TRAIN_FAIL (R335). -/
def execTrainFail (site : Nat) (s : State) : Out :=
  if s.siteState site = siteTraining then .next (s.siteFaults site)
  else .next (s.trainRefused site)

/-- A site becomes READY (R335, R343): a retired rank of the Ledger is mapped onto the spare, with nothing to copy; its row trackers begin a
window (R333). -/
def State.siteBecomesReady (s : State) (site : Nat) : State :=
  ((s.put1 R.MEM_STATUS_STATE site siteReady).trackersRestart site s.now).rankMap site

/-- Access units of a stack site, the spare rank included: what a sweep writes (R345). -/
def siteUnits : Nat := 32 * 4 * (sidBytes / 64)

/-- SWEEP_DONE (R335, R345): every unit of the site holds zero with valid check bits, written on port 39. -/
def execSweepDone (site t : Nat) (s : State) : Out :=
  let s0 := s.memTime t
  if s0.siteState site = siteSweeping then
    .next ((((s0.loseSite site).served 39 siteUnits).updSite site (fun x => { x with resweep := false })).siteBecomesReady site)
  else .next s0

/-- The refresh curve in force (R339): the Draft's, or before any Draft the built-in one. -/
def State.refreshCurve (s : State) : List (Int × Nat) :=
  if s.draft.everApplied then refreshPoints s.draft.struct else builtinRefresh

/-- MEM_STATUS.MULT's code of a multiplier. -/
def multCode (m : Nat) : Nat := if m = 4 then 2 else if m = 2 then 1 else 0

/-- Since when a site's temperature has been 2 °C or more below the points that call for a multiplier code `m`, brought up to a report
at `t`. -/
def State.coolFrom (s : State) (site t : Nat) (temp : Int) (m : Nat) : Nat :=
  if m ≤ multCode (refreshMult s.refreshCurve (temp + 2)) then 0
  else if Tab.get 0 (s.site site).coolSince m = 0 then t + 1 else Tab.get 0 (s.site site).coolSince m

/-- TEMP_REPORT (R339): the temperature shown; the multiplier raised at once; lowered below a point only after 10 ms at 2 °C or more below
that point. -/
def execTempReport (site t : Nat) (temp : Int) (s : State) : Out :=
  let s0 := (s.memTime t).put1 R.MEM_STATUS_TEMP site (usgn 8 temp)
  if nStacks s.part ≤ site ∨ s0.siteState site = siteOff then .next s
  else
    let cur := s0.get1 R.MEM_STATUS_MULT site
    let now := multCode (refreshMult s0.refreshCurve temp)
    let since := s0.coolFrom site t temp
    let cooled := fun m => since m != 0 && decide (since m + nsToT 10000000 ≤ t + 1)
    let low := if cur = 2 ∧ cooled 2 then (if cooled 1 then 0 else 1) else if cur = 1 ∧ cooled 1 then 0 else cur
    let s1 := s0.updSite site (fun x => { x with coolSince := Tab.set 0 (Tab.set 0 x.coolSince 1 (since 1)) 2 (since 2) })
    .next (s1.put1 R.MEM_STATUS_MULT site (max now low))

/-- Key of the `n`-th access unit of a site, rank by rank in every pseudo-channel. -/
def scrubKey (site n : Nat) : Nat := (site * 128 + n / (sidBytes / 64)) * 536870912 + n % (sidBytes / 64) * 64

/-- Array time between two units of the patrol scrub, whose period is MEM_SCRUB.HOURS (R340, R349). -/
def State.scrubStep (s : State) (site : Nat) : Nat := max 1 (s.get1 R.MEM_SCRUB_HOURS site) * 3600 * 4294967296 / siteUnits

/-- PATROL_SCRUB (R340): the next unit of the site is read on port 37 and corrected, when it is due and no request waits in its
pseudo-channel; every unit has been written, by the sweep at the least. At the end of the site a pass is counted. `err` as in
MEM_COMMAND_CYCLE. -/
def execPatrolScrub (site err : Nat) (s : State) : Out :=
  let x := s.site site
  let k := scrubKey site x.scrubPos
  let busy := (s.stk.bankQ ++ s.stk.ingress).any (fun e => e.1 / 64 == pchOfKey k && !e.2.isEmpty)
  if s.siteState site ≠ siteReady ∨ !s.is1 R.MEM_CTL_SCRUB_EN site ∨ s.now < x.scrubAt ∨ busy then .next s
  else
    let s1 := (s.served 37 1).updSite site (fun x => { x with scrubAt := s.now + s.scrubStep site })
    let s2 := match err with
      | 0 => s1.meet 37 k
      | 1 => s1.readCe k
      | 2 => s1.readUe k
      | 3 => s1.readCe k
      | _ => s1.parityFail k 37 false
    .next (if x.scrubPos + 1 < siteUnits then s2.updSite site (fun y => { y with scrubPos := x.scrubPos + 1 })
      else (s2.updSite site (fun y => { y with scrubPos := 0 })).wrap1 R.MEM_SCRUB_PASSES site 1)

/-- RETIRE (R343): MEM_CTL.RETIRE with RETIRE_SID; ignored while a migration runs or the spare is in use. -/
def execMemRetire (site sid t : Nat) (s : State) : Out :=
  .next (((s.memTime t).put1 R.MEM_CTL_RETIRE_SID site sid).retireRank site sid)

/-- MIGRATION_DONE (R344): every watermark is at the end of the rank. -/
def execMigrationDone (site : Nat) (s : State) : Out :=
  match (s.site site).migSid with
  | none => .next s
  | some sid =>
    if s.get1 R.MEM_STATUS_SPARE site ≠ 2 then .next s
    else
      let s1 := s.copyRows site sid (s.site site).migDone sidBytes
      .next (((s1.put1 R.MEM_STATUS_SPARE site 3).put1 R.MEM_MIG_PROGRESS site 65535 |>.updSite site
        (fun x => { x with migSid := none })).memEvt R.MEM_EVT_MIG_DONE site 2)

/-! ## Shedding (R346) -/

/-- Does the site's temperature exceed the TEMP_MAX of the Draft that runs? -/
def State.aboveTempMax (s : State) (site : Nat) : Bool :=
  s.draftRuns && decide (tempMax s.draft.struct < sgn 8 (s.get1 R.MEM_STATUS_TEMP site))

/-- A bank's queue takes from its ingress what it has room for (R331). -/
def State.refill (s : State) (b : Nat) : State :=
  let q := Tab.get [] s.stk.bankQ b
  let i := Tab.get [] s.stk.ingress b
  { s with stk := { s.stk with
    bankQ := Tab.set [] s.stk.bankQ b (q ++ i.take (16 - q.length)), ingress := Tab.set [] s.stk.ingress b (i.drop (16 - q.length)) } }

/-- A class-1 request that shedding refuses in its queue (R346). -/
def State.shedOne (s : State) (site b : Nat) (r : MemReq) : State :=
  let s1 : State := { s with stk := { s.stk with
    bankQ := Tab.upd [] s.stk.bankQ b (fun q => q.erase r)
    ingress := Tab.upd [] s.stk.ingress b (fun q => q.erase r) } }
  let s2 := (s1.shedMark site s.now r).bump1 R.MEM_PORT_REFUSED_SHED r.port 1
  if r.write then (s2.undoWrite b r).writeRefused r else s2

/-- Class-1 requests queued at a site refused (R346), the newest first; what waited at a bank's ingress moves up. -/
def State.refuseClass1 (s : State) (site : Nat) : State :=
  let banks := (((s.stk.bankQ ++ s.stk.ingress).map (·.1)).filter (fun b => b / 2048 == site)).dedup
  banks.foldl (fun a b =>
    ((((Tab.get [] a.stk.bankQ b ++ Tab.get [] a.stk.ingress b).filter (fun r => r.cls == 1)).reverse).foldl
      (fun x r => x.shedOne site b r) a).refill b) s

/-- A site's shed level set, from now on. -/
def State.shedTo (s : State) (site level : Nat) : State :=
  ((s.shedTime site).put1 R.MEM_STATUS_SHED site level).updSite site (fun x => { x with shedSince := s.now, msAt := s.now })

/-- The requests queued at a site that meet a test. -/
def State.siteAny (s : State) (site : Nat) (f : MemReq → Bool) : Bool :=
  (s.stk.bankQ ++ s.stk.ingress).any (fun e => e.1 / 2048 == site && e.2.any f)

/-- Is a request pressed (R346)? -/
def pressed (r : MemReq) (t : Nat) : Bool := decide (r.cls ≤ 1 ∧ 2 ≤ urgency r t)

/-- Does the condition of a row of R346 hold at array time `t`, as the queues, the temperature, and the instants at which the site last had
such a request show it? A class-0 request has been at step 3 since its age reached its target. -/
def State.shedHolds (s : State) (site row t : Nat) : Bool :=
  let x := s.site site
  let any := s.siteAny site
  let late := any (fun r => r.cls == 0 && urgency r t == 3)
  let since := fun (a n : Nat) => decide (a + nsToT n ≤ t)
  match row with
  | 0 => any (fun r => pressed r t) && any (fun r => r.cls == 2)
  | 1 => !any (fun r => pressed r t) && since x.pressedAt 10000
  | 2 => since x.shedSince 1000000
  | 3 => late && s.aboveTempMax site
  | 4 => any (fun r => r.cls == 0 && since (r.t + nsToT r.lat) 10000) && !any (fun r => r.cls == 1) && since x.shedSince 10000 &&
      s.aboveTempMax site
  | 5 => !late && since x.lateAt 1000000 && since x.shedSince 1000000
  | 6 => (!any (fun r => r.cls == 0 && decide (2 ≤ urgency r t)) && since x.firmAt 1000000) ||
      decide (sgn 8 (s.get1 R.MEM_STATUS_TEMP site) + 2 ≤ tempMax s.draft.struct)
  | _ => false

/-- SHED_LEVEL_CHANGE (R346): the condition of one row of the rule's table holds at the site, by row number:
0 a pressed request is queued with a class-2 request; 1 no pressed request for 10 µs; 2 deferral has lasted 1 ms;
3 a class-0 request is at step 3; 4 one has been for 10 µs with no class-1 request left; 5 none for 1 ms; 6 none at
step 2 or more for 1 ms, or the temperature is 2 °C or more below TEMP_MAX. -/
def execShedLevelChange (site row t : Nat) (s : State) : Out :=
  let s0 := s.memTime t
  let lv := s0.get1 R.MEM_STATUS_SHED site
  if !s0.shedHolds site row s0.now then .next s0 else .next (match row with
    | 0 => if lv = 0 then s0.shedTo site 1 else s0
    | 1 => if lv = 1 then s0.shedTo site 0 else s0
    | 2 => if lv = 1 then s0.memEvt R.MEM_EVT_SHED_BE site 3 else s0
    | 3 => if lv = 1 then
        ((s0.shedTo site 2).refuseClass1 site).memEvt R.MEM_EVT_SHED_ASSURED site 3 else s0
    | 4 => if lv = 2 then (s0.shedTo site 3).memEvt R.MEM_EVT_SHED_GUAR site 3 else s0
    | 5 => if lv = 3 then s0.shedTo site 2 else s0
    | 6 => if lv = 2 then s0.shedTo site 1 else s0
    | _ => s0)

end Sys2Proof.Machine
end

