-- ==== Sys2Proof/Machine/Draft.lean ====
section
/-!
DEFINITION. The Draft controller (R63 to R76): staging, checks, admission, the application of a full Draft, patches in
their pending store, the end of a Draft.
-/

namespace Sys2Proof.Machine

/-- States of the controller (R68). -/
def dIdle : Nat := 0
def dChecking : Nat := 1
def dAdmitted : Nat := 2
def dArmed : Nat := 3
def dRunning : Nat := 4
def dStopping : Nat := 5
def dRefused : Nat := 6

def State.dState (s : State) : Nat := s.get R.DRAFT_STATUS_STATE
def State.setDraft (s : State) (f : DraftState → DraftState) : State := { s with draft := f s.draft }

/-- The Draft controller's state changed, with the sections that become used or unused (R68, R121). -/
def State.toDraft (s : State) (st : Nat) : State := s.withSections (fun a => a.put R.DRAFT_STATUS_STATE st)

/-- A command or register write ignored and counted (R64, R69). -/
def State.draftIgnored (s : State) : State := s.bump R.DRAFT_STATUS_IGNORED 1

/-- A Draft runs or stops. -/
def State.spanning (s : State) : Bool := s.dState == dRunning || s.dState == dStopping

/-! ## Staging (R63, R64) -/

def State.stageBase (s : State) : Nat := s.get R.DRAFT_STAGE_BASE_ADDR / 4096 * 4096
def State.stageLen (s : State) : Nat := s.get R.DRAFT_STAGE_LEN_LEN

/-- The address of the first unit of a range whose read fails or is poisoned. -/
def State.badUnit (s : State) (a : Nat) : Nat :=
  ((List.range 32768).find? (fun k =>
    let q := s.storeRead 34 (a / 64 * 64 + 64 * k) 64 []
    q.status != stOk || q.poisoned)).getD 0 * 64 + a / 64 * 64

/-- Bytes of the staged stream; the address of the unit that fails. -/
def State.stageRead (s : State) (o n : Nat) : Except Nat (List Byte) × State :=
  let r := s.storeRead 34 (s.stageBase + o) n []
  if r.status = stOk ∧ !r.poisoned then (.ok r.data, r.st) else (.error (s.badUnit r.failAddr), r.st)

/-- Does the staging range keep R63? -/
def State.stageOk (s : State) : Bool :=
  let a := s.stageBase
  let n := s.stageLen
  (segments a n).all (fun sg =>
    match (s.translate 34 false sg.1).1 with
    | .loc _ _ => true
    | _ => false) &&
  (!s.spanning || (regionsOf s.draft.struct).any (fun r => r.use == 5 && decide (r.base ≤ a ∧ a + n ≤ r.base + r.size)))

/-- KIND of the staged stream: none when its byte is neither 0 nor 1, the address of its unit when it cannot be read (R68). -/
def State.stagedKind (s : State) : Except Nat (Option Nat) × State :=
  let (r, s1) := s.stageRead 6 1
  (match r with
    | .error a => .error a
    | .ok b => .ok (if byteAt b 0 ≤ 1 then some (byteAt b 0) else none), s1)

/-- What refuses a stream before step 1, as the ADMIT finds it: the staging range, the number of pending patches, and a KIND that
cannot be read (R65, R68). -/
def State.preCheck (s : State) (patch : Bool) (kind : Except Nat (Option Nat)) : Option (Nat × Nat) :=
  if !s.stageOk then some (0x0116, s.stageBase)
  else if patch && decide (4 ≤ s.draft.patches.length) then some (0x0114, 4)
  else
    match kind with
    | .error a => some (0x0116, a)
    | .ok _ => none

/-- DRAFT_SCP_DATA (R64): a word of the staged stream, through port 34. -/
def execDraftScpData (value : Nat) (s : State) : Out :=
  let p := s.get R.DRAFT_SCP_PTR_PTR
  if s.draft.prot.isSome then .next (s.draftIgnored.raise 0x1C7)
  else if s.stageLen ≤ 4 * p then .next s.draftIgnored
  else .next (((s.storeWrite 34 (s.stageBase + 4 * p) (leBytes 4 value)).1).wrap R.DRAFT_SCP_PTR_PTR 1)

/-! ## The check (R65, R66) -/

/-- The part's identification as IDENT is held against (R39, R65 step 4): the first field that does not match. -/
def State.identPart (s : State) (b : List Byte) : Option Nat :=
  firstFail [
    if byteAt b 8 = 0x59 then none else some 8,
    if byteAt b 9 = 0x40 then none else some 9,
    if byteAt b 10 ≤ 0xB0 then none else some 10,
    if byteAt b 11 ≤ nStacks s.part then none else some 11,
    if byteAt b 12 = s.node then none else some 12]

/-- The serial in force once every pending patch has been applied (R72). -/
def State.lastSerial (s : State) : Nat := ((s.draft.patches.getLast?).map (·.serial)).getD (s.get R.DRAFT_SERIAL_SERIAL)

/-- Step 4 (R65, R72, R76). -/
def State.checkIdent (s : State) (patch : Bool) (st : List Byte) : Option Refuse :=
  let b := st.drop (dirEnt st 0).offset
  let e := fld b 32 8
  let cur := s.get R.DRAFT_SPAN_SPAN
  let lastE := ((s.draft.patches.getLast?).map (·.effSpan)).getD 0
  let at_ := fun (code detail : Nat) => (⟨code, 0, 0, detail % 2 ^ 32⟩ : Refuse)
  firstFail [
    (s.identPart b).map (at_ 0x0107),
    if !patch then none else firstFail [
      need (fld b 24 8 == s.lastSerial) (at_ 0x0110 0),
      need (decide (cur < e ∧ lastE ≤ e)) (at_ 0x0113 e),
      need (decide (cur < e - 1)) (at_ 0x0111 cur)]]

/-- The checks before step 1 and steps 1 to 4: the refusal or the whole stream. Step 3 reads the whole stream first, because the CRCs that
it is held against stand in its last section: a unit that cannot be read is reported before any CRC (DESIGN CHOICE,
notes/assumptions/81.md). -/
def State.checkTo4 (s : State) (patch : Bool) : Except Refuse (List Byte) × State :=
  let range := fun (a : Nat) => refuseAll 0x0116 a
  match s.draft.pre with
  | some p => (.error (refuseAll p.1 p.2), s)
  | none =>
    match s.stageRead 0 64 with
    | (.error a, s1) => (.error (range a), s1)
    | (.ok h, s1) =>
      match checkHeader h s1.stageLen with
      | some r => (.error r, s1)
      | none =>
        match s1.stageRead 64 (dirEnd (hdrSections h) - 64) with
        | (.error a, s2) => (.error (range a), s2)
        | (.ok d, s2) =>
          match checkDirectory (h ++ d) with
          | some r => (.error r, s2)
          | none =>
            match s2.stageRead 0 (hdrLength h) with
            | (.error a, s3) => (.error (range a), s3)
            | (.ok st, s3) =>
              match checkSums st with
              | some r => (.error r, s3)
              | none =>
                match s3.checkIdent patch st with
                | some r => (.error r, s3)
                | none => (.ok st, s3)

/-- Stream byte at which an item of a stream begins. -/
def itemOffset (st : List Byte) (items : List Item) (x : Item) : Option Nat :=
  let mine := items.filter (fun y => y.sec == x.sec)
  let before := mine.takeWhile (fun y => !y.same x)
  if before.length = mine.length then none
  else ((directory st).find? (fun d => d.type == x.sec)).map (fun d => d.offset + before.foldl (fun a y => a + y.body.length) 0)

/-- What step 7 reads of the part (R94). -/
def State.site7 (s : State) : Site7 :=
  ⟨s.node, nStacks s.part, s.populated.filter (fun x => s.siteState x == siteFault), s.populated.filter (fun x => (s.ledRetired x).isSome)⟩

/-- The figures of step 7 in their registers (R95). -/
def State.putFigures (s : State) (f : Figures) : State :=
  (((((((s.put R.DRAFT_FIG_A_CREEL f.creel).put R.DRAFT_FIG_A_DUTY f.duty).put R.DRAFT_FIG_SLACK_SLACK f.slack).put
    R.DRAFT_FIG_STACK_MIB f.stack).put R.DRAFT_FIG_BW_CEIL f.ceil).put R.DRAFT_FIG_BW_GUAR f.guar).put
    R.DRAFT_FIG_USE_OUT f.out).put R.DRAFT_FIG_USE_SPIN f.spin

/-- The structure that a checked stream is judged on (R78). -/
def State.judged (s : State) (patch : Bool) (items : List Item) : List Item :=
  if patch then applyPatch (s.pendingStructs.getLastD s.draft.struct) items else fullStructure items

/-- Steps 5 to 7 on a stream: the items and figures, or the refusal (R65, R66). -/
def State.check567 (s : State) (patch : Bool) (st : List Byte) : Except Refuse (List Item) × Figures :=
  match checkItems st with
  | .error r => (.error r, Figures.zero)
  | .ok items =>
    let types := (directory st).map (·.type)
    let l := s.judged patch items
    match checkStep6 l s.node (itemOffset st items) with
    | some f => (.error (f.report types items), Figures.zero)
    | none =>
      match admission l s.site7 with
      | (g, some f) => (.error (f.report types items), g)
      | (g, none) => (.ok items, g)

/-- A stream that has passed. -/
def streamOf (st : List Byte) (items : List Item) : Stream :=
  let b := bodyAt items secIdent 1 0
  let t := ((directory st).find? (fun d => d.type == secTables)).map (sectionBytes st)
  ⟨items, fld b 16 8, fld b 24 8, fld b 32 8, checkDigest st, sha384 (t.getD [])⟩

/-- The whole check (R65): figures, and the result. -/
def State.checkAll (s : State) (patch : Bool) : Except Refuse Stream × State :=
  match s.checkTo4 patch with
  | (.error r, s1) => (.error r, s1)
  | (.ok st, s1) =>
    match s1.check567 patch st with
    | (.error r, g) => (.error r, s1.putFigures g)
    | (.ok items, g) => (.ok (streamOf st items), s1.putFigures g)

/-- A refusal recorded (R66). -/
def State.refuseWith (s : State) (r : Refuse) : State :=
  (((s.put R.DRAFT_REFUSE_CODE_CODE r.code).put R.DRAFT_REFUSE_WHERE_SECTION r.section_).put
    R.DRAFT_REFUSE_WHERE_ITEM r.item).put R.DRAFT_REFUSE_DETAIL_DETAIL r.detail

/-- The staging range released (R64). -/
def State.stageRelease (s : State) : State := s.setDraft (fun d => { d with prot := none })
/-- The staging range protected (R64). -/
def State.stageProtect (s : State) : State := s.setDraft (fun d => { d with prot := some (s.stageBase, s.stageLen) })

/-! ## ADMIT, ABORT (R68) -/

/-- Was the KIND byte read, and is it `n`? -/
def kindIs (kind : Except Nat (Option Nat)) (n : Nat) : Bool :=
  match kind with
  | .ok (some k) => k == n
  | _ => false

/-- ADMIT (R68, R69, R76, R95). -/
def execDraftAdmit (t : Nat) (s : State) : Out :=
  let s0 := s.upTo t
  let st := s0.dState
  if !(st == dIdle || st == dAdmitted || st == dRunning || st == dRefused) || (st == dRunning && s0.is R.DRAFT_STATUS_PCHECK) then
    .next s0.draftIgnored
  else
    let (kind, s1) := s0.stagedKind
    let s2 := (s1.putFigures Figures.zero).put R.DRAFT_REFUSE_CODE_CODE 0
    let busy := fun (ev : Nat) => (s2.refuseWith (refuseAll 0x0115 st)).raise ev
    let s3 := s2.stageProtect.setDraft (fun d => { d with pre := s2.preCheck (st == dRunning) kind })
    if st = dRunning then
      if kindIs kind 0 then .next (busy 0x1C1)
      else .next (s3.put R.DRAFT_STATUS_PCHECK 1)
    else if kindIs kind 1 then .next (busy 0x1C5)
    else .next ((s3.setDraft (fun d => { d with admitted := none })).toDraft dChecking)

/-- ABORT (R68). -/
def execDraftAbort (s : State) : Out :=
  let st := s.dState
  let quit := fun (a : State) => (a.stageRelease.setDraft (fun d => { d with admitted := none })).toDraft dIdle
  if st = dChecking then .next ((quit s).refuseWith (refuseAll 0x0119 0))
  else if st = dAdmitted ∨ st = dRefused then .next (quit s)
  else if st = dArmed then .next (s.foxStop.toDraft dAdmitted)
  else .next s.draftIgnored

/-! ## What a patch changes (R73 to R75) -/

/-- Does a body differ between two structures? -/
def bodyDiffers (a b : List Item) (sec kind idx : Nat) : Bool := bodyAt a sec kind idx != bodyAt b sec kind idx

/-- The line groups that a ply's treadling names. -/
def plyGroupNos (l : List Item) (p : Nat) : List Nat := sortN ((tileSteps l p).flatMap stepGroups)

/-- Do the treadling item of a ply, or a line group it names, differ? -/
def threadsDiffer (a b : List Item) (p : Nat) : Bool :=
  bodyDiffers a b secTreadling 1 p ||
    (sortN ((tileSteps a p ++ tileSteps b p).flatMap (fun t =>
      (stepGroups t).flatMap (fun g => (List.range (runLen (plyLevel (plyBody a p)))).map (· + g))))).any (fun g =>
        bodyDiffers a b secThreading 3 g)

/-- Does anything of a slot that R75 names differ: slot-map entry, curve, image, a ZOOM item of its engine? -/
def slotDiffers (a b : List Item) (x : Nat) : Bool :=
  let e := slotEntry a x
  e != slotEntry b x || bodyDiffers a b secTables 2 (seCurve e) || bodyDiffers a b secPrograms 1 (seImage e) ||
    (bodyDiffers a b secZoom 1 (x / 64) || bodyDiffers a b secZoom 2 (x / 64 * 2) || bodyDiffers a b secZoom 2 (x / 64 * 2 + 1))

/-- The correlating plies for which a change of structure is an integration boundary (R75). -/
def brokenPlies (a b : List Item) (node : Nat) : List Nat :=
  ((shareCorr a node).map (·.idx)).filter (fun p =>
    bodyDiffers a b secTieup 1 p || threadsDiffer a b p || (sortN (plySlots a p ++ plySlots b p)).any (slotDiffers a b))

/-- The beams that a patch changes in a way of R184 and R187. -/
def changedBeams (a b : List Item) : List Nat :=
  (sortN ((itemsOf a secBeams 1 ++ itemsOf b secBeams 1).map (·.idx))).filter (fun x =>
    let p := bmPly (if (beamBody b x).isEmpty then beamBody a x else beamBody b x)
    bodyDiffers a b secBeams 1 x || bodyDiffers a b secBeams 2 x || threadsDiffer a b p)

/-- The beam plies of this chip whose steering matrix a patch has rebuilt (R184). -/
def rebuiltPlies (a b : List Item) (node : Nat) : List Nat :=
  let bs := changedBeams a b
  ((localBeam b node).map (·.idx)).filter (fun p => bs.any (fun x => bmPly (beamBody b x) == p && !(beamBody b x).isEmpty || bmPly (beamBody a x) == p && !(beamBody a x).isEmpty))

/-- Outputs whose route changes (R74): correlating plies by number, beams by `beamTag`. -/
def reroutes (a b : List Item) : List Nat :=
  let moved := fun (d e : Nat) => d != e || destBody a d != destBody b e
  (((plies b).filter (fun x => plyCorr x.body && !(plyBody a x.idx).isEmpty &&
    moved (plyDest (plyBody a x.idx)) (plyDest x.body))).map (·.idx)) ++
  (((itemsOf b secBeams 1).filter (fun x => !(beamBody a x.idx).isEmpty &&
    moved (bmDest (beamBody a x.idx)) (bmDest x.body))).map (fun x => beamTag x.idx))

/-! ## Results of a check (R65, R68, R72) -/

/-- PENDING and DRAFT_NEXT_PATCH from the pending store. -/
def State.showPatches (s : State) : State :=
  (s.put R.DRAFT_STATUS_PENDING s.draft.patches.length).put R.DRAFT_NEXT_PATCH_E
    ((s.draft.patches.head?.map (·.effSpan)).getD (2 ^ 64 - 1))

/-- A patch taken into the pending store (R64, R72, R74, R184, R223, R243). -/
def State.takePatch (s : State) (p : Stream) : State :=
  let old := s.pendingStructs.getLastD s.draft.struct
  let new := applyPatch old p.items
  let s1 := s.withSections (fun a => (a.setDraft (fun d => { d with patches := d.patches ++ [p] })).showPatches)
  ((s1.spinsAdmit old new p.effSpan).zoomAdmit p.items p.effSpan).beginBuilds new (rebuiltPlies old new s.node) p.effSpan

/-- The end of a patch's check (R68). -/
def State.patchChecked (s : State) (r : Except Refuse Stream) : State :=
  let s1 := s.stageRelease.put R.DRAFT_STATUS_PCHECK 0
  match r with
  | .error e => (s1.refuseWith e).raise 0x1C5
  | .ok p =>
    match s.draft.stopSpan with
    | some S => if p.effSpan ≤ S then (s1.takePatch p).raise 0x1C4 else s1.raise 0x1C8
    | none => (s1.takePatch p).raise 0x1C4

/-- CHECK_COMPLETE (R65, R66, R68). -/
def execCheckComplete (t : Nat) (s : State) : Out :=
  let s0 := s.upTo t
  if s0.dState = dChecking then
    match s0.checkAll false with
    | (.error e, s1) => .next (((s1.stageRelease.refuseWith e).toDraft dRefused).raise 0x1C1)
    | (.ok d, s1) => .next (((s1.setDraft (fun x => { x with admitted := some d })).toDraft dAdmitted).raise 0x1C0)
  else if s0.is R.DRAFT_STATUS_PCHECK then
    let (r, s1) := s0.checkAll true
    .next (s1.patchChecked r)
  else .next s0

/-- A patch's check that still runs when span E − 1 begins (R65): it is refused, from step 4 on. -/
def State.patchLate (s : State) (span : Nat) : State :=
  if !s.is R.DRAFT_STATUS_PCHECK then s
  else
    match s.checkTo4 true with
    | (.error _, _) => s
    | (.ok st, s1) =>
      if fld (st.drop (dirEnt st 0).offset) 32 8 = span + 1 then s1.patchChecked (.error ⟨0x0111, 0, 0, span % 2 ^ 32⟩) else s

/-! ## START (R68) -/

/-- What of a placement decides whether the sites sweep again (R326). -/
def placementKey (p : Placement) : Nat × Bool × List (Nat × Nat × Nat) :=
  (p.grain, p.sparing, p.regions.map (fun r => (r.num, r.size, r.sites)))

/-- The placement and the requester ports of a Draft that enters ARMED (R64, R326, R329, R335). -/
def State.placeArm (s : State) (l : List Item) : State :=
  let pl : Placement := ⟨grainOf l, sparingOf l, regionsOf l⟩
  let s1 : State := { s with place := pl }
  let s2 := if placementKey pl = placementKey s.place then s1
    else s1.populated.foldl (fun a x => if a.siteState x = siteReady then a.sweepBegins x else a) s1.stageRelease
  let s3 := forN 64 (fun p a =>
    let b := bodyAt l secMemplan 3 p
    (a.put1 R.MEM_PORT_CFG_CLASS p (if b.isEmpty then 2 else portCls b)).put1 R.MEM_PORT_CFG_LATENCY p (if b.isEmpty then 10000 else portLat b)) s2
  s3.storeRemap

/-- A full Draft's structure put in force (R68, R297), with everything of the Draft before it forgotten. -/
def State.structArm (s : State) (d : Stream) : State :=
  let s1 := s.setDraft (fun x => { x with
    struct := d.items, olds := [], bounds := [], tags := [], patches := [], stopSpan := none
    t0 := s.get R.DRAFT_START_START, base := s.get R.MESH_BASE_SPAN_SPAN, structDigest := d.digest, everApplied := true })
  let s2 : State := { s1 with
    pass := { PassState.init with layouts := [(s1.draft.base, accLay d.items [])] }
    beam := BeamState.init
    mesh := { s1.mesh with got := [], summaries := [], home := [], sent := [] } }
  (s2.put R.DRAFT_SERIAL_SERIAL d.serial).put R.PASS_FINAL_SPAN_SPAN (2 ^ 64 - 1)

/-- START (R68): ARMED with everything applied, or code 0x0117. While another master holds the lock of a target that it
writes, it waits (R413, R416). -/
def execDraftStart (t : Nat) (s : State) : Out :=
  let s0 := s.upTo t
  match s0.draft.admitted with
  | none => .next s0.draftIgnored
  | some d =>
    if s0.dState ≠ dAdmitted then .next s0.draftIgnored
    else if s0.get R.DRAFT_START_START < s0.now + nsToT 100000000 then .next (s0.refuseWith (refuseAll 0x0117 0))
    else if s0.armLocked then .next { s0 with xbar := { s0.xbar with armWaits := true } }
    else
      let l := d.items
      let s1 := (s0.measureReset235.measure 2 4 0 d.digest).measure 3 5 0 d.tablesDigest
      let s2 := s1.withSections (fun a => (a.structArm d).put R.DRAFT_STATUS_STATE dArmed)
      let s3 := ((s2.grantDraft.placeArm l).hanksArm l).classArm
      let s4 := (s3.spinsStart.zoomStart).foxStart
      .next ((s4.beginBuilds l ((localBeam l s4.node).map (·.idx)) s4.draft.base).ledCount 3).showPatches

/-- DRAFT_RUNNING (R24, R68): array time reaches DRAFT_START and the first span begins. -/
def execDraftRunning (t : Nat) (s : State) : Out :=
  let s0 := s.upTo t
  if s0.dState ≠ dArmed ∨ s0.now < s0.draft.t0 then .next s0
  else
    let s1 := (s0.stageRelease.toDraft dRunning).put R.DRAFT_SPAN_SPAN s0.draft.base
    let s2 := (s1.spinsRun true).zoomRunning.sideRun.put R.FOX_STATUS_LOG_USED (foxLog s1.draft.struct (s1.get R.FOX_CTL_LOG_INTERVAL))
    .next ((s2.capStart s0.draft.base).raise 0x1C2)

/-! ## STOP and the end (R68, R76, R178) -/

/-- Pending patches later than span S discarded (R68, R76): their images, matrices and coefficient banks with them. -/
def State.discardPatches (s : State) (S : Nat) : State :=
  let gone := s.draft.patches.filter (fun p => decide (S < p.effSpan))
  if gone.isEmpty then s
  else
    let s1 := (s.setDraft (fun d => { d with patches := d.patches.filter (fun p => decide (p.effSpan ≤ S)) })).showPatches
    let late := fun (e : Option Nat) => match e with
      | some x => if S < x then none else some x
      | none => none
    let s2 : State := { s1 with
      spin := { s1.spin with sp := s1.spin.sp.map (fun (e : Nat × Spindle) => (e.1, { e.2 with
        swapSpan := late e.2.swapSpan, images := e.2.images.filter (fun x => decide (x.1 ≤ S)) })) }
      zoom := { s1.zoom with newBanks := s1.zoom.newBanks.filter (fun b => decide (b.span ≤ S)) }
      beam := { s1.beam with builds := s1.beam.builds.filter (fun b => decide (b.span ≤ S))
                             matrices := s1.beam.matrices.filter (fun b => decide (b.span ≤ S)) } }
    gone.foldl (fun a _ => a.raise 0x1C8) s2

/-- STOP (R68, R69). -/
def execDraftStop (t : Nat) (s : State) : Out :=
  let s0 := s.upTo t
  if s0.dState = dArmed then .next (s0.foxStop.toDraft dAdmitted)
  else if s0.dState = dRunning then
    let S := s0.get R.DRAFT_SPAN_SPAN
    .next (s0.withSections (fun a =>
      ((a.setDraft (fun d => { d with stopSpan := some S })).put R.DRAFT_STATUS_STATE dStopping).discardPatches S))
  else .next s0.draftIgnored

/-- Everything that a STOP after span S waits for has been done (R68, R178, R244). -/
def State.stopped (s : State) (S : Nat) : Bool :=
  decide (S < s.get R.DRAFT_SPAN_SPAN) && s.isFinal S && !s.is R.DRAFT_STATUS_PCHECK &&
    s.pass.passes.all (fun p => p.state == 7 && !p.owes) && s.pass.dumps.isEmpty && s.beam.passes.all (fun p => decide (3 ≤ p.state)) &&
    !s.capOwes S && (s.silent || (s.beam.owed.isEmpty && s.beam.pages.isEmpty && s.beam.held.isEmpty && s.frames.destQ.all (fun q => q.2.isEmpty)))

/-- Open integrations ended with a short dump (R27, R157). -/
def State.endIntegs (s : State) : State :=
  s.pass.integs.foldl (fun a e =>
    if (a.integ (e.1 / 16384) (e.1 % 16384)).records.isEmpty then a
    else a.dumpCopy s.draft.struct (e.1 / 16384) (e.1 % 16384) (a.draft.stopSpan.getD 0)) s

/-- STOPPING_END (R68). -/
def execStoppingEnd (t : Nat) (s : State) : Out :=
  let s0 := s.upTo t
  match s0.draft.stopSpan with
  | none => .next s0
  | some S =>
    if s0.dState ≠ dStopping || !s0.stopped S then .next s0
    else
      let s1 := (s0.endIntegs.cutWindows (fun _ _ => true)).capStop
      let s2 := (s1.withSections (fun a => (a.setDraft (fun d => { d with stopSpan := none, patches := [] })).put R.DRAFT_STATUS_STATE dIdle))
      let s3 := (((s2.put R.DRAFT_SPAN_SPAN 0).showPatches.foxStop.spinsRun false).zoomRunning).sideStop
      .next (s3.raise 0x1C3)

/-- The controller after a warm or cold reset, D1 or D2 (R69): IDLE, no serial, no pending patches; the structure stays that of
the last Draft only for what the other chapters keep. -/
def State.draftReset (s : State) : State :=
  let s1 := s.withSections (fun a => (a.setDraft (fun d => { d with
    patches := [], admitted := none, prot := none, stopSpan := none, bounds := [], tags := [] })).put R.DRAFT_STATUS_STATE dIdle)
  ((((s1.put R.DRAFT_SERIAL_SERIAL 0).put R.DRAFT_SPAN_SPAN 0).put R.DRAFT_STATUS_PCHECK 0).showPatches).foxStop

end Sys2Proof.Machine
end

