-- ==== Sys2Proof/Machine/Spans.lean ====
section
/-!
DEFINITION. The starts, finality and deadlines of spans (R24, R25, R74, R132, R144, R155, R190).
-/

namespace Sys2Proof.Machine

/-- The channels of a ply whose span ends with regular span `e`, ascending, with that span's number (R25, R238). -/
def dueChannels (l : List Item) (b : List Byte) (e : Nat) : List (Nat × Nat) :=
  (List.range (plyNfine b)).filterMap (fun k =>
    let c := plyFirst b + k
    (endedSpan l c e).map (fun z => (c, z)))

/-- The passes of an ended span queued, in channel order within each ply (R25, R133, R182): of every ply that this chip holds a share
of (R301). -/
def State.openPasses (s : State) (e : Nat) : State :=
  let l := s.structAt e
  let ps := (shareCorr l s.node).flatMap (fun x =>
    let cs := dueChannels l x.body e
    ((List.range cs.length).zip cs).map (fun c =>
      (⟨x.idx, c.2.1, c.2.2, e, c.1, 0, false, false, false, false, [], [], [], [], 0, 0, [], 0, 0, false, [],
        none, false⟩ : Pass)))
  let bs := (localBeam l s.node).flatMap (fun x =>
    let cs := dueChannels l x.body e
    ((List.range cs.length).zip cs).map (fun c =>
      (⟨x.idx, c.2.1, c.2.2, e, c.1, 0, false, false, [], [], [], [], 0, 0, false, [], false, false, []⟩ : BeamPass)))
  { s with
    pass := { s.pass with passes := s.pass.passes.filter (fun p => p.state != 7 || p.owes || decide (e ≤ p.last + 1)) ++ ps }
    beam := { s.beam with passes := s.beam.passes.filter (fun p => p.state != 4 || decide (e ≤ p.last + 1)) ++ bs } }

/-- PASS_HFLAG as it stands at the end of span `e` (R144). -/
def State.hostFlags (s : State) (e : Nat) : State :=
  forN 128 (fun w a => (bitList 32 (s.get1 R.PASS_HFLAG_SLOTS w)).foldl (fun b k => b.exclude e allChans (32 * w + k) 8) a) s

/-- The open integrations of zoom channels that a patch's span falls within a zoom span of (R75): where the pass before it is done, the
integration ends with what it holds; where one still runs, its commit ends it (`State.endsInteg`). -/
def State.endZooms (s : State) (l : List Item) (n : Nat) (broken : List Nat) : State :=
  ((plies l).filter (fun x => broken.contains x.idx)).foldl (fun a x =>
    ((List.range (plyNfine x.body)).map (· + plyFirst x.body)).foldl (fun b c =>
      let busy := b.pass.passes.any (fun p => p.ply == x.idx && p.chan == c && decide (p.last < n) && (decide (p.state < 6) || p.owes))
      if n % zoomRatio l c = 0 || busy || (b.integ x.idx c).records.isEmpty then b
      else b.dumpCopy l x.idx c (n - 1)) a) s

/-- One patch takes effect at span `n` (R73 to R75): `old` is the structure before any patch of that span. A patch that carries the
integration item replaces it for span `n` on and leaves integrations unbroken: R74 and R75 name no such patch (DESIGN CHOICE,
notes/assumptions/86.md). -/
def State.applyOne (s : State) (old : List Item) (n : Nat) (p : Stream) : State :=
  let cur := s.draft.struct
  let new := applyPatch cur p.items
  let broken := brokenPlies cur new s.node
  let routes := reroutes cur new
  let s1 := ((s.endZooms cur n broken).measure 5 7 0 p.digest).setDraft (fun d => { d with
    struct := new
    olds := if d.olds.any (fun e => e.1 == n) then d.olds else d.olds ++ [(n, old)]
    patches := d.patches.drop 1
    bounds := d.bounds ++ broken.map (fun x => (n, x))
    tags := d.tags ++ routes.map (fun x => (n, x)) })
  let kept := (s.accPlaces n).filter (fun u => !broken.contains u.1 && (plies new).any (fun x =>
    x.idx == u.1 && plyCorr x.body && accSize new x == u.2.2))
  let base := n * tOf new
  let s2 : State := { s1 with
   pass := { s1.pass with layouts := s1.pass.layouts ++ [(n, accLay new kept)] }
   beam := { s1.beam with
    winBase := (changedBeams cur new).foldl (fun t b => Tab.upd [] t b (fun l => l.filter (· != base) ++ [base])) s1.beam.winBase } }
  ((((s2.put R.DRAFT_SERIAL_SERIAL p.serial).zoomPatch cur new n).foxPatch cur new n).classChange cur new).raise 0x1C6

/-- The patches of span `n` (R74). -/
def State.applyPatches (s : State) (n : Nat) : State :=
  let due := s.draft.patches.filter (fun p => p.effSpan == n)
  if due.isEmpty then s
  else
    let old := s.draft.struct
    (s.withSections (fun a => due.foldl (fun b p => b.applyOne old n p) a)).showPatches.grantDraft

/-- Does the Draft hold the span that ends: is it no later than the last span of a STOP? -/
def State.inDraft (s : State) (e : Nat) : Bool :=
  match s.draft.stopSpan with
  | none => true
  | some S => decide (e ≤ S)

/-- SPAN_START (R24, R65, R74, R133, R144, R299, R311, R391): array time reaches the start of span `span`. -/
def execSpanStart (span t : Nat) (s : State) : Out :=
  let s0 := s.upTo t
  if !s0.spanning ∨ span ≠ s0.get R.DRAFT_SPAN_SPAN + 1 ∨ s0.now < s0.spanTime span then .next s0
  else
    let e := span - 1
    let s1 := s0.patchLate span
    let s2 := ((s1.hostFlags e).snapLimits e).measureSpanEnd
    let s3 := s2.put R.DRAFT_SPAN_SPAN span
    let s3a := (if s3.inDraft e then s3.openPasses e else s3).applyPatches span
    let s4 := if s3a.inDraft e then (s3a.operandSend e).fillAllLost e else s3a
    .next ((s4.resyncSpan span).capSpan span)

/-- Has every spindle with positions flushed a span, and is no frame in reception (R132)? -/
def State.verdictsIn (s : State) (span : Nat) : Bool :=
  let l := s.structAt span
  s.spin.sp.all (fun e => (spinSlots l e.1).isEmpty || (match e.2.flushed with
    | some x => decide (span ≤ x)
    | none => false)) &&
  s.frames.rx.all (fun e => match e.2 with
    | some f => !(f.accepted && !f.entry.isEmpty && decide (s.coarseSpan f.n ≤ span))
    | none => true)

/-- SPAN_FINAL (R132, R134, R172, R300, R493): the next span becomes final; the settling span excludes every enabled slot with class 2; a
slot that a patch enables at the span that follows lacks what was not accepted (R74); waiting passes go on, and retraction records are owed.
A home node's summaries leave once its own verdicts are in. -/
def execSpanFinal (span t : Nat) (s : State) : Out :=
  let s0 := s.upTo t
  let f := s0.get R.PASS_FINAL_SPAN_SPAN
  let next := if f = 2 ^ 64 - 1 then s0.draft.base else f + 1
  if span ≠ next ∨ !s0.spanning ∨ s0.get R.DRAFT_SPAN_SPAN ≤ span ∨ !s0.verdictsIn span then .next s0
  else
    let s1 := if span = s0.draft.base then
        (enabledSlots (s0.structAt span)).foldl (fun a x => a.exclude span allChans x 2) s0
      else s0
    let s1n := if Tab.get false s1.mesh.sent (2 * span + 1) then s1 else (s1.newSlots (span + 1)).foldl (fun a x => a.newSlotMissing (span + 1) x) s1
    let s2 := s1n.summarySend span
    if !s2.remoteFinal span then
      let l := s2.structAt span
      let waits := s2.pass.passes.any (fun p => p.state == 3 && decide (p.last ≤ span) && decide (6 ≤ plyLevel (plyBody l p.ply)))
      .next (if waits then s2.meshEvt 5 else s2)
    else
      let s3 := s2.put R.PASS_FINAL_SPAN_SPAN span
      let ready := s3.pass.passes.filter (fun p => p.state == 3 && decide (p.last ≤ span))
      .next ((ready.foldl State.decide_ s3).beamFinal span)

/-- SPAN_DEADLINE (R25, R155, R156, R161, R190): the passes whose deadline has come, of spans up to `span`, are abandoned, those that
have not entered COMMITTING or EMITTED; the slack of each ply and span with abandoned correlating passes is minus their pass times, in
whole ns (DESIGN CHOICE, notes/assumptions/90.md). Sections may cease to be used (R121). -/
def execSpanDeadline (span t : Nat) (s : State) : Out :=
  let s0 := s.upTo t
  let due := fun (last chan : Nat) => decide (last ≤ span) &&
    decide (s0.spanTime (last + 1 + zoomRatio (s0.structAt last) chan) ≤ s0.now)
  let late := s0.pass.passes.filter (fun p => decide (p.state < 5) && due p.last p.chan)
  let lateB := s0.beam.passes.filter (fun p => decide (p.state < 3) && due p.last p.chan)
  let s1 := s0.cancelPrefetch (fun _ chan last => due last chan)
  let s2 := (((late.map (·.ply)).dedup).foldl State.dumpOwed (late.foldl State.abandon s1))
  let s3 := ((late.map (fun p => (p.ply, p.last))).dedup).foldl (fun a x =>
    let n := (late.filter (fun p => p.ply == x.1 && p.last == x.2)).length
    a.recordSlack x.1 (-((n : Rat) * passNs (s0.structAt x.2) x.1).floor)) s2
  .next (lateB.foldl State.beamAbandon s3).sectionsMove

end Sys2Proof.Machine
end

