-- ==== Sys2Proof/Machine/Trust.lean ====
section
/-!
DEFINITION. SPDM reporting (R475 to R477), live firmware update (R479 to R481), the Badger pair (R320).
-/

namespace Sys2Proof.Machine

def State.withTrust (s : State) (f : TrustState → TrustState) : State := { s with trust := f s.trust }

/-! ## SPDM (R475 to R477). Codes and layouts of messages are those of DMTF DSP0274 1.2 (PRESUMED) -/

def spdmVersion : Nat := 0x84
def spdmCapabilities : Nat := 0xE1
def spdmAlgorithms : Nat := 0xE3
def spdmDigests : Nat := 0x81
def spdmCertificate : Nat := 0x82
def spdmChallenge : Nat := 0x83
def spdmMeasurements : Nat := 0xE0
def spdmChunkSend : Nat := 0x85
def spdmChunkGet : Nat := 0x86

/-- One measurement block in DMTF format (R476): index, value type with bit 7 for a raw bit stream, value. -/
def measBlock (index type : Nat) (v : List Byte) : List Byte :=
  leBytes 1 index ++ leBytes 1 1 ++ leBytes 2 (v.length + 3) ++ leBytes 1 type ++ leBytes 2 v.length ++ v

/-- DMTFSpecMeasurementValueType of slots 0 to 5 (R476). -/
def slotType (k : Nat) : Nat := [0, 1, 3, 3, 2, 3].getD k 0

/-- Block `i`, 1 to 7, of a snapshot. -/
def SpdmReq.block (q : SpdmReq) (i : Nat) : List Byte :=
  if i = 7 then measBlock 7 (128 + 4) q.log.flatten else measBlock i (slotType (i - 1)) (q.slots.getD (i - 1) [])

/-- Free bytes: what the manual and this model do not give. -/
def State.freeBytes (s : State) (n : Nat) : List Byte × State :=
  let (v, s1) := s.takeFree
  (leBytes n v, s1)

/-- An ERROR response (R475): its code and data. -/
def spdmError (code data : Nat) : List Byte := leBytes 1 0x12 ++ leBytes 1 0x7F ++ leBytes 1 code ++ leBytes 1 data

/-- The header of a response. -/
def spdmHead (code p1 p2 : Nat) : List Byte := leBytes 1 0x12 ++ leBytes 1 code ++ leBytes 1 p1 ++ leBytes 1 p2

/-- The answer to GET_MEASUREMENTS (R476). Nonce and signature are free. -/
def State.measResponse (s : State) (q : SpdmReq) : List Byte × Bool × State :=
  let op := byteAt q.req 3
  let signed := byteAt q.req 2 % 2 == 1
  let is := if op = 0xFF then (List.range 7).map (· + 1) else if op = 0 then [] else [op]
  if 7 < op ∧ op ≠ 0xFF then (spdmError 1 0, true, s)
  else
    let rec_ := is.flatMap q.block
    let (n, s1) := s.freeBytes 32
    let (g, s2) := s1.freeBytes (if signed then 96 else 0)
    (spdmHead 0x60 (if op = 0 then 7 else 0) 0 ++ leBytes 1 is.length ++ leBytes 3 rec_.length ++ rec_ ++ n ++ leBytes 2 0 ++ g, false, s2)

/-- The response to a request on a connection, whether it is an ERROR, the connection's next state (R475): requests other than
GET_VERSION need the negotiation before them (PRESUMED, as SPDM orders them). -/
def State.spdmAnswer (s : State) (q : SpdmReq) : List Byte × Bool × Nat × State :=
  let code := byteAt q.req 1
  let c := Tab.get 0 s.trust.conns q.transport
  let order := fun (r : List Byte × Bool × State) => if c < 3 then (spdmError 4 0, true, c, s) else (r.1, r.2.1, c, r.2.2)
  let free := fun (resp n : Nat) => let (b, s1) := s.freeBytes n; (spdmHead resp 0 0 ++ b, false, s1)
  if code = spdmVersion then (spdmHead 0x04 0 0 ++ [0#8, 1#8] ++ leBytes 2 0x1200, false, 1, s)
  else if code = spdmCapabilities then
    if c = 0 then (spdmError 4 0, true, c, s)
    else (spdmHead 0x61 0 0 ++ leBytes 1 0 ++ leBytes 1 15 ++ leBytes 2 0 ++ leBytes 4 (2 + 4 + 16 + 2 ^ 17) ++ leBytes 4 4096 ++
      leBytes 4 40960, false, max c 2, s)
  else if code = spdmAlgorithms then
    if c < 2 then (spdmError 4 0, true, c, s)
    else (spdmHead 0x63 0 0 ++ leBytes 2 36 ++ leBytes 1 1 ++ leBytes 1 0 ++ leBytes 4 4 ++ leBytes 4 0x80 ++ leBytes 4 2 ++ zeros 16,
      false, 3, s)
  else if code = spdmMeasurements then order (s.measResponse q)
  else if code = spdmDigests then order (free 0x01 48)
  else if code = spdmCertificate then order (free 0x02 (4 + min 4088 (fld q.req 6 2)))
  else if code = spdmChallenge then order (free 0x03 226)
  else if code = spdmChunkSend then order (free 0x05 4)
  else if code = spdmChunkGet then order (free 0x06 (4 + 4084))
  else (spdmError 7 code, true, c, s)

/-- The first complete SPDM message among the MCTP packets held, with its Ethernet source and header, and the packets left. -/
def mctpMessage : List (List Byte) → List (List Byte) → Option (List Byte × List Byte × List (List Byte))
  | _, [] => none
  | before, x :: r =>
    if bit (byteAt x 9) 7 then
      let mine := fun (y : List Byte) => y.take 6 == x.take 6 && byteAt y 8 == byteAt x 8 && byteAt y 9 % 8 == byteAt x 9 % 8
      let all := x :: r.filter mine
      match findIdx? (fun y => bit (byteAt y 9) 6) all with
      | some k =>
        let parts := all.take (k + 1)
        some (x.take 10, (parts.flatMap (fun y => y.drop 10)).drop 1, before ++ (r.filter (fun y => !parts.contains y)))
      | none => mctpMessage (before ++ [x]) r
    else mctpMessage (before ++ [x]) r

/-- SPDM_REQUEST (R475 to R477): a request is accepted for signing, with the snapshot of this instant: `req` over DOE (0), a
whole message of the MCTP packets received (1), the mailbox's (2). -/
def execSpdmRequest (transport : Nat) (req : List Byte) (s : State) : Out :=
  let accept := fun (a : State) (tr : Nat) (back d : List Byte) =>
    a.withTrust (fun x => { x with spdm := x.spdm ++ [⟨tr, back, d, x.slots, x.log⟩] })
  if !s.alive then .next s
  else
    match transport with
    | 0 => .next (if s.is R.PCIE_STATUS_UP then accept s 0 [] req else s)
    | 1 =>
      match mctpMessage [] s.trust.mctp with
      | none => .next s
      | some (back, d, rest) => .next (accept (s.withTrust (fun x => { x with mctp := rest })) 1 back d)
    | _ =>
      if s.is R.TRUST_MBOX_CTL_BUSY && !s.trust.spdm.any (fun q => q.transport == 2) then .next (accept s 2 [] s.trust.mboxResp)
      else .next s

/-- An SPDM message as command packets (R443): type 0x05, at most 64 bytes a packet. -/
def State.mctpSend (s : State) (back d : List Byte) : State :=
  let cs := chunks 64 (5#8 :: d)
  ((List.range cs.length).zip cs).foldl (fun a c =>
    let flags := 128 * b2n (c.1 == 0) + 64 * b2n (c.1 + 1 == cs.length) + 16 * (c.1 % 4) + byteAt back 9 % 8
    a.respond (back.take 6) (mctpPacket ([1#8, back.getD 8 0#8] ++ leBytes 1 (a.get R.TRUST_CTL_MCTP_EID) ++ leBytes 1 flags ++ c.2))) s

/-- SPDM_RESPONSE (R475, R477): the oldest accepted request is answered over its transport. -/
def execSpdmResponse (s : State) : Out :=
  match s.trust.spdm with
  | [] => .next s
  | q :: r =>
    let (d, err, c, s1) := s.spdmAnswer q
    let s2 := s1.withTrust (fun x => { x with spdm := r, conns := Tab.set 0 x.conns q.transport c })
    let s3 := if err then (s2.bump R.TRUST_EVT_ERRORS 1).trustEvt 3 else s2
    match q.transport with
    | 0 => .next (s3.emit (.spdm 0 [] d))
    | 1 => .next (s3.mctpSend q.back d)
    | _ =>
      let s4 := s3.withTrust (fun x => { x with mboxResp := d, mboxRead := 0, mboxReq := [] })
      .next (((s4.put R.TRUST_MBOX_CTL_BUSY 0).put R.TRUST_MBOX_CTL_DONE 1).put R.TRUST_MBOX_CTL_LEN d.length)

/-- MBOX_GO (R477): LEN bytes of the request bytes are submitted. Ignored while BUSY, and for a LEN outside 1 to 4,096. -/
def execMboxGo (len : Nat) (s : State) : Out :=
  let s1 := s.put R.TRUST_MBOX_CTL_LEN len
  let n := s1.get R.TRUST_MBOX_CTL_LEN
  if s.is R.TRUST_MBOX_CTL_BUSY ∨ n = 0 ∨ 4096 < n then .next s1
  else
    let s2 := s1.withTrust (fun x => { x with mboxResp := padTo n x.mboxReq, mboxReq := [], mboxRead := 0 })
    .next ((s2.put R.TRUST_MBOX_CTL_BUSY 1).put R.TRUST_MBOX_CTL_DONE 0)

/-- An access of TRUST_MBOX_DATA: the response word read. -/
def State.mboxAccess (s : State) (w : Option Nat) : Nat × State :=
  match w with
  | some v => (0, s.withTrust (fun x => { x with mboxReq := (x.mboxReq ++ leBytes 4 v).take 4096 }))
  | none =>
    if s.is R.TRUST_MBOX_CTL_DONE then
      (fld s.trust.mboxResp s.trust.mboxRead 4, s.withTrust (fun x => { x with mboxRead := x.mboxRead + 4 }))
    else (0, s)

/-- TRUST_MBOX_DATA (R477): a write, or a read of a master. -/
def execTrustMboxData (master value : Nat) (write : Bool) (s : State) : Out :=
  let (v, s1) := s.mboxAccess (if write then some value else none)
  .next (if write then s1 else s1.emit (.regRead master R.TRUST_MBOX_DATA_DATA.addr v))

/-! ## Firmware images (R479, R483) -/

/-- Failure of an image: 0 none, 1 MAGIC, 2 LENGTH, 3 ICRC (R479, R480, R491). -/
def imageFault (d : List Byte) : Nat :=
  let n := fld d 8 4
  if fld d 0 4 ≠ 0x57465659 then 1
  else if n < 64 ∨ 2097152 < n then 2
  else if crc32c ((d.take n).drop 64) ≠ fld d 60 4 then 3
  else 0

/-- An image measured and entered in the firmware history (R472, R483): SOURCE 1 boot, 2 live. -/
def State.imageEnter (s : State) (d : List Byte) (source : Nat) : State :=
  let dig := sha384 (d.take (fld d 8 4))
  let s1 := s.measure 1 (source + 1) 0 dig
  let o := 0x1000 + 64 * (s1.led 0xA0 8 % 64)
  let e := leBytes 4 (fld d 4 4) ++ leBytes 4 source ++ leBytes 8 s1.now ++ dig
  ({ s1 with ledger := { s1.ledger with image := ledgerPut s1.ledger.image o e } } : State).ledCount 12

/-! ## Live update (R480, R481) -/

def fwIdle : Nat := 0
def fwLoading : Nat := 1
def fwStarting : Nat := 2
def fwHandover : Nat := 3
def fwReloading : Nat := 4

def State.fwState (s : State) : Nat := s.get R.TRUST_FW_STATUS_STATE

/-- A state of the update entered now. -/
def State.fwTo (s : State) (st : Nat) : State := (s.withTrust (fun x => { x with fwAt := s.now })).put R.TRUST_FW_STATUS_STATE st

/-- The update fails: the core that it worked on is held in reset. -/
def State.fwFail (s : State) (err : Nat) : State :=
  (((s.fwTo fwIdle).put R.TRUST_FW_STATUS_ERR err).put R.PAIR_BADGER_FAILED 1).trustEvt 2

/-- UPDATE (R480). -/
def execFwUpdate (t : Nat) (s : State) : Out :=
  let s0 := s.upTo t
  if s0.fwState ≠ fwIdle then .next (s0.bump R.TRUST_FW_STATUS_IGNORED 1)
  else .next ((s0.fwTo fwLoading).put R.PAIR_BADGER_STANDBY_OK 0)

/-- IMAGE_LOADED (R480): the image has been read on port 35; `ext` is what a target outside the local stacks returned. -/
def execImageLoaded (ext : List Byte) (t : Nat) (s : State) : Out :=
  let s0 := s.upTo t
  if s0.fwState ≠ fwLoading then .next s0
  else
    let a := s0.get R.TRUST_FW_ADDR_ADDR / 64 * 64
    let h := s0.storeRead 35 a 64 ext
    let bad := h.status ≠ stOk ∨ h.poisoned
    let f := imageFault h.data
    if bad then .next (h.st.fwFail 4)
    else if f = 1 ∨ f = 2 then .next (h.st.fwFail f)
    else
      let n := fld h.data 8 4
      let r := h.st.storeRead 35 (a + 64) (n - 64) (ext.drop 64)
      let d := h.data ++ r.data
      if r.status ≠ stOk ∨ r.poisoned then .next (r.st.fwFail 4)
      else if imageFault d ≠ 0 then .next (r.st.fwFail (imageFault d))
      else .next (((r.st.imageEnter d 2).withTrust (fun x => { x with fwVersion := fld d 4 4 })).fwTo fwStarting)

/-- The target core comes into service and the old one is reloaded (R480). -/
def State.handover (s : State) : State :=
  let s1 := s.put R.PAIR_BADGER_ACTIVE_CORE (1 - s.get R.PAIR_BADGER_ACTIVE_CORE)
  (s1.put R.TRUST_FW_VERSION_VERSION s1.trust.fwVersion).fwTo fwReloading

/-- READY (R480, R481, R320): a starting core is ready: the target of an update, the reloaded core, a restarted core, the standby core after
a boot. -/
def execFwReadyCore (t : Nat) (s : State) : Out :=
  let s0 := s.upTo t
  let st := s0.fwState
  if st = fwStarting then .next (s0.fwTo fwHandover)
  else if st = fwReloading then
    .next (((((s0.fwTo fwIdle).put R.TRUST_FW_STATUS_ERR 0).put R.PAIR_BADGER_STANDBY_OK 1).put R.PAIR_BADGER_FAILED 0).ledCount 10
      |>.trustEvt 1)
  else if st = fwIdle then
    if s0.trust.awaits = 2 then .next (s0.withTrust (fun x => { x with awaits := 0 }))
    else if s0.trust.awaits = 1 ∨ (¬s0.is R.PAIR_BADGER_FAILED ∧ 3 ≤ s0.get R.SYS_BOOT_STAGE ∧ s0.get R.SYS_BOOT_STAGE ≠ 5) then
      .next ((s0.withTrust (fun x => { x with awaits := 0 })).put R.PAIR_BADGER_STANDBY_OK 1)
    else .next s0
  else .next s0

/-- YIELD (R480). -/
def execFwYield (t : Nat) (s : State) : Out :=
  let s0 := s.upTo t
  .next (if s0.fwState = fwHandover then s0.handover else s0)

/-- HANDOVER_TIMEOUT (R480): 1 ms in HANDOVER. -/
def execHandoverTimeout (t : Nat) (s : State) : Out :=
  let s0 := s.upTo t
  .next (if s0.fwState = fwHandover ∧ s0.trust.fwAt + nsToT 1000000 ≤ s0.now then s0.handover else s0)

/-- FW_START_TIMEOUT (R480): 150 ms without READY. -/
def execFwStartTimeout (t : Nat) (s : State) : Out :=
  let s0 := s.upTo t
  if s0.now < s0.trust.fwAt + nsToT 150000000 then .next s0
  else if s0.fwState = fwStarting then .next (s0.fwFail 5)
  else if s0.fwState = fwReloading then .next (s0.fwFail 6)
  else .next s0

/-! ## Watchdog and restart (R320, R481) -/

/-- BADGER_WATCHDOG: the den watchdog of the core in service expires. With no core to take over, the failed one is held in reset and
none serves (notes). -/
def execBadgerWatchdog (t : Nat) (s : State) : Out :=
  let s0 := s.upTo t
  if !s0.alive then .next s0
  else
    let st := s0.fwState
    if st = fwHandover then .next s0.handover
    else if st = fwLoading ∨ st = fwStarting then
      .next ((((s0.fwTo fwIdle).put R.TRUST_FW_STATUS_ERR 7).trustEvt 2).takeover.withTrust (fun x => { x with awaits := 2 }))
    else if s0.is R.PAIR_BADGER_STANDBY_OK then .next s0.takeover
    else .next (s0.put R.PAIR_BADGER_FAILED 1)

/-- RESTART (R320): the failed core leaves reset, and is the standby once it reports ready. -/
def execBadgerRestart (s : State) : Out :=
  if s.is R.PAIR_BADGER_FAILED then
    .next ((s.withTrust (fun x => { x with awaits := if x.awaits = 2 then 2 else 1 })).put R.PAIR_BADGER_FAILED 0)
  else .next s

/-- What ends with every warm reset (R477): connections, requests; and the mailbox. -/
def State.spdmReset (s : State) : State :=
  let s1 := s.withTrust (fun x => { x with spdm := [], conns := [], mctp := [], mboxReq := [], mboxResp := [], mboxRead := 0 })
  ((s1.put R.TRUST_MBOX_CTL_BUSY 0).put R.TRUST_MBOX_CTL_DONE 0).put R.TRUST_MBOX_CTL_LEN 0

end Sys2Proof.Machine
end

