-- ==== Sys2Proof/Machine/Power.lean ====
section
/-!
DEFINITION. Power states, wakes, emergencies and resets (R455 to R471), bring-up (R488 to R491).
-/

namespace Sys2Proof.Machine

def State.withPower (s : State) (f : PowerState → PowerState) : State := { s with power := f s.power }

/-- POWER_STATUS.STATE's codes. -/
def pwD0 : Nat := 0
def pwD1 : Nat := 1
def pwEntering : Nat := 3
def pwWaking : Nat := 4

def State.pw (s : State) : Nat := s.get R.POWER_STATUS_STATE
def State.setPw (s : State) (v : Nat) : State := s.put R.POWER_STATUS_STATE v

/-! ## What every reset and every deeper state ends -/

/-- A section through DRAINING to OFF (R124). -/
def State.sectionOff (s : State) (S : Nat) : State :=
  if s.pstate S = 0 then s else (s.abortTests S).put1 R.SECTION_STATUS_PSTATE S 0

/-- Requests queued at the stacks end with an error, each counted (R332, R463). -/
def State.memQueuesEnd (s : State) : State :=
  let gone := (s.stk.bankQ ++ s.stk.ingress).flatMap (·.2)
  let s1 : State := { s with stk := { s.stk with bankQ := [], ingress := [], openRows := [], ptr := [], postponed := [] } }
  gone.foldl (fun a r => a.refusedUnits r.port stClosed 1) s1

/-- Register fields whose bit address meets a test back at their reset values. -/
def State.dropRegs (s : State) (p : Nat → Bool) : State := { s with regs := s.regs.filter (fun e => !p e.1) }

/-- Does a bit address lie in the registers from one offset to another? -/
def inRegs (lo hi k : Nat) : Bool := decide (lo ≤ k / 8 ∧ k / 8 ≤ hi)

/-- The Draft is abandoned (R69, R157): the controller is IDLE, passes go without a record, and the engines that serve the Draft stop. -/
def State.draftOff (s : State) : State :=
  let s1 := (s.cancelPrefetch (fun _ _ _ => true)).draftReset
  let s2 : State := { s1 with
    pass := PassState.init
    beam := BeamState.init }
  (s2.foxReset.put R.FOX_BATCH_SEQ_BSEQ 0).spinsReset.zoomReset.capReset

/-- What a warm reset, D1, and every deeper state do to the units (R69, R124, R157, R166, R190, R227, R244, R264, R291, R321, R384,
R406, R425, R428, R453). -/
def State.unitsReset (s : State) : State :=
  let s1 := s.draftOff
  let s2 : State := { s1 with
    mesh := ⟨[], [], [], s1.mesh.armed, [], [], [], [], []⟩
    monTest := []
    monBad := []
    trust := { s1.trust with pendExt := [] } }
  let s3 := forN 16 (fun S a => a.sectionOff S) s2
  let s4 := s3.framesReset.lanesOff.pairReset
  let s5 := ((s4.storeClose false).memQueuesEnd).dmaReset.monReset.mgmtReset.timeWarm
  let s6 : State := { s5 with checkPoly := [] }
  s6.dropRegs (inRegs 0x2400000 0x24FFFFF)

/-! ## D1 (R456, R457) -/

/-- The sites in D1 (R335): READY to SELF_REFRESH, where a migration pauses (R344); a sweep under way runs again later (R363). -/
def State.sitesSleep (s0 : State) : State :=
  let s := forN 6 (fun x a => a.migrateTo x a.now) s0
  s.populated.foldl (fun a x =>
    if a.siteState x = siteReady then a.put1 R.MEM_STATUS_STATE x siteSelfRefresh
    else if a.siteState x = siteSweeping then
      (a.put1 R.MEM_STATUS_STATE x siteSelfRefresh).updSite x (fun y => { y with resweep := true })
    else a) s

/-- The sites at a wake from D1 (R335, R363). -/
def State.sitesWake (s : State) : State :=
  s.populated.foldl (fun a x =>
    if a.siteState x ≠ siteSelfRefresh then a
    else if (a.site x).resweep then a.put1 R.MEM_STATUS_STATE x siteSweeping
    else
      let a1 := (a.put1 R.MEM_STATUS_STATE x siteReady).migrateResume x
      a1.trackersRestart x a1.now) s

/-- D1 reached (R456). -/
def State.enterD1 (s : State) : State :=
  ((((s.powerEvt 0).withPower (fun p => { p with d := 1 })).unitsReset.sitesSleep)).setPw pwD1

/-- A wake from D1 (R457, R458). -/
def State.wakeD1 (s : State) (src : Nat) : State :=
  let s1 := (((s.withPower (fun p => { p with d := 0 })).sitesWake.put R.POWER_STATUS_WAKE_SRC src).setPw pwD0).lanesWake
  (s1.powerEvt 1).sectionsMove

/-- Is a request for D1 (1) or D2 (2) refused (R456, R470, R481)? -/
def State.powerRefused (s : State) (target : Nat) : Bool :=
  (s.draftRuns && !s.is R.POWER_CTL_FORCE) || (target == 1 && s.power.d == 1) || s.fwState != fwIdle ||
    s.pw == pwEntering || s.pw == pwWaking

def State.powerRefuse (s : State) : State := (s.bump R.POWER_STATUS_REFUSED 1).powerEvt 2

/-- The fields that a write of POWER_CTL with GO holds. -/
def State.powerCtl (s : State) (target : Nat) (force keep : Bool) : State :=
  ((s.put R.POWER_CTL_TARGET target).put R.POWER_CTL_FORCE (b2n force)).put R.POWER_CTL_KEEP_HANKS (b2n keep)

/-- ENTER_D1 (R456): entered, or refused. -/
def execEnterD1 (force keep : Bool) (t : Nat) (s : State) : Out :=
  let s0 := (s.upTo t).powerCtl 1 force keep
  .next (if s0.powerRefused 1 then s0.powerRefuse else s0.enterD1)

/-! ## D2 (R456) -/

/-- HANK_CTL as D2 entry saves it, by key. -/
def State.savedHanks (s : State) : Tab Nat :=
  s.regs.filter (fun e => decide (0x1900000 * 8 ≤ e.1 ∧ e.1 < 0x1900C00 * 8) && decide (e.1 % 2048 < 32))

/-- The Ledger block without its live image: what MRAM keeps. -/
def State.mram (s : State) : LedgerState :=
  { s.ledger with image := [], commit := none, tries := 0, hdr := [], lockedAll := [] }

/-- Loss of everything but the given parts: the machine as power-on leaves it. -/
def State.dark (s : State) (p : PowerState) : State :=
  ({ State.reset with part := s.part, sent := s.sent, free := s.free, pending := s.pending, ledger := s.mram, power := p } :
    State).mapReset

/-- D2 reached (R455, R459): a cold reset; the den keeps time, wake registers, cause, saved hanks. -/
def State.enterD2 (s : State) : State :=
  let keep := s.is R.POWER_CTL_KEEP_HANKS
  let p := s.power
  let time := s.enterDen.time
  let s1 := s.dark { PowerState.init with
    d := 2, fault := p.fault, hpEn := p.hpEn, hpAt := p.hpAt, denTemp := p.denTemp, armed := p.armed
    hanks := if keep then s.savedHanks else [], mac := s.get R.MGMT_MAC_ADDR, owed := p.owed, denAt := s.now }
  let s2 : State := { s1 with
    now := s.now
    time := { TimeState.init with denBase := time.denBase, denTicks := time.denTicks, denA := time.denA, denOfs := time.denOfs } }
  let keepF := [R.POWER_WAKE_EN_EN, R.POWER_WAKE_TIME_TIME, R.POWER_CAUSE_WAKES_REFUSED, R.POWER_CAUSE_RAIL,
    R.POWER_CAUSE_LEDGER_SKIPPED, R.POWER_CAUSE_CAUSE, R.POWER_CTL_KEEP_HANKS]
  (keepF.foldl (fun (a : State) f => a.put f (s.get f)) s2).put R.TIME_STATUS_STATE tbDen

/-- Entry to D2 with its cause; `skipped`: the Ledger was not waited for. -/
def State.powerDown (s : State) (cause rail : Nat) (skipped : Bool) : State :=
  (((s.put R.POWER_CAUSE_CAUSE cause).put R.POWER_CAUSE_RAIL rail).put R.POWER_CAUSE_LEDGER_SKIPPED (b2n skipped)).enterD2

/-- ENTER_D2 (R456): a Draft that FORCE overrides is abandoned (R157) and the wait for the Ledger begins, or the request is refused. -/
def execEnterD2 (force keep : Bool) (t : Nat) (s : State) : Out :=
  let s0 := (s.upTo t).powerCtl 2 force keep
  if s0.powerRefused 2 then .next s0.powerRefuse
  else
    let s1 := if s0.draftRuns then s0.draftOff.sectionsMove else s0
    .next ((((s1.powerEvt 0).ledCount 2).withPower (fun p => { p with waits := true, waitAt := s0.now })).setPw pwEntering)

/-- LEDGER_DONE (R456). -/
def execLedgerDone (t : Nat) (s : State) : Out :=
  let s0 := s.upTo t
  .next (if s0.power.waits then s0.powerDown 1 0 false else s0)

/-- LEDGER_WAIT_TIMEOUT (R456): 100 ms without LEDGER_DONE. -/
def execLedgerWaitTimeout (t : Nat) (s : State) : Out :=
  let s0 := s.upTo t
  .next (if s0.power.waits && decide (s0.power.waitAt + nsToT 100000000 ≤ s0.now) then s0.powerDown 1 0 true else s0)

/-! ## Weave-up (R489, R491) -/

/-- Weave-up begins, from power-on or from D2: the ROM measured, the Ledger loaded, the seconds in the den counted. -/
def State.weaveUp (s : State) (src : Nat) : State :=
  let woke := s.power.d == 2
  let secs := (s.now - s.power.denAt) / 4294967296
  let s1 := ((s.withPower (fun p => { p with d := 0, bootAt := s.now, wake := woke, image := 2 })).put R.POWER_STATUS_WAKE_SRC src).setPw pwWaking
  let s2 := (s1.measure 0 1 0 (leBytes 48 Config.romDigest)).ledgerLoad.defaultPlace
  (if woke then s2.ledBump 0x48 8 secs else s2).timeCold

/-- POR_N_RELEASE (R489). -/
def execPorNRelease (t : Nat) (s : State) : Out :=
  if s.power.d = 3 then .next ((s.upTo t).weaveUp 0) else .next s

/-- RAILS_GOOD (R464, R489): rails closed and PLLs locked; the sites power up, saved hanks come back, the fetch begins. -/
def execRailsGood (t : Nat) (s : State) : Out :=
  let s0 := s.upTo t
  if s0.pw ≠ pwWaking ∨ s0.get R.SYS_BOOT_STAGE ≠ 0 then .next s0
  else
    let s1 := s0.put R.SYS_BOOT_STAGE 2
    let s2 := s1.populated.foldl (fun a x => if a.siteState x = siteOff then a.put1 R.MEM_STATUS_STATE x sitePowering else a) s1
    let s3 : State := { s2 with regs := s0.power.hanks.foldl (fun m e => Tab.put m e.1 e.2) s2.regs }
    let s4 := if s0.power.hanks.isEmpty then s3 else s3.lanesWake
    .next (s4.withPower (fun p => { p with image := 0, hanks := [] }))

/-- CREEL_SWEEP_DONE (R363, R489). -/
def execCreelSweepDone (s : State) : Out :=
  .next (if 2 ≤ s.get R.SYS_BOOT_STAGE then { s with store := { s.store with creelSwept := true } } else s)

/-- IMAGE_FETCHED (R489, R491): the image being fetched has been read. -/
def execImageFetched (image : List Byte) (t : Nat) (s : State) : Out :=
  let s0 := s.upTo t
  if !s0.bootHolds then .next s0
  else
    let f := imageFault image
    let second := s0.power.image == 1
    if f = 0 then
      let ms := tToNs (s0.now - s0.power.bootAt) / 1000000
      let s1 := ((s0.imageEnter image 1).put R.TRUST_FW_VERSION_VERSION (fld image 4 4)).put R.SYS_BOOT_START_MS (min 4095 ms)
      let s2 := (s1.put R.SYS_BOOT_STAGE 3).withPower (fun p => { p with image := 2 })
      .next (if second then ((s2.put R.SYS_BOOT_SECONDARY 1).cause1 R.SYS_BOOT_SECONDARY_EVT 0 0 0x1A9).flashFree else s2.flashFree)
    else
      let s1 := s0.put R.SYS_BOOT_ERR f
      if second then
        .next (((s1.put R.SYS_BOOT_STAGE 5).withPower (fun p => { p with image := 2 })).cause1 R.SYS_BOOT_FAILED_EVT 0 0 0x1AA).flashFree
      else .next (s1.withPower (fun p => { p with image := 1 }))

/-- BOOT_RETRY (R491): acts in FAILED only. -/
def execBootRetry (s : State) : Out :=
  .next (if s.get R.SYS_BOOT_STAGE = 5 then (s.put R.SYS_BOOT_STAGE 2).withPower (fun p => { p with image := 0 }) else s)

/-- FW_READY (R458, R471, R489): D0; the events of an emergency are raised. -/
def execFwReady (t : Nat) (s : State) : Out :=
  let s0 := s.upTo t
  if s0.pw ≠ pwWaking ∨ s0.get R.SYS_BOOT_STAGE ≠ 3 then .next s0
  else
    let s1 := (s0.put R.SYS_BOOT_STAGE 4).setPw pwD0
    let s2 := if s0.power.wake then s1.powerEvt 1 else s1
    let c := s0.get R.POWER_CAUSE_CAUSE
    let s3 := if s0.power.owed = 0 then s2 else if c = 2 then s2.powerEvt 4 else if c = 3 then s2.powerEvt 5 else s2
    .next (s3.withPower (fun p => { p with owed := 0, wake := false }))

/-! ## Wakes (R457, R468, R470) -/

/-- A wake source acts: refused while the den is hot; it cancels a wait for the Ledger. -/
def State.wakeUp (s : State) (src : Nat) : State :=
  let cancel := fun (a : State) => (a.withPower (fun p => { p with waits := false })).setPw (if a.power.d = 1 then pwD1 else pwD0)
  if s.power.d = 3 ∨ (s.power.d = 0 ∧ !s.power.waits) then s
  else if 110 < s.power.denTemp then s.bump R.POWER_CAUSE_WAKES_REFUSED 1
  else
    let s1 := if s.power.waits then cancel s else s
    if s1.power.d = 1 then s1.wakeD1 src else if s1.power.d = 2 then s1.weaveUp src else s1

def State.wakeOn (s : State) (src : Nat) : Bool := s.bitOf R.POWER_WAKE_EN_EN (src - 1)

/-- WAKE_FROM_D1 (R457): GO with TARGET 0 by PCIe (master 0), SCP (1), or another master, whose code is not stated. In D0 it cancels a wait
for the Ledger. -/
def execWakeFromD1 (master t : Nat) (force keep : Bool) (s : State) : Out :=
  let s0 := (s.upTo t).powerCtl 0 force keep
  if master = 0 then .next (if s0.wakeOn 4 then s0.wakeUp 4 else s0)
  else if master = 1 then .next (if s0.wakeOn 3 then s0.wakeUp 3 else s0)
  else let (v, s1) := s0.takeFree; .next (s1.wakeUp (v % 6))

/-- WAKE_TIME (R385, R457): array time reaches POWER_WAKE_TIME. -/
def execWakeTime (t : Nat) (s : State) : Out :=
  let s0 := s.upTo t
  if !s0.power.armed || decide (s0.now < s0.get R.POWER_WAKE_TIME_TIME) then .next s0
  else
    let s1 := s0.withPower (fun p => { p with armed := false })
    .next (if s1.wakeOn 1 then s1.wakeUp 1 else s1)

/-- DEN_WAKE_N (R457): held low for 1 µs. -/
def execDenWakeN (t : Nat) (s : State) : Out :=
  let s0 := s.upTo t
  .next (if s0.wakeOn 5 then s0.wakeUp 5 else s0)

/-- Is a frame a wake frame (R457)? Its header is checked as the state has it: every filter in D0 and D1, address and FCS in D2. -/
def State.wakeFrame (s : State) (d : List Byte) (ok : Bool) : Bool :=
  let u := untag d
  let p := u.drop 14
  let kind := etherType u == 0x88B6 && fld p 0 2 == 0x8004 && fld p 8 8 == s.get R.TRUST_DEVICE_ID_ID
  kind && (if s.power.d = 2 then ok && d.take 6 == leBytes 6 s.power.mac else s.mgmtFilter d ok 0 == 0)

/-- WAKE_FRAME (R457): a frame on the management port, from the destination address to before the FCS; `ok`: its FCS is right. -/
def execWakeFrame (frame : List Byte) (ok : Bool) (t : Nat) (s : State) : Out :=
  let s0 := s.upTo t
  .next (if s0.wakeOn 2 && s0.wakeFrame frame ok then s0.wakeUp 2 else s0)

/-- SCP_SEL_FALL (R457): in D2 only. -/
def execScpSelFall (t : Nat) (s : State) : Out :=
  let s0 := s.upTo t
  .next (if decide (s0.power.d = 2) && s0.wakeOn 3 then s0.wakeUp 3 else s0)

/-- PERST_RISE (R457): in D2 only. -/
def execPerstRise (t : Nat) (s : State) : Out :=
  let s0 := s.upTo t
  .next (if decide (s0.power.d = 2) && s0.wakeOn 4 then s0.wakeUp 4 else s0)

/-! ## Emergencies and pins (R466 to R468) -/

/-- D3: everything but MRAM is lost. -/
def State.enterD3 (s : State) : State :=
  s.dark { PowerState.init with hpEn := s.power.hpEn, denTemp := s.power.denTemp }

/-- A supply fault (cause 3) or a thermal trip (2) in D0, D1, an entry or a wake: FAULT_N, the record, D2 at once. -/
def State.emergencyDown (s : State) (cause rail : Nat) : State :=
  ((s.emergency cause rail).withPower (fun p => { p with fault := true, owed := 1 })).powerDown cause rail true

/-- SUPPLY_FAULT (R466): a rail, numbered as in POWER_SUPPLY. -/
def execSupplyFault (rail t : Nat) (s : State) : Out :=
  let s0 := s.upTo t
  if rail % 8 = 2 ∨ rail % 8 = 7 then .next s0.enterD3
  else if 2 ≤ s0.power.d then .next s0
  else .next (s0.emergencyDown 3 (rail % 8))

/-- CAUSE_CLEAR (R466). -/
def execCauseClear (s : State) : Out :=
  .next (((s.withPower (fun p => { p with fault := false })).put R.POWER_CAUSE_CAUSE 0).put R.POWER_CAUSE_RAIL 0)

/-- HP_EN_FALL (R467): counted in D0 and D1. -/
def execHpEnFall (t : Nat) (s : State) : Out :=
  let s0 := s.upTo t
  if !s0.power.hpEn then .next s0
  else
    let s1 := s0.withPower (fun p => { p with hpEn := false })
    .next (if s1.power.d ≤ 1 then (s1.powerEvt 6).ledCount 6 else s1)

/-- HP_EN_RISE (R467): outputs are released 10 µs later. -/
def execHpEnRise (t : Nat) (s : State) : Out :=
  let s0 := s.upTo t
  if s0.power.hpEn then .next s0
  else .next (s0.withPower (fun p => { p with hpEn := true, hpAt := s0.now + nsToT 10000 }))

/-- A temperature as POWER_TEMP shows it. -/
def tempByte (c : Int) : Nat := usgn 8 (satI 8 c)

/-- TEMP_SAMPLE (R468): the maxima of the die and of the stacks, the den. In D2 the den sensor alone runs. -/
def execTempSample (die stack den : Int) (t : Nat) (s : State) : Out :=
  let s0 := (s.upTo t).withPower (fun p => { p with denTemp := den })
  if 2 ≤ s0.power.d then .next s0
  else
    let was := sgn 8 (s0.get R.POWER_TEMP_DIE_MAX)
    let warn := sgn 8 (s0.get R.POWER_THERM_CTL_WARN)
    let s1 := ((s0.put R.POWER_TEMP_DIE_MAX (tempByte die)).put R.POWER_TEMP_STACK_MAX (tempByte stack)).put R.POWER_TEMP_DEN (tempByte den)
    let s2 := if was ≤ warn ∧ warn < die then s1.powerEvt 3 else s1
    let s3 := if s2.draftRuns ∧ tempMax s2.draft.struct < stack then s2.powerEvt 7 else s2
    .next (if 130 ≤ die ∨ 130 ≤ stack then s3.emergencyDown 2 0 else s3)

/-- POR_N_ASSERT (R466, R494): D3; weave-up restarts from STAGE 0 at the release. -/
def execPorNAssert (s : State) : Out := .next s.enterD3

/-! ## Warm reset (R15, R470) -/

/-- Fields that a warm reset keeps beside those marked ST: identity and boot, timebase, stacks and map, link, monitor and management
settings, measurement, Ledger, power; and event routing (R434). -/
def warmKeeps : List Field := [
  R.MEM_STATUS_TEMP, R.MEM_STATUS_MULT, R.MEM_STATUS_SPARE, R.MEM_STATUS_RETIRED_SID, R.MEM_STATUS_RETIRED, R.MEM_STATUS_STATE,
  R.MEM_MIG_PROGRESS, R.STORE_STATUS_DEFAULT, R.STORE_STATUS_STATE, R.STORE_ROOT_VALID, R.STORE_ROOT_L1_COUNT,
  R.STORE_ROOT_REGION, R.PCIE_STATUS_WIDTH, R.PCIE_STATUS_SPEED, R.PCIE_STATUS_UP, R.MGMT_MAC_ADDR,
  R.MGMT_VLAN_RX_UNTAGGED, R.MGMT_VLAN_RX_MATCH, R.MGMT_VLAN_TX_TAG, R.MGMT_VLAN_PCP, R.MGMT_VLAN_VID,
  R.TRUST_LOG_STATUS_DROPPED, R.TRUST_LOG_STATUS_FULL, R.TRUST_LOG_STATUS_ENTRIES, R.TRUST_FW_STATUS_ERR,
  R.TRUST_FW_STATUS_STATE, R.TRUST_FW_VERSION_VERSION, R.LEDGER_STATUS_BUSY, R.LEDGER_STATUS_COPY, R.PAIR_BADGER_FAILED,
  R.PAIR_BADGER_STANDBY_OK, R.PAIR_BADGER_ACTIVE_CORE, R.POWER_STATUS_WAKE_SRC, R.POWER_STATUS_STATE, R.POWER_WAKE_EN_EN,
  R.POWER_WAKE_TIME_TIME, R.POWER_TEMP_STACK_MAX, R.POWER_TEMP_DIE_MAX, R.POWER_TEMP_DEN, R.POWER_SUPPLY_OUT,
  R.POWER_CAUSE_WAKES_REFUSED, R.POWER_CAUSE_RAIL, R.POWER_CAUSE_LEDGER_SKIPPED, R.POWER_CAUSE_CAUSE, R.POWER_CTL_KEEP_HANKS,
  R.SYS_BOOT_START_MS, R.SYS_BOOT_ERR, R.SYS_BOOT_SECONDARY, R.SYS_BOOT_STAGE, R.EVT_PIN_EN]

/-- Is a bit address that of a field marked ST, or of the list above? -/
def keptField (k : Nat) : Bool :=
  match regAt (k / 32 * 4) with
  | none => false
  | some (r, i, j) => r.parts.any (fun p => (p.fld.st || warmKeeps.contains p.fld) && p.fld.key i j == k)

/-- Does a warm reset keep what stands at a bit address? The timebase and event routing keep everything (R384, R434). -/
def warmKept (k : Nat) : Bool := inRegs 0x0200000 0x02FFFFF k || inRegs 0x0101000 0x0101FFF k || inRegs 0x2530000 0x253FFFF k || keptField k

/-- A warm reset (R15, R69, R157, R264, R363, R470): accesses that wait end, locks and latches go; sweeps under way start again. -/
def State.warmReset (s : State) : State :=
  let s1 := s.unitsReset.spdmReset
  let s2 := s1.xbar.queue.foldl (fun (a : State) q => if q.value.isNone then a.emit (.regRead q.master q.off 0) else a) s1
  let s3 := forN 6 (fun x a => a.setMigRate x R.MEM_CTL_MIG_RATE.rst) s2
  let s4 := s3.dropRegs (fun k => !warmKept k)
  { s4 with
    xbar := ⟨[], [], [], [], [], [], false⟩
    scp := ⟨0, [], 0, false, false, 0, 0⟩
    mesh := { s4.mesh with armed := none }
    evt := { s4.evt with vecPend := [], pba := [] }
    ledger := { s4.ledger with hdr := [], lockedAll := [] }
    store := { s4.store with faults := [], logged := [] }
    cap := CapState.init
    stk := { s4.stk with
      acts := [], winServed := [], winStart := s4.stk.winStart.map (fun e => (e.1, s4.now)), throttle := [], refreshDue := [], flagged := []
      lateBad := [] } }

/-- WARM_RESET (R470). -/
def execWarmReset (t : Nat) (s : State) : Out := .next (s.memTime t).warmReset

end Sys2Proof.Machine
end

