-- ==== Sys2Proof/Machine/View.lean ====
section
/-!
DEFINITION. What registers show (R12 to R16): the fields computed from the state, words, latched pairs, the effects of a read.
-/

namespace Sys2Proof.Machine

/-! ## Fields that are computed, by block -/

/-- Word `n` of the oldest record of a log, zero when it is empty. -/
def recWord (l : List (List Byte)) (n : Nat) : Nat := fld (l.headD []) (4 * n) 4

def State.viewEvt (s : State) (f : Field) (i : Nat) : Option Nat :=
  if f = R.EVT_VEC_FIRST_ANY then some (s.vecFirst i / 2147483648)
  else if f = R.EVT_VEC_FIRST_SOURCE then some (s.vecFirst i % 1024)
  else if f = R.EVT_PIN_DRIVEN then some s.evtPins
  else if f = R.EVT_ROUTE_LEVEL then some (b2n (s.level i))
  else none

def State.viewTime (s : State) (f : Field) : Option Nat :=
  if f = R.TIME_NOW_TIME then some s.now
  else if f = R.TIME_RC_RCA then some ((s.rcOf 3).getD 127)
  else if f = R.TIME_RC_RCB then some ((s.rcOf 4).getD 127)
  else if f = R.TIME_PULL_LEFT_NS then some (if s.is R.TIME_STATUS_PULLING then ns32 s.pullLeft else 0)
  else none

/-- The structure in force (R69): that of the Draft that runs or ran last, until a reset, D1 or D2 clears DRAFT_SERIAL. -/
def State.inForce (s : State) : List Item := if s.draftRuns || s.get R.DRAFT_SERIAL_SERIAL != 0 then s.draft.struct else []

/-- Plies of a kind that run on this chip. -/
def State.runs (s : State) (p : List Byte → Bool) : Nat :=
  if s.spanning then ((localPlies s.draft.struct s.node).filter (fun x => p x.body)).length else 0

/-- The oldest pass of the selected correlating ply that has neither committed nor been abandoned (R134). -/
def State.oldest (s : State) : Option Pass := s.pass.passes.find? (fun p => p.ply == s.get R.PASS_PLY_SEL_PLY && decide (p.state < 6))

def State.viewPass (s : State) (f : Field) : Option Nat :=
  let sel := s.get R.PASS_PLY_SEL_PLY
  if f = R.PASS_STATUS_PLIES then some (s.runs plyCorr)
  else if f = R.PASS_STATUS_SPEC then some (b2n (s.pass.passes.any (fun p => p.spec && decide (p.state < 6))))
  else if f = R.PASS_STATUS_FINAL then
    some (b2n (s.spanning && decide (s.draft.base < s.get R.DRAFT_SPAN_SPAN) && s.isFinal (s.get R.DRAFT_SPAN_SPAN - 1)))
  else if f = R.PASS_PLY_STATE_CHANNEL then some ((s.oldest.map (·.chan)).getD 0)
  else if f = R.PASS_PLY_STATE_STATE then some ((s.oldest.map (·.state)).getD 6)
  else if f = R.PASS_PLY_SLACK_SLACK then some (Tab.get 0 s.pass.slack sel)
  else if f = R.PASS_PLY_SLACK_MIN_SLACK then some (Tab.get 0x7FFFFFFF s.pass.slackMin sel)
  else none

def State.viewFox (s : State) (f : Field) (i : Nat) : Option Nat := if f = R.FOX_STALE_WORD then some (recWord s.fox.stale i) else none

/-- The oldest pass of the selected beam ply that is neither EMITTED nor ABANDONED (R182). -/
def State.oldestBeam (s : State) : Option BeamPass := s.beam.passes.find? (fun p => p.ply == s.get R.BEAM_SEL_PLY && decide (p.state < 3))

def State.viewBeam (s : State) (f : Field) : Option Nat :=
  if f = R.BEAM_STATUS_PLIES then some (s.runs plyBeam)
  else if f = R.BEAM_STATUS_SPEC then
    some (b2n (s.beam.passes.any (fun p => p.out && !s.isFinal p.last)))
  else if f = R.BEAM_STATUS_BUILD then some (b2n (!s.beam.builds.isEmpty))
  else if f = R.BEAM_PLY_STATE_CHANNEL then some ((s.oldestBeam.map (·.chan)).getD 0)
  else if f = R.BEAM_PLY_STATE_STATE then some ((s.oldestBeam.map (·.state)).getD 3)
  else if f = R.BEAM_DEST_PSEQ_PSEQ then
    let v := Tab.get 0 s.beam.shown (s.get R.BEAM_DEST_SEL_DEST)
    some (if v = 0 ∨ destKind (destBody s.draft.struct (s.get R.BEAM_DEST_SEL_DEST)) = 0 then 2 ^ 64 - 1 else v - 1)
  else none

def State.viewLoom (s : State) (f : Field) (i : Nat) : Option Nat :=
  let ply := fun (g : List Byte → Nat) => some (((knotPly s.inForce s.node i).map (fun x => g x.body)).getD 0)
  if f = R.KNOT_STATUS_MODE then ply plyMode
  else if f = R.KNOT_STATUS_FUNCTION then ply plyFunction
  else if f = R.KNOT_STATUS_ACTIVE then ply (fun _ => 1)
  else if f = R.SECTION_STATUS_PLIES then
    some ((plies s.inForce).filter (fun x => plyFunction x.body != 0 && (plyOnSection x.body s.node i).isSome)).length
  else if f = R.SECTION_STATUS_USED then some (b2n (s.sectionUsed i))
  else none

/-- The gain that SPIN_GAIN_ADDR selects (R202). -/
def State.gainWord (s : State) (n : Nat) : Nat := Tab.get 32767 (s.spindle n).gains (s.get1 R.SPIN_GAIN_ADDR_INDEX n)

def spinEvtFields : List Field := [R.SPIN_EVT_LATE_SWAP, R.SPIN_EVT_PROG_EVT, R.SPIN_EVT_SWAPPED, R.SPIN_EVT_PROG_REFUSED, R.SPIN_EVT_SAT,
  R.SPIN_EVT_IN_DROP, R.SPIN_EVT_VOID, R.SPIN_EVT_FAULT]

def State.viewSpin (s : State) (f : Field) (i : Nat) : Option Nat :=
  let sp := s.spindle i
  if f = R.SPIN_STATUS_PC then some sp.pc
  else if f = R.SPIN_STATUS_NPOS then some (spinSlots s.inForce i).length
  else if f = R.SPIN_STATUS_STALL then some sp.stall
  else if f = R.SPIN_STATUS_REPEAT then some (b2n (decide (0 < sp.left)))
  else if f = R.SPIN_STATUS_RUN then some (b2n sp.run)
  else if f = R.SPIN_PROG_STATUS_PEND then some (b2n sp.swapSpan.isSome)
  else if f = R.SPIN_LMEM_DATA_DATA then some (Tab.get 0 sp.lmem (s.get1 R.SPIN_LMEM_ADDR_WORD i))
  else if f = R.SPIN_GAIN_DATA_REAL then some (s.gainWord i)
  else if f = R.SPIN_GAIN_DATA_IMAG then some (s.gainWord i / 65536)
  else if f = R.SPIN_BANK_PEND_SPINDLES then
    some ((List.range 64).foldl (fun m j => m + b2n (spinEvtFields.any (fun g => s.is1 g (64 * i + j))) * 2 ^ j) 0)
  else none

def State.viewZoom (s : State) (f : Field) (i : Nat) : Option Nat :=
  let c := Tab.get 0 s.zoom.coef (coefKey i (s.get1 R.ZOOM_COEF_ADDR_BANK i) (s.get1 R.ZOOM_COEF_ADDR_INDEX i))
  if f = R.ZOOM_COEF_DATA_COEF then some c
  else if f = R.ZOOM_COEF_DATA_SIGN then some (if bit c 17 then 0x3FFF else 0)
  else none

def State.viewFrame (s : State) (f : Field) (i : Nat) : Option Nat :=
  let k := s.get R.CLASS_SEL_INDEX
  if f = R.CLASS_STATUS_VALID then some ((classEntries s.draft.struct).filter ceValid).length
  else if f = R.CLASS_SEL_GEN then some (Tab.get 0 s.frames.gens k)
  else if f = R.CLASS_ENTRY_WORD then some (fld (classEntry s.draft.struct k) (4 * i) 4)
  else if f = R.FRAME_GAP_WORD then some (recWord s.frames.gaps i)
  else none

def State.viewMesh (s : State) (f : Field) : Option Nat :=
  if f = R.MESH_STATUS_MEMBERS then some (popcount 64 (s.get R.MESH_LAYOUT_NODES))
  else if f = R.MESH_STATUS_STATE then some s.meshState
  else none

def State.viewMem (s : State) (f : Field) (i : Nat) : Option Nat :=
  let reserved := decide (10 ≤ i ∧ i ≤ 15) || decide (40 ≤ i)
  let line := dlyKey (s.get1 R.MEM_TRAIN_SEL_CH i) (kindPc (s.get1 R.MEM_TRAIN_SEL_KIND i) (s.get1 R.MEM_TRAIN_SEL_PC i))
    (s.get1 R.MEM_TRAIN_SEL_KIND i) (s.get1 R.MEM_TRAIN_SEL_BIT i)
  if f = R.MEM_PORT_CFG_CLASS then some (if reserved then 0 else s.portClass i)
  else if f = R.MEM_PORT_CFG_LATENCY ∧ reserved then some 0
  else if f = R.MEM_TRAIN_DLY_DLY then some (Tab.get 0 (s.site i).dly line)
  else none

def State.viewStore (s : State) (f : Field) (i : Nat) : Option Nat :=
  if f = R.STORE_FAULT_WORD then some (recWord s.store.faults i) else none

def State.viewTrust (s : State) (f : Field) (i : Nat) : Option Nat :=
  let k := s.get R.TRUST_SLOT_SEL_SLOT
  if f = R.TRUST_SLOT_SEL_EXTENDS then some (s.trust.extends_.getD k 0)
  else if f = R.TRUST_SLOT_VAL_WORD then some (fld (s.trust.slots.getD k []) (4 * i) 4)
  else if f = R.TRUST_LOG_DATA_WORD then some (fld (s.trust.log.getD (s.get R.TRUST_LOG_SEL_ENTRY) []) (4 * i) 4)
  else if f = R.TRUST_MBOX_DATA_DATA then some (s.mboxAccess none).1
  else none

/-- A master's own lock (R416). -/
def State.viewLock (s : State) (master : Nat) (f : Field) : Option Nat :=
  if f = R.XBAR_LOCK_TARGET then some (Tab.get 0 s.xbar.target master)
  else if f = R.XBAR_LOCK_HELD then some (b2n ((Tab.get (0, 0) s.xbar.held master).1 != 0))
  else if f = R.XBAR_LOCK_WAIT then some (b2n (Tab.get 0 s.xbar.wait master != 0))
  else none

def State.viewPair (s : State) (f : Field) (i : Nat) : Option Nat :=
  if f = R.PAIR_STATUS_LEASE then some (b2n s.leaseHeld)
  else if f = R.PAIR_HEALTH_HEALTH then some s.health
  else if f = R.PAIR_OWL_TABLE_WORD then some (fld owlBody (4 * i) 4)
  else none

/-- A computed field as master `m` reads it; none where the field stands in `regs`. -/
def State.view (s : State) (m : Nat) (f : Field) (i : Nat) : Option Nat :=
  let b := f.addr / 0x100000
  if f = R.SYS_ID_STACKS then some (nStacks s.part)
  else if b = 1 then s.viewEvt f i
  else if b = 2 then s.viewTime f
  else if b = 4 then s.viewPass f
  else if b = 5 then s.viewFox f i
  else if b = 6 then s.viewBeam f
  else if 8 ≤ b ∧ b < 16 then s.viewLoom f i
  else if b = 16 ∨ b = 18 then s.viewSpin f i
  else if b = 20 then s.viewZoom f i
  else if b = 26 then s.viewFrame f i
  else if b = 28 then s.viewMesh f
  else if b = 32 then s.viewMem f i
  else if b = 33 then s.viewStore f i
  else if f = R.SCP_STATUS_AVAIL then some s.scp.buf.length
  else if b = 38 then s.viewTrust f i
  else if f = R.LEDGER_DATA_DATA then some (s.led (4 * s.get R.LEDGER_ADDR_WORD) 4)
  else if b = 40 then s.viewLock m f
  else if b = 41 then s.viewPair f i
  else none

/-! ## Words -/

/-- What a field shows to a master; write-only fields read zero. -/
def State.shown (s : State) (m : Nat) (f : Field) (i j : Nat) : Nat :=
  if f.acc = .wo then 0 else f.trunc ((s.view m f i).getD (s.get2 f i j))

/-- The word of a register as it is. -/
def State.word (s : State) (m : Nat) (r : Reg) (i j : Nat) : Nat :=
  r.parts.foldl (fun w p => w + bits (s.shown m p.fld i j) p.sh p.w * 2 ^ p.lo) 0

/-- Does a register hold the high word of a pair (R13)? -/
def Reg.high (r : Reg) : Bool := r.parts.any (fun p => decide (32 ≤ p.sh))

/-- The register that holds the high word of a pair whose low word stands at `off`. -/
def highOf (off : Nat) : Option (Reg × Nat × Nat) :=
  match regAt (off + 4) with
  | none => none
  | some x => if x.1.high then some x else none

/-- The MSI-X table and PBA (R432). -/
def State.msixWord (s : State) (off : Nat) : Nat :=
  if 0x110000 ≤ off ∧ off < 0x110400 then
    let k := (off - 0x110000) / 4
    Tab.get (if k % 4 = 3 then 1 else 0) s.evt.msix k
  else if off = 0x111000 ∨ off = 0x111004 then
    (List.range 32).foldl (fun m j => m + b2n (Tab.get false s.evt.pba ((off - 0x111000) * 8 + j)) * 2 ^ j) 0
  else 0

/-- Targets served in D1 (R460). -/
def servedD1 : List Nat := [0, 1, 2, 18, 19, 20, 21, 23]

/-- Is a register off line (R3, R123, R460)? `count` a knot's access (SECTION_EVT.OFFLINE_ACCESS). -/
def State.offline (s : State) (off : Nat) (r : Reg) (i : Nat) : Bool :=
  (s.power.d == 1 && !servedD1.contains ((targetOf off).getD 0)) ||
    (decide (0x800000 ≤ r.addr ∧ r.addr < 0xC00000) && s.pstate (i / 64) != 2) ||
    (decide (0x2000000 ≤ r.addr ∧ r.addr < 0x2080000) && decide (nStacks s.part ≤ i))

/-- Does an access to an offset complete with UNIT_OFFLINE (R123, R463)? So do the MEM registers of an absent site of an X4 (R3; DESIGN
CHOICE, notes/assumptions/110.md). -/
def State.regOffline (s : State) (off : Nat) : Bool :=
  match regAt off with
  | none => s.power.d == 1 && !servedD1.contains ((targetOf off).getD 0)
  | some (r, i, _) => s.offline off r i

/-- The mark that an access to a knot off line leaves (R123). -/
def State.noteOffline (s : State) (r : Reg) (i : Nat) : State :=
  if 0x800000 ≤ r.addr ∧ r.addr < 0xC00000 ∧ s.power.d = 0 then s.knotOffline i else s

/-! ## The effects of a read -/

/-- Read-clear fields of a register back at their reset values (R15). -/
def State.clearRc (s : State) (r : Reg) (i j : Nat) : State :=
  let s1 := r.parts.foldl (fun (a : State) p => if p.fld.acc = .rc then a.put2 p.fld i j p.fld.rst else a) s
  if r.addr = R.PASS_PLY_SLACK_MIN_SLACK.addr then
    { s1 with pass := { s1.pass with slackMin := Tab.del s1.pass.slackMin (s1.get R.PASS_PLY_SEL_PLY) } }
  else s1

/-- Windows that a read advances (R199, R202, R241, R477, R485). -/
def State.advance (s : State) (r : Reg) (i : Nat) : State :=
  if r.addr = R.SPIN_LMEM_DATA_DATA.addr then s.wrap1 R.SPIN_LMEM_ADDR_WORD i 1
  else if r.addr = R.SPIN_GAIN_DATA_REAL.addr then s.wrap1 R.SPIN_GAIN_ADDR_INDEX i 1
  else if r.addr = R.ZOOM_COEF_DATA_COEF.addr then s.wrap1 R.ZOOM_COEF_ADDR_INDEX i 1
  else if r.addr = R.TRUST_MBOX_DATA_DATA.addr then (s.mboxAccess none).2
  else if r.addr = R.LEDGER_DATA_DATA.addr then (s.ledgerAccess none).2
  else s

/-- A master's latch of a pair, by the offset of its low word. -/
def latchKey (m off : Nat) : Nat := m * 1099511627776 + off

/-- A read of an aligned unicast offset by a master (R13 to R16): its value, and what it leaves. -/
def State.readReg (s : State) (m off : Nat) : Nat × State :=
  match regAt off with
  | none => (if s.power.d = 1 ∧ !servedD1.contains ((targetOf off).getD 0) then 0 else s.msixWord off, s)
  | some (r, i, j) =>
    if s.offline off r i then (0, s.noteOffline r i)
    else if r.high then (Tab.get 0 s.xbar.latch (latchKey m (off - 4)), s)
    else
      let s1 : State := match highOf off with
        | none => s
        | some (h, i', j') =>
          { s with xbar := { s.xbar with latch := Tab.set 0 s.xbar.latch (latchKey m off) (s.word m h i' j') } }
      (s.word m r i j, (s1.clearRc r i j).advance r i)

end Sys2Proof.Machine
end

