-- ==== Sys2Proof/Machine/Control.lean ====
section
/-!
DEFINITION. What a write of a register does (R12 to R16): plain fields, and the registers whose writes act.
-/

namespace Sys2Proof.Machine

/-- The state that a meaning leaves. -/
def took (s : State) (o : Out) : State :=
  match o with
  | .next a => a
  | .fault _ => s
  | .refused _ => s

/-! ## Plain fields (R14, R15) -/

/-- A word written to one part of a register. -/
def State.writePart (s : State) (p : RPart) (i j v : Nat) : State :=
  let x := bits v p.lo p.w
  let old := s.get2 p.fld i j
  match p.fld.acc with
  | .rw => s.put2 p.fld i j (putBits old p.sh p.w x)
  | .rwl => if s.draftRuns then s else s.put2 p.fld i j (putBits old p.sh p.w x)
  | .w1c => s.put2 p.fld i j (clearN 64 old (x * 2 ^ p.sh))
  | .ro => s
  | .rc => s
  | .wo => s

/-- A word written to the plain fields of a register. -/
def State.writePlain (s : State) (r : Reg) (i j v : Nat) : State := r.parts.foldl (fun a p => a.writePart p i j v) s

/-- The same, where enables that stand in the register may let a level rise (R429). -/
def State.writeLevel (s : State) (r : Reg) (i j v : Nat) (srcs : List Nat) : State := s.withLevels srcs (fun a => a.writePlain r i j v)

/-- One meaning for a bit that is set, applied to a state. -/
def onBit (v k : Nat) (f : State → Out) (s : State) : State := if bit v k then took s (f s) else s

/-- The low or high word of a field that a write stores although it reads zero, or whose high word acts. -/
def State.putWord (s : State) (f : Field) (i sh v : Nat) : State := s.put1 f i (putBits (s.get1 f i) sh 32 v)

/-! ## Registers whose writes act, by block -/

def State.writeEvt (s : State) (r : Reg) (i v : Nat) : State :=
  if r.addr = R.EVT_PEND_PEND.addr then clearPend i v s
  else if r.addr = R.EVT_ROUTE_MSIX.addr then
    (s.writePlain r i 0 v).routeGain i (s.is1 R.EVT_ROUTE_MSIX i) (s.is1 R.EVT_ROUTE_MGMT i) (s.get1 R.EVT_ROUTE_VECTOR i)
  else s.writePlain r i 0 v

/-- Word `k` of the MSI-X table (R432). -/
def State.msixPut (s : State) (k v : Nat) : State :=
  let d := if k % 4 = 3 then 1 else 0
  let x := if k % 4 = 3 then v % 2 else if k % 4 = 0 then v / 4 * 4 else v
  ({ s with evt := { s.evt with msix := Tab.set d s.evt.msix k x } } : State).vecFlush

/-- A write at an offset of the MSI-X table. -/
def State.writeMsix (s : State) (off v : Nat) : State :=
  if off < 0x110000 ∨ 0x110400 ≤ off then s else s.msixPut ((off - 0x110000) / 4) v

def State.writeTime (s : State) (r : Reg) (i v t : Nat) : State :=
  if r.name = "TIME_SET_HI" then took s (execTimeSet v t s)
  else if r.name = "TIME_STEP_LO" then s.putWord R.TIME_STEP_STEP 0 0 v
  else if r.name = "TIME_STEP_HI" then took s (execTimeStep v t s)
  else if r.addr = R.TIME_SLOPE_SLOPE.addr then (s.rebase.put R.TIME_SLOPE_SLOPE (min 1000 (bits v 0 10))).rebase
  else if r.addr = R.TIME_REF_CTL_EN.addr then
    let s1 := s.writePlain r i 0 v
    (if bit v 31 then s1 else s1.waitBroken (i + 1)).select
  else if r.addr = R.TIME_NET_CTL_SRC.addr then
    let s0 := s.rebase.writePlain r i 0 v
    let s1 := (if s0.get R.TIME_NET_CTL_SRC = 2 then s0 else s0.withTime (fun x => { x with beacons := [] })).rebase
    if s1.get R.TIME_NET_CTL_SRC ≠ s.get R.TIME_NET_CTL_SRC ∧ s.netLive then s1.netLost else s1.select
  else if r.addr = R.TIME_NET_ADJ_OFFSET.addr then took s (execTimeNetAdj v t s)
  else if r.addr = R.TRIGOUT_CTL_ARM.addr then
    onBit v 0 (execTrigoutArm i t) (onBit v 1 (execTrigoutCancel i) (s.writePlain r i 0 v))
  else if r.addr = R.TRIGIN_CTL_POP.addr then onBit v 31 execTriginPop s
  else s.writePlain r i 0 v

/-- DRAFT_CTL (R69): one command of a write is acted on, the others are counted. -/
def State.writeDraftCtl (s : State) (v t : Nat) : State :=
  let cmds := [2, 4, 1, 3].filter (bit v)
  let s1 := (cmds.drop 1).foldl (fun (a : State) _ => a.draftIgnored) s
  match cmds.head? with
  | some 2 => took s1 (execDraftAbort s1)
  | some 4 => took s1 (execDraftStop t s1)
  | some 1 => took s1 (execDraftAdmit t s1)
  | some 3 => took s1 (execDraftStart t s1)
  | _ => s1

def State.writeDraft (s : State) (r : Reg) (i v t : Nat) : State :=
  if r.addr = R.DRAFT_CTL_STOP.addr then s.writeDraftCtl v t
  else if r.addr = R.DRAFT_SCP_DATA_DATA.addr then took s (execDraftScpData v s)
  else if s.draft.prot.isSome ∧ (r.addr = 0x300008 ∨ r.addr = 0x30000C ∨ r.addr = 0x300010 ∨ r.addr = 0x300014) then s.draftIgnored
  else s.writePlain r i 0 v

def State.writePass (s : State) (r : Reg) (i v : Nat) : State :=
  let s1 := s.withLevels [0x0B6] (fun a => a.writePlain r i 0 v)
  if r.addr = R.PASS_CTL_HFLAG_CLEAR.addr ∧ bit v 0 then forN 128 (fun k a => a.put1 R.PASS_HFLAG_SLOTS k 0) s1 else s1

def State.writeFox (s : State) (r : Reg) (i v : Nat) : State :=
  let s1 := s.writePlain r i 0 v
  if r.addr = R.FOX_CTL_CLEAR.addr then onBit v 1 execFoxClear s1
  else if r.addr = R.FOX_BATCH_CTL_SUBMIT.addr then onBit v 0 execFoxSubmit s1
  else if r.addr = R.FOX_STALE_CTL_POP.addr then onBit v 31 execFoxStalePop s1
  else s1

/-- A write of a knot's or a section's register (R126, R127). TEST_START acts before TEST_ABORT where both are 1 (DESIGN CHOICE,
notes/assumptions/66.md). -/
def State.writeLoom (s : State) (r : Reg) (i v : Nat) : State :=
  if r.addr = R.KNOT_CTL_TEST_SEED.addr then
    onBit v 1 (execTestAbort i) (onBit v 0 (execTestStart i (bits v 8 8)) (s.writePlain r i 0 v))
  else if r.addr = R.SECTION_CTL_TEST_POWER.addr then
    let on := bit v 0
    let s1 := s.withLevels [0x090 + i] (fun a => a.put1 R.SECTION_CTL_EVT_HOLD_EN i (bits v 8 1))
    if on != s.is1 R.SECTION_CTL_TEST_POWER i then took s1 (execTestPower i on s1) else s1
  else if r.addr = R.SECTION_EVT_POWER_FAULT.addr then (s.writePlain r i 0 v).sectionMove i
  else s.writePlain r i 0 v

def State.writeSpin (s : State) (r : Reg) (i v t : Nat) : State :=
  if r.addr = R.SPIN_CTL_SWAP.addr then
    let s1 := s.writeLevel r i 0 v [0x200 + i, 0x0A0 + i / 64]
    onBit v 2 (execSpinForceSwap i t) (onBit v 1 (execSpinSwap i) s1)
  else if r.addr = R.SPIN_PROG_DATA_WORD.addr then took s (execSpinProgData i v s)
  else if r.addr = R.SPIN_PROG_ENTRY_COMMIT.addr then
    if bit v 31 then took s (execProgCommit i (bits v 0 12) s) else s.writePlain r i 0 v
  else if r.addr = R.SPIN_LMEM_DATA_DATA.addr then (s.lmemAccess i (some v)).2
  else if r.addr = R.SPIN_GAIN_DATA_REAL.addr then took s (execSpinGainData i v s)
  else if r.addr = R.SPIN_BANK_CTL_SUMMARY.addr then s.writeLevel r i 0 v [0x0A0 + i]
  else s.writePlain r i 0 v

def State.writeZoom (s : State) (r : Reg) (i j v t : Nat) : State :=
  if r.addr = R.ZOOM_CTL_SWAP_ARM.addr then onBit v 0 (execSwapArm i t) (onBit v 1 (execSwapCancel i) s)
  else if r.addr = R.ZOOM_COEF_DATA_COEF.addr then took s (execZoomCoefData i v s)
  else s.writePlain r i j v

def State.writeLane (s : State) (r : Reg) (i v t : Nat) : State :=
  if r.addr = R.LANE_CTL_RELOCK.addr then onBit v 7 (execLaneRelock i) (s.writeLevel r i 0 v [i])
  else if r.addr = R.LANE_TX_FFE_PRE.addr then took s (execLaneTxFfe i (bits v 0 5) (bits v 8 6) s)
  else if r.addr = R.HANK_CTL_ROLE.addr then took s (execHankCtl i v t s)
  else s.writePlain r i 0 v

def State.writeFrame (s : State) (r : Reg) (i v : Nat) : State :=
  if r.addr = R.FRAME_GAP_CTL_POP.addr then onBit v 31 execFrameGapPop s else s.writePlain r i 0 v

def State.writeMesh (s : State) (r : Reg) (i v t : Nat) : State :=
  if r.addr = R.MESH_CTL_ARM.addr then onBit v 0 (execMeshArm t) (onBit v 1 execMeshCancel s) else s.writePlain r i 0 v

def State.writeMem (s : State) (r : Reg) (i v t : Nat) : State :=
  if r.addr = R.MEM_CTL_RETIRE.addr then
    let s1 := ((s.memTime t).writePlain r i 0 v).put1 R.MEM_CTL_MIG_RATE i (s.get1 R.MEM_CTL_MIG_RATE i)
    let s2 := s1.setMigRate i (clampN 10 200 (bits v 8 8))
    onBit v 2 (execTrainFail i) (onBit v 1 (execTrainCommit i t) (onBit v 3 (execMemRetire i (bits v 4 2) t) s2))
  else if r.addr = R.MEM_RD_CTL_LIMIT.addr then (s.writePlain r i 0 v).put1 R.MEM_RD_CTL_LIMIT i (max 256 (bits v 0 16))
  else if r.addr = R.MEM_TRAIN_SEL_KIND.addr then if s.siteState i = siteTraining then s.writePlain r i 0 v else s.trainRefused i
  else if r.addr = R.MEM_TRAIN_DLY_DLY.addr then took s (execMemTrainDly i (bits v 0 7) (bit v 8) s)
  else if r.addr = R.MEM_TRAIN_CMD_PROBE.addr then
    if bit v 0 then took s (execMemProbe i s) else if s.siteState i = siteTraining then s else s.trainRefused i
  else s.writePlain r i 0 v

def State.writeStore (s : State) (r : Reg) (i v : Nat) : State :=
  if r.addr = R.STORE_INV_GO.addr then
    let s1 := s.writePlain r i 0 v
    if bit v 9 then took s1 (execInvAll s1) else onBit v 8 (execInvGo (bits v 0 8)) s1
  else if r.addr = R.STORE_FAULT_CTL_POP.addr then onBit v 31 execStoreFaultPop s
  else s.writePlain r i 0 v

/-- Values written for trigger units and streams wait for the next span (R391, R398). -/
def State.writeCapture (s : State) (r : Reg) (i v : Nat) : State :=
  let s1 := s.writePlain r i 0 v
  if r.addr = R.TRIG_CTL_KIND.addr ∨ r.addr = R.TRIG_SRC_INDEX.addr ∨ r.addr = R.TRIG_CHAN_FIRST.addr then s1.put1 R.TRIG_STATUS_PENDING i 1
  else if r.addr = R.CAP_CTL_SOURCE.addr ∨ r.addr = R.CAP_CHAN_FIRST.addr then s1.put1 R.CAP_STATUS_PENDING i 1
  else s1

/-- DMA registers (R423 to R425): DISABLE acts, and an ARM of the same write is ignored. -/
def State.writeDma (s : State) (r : Reg) (i v : Nat) : State :=
  if r.addr = R.DMA_CTL_ARM.addr then (if bit v 1 then s.dmaDisable i else onBit v 0 (execDmaArm i) s)
  else if s.dmaState i = dmaRunning ∧ (r.addr = 0x2300008 ∨ r.addr = 0x230000C) then s.bump1 R.DMA_STATUS_IGNORED i 1
  else s.writePlain r i 0 v

def State.writeCheck (s : State) (r : Reg) (i v : Nat) : State :=
  if r.addr = R.CHECK_CTL_INIT.addr then onBit v 3 (execCheckInit i) (s.writeLevel r i 0 v [0x120 + i])
  else if r.addr = R.CHECK_DATA_DATA.addr then took s (execCheckData i v s)
  else if r.name = "CHECK_STATE_LO" then took s (execCheckState i false v s)
  else if r.name = "CHECK_STATE_HI" then took s (execCheckState i true v s)
  else if r.addr = R.CHECK_ALIVE_IN_VALUE.addr then took s (execCheckAliveIn i (bits v 0 16) s)
  else s.writePlain r i 0 v

def State.writeHostif (s : State) (r : Reg) (i j v t : Nat) : State :=
  let s1 := s.writePlain r i j v
  if r.addr = R.MGMT_TS_CTL_POP.addr then
    if bit v 31 then took s1 (execMgmtTsPop (bits v 30 1) s1) else s1.tsShow
  else if r.addr = R.FLASH_CTL_GO.addr then onBit v 31 (execFlashGo t) s1
  else s1

def State.writeTrust (s : State) (r : Reg) (i v t : Nat) : State :=
  if r.addr = R.TRUST_FW_CTL_UPDATE.addr then
    onBit v 0 (execFwUpdate t) (onBit v 2 (execFwYield t) (onBit v 1 (execFwReadyCore t) s))
  else if r.addr = R.TRUST_MBOX_CTL_GO.addr then
    if bit v 31 then took s (execMboxGo (bits v 0 13) s) else s.writePlain r i 0 v
  else if r.addr = R.TRUST_MBOX_DATA_DATA.addr then (s.mboxAccess (some v)).2
  else s.writePlain r i 0 v

def State.writeLedger (s : State) (r : Reg) (i v t : Nat) : State :=
  if r.addr = R.LEDGER_CTL_COMMIT.addr then onBit v 0 (execLedgerCommit t) s
  else if r.addr = R.LEDGER_DATA_DATA.addr then (s.ledgerAccess (some v)).2
  else s.writePlain r i 0 v

def State.writePair (s : State) (r : Reg) (i v t : Nat) : State :=
  if r.addr = R.PAIR_CTL_MODE.addr then onBit v 4 execPairResync (onBit v 3 execPairSolo (s.writePlain r i 0 v))
  else if r.addr = R.PAIR_GRANT_NODE_NODE.addr then (if s.get R.PAIR_CTL_ARB = 0x80 then s.put R.PAIR_GRANT_NODE_NODE v else s)
  else if r.name = "PAIR_GRANT_END_LO" then (if s.get R.PAIR_CTL_ARB = 0x80 then s.putWord R.PAIR_GRANT_END_TIME 0 0 v else s)
  else if r.name = "PAIR_GRANT_END_HI" then took s (execPairGrantEnd v t s)
  else if r.addr = R.PAIR_BADGER_RESTART.addr then onBit v 3 execBadgerRestart s
  else s.writePlain r i 0 v

/-- POWER_CTL (R456, R457, R458, R470), by the master that writes it. -/
def State.writePowerCtl (s : State) (m v t : Nat) : State :=
  let target := bits v 0 2
  let (force, keep) := (bit v 5, bit v 6)
  let s1 := s.powerCtl target force keep
  let s2 := onBit v 8 (execFwReady t) (onBit v 7 (execLedgerDone t) s1)
  let s3 := if !bit v 4 then s2
    else if target = 0 then took s2 (execWakeFromD1 m t force keep s2)
    else if target = 1 then took s2 (execEnterD1 force keep t s2)
    else if target = 2 then took s2 (execEnterD2 force keep t s2)
    else s2
  onBit v 15 (execWarmReset t) s3

def State.writePower (s : State) (m : Nat) (r : Reg) (i v t : Nat) : State :=
  if r.addr = R.POWER_CTL_GO.addr then s.writePowerCtl m v t
  else if r.name = "POWER_WAKE_TIME_HI" then (s.writePlain r i 0 v).withPower (fun p => { p with armed := true })
  else if r.addr = R.POWER_CAUSE_CLEAR.addr then onBit v 31 execCauseClear s
  else s.writePlain r i 0 v

/-! ## The crossbar's own registers (R410, R416) -/

/-- Instances of the seven arrays (R409). -/
def arrayCount (a : Nat) : Nat := [1024, 512, 64, 96, 6, 16, 32].getD a 0

/-- A word of XBAR_GROUP: group 0 and bits beyond the instances are reserved. -/
def State.writeGroup (s : State) (i v : Nat) : State :=
  let n := arrayCount (i / 2048)
  let w := i % 32
  if i / 32 % 64 = 0 then s else s.put1 R.XBAR_GROUP_MEMBERS i (v % 2 ^ (min 32 (n - 32 * w)))

/-- XBAR_LOCK as master `m` writes it: TARGET; ACQUIRE and RELEASE judged on the lock before the write. A released target's
waiting accesses go on in `State.drainQueue`. -/
def State.writeLock (s : State) (m v : Nat) : State :=
  let tgt := bits v 16 5
  let holds := (Tab.get (0, 0) s.xbar.held m).1 != 0
  let waits := Tab.get 0 s.xbar.wait m != 0
  let s1 : State := { s with xbar := { s.xbar with target := Tab.set 0 s.xbar.target m tgt } }
  let s2 : State := if bit v 30 && holds then { s1 with xbar := { s1.xbar with held := Tab.del s1.xbar.held m } } else s1
  if !bit v 31 then s2
  else if holds || waits || tgt == 21 then s2.bump R.XBAR_STATUS_LOCK_REFUSED 1
  else { s2 with xbar := { s2.xbar with wait := Tab.set 0 s2.xbar.wait m (tgt + 1) } }

def State.writeXbar (s : State) (m : Nat) (r : Reg) (i v : Nat) : State :=
  if r.addr = R.XBAR_LOCK_ACQUIRE.addr then s.writeLock m v
  else if r.addr = R.XBAR_LOCK_LIMIT_US.addr then s.put R.XBAR_LOCK_LIMIT_US (min 1000 (bits v 0 11))
  else if r.addr = R.XBAR_GROUP_MEMBERS.addr then s.writeGroup i v
  else s.writePlain r i 0 v

/-! ## A write -/

/-- A register's write, by its block. -/
def State.writeUnit (s : State) (m : Nat) (r : Reg) (i j v t : Nat) : State :=
  let b := r.addr / 0x100000
  if b = 0 then (if r.addr = R.SYS_BOOT_RETRY.addr then onBit v 31 execBootRetry (s.writePlain r i j v) else s)
  else if b = 1 then s.writeEvt r i v
  else if b = 2 then s.writeTime r i v t
  else if b = 3 then s.writeDraft r i v t
  else if b = 4 then s.writePass r i v
  else if b = 5 then s.writeFox r i v
  else if 8 ≤ b ∧ b < 16 then s.writeLoom r i v
  else if b = 16 ∨ b = 18 then s.writeSpin r i v t
  else if b = 20 then s.writeZoom r i j v t
  else if b = 24 ∨ b = 25 then s.writeLane r i v t
  else if b = 26 then s.writeFrame r i v
  else if b = 28 then s.writeMesh r i v t
  else if b = 32 then s.writeMem r i v t
  else if b = 33 then s.writeStore r i v
  else if b = 34 then s.writeCapture r i v
  else if b = 35 then s.writeDma r i v
  else if b = 36 then s.writeCheck r i v
  else if b = 37 then s.writeHostif r i j v t
  else if b = 38 then s.writeTrust r i v t
  else if b = 39 then s.writeLedger r i v t
  else if b = 40 then s.writeXbar m r i v
  else if b = 41 then s.writePair r i v t
  else if b = 42 then s.writePower m r i v t
  else s.writePlain r i j v

/-- A write of an aligned unicast offset by a master, delivered to its target (R13, R14); writes to units off line are discarded. -/
def State.writeReg (s : State) (m off v t : Nat) : State :=
  let s0 := s.upTo t
  match regAt off with
  | none => if s0.power.d = 1 ∧ !servedD1.contains ((targetOf off).getD 0) then s0 else s0.writeMsix off v
  | some (r, i, j) => if s0.offline off r i then s0.noteOffline r i else s0.writeUnit m r i j v t

end Sys2Proof.Machine
end

