-- ==== Sys2Proof/Machine/Xbar.lean ====
section
/-!
DEFINITION. The crossbar (R13, R14, R305, R408 to R417): unicast and group accesses of the masters, accesses that wait, locks,
the limit of 2 ms; the MSI-X masks of the function.
-/

namespace Sys2Proof.Machine

/-! ## The group aperture (R409 to R412) -/

/-- BAR0 bytes of each half: unicast below, the group aperture above. -/
def apertureBase : Nat := 0x4000000

/-- The instance arrays: BASE, STRIDE, groups reachable. Their instances stand in `arrayCount`. -/
def groupArrays : List (Nat × Nat × Nat) :=
  [(0x800000, 0x100, 64), (0x1000000, 0x1000, 64), (0x1400000, 0x400, 64), (0x1800000, 0x1000, 64), (0x2000000, 0x10000, 8),
    (0x2200000, 0x40, 64), (0x2300000, 0x100, 64)]

/-- The array, group and offset within an instance of an aperture address. -/
def groupOf (off : Nat) : Option (Nat × Nat × Nat) :=
  ((List.range 7).zip groupArrays).findSome? (fun x =>
    let (base, stride, n) := x.2
    if base ≤ off ∧ off < base + stride * n then some (x.1, (off - base) / stride, (off - base) % stride) else none)

/-- Unicast offset of a register of an instance. -/
def memberOff (arr k r : Nat) : Nat :=
  let a := groupArrays.getD arr (0, 0, 0)
  a.1 + k * a.2.1 + r

/-- Members of a group, ascending (R410): group 0 holds every instance. -/
def State.groupMembers (s : State) (arr g : Nat) : List Nat :=
  (List.range (arrayCount arr)).filter (fun k => g == 0 || s.bitOf1 R.XBAR_GROUP_MEMBERS (2048 * arr + 32 * g + k / 32) (k % 32))

/-- The members that an access to members `ks` of an array reaches: those whose unit is on line (R411). -/
def State.groupReached (s : State) (arr r : Nat) (ks : List Nat) : List Nat :=
  ks.filter (fun k =>
    match regAt (memberOff arr k r) with
    | some (x, i, _) => !s.offline (memberOff arr k r) x i
    | none => true)

/-- The members of the group that an offset of BAR0 names (R410): none below the aperture. -/
def State.membersAt (s : State) (off : Nat) : List Nat :=
  if off < apertureBase then []
  else
    match groupOf (off - apertureBase) with
    | none => []
    | some (arr, g, _) => s.groupMembers arr g

/-- Is the register at this offset of an instance group-writable? -/
def groupWritable (arr r : Nat) : Bool :=
  match regAt (memberOff arr 0 r) with
  | some (x, _, _) => x.grp
  | none => false

/-- A group write (R411). -/
def State.groupWrite (s : State) (m off v : Nat) (ks : List Nat) (t : Nat) : State :=
  match groupOf off with
  | none => s.bump R.XBAR_STATUS_GROUP_MISS 1
  | some (arr, _, r) =>
    match s.groupReached arr r ks with
    | [] => s.bump R.XBAR_STATUS_GROUP_MISS 1
    | ks => if groupWritable arr r then ks.foldl (fun a k => a.writeReg m (memberOff arr k r) v t) s else s

/-- A group read: the OR over the members reached, without side effects in them (R412). -/
def State.groupRead (s : State) (m off : Nat) (ks : List Nat) : Nat × State :=
  match groupOf off with
  | none => (0, s.bump R.XBAR_STATUS_GROUP_MISS 1)
  | some (arr, _, r) =>
    let word := fun k =>
      match regAt (memberOff arr k r) with
      | some (x, i, j) => s.word m x i j
      | none => 0
    match s.groupReached arr r ks with
    | [] => (0, s.bump R.XBAR_STATUS_GROUP_MISS 1)
    | ks => (if groupWritable arr r then ks.foldl (fun v k => orN 32 v (word k)) 0 else 0, s)

/-! ## Accesses -/

/-- The target of an access (R408). -/
def accTarget (off : Nat) : Option Nat :=
  if off < apertureBase then targetOf off else (groupOf (off - apertureBase)).bind (fun g => targetOf (memberOff g.1 0 0))

/-- Must an access stay behind one that waits (R414)? A master's writes stay in order at a target; a read waits for every earlier
write of its master. -/
def waitsBehind (m off : Nat) (write : Bool) (q : XReq) : Bool :=
  q.master == m && ((!write && q.value.isSome) || (accTarget q.off == accTarget off && (accTarget off).isSome))

/-- A target grants a master (R415). -/
def State.granted (s : State) (m off : Nat) : State :=
  match accTarget off with
  | none => s
  | some k => s.grantedTo m k

/-- The pointer of a target: the master after the one granted last, of the 12 (R415). -/
def State.xbarPointer (s : State) (k : Nat) : Nat := Tab.get 0 s.xbar.last k % 12

/-- What the registers of the stacks and their ports count with time, brought up to date as they are read (R332, R344, R349). -/
def State.memShown (s : State) (off : Nat) : State :=
  if 0x2000000 ≤ off % apertureBase ∧ off % apertureBase < 0x2200000 then
    (forN 6 (fun x a => (a.migrateTo x a.now).shedTime x) s).throttleCount s.now
  else s

/-- An access delivered: what a read returns, and the state. `ks`: the members of its group as
they were when it was accepted (R410). Nothing stands beyond BAR0's 128 MiB. -/
def State.perform (s0 : State) (m off : Nat) (value : Option Nat) (ks : List Nat) (t : Nat) : Nat × State :=
  let s := s0.granted m off
  if 2 * apertureBase ≤ off then (0, s)
  else if off < apertureBase then
    match value with
    | some v => (0, s.writeReg m off v t)
    | none => (s.memShown off).readReg m off
  else
    match value with
    | some v => (0, s.groupWrite m (off - apertureBase) v ks t)
    | none => (s.memShown off).groupRead m (off - apertureBase) ks

/-- What a read returned reaches its master: SCP's words enter its read buffer (R446). -/
def State.answerRead (s : State) (m off v : Nat) : State :=
  if m = 1 then
    if s.scp.due = 0 then s else { s with scp := { s.scp with buf := s.scp.buf ++ [v], due := s.scp.due - 1 } }
  else s.emit (.regRead m off v)

/-- What a master learns of an access to a unit that is off line, beside the zero of a read (R123, R463): the status UNIT_OFFLINE, which is an
error of SCP's READ (R446). PCI Express and the management port have a code of none but their own refusals. -/
def State.tellOffline (s : State) (m off : Nat) (read : Bool) : State :=
  if m = 1 then { s with scp := { s.scp with err := s.scp.err || (read && decide (0 < s.scp.due)) } }
  else if 3 ≤ m then s.emit (.regError m off)
  else s

/-- An access delivered and answered. -/
def State.serve (s : State) (m off : Nat) (value : Option Nat) (ks : List Nat) (t : Nat) : State :=
  let (v, s1) := s.perform m off value ks t
  let s2 := if off < apertureBase ∧ s.regOffline off then s1.tellOffline m off value.isNone else s1
  if value.isNone then s2.answerRead m off v else s2

/-- May the access at position `k` of the queue go on? -/
def State.mayGo (s : State) (k : Nat) (q : XReq) : Bool :=
  !s.lockedOut q.master (accTarget q.off) && !(s.xbar.queue.take k).any (waitsBehind q.master q.off q.value.isSome)

/-- The access that goes on next: at the target of the oldest that may, the first master's at or after the target's pointer (R415). -/
def State.arbitrate (s : State) : Option (Nat × XReq) :=
  let ready := ((List.range s.xbar.queue.length).zip s.xbar.queue).filter (fun x => s.mayGo x.1 x.2)
  match ready with
  | [] => none
  | x :: _ =>
    match accTarget x.2.off with
    | none => some x
    | some k =>
      let turn := fun (y : Nat × XReq) => (y.2.master + 12 - s.xbarPointer k) % 12
      (ready.filter (fun y => accTarget y.2.off == some k)).foldl (fun b y =>
        match b with
        | none => some y
        | some z => if turn y < turn z then some y else some z) none

/-- The accesses that waited go on, target by target in round robin among the masters (R415, R416). Fuelled by their number. -/
def drainF : Nat → Nat → State → State
  | 0, _, s => s
  | f + 1, t, s =>
    match s.arbitrate with
    | none => s
    | some (k, q) =>
      let s1 : State := { s with xbar := { s.xbar with queue := s.xbar.queue.eraseIdx k } }
      drainF f t (s1.serve q.master q.off q.value q.members t)

/-- A START that waited for a lock goes on once nothing holds it back. -/
def State.armResume (s : State) (t : Nat) : State :=
  if s.xbar.armWaits && !s.armLocked then
    let s1 : State := { s with xbar := { s.xbar with armWaits := false } }
    if s1.dState = dAdmitted then took s1 (execDraftStart t s1) else s1
  else s

/-- What waited behind a lock that is gone goes on. -/
def State.drainQueue (s : State) (t : Nat) : State := (drainF s.xbar.queue.length t s).armResume t

/-- After a write of XBAR_LOCK, which may release a lock, what waited goes on. -/
def State.lockWritten (s : State) (off : Nat) (value : Option Nat) (t : Nat) : State :=
  if off = R.XBAR_LOCK_ACQUIRE.addr ∧ value.isSome then s.drainQueue t else s

/-- Must an access wait at the crossbar (R414, R416)? -/
def State.mustWait (s : State) (m off : Nat) (write : Bool) : Bool :=
  s.lockedOut m (accTarget off) || s.xbar.queue.any (waitsBehind m off write)

/-- An access that goes through the crossbar now, or waits there. -/
def State.request (s : State) (m off : Nat) (value : Option Nat) (t : Nat) : State :=
  if s.mustWait m off value.isSome then { s with xbar := { s.xbar with queue := s.xbar.queue ++ [⟨m, off, value, s.membersAt off⟩] } }
  else (s.serve m off value (s.membersAt off) t).lockWritten off value t

/-! ## Pairing (R305) -/

/-- Is the access one of a host: PCIe, SCP or the management port? -/
def hostMaster (m : Nat) : Bool := decide (m ≤ 2)

/-- Is a host write to this target mirrored? Not those to TIME, LANE, MESH, HOSTIF, TRUST, LEDGER and PAIR. -/
def mirroredTarget (target : Option Nat) : Bool :=
  match target with
  | none => false
  | some k => !([2, 10, 12, 18, 19, 20, 22].contains k)

/-- The value that a REG_WRITE record carries: a forced swap travels as its own record. -/
def mirrorValue (off v : Nat) : Nat :=
  let spinCtl :=
    if off < apertureBase then (regAt off).any (fun x => x.1.addr == R.SPIN_CTL_FORCE_SWAP.addr)
    else (groupOf (off - apertureBase)).any (fun g => g.1 == 1 && g.2.2 == 0)
  if spinCtl then putBits v 2 1 0 else v

/-- A host write that would be mirrored (R305): a standby ignores it, the active side mirrors it. Answers whether the write goes on. -/
def State.hostWrite (s : State) (m off v : Nat) : Bool × State :=
  if !(hostMaster m && mirroredTarget (accTarget off) && s.is R.PAIR_CTL_MODE) then (true, s)
  else if s.side = sideStandby ∨ s.side = sideSyncing then (false, s.bump R.PAIR_STATUS_STBY_IGNORED 1)
  else (true, s.mirror 1 (leBytes 4 off ++ leBytes 4 (mirrorValue off v) ++ leBytes 8 (s.get R.DRAFT_SPAN_SPAN)))

/-- An aligned access of a master that need not wait, with what a read returns (R13, R305). -/
def State.accessNow (s : State) (m off : Nat) (value : Option Nat) (t : Nat) : Nat × State :=
  match value with
  | none => s.perform m off none (s.membersAt off) t
  | some v =>
    let (go, s1) := s.hostWrite m off v
    if go then
      let r := s1.perform m off (some v) (s1.membersAt off) t
      (r.1, r.2.lockWritten off (some v) t)
    else (0, s1)

/-- A register access of a master (R13, R305, R414); an address that is not a multiple of 4 reaches no register,
and a Badger core (masters 3 and 4) is told of the error. -/
def State.access (s : State) (m off : Nat) (value : Option Nat) (t : Nat) : State :=
  let s0 := s.upTo t
  if !s0.alive then s0
  else if off % 4 ≠ 0 then
    let s1 := if value.isNone then s0.answerRead m off 0 else s0
    if m = 3 ∨ m = 4 then s1.emit (.regError m off) else s1
  else
    match value with
    | none => s0.request m off none t
    | some v =>
      let (go, s1) := s0.hostWrite m off v
      if go then s1.request m off (some v) t else s1

/-- REGISTER_WRITE (R13, R14): a write to a unicast offset; one whose byte enables do not cover all four bytes is discarded. -/
def execRegisterWrite (master off : Nat) (w : BusWrite) (t : Nat) (s : State) : Out :=
  if w.enables = 15 then .next (s.access master (off % apertureBase) (some (w.value % 4294967296)) t) else .next (s.upTo t)

/-- RC_READ (R15, R16): a read of a unicast offset; its RC fields return to their reset values. -/
def execRcRead (master off t : Nat) (s : State) : Out := .next (s.access master (off % apertureBase) none t)

/-- LATCHED_LOW_READ (R13): a read of the low word of a pair. -/
def execLatchedLowRead (master off t : Nat) (s : State) : Out := .next (s.access master (off % apertureBase) none t)

/-- GROUP_WRITE (R13, R411): a write to an offset of the aperture, with all its byte enables. -/
def execGroupWrite (master off : Nat) (w : BusWrite) (t : Nat) (s : State) : Out :=
  if w.enables = 15 then .next (s.access master (apertureBase + off % apertureBase) (some (w.value % 4294967296)) t) else .next (s.upTo t)

/-- GROUP_READ (R412). -/
def execGroupRead (master off t : Nat) (s : State) : Out := .next (s.access master (apertureBase + off % apertureBase) none t)

/-! ## Locks (R416) -/

/-- ACQUIRE: the write of XBAR_LOCK that requests a lock. -/
def execLockAcquire (master target t : Nat) (s : State) : Out :=
  .next ((s.upTo t).writeLock master (2147483648 + target % 32 * 65536))

/-- LOCK_GRANT: no other master holds the target, and none of their requests to it is in progress. -/
def execLockGrant (master t : Nat) (s : State) : Out :=
  let s0 := s.upTo t
  let w := Tab.get 0 s0.xbar.wait master
  if w = 0 ∨ s0.lockedOut master (some (w - 1)) then .next s0
  else
    .next { s0 with xbar := { s0.xbar with
      wait := Tab.set 0 s0.xbar.wait master 0
      held := Tab.set (0, 0) s0.xbar.held master (w, s0.now) } }

/-- RELEASE: the write of XBAR_LOCK that releases the lock held; what waited behind it goes on. -/
def execLockRelease (master t : Nat) (s : State) : Out :=
  let s0 := s.upTo t
  .next ((s0.writeLock master (1073741824 + Tab.get 0 s0.xbar.target master * 65536)).drainQueue t)

/-- LOCK_EXPIRY: a lock held for XBAR_LOCK_LIMIT. -/
def execLockExpiry (master t : Nat) (s : State) : Out :=
  let s0 := s.upTo t
  let h := Tab.get (0, 0) s0.xbar.held master
  if h.1 = 0 ∨ s0.now < h.2 + nsToT (1000 * max 1 (s0.get R.XBAR_LOCK_LIMIT_US)) then .next s0
  else
    let s1 : State := { s0 with xbar := { s0.xbar with held := Tab.set (0, 0) s0.xbar.held master (0, 0) } }
    .next (((s1.bump R.XBAR_STATUS_LOCK_EXPIRED 1).raise 0x17E).drainQueue t)

/-! ## The limit of 2 ms (R417) -/

/-- XBAR_TIMEOUT (R417): a request that its target has not answered for 2 ms completes with an error: a read returns zero, a write is
discarded. One that waits behind a lock never does. -/
def execXbarTimeout (master off t : Nat) (write : Bool) (s : State) : Out :=
  let s0 := s.upTo t
  if !s0.alive ∨ s0.xbar.queue.any (fun q => q.master == master && q.off == off && q.value.isSome == write) then .next s0
  else
    let s1 := (s0.bump R.XBAR_STATUS_TIMEOUT 1).raise 0x17E
    if write then .next s1
    else if master = 1 then .next (({ s1 with scp := { s1.scp with err := s1.scp.err || decide (0 < s1.scp.due) } } : State).answerRead 1 off 0)
    else .next ((s1.answerRead master off 0).emit (.regError master off))

/-! ## Events (R429, R432) -/

/-- EVT_PEND: a W1C write to a word of the pending bits. -/
def execEvtPend (word value : Nat) (s : State) : Out := .next (clearPend (word % 32) (value % 4294967296) s)

/-- MSIX_UNMASK: a vector's mask (`which` below 64), the Function Mask (64) or MSI-X Enable (65) written; messages that may go now
go. -/
def execMsixUnmask (which : Nat) (value : Bool) (s : State) : Out :=
  let e := s.evt
  let e1 := if which < 64 then { e with msix := Tab.set 1 e.msix (4 * which + 3) (b2n value) }
    else if which = 64 then { e with fmask := value } else { e with enable := value }
  .next ({ s with evt := e1 } : State).vecFlush

end Sys2Proof.Machine
end

