-- ==== Sys2Proof/Machine/DmaMove.lean ====
section
/-!
DEFINITION. The commands of the DMA channels beside ARM (R419 to R424), with registers reached as crossbar master 5 (R413).
-/

namespace Sys2Proof.Machine

/-- A register read and written through the store register aperture: no value, and false, where it is off line (R123, R463). A write may
release a lock (R416). -/
def aperRead (t : Nat) (s : State) (off : Nat) : Option Nat × State :=
  let o := off % 134217728
  let (v, s1) := s.perform 5 o none (s.membersAt o) t
  (if o < apertureBase ∧ s.regOffline o then none else some v, s1)
def aperWrite (t : Nat) (s : State) (off v : Nat) : Bool × State :=
  let o := off % 134217728
  (!(decide (o < apertureBase) && s.regOffline o), (s.perform 5 o (some v) (s.membersAt o) t).2.lockWritten o (some v) t)

/-- Does another master hold the lock of a target that the descriptor's registers lie in (R416)? Blocks begin at whole MiB. -/
def State.dmaLocked (s : State) (d : List Byte) : Bool :=
  (s.dmaSides d).any (fun x => (List.range (x.2 / 1048576 + 2)).any (fun k =>
    s.lockedOut 5 (accTarget (min (x.1 + k * 1048576) (x.1 + x.2 - 1)))))

/-- DESCRIPTOR_FETCH (R419, R422): the descriptor at DMA_CUR is fetched and checked. `ext` is what a target outside the local stacks
returns, `bad` whether it came poisoned. -/
def execDescriptorFetch (chan : Nat) (ext : List Byte) (bad : Bool) (t : Nat) (s : State) : Out :=
  let s0 := s.upTo t
  let a := s0.get1 R.DMA_CUR_ADDR chan
  if s0.dmaState chan ≠ dmaRunning ∨ !(s0.dmaChan chan).desc.isEmpty then .next s0
  else if a % 64 ≠ 0 then .next (s0.dmaFail chan 2 0 false)
  else
    let r := s0.storeRead dmaPort a 64 ext
    let (local_, host) := match (s0.translate dmaPort false a).1 with
      | .loc _ _ => (true, false)
      | .host _ => (false, true)
      | _ => (false, false)
    if host ∧ bad ∧ r.status = stOk then .next (r.st.pciePoison.dmaFail chan 2 0 false)
    else if r.status ≠ stOk ∨ r.poisoned ∨ (!local_ ∧ bad) then .next (r.st.dmaFail chan 2 0 false)
    else
      let s1 := r.st.setDma chan ⟨r.data, 0, false, none⟩
      if s1.dmaValid r.data then .next (s1.put1 R.DMA_REMAIN_BYTES chan (dmaLen r.data)) else .next (s1.dmaFail chan 1 0 true)

/-- DESCRIPTOR_COMPLETE (R420 to R423): the whole move of the descriptor, its check value, its write-back, and the next fetch or the
end of the chain. A channel whose register target is locked by another master waits, and one with BARRIER whose writes are not all visible
completes with the DESCRIPTOR_COMPLETE that follows their flushes. -/
def execDescriptorComplete (chan : Nat) (ext : List Byte) (bad : List Nat) (t : Nat) (s : State) : Out :=
  let s0 := s.upTo t
  let d := (s0.dmaChan chan).desc
  if s0.dmaState chan ≠ dmaRunning ∨ d.isEmpty ∨ s0.dmaLocked d then .next s0
  else
    match (s0.dmaChan chan).held with
    | some (v, n) => .next (if s0.dmaFlushing then s0 else s0.dmaFinish chan v n)
    | none => .next (s0.dmaComplete (aperRead t) (aperWrite t) chan ext bad)

/-- DMA_FAILURE (R422): after `moved` bytes an access fails: `err` 2 the descriptor's fetch or write-back, 3 a source segment, 4 a
destination segment. What had been moved before stays moved. -/
def execDmaFailure (chan err moved : Nat) (ext : List Byte) (bad : List Nat) (t : Nat) (s : State) : Out :=
  let s0 := s.upTo t
  let d := (s0.dmaChan chan).desc
  if s0.dmaState chan ≠ dmaRunning then .next s0
  else if d.isEmpty then .next (s0.dmaFail chan 2 0 false)
  else if s0.dmaLocked d then .next s0
  else if (s0.dmaChan chan).held.isSome then .next (s0.dmaFail chan (if err = 4 then 4 else 2) (dmaLen d) (err == 4))
  else if err ≤ 2 then
    let (x, _) := s0.dmaBody (aperRead t) (aperWrite t) chan ext bad
    .next (if x.err ≠ 0 then x.st.dmaFail chan x.err x.moved true else x.st.dmaFail chan 2 x.moved false)
  else
    let x := s0.dmaMove (aperRead t) (aperWrite t) d (min moved (dmaLen d)) ext bad
    .next ((x.st.dmaPoison chan x.poison).dmaFail chan (if x.err ≠ 0 then x.err else if err = 3 then 3 else 4) x.moved true)

/-- DMA_DISABLE (R424): everything dropped at once; the writes that had been issued are a free number of the first bytes. A channel
that is not RUNNING only moves to DISABLED. -/
def execDmaDisable (chan : Nat) (ext : List Byte) (bad : List Nat) (t : Nat) (s : State) : Out :=
  let s0 := s.upTo t
  if s0.dmaState chan ≠ dmaRunning then .next (s0.put1 R.DMA_STATUS_STATE chan dmaDisabled)
  else .next ((s0.dmaIssued (aperRead t) (aperWrite t) chan ext bad).dmaDrop chan dmaDisabled)

end Sys2Proof.Machine
end

