-- ==== Sys2Proof/Machine/Access.lean ====
section
/-!
DEFINITION. Accesses to the store by requesters (R352, R353, R361, R364, R366 to R369): look-up in the map cache, walks, service, the BAR2
window.
-/

namespace Sys2Proof.Machine

/-- Ports whose accesses are translated (R329, R351). -/
def translatedPort (port : Nat) : Bool := (decide (7 ≤ port ∧ port ≤ 9)) || decide (16 ≤ port ∧ port ≤ 35)

/-- Port of BAR2 and of Badger (R329). -/
def bar2Port : Nat := 32

/-- Bytes of a segment that begins at `a` (R352). -/
def segLen (a n : Nat) : Nat := min n (2097152 - a % 2097152)

/-- A segment served on the register aperture: whole registers, as crossbar master 5 (R13, R366, R413); UNIT_OFFLINE where one is off line
(R123). -/
def State.serveAper (s : State) (port a off n t : Nat) (write : Bool) (data : List Byte) : State :=
  if off % 4 ≠ 0 ∨ n % 4 ≠ 0 then s.emit (.storeDone port a stError [] false)
  else if write then
    let r := ((List.range (n / 4)).zip (chunks 4 data)).foldl (fun (acc : Nat × State) x =>
      let (ok, b) := aperWrite t acc.2 (off + 4 * x.1) (leNat x.2)
      (if ok then acc.1 else stOffline, b)) (stOk, s)
    r.2.emit (.storeDone port a r.1 [] false)
  else
    let r := (List.range (n / 4)).foldl (fun (acc : List Byte × Nat × State) k =>
      let (v, b) := aperRead t acc.2.2 (off + 4 * k)
      (acc.1 ++ leBytes 4 (v.getD 0), if v.isNone then stOffline else acc.2.1, b)) ([], stOk, s)
    r.2.2.emit (.storeDone port a r.2.1 r.1 false)

/-- A write segment served: a failed one of BAR2 is dropped and counted (R368). -/
def State.serveWrite (s : State) (port a : Nat) (data : List Byte) (bad : Bool) : State × Nat :=
  let (s1, st) := s.segWriteP port a data bad
  (if port = bar2Port ∧ st ≠ stOk then s1.bump R.STORE_BAR2_DROP_COUNT 1 else s1, st)

/-- A read segment served, with its completion; that of a read which has gone to a peer or a far store comes with the completions of
its requests (R284), and a read of host memory that has none stays outstanding (R437). `ext` is what host memory returns, `bad` whether that
came poisoned. -/
def State.serveRead (s : State) (port a n : Nat) (ext : List Byte) (bad : Bool) : State :=
  let (away, host) := match (s.translate port false a).1 with
    | .host x => (false, some x)
    | .peer _ _ => (true, none)
    | .far _ _ => (true, none)
    | _ => (false, none)
  match host with
  | some x =>
    if s.hostUp ∧ s.get R.STORE_STATUS_STATE = storeOpen ∧ ext.length < n then
      let s1 := (s.translate port false a).2.emit (.extRead x n)
      { s1 with store := { s1.store with hostReads := s1.store.hostReads ++ [(port, a, s1.now)] } }
    else
      let (d, _, st, s1) := s.segRead port a n ext
      let hit := bad && st == stOk
      (if hit then s1.pciePoison else s1).emit (.storeDone port a st (if st = stOk then d else []) hit)
  | none =>
    let (d, p, st, s1) := s.segRead port a n ext
    if away && st == stOk then s1 else s1.emit (.storeDone port a st (if st = stOk then d else []) p)

/-- A segment served on its target. -/
def State.serveSegment (s : State) (port a n t : Nat) (write : Bool) (data : List Byte) (bad : Bool) (ext : List Byte) : State :=
  match (s.translate port write a).1 with
  | .aper off => (s.translate port write a).2.serveAper port a off n t write data
  | _ =>
    if write then
      let (s1, st) := s.serveWrite port a (padTo n data) bad
      (s1.flushLanes port).emit (.storeDone port a st [] false)
    else s.serveRead port a n ext bad

/-- A segment that completes with STORE_CLOSED (R364): a write of BAR2 is dropped and counted (R368). -/
def State.closedSegment (s : State) (port a n : Nat) (write : Bool) : State :=
  let s1 := s.refusedUnits port stClosed (Machine.unitSpan a n)
  (if write ∧ port = bar2Port then s1.bump R.STORE_BAR2_DROP_COUNT 1 else s1).emit (.storeDone port a stClosed [] false)

/-- Must a segment wait for a register whose target another master has locked (R416)? -/
def State.aperWaits (s : State) (port a : Nat) (write : Bool) : Bool :=
  match (s.translate port write a).1 with
  | .aper off => s.lockedOut 5 (accTarget off)
  | _ => false

/-- STORE_ACCESS (R353, R361, R364): a segment of a requester. With the store not open it completes with STORE_CLOSED; a hit, and an
access of the default map, is served; a miss waits for its walk, and an access of a locked register for its lock (R416), among the walks. -/
def execStoreAccess (port addr len : Nat) (write : Bool) (data : List Byte) (bad : Bool) (ext : List Byte) (t : Nat) (s : State) : Out :=
  let s0 := s.upTo t
  let n := segLen addr len
  if !translatedPort port || n == 0 then .next s0
  else if s0.get R.STORE_STATUS_STATE ≠ storeOpen then .next (s0.closedSegment port addr n write)
  else if (s0.is R.STORE_STATUS_DEFAULT || (s0.cached addr).isSome) && !s0.aperWaits port addr write then
    .next (s0.serveSegment port addr n t write data bad ext)
  else .next { s0 with store := { s0.store with walks := s0.store.walks ++ [⟨port, write, addr, n, padTo n data, bad, false, false⟩] } }

/-- WALK_DONE (R361, R362, R364): the `n`-th walk in flight completes, and its access is served or faults; with status 2 if the store has
left OPEN since. The result of a walk that was in flight at an invalidate is not cached. An access of a locked register goes on waiting
(R416). -/
def execWalkDone (n : Nat) (bad : Bool) (ext : List Byte) (t : Nat) (s : State) : Out :=
  let s0 := s.upTo t
  match s0.store.walks[n]? with
  | none => .next s0
  | some w =>
    let s1 : State := { s0 with store := { s0.store with walks := s0.store.walks.eraseIdx n } }
    if w.dead ∨ s1.get R.STORE_STATUS_STATE ≠ storeOpen then .next (s1.closedSegment w.port w.addr w.len w.write)
    else if s1.aperWaits w.port w.addr w.write then .next s0
    else
      let s2 := s1.serveSegment w.port w.addr w.len t w.write w.data (if w.write then w.bad else bad) ext
      .next (if w.uncached then { s2 with store := { s2.store with cache := s1.store.cache } } else s2)

/-! ## BAR2 (R369) -/

/-- A host write into the store mirrored (R305): in local stacks as the words stand after it; elsewhere the bytes beside the written
ones of the first and last word are free. -/
def State.mirrorBar2 (s : State) (a : Nat) (d : List Byte) : State :=
  match (s.translate bar2Port true a).1 with
  | .loc rg o =>
    match s.place.region rg with
    | some r => s.mirrorStore a d.length r o
    | none => s
  | _ =>
    if s.get R.PAIR_CTL_MODE = 1 ∧ s.side = sideActive then
      let lo := a % 8
      let hi := (8 - (lo + d.length) % 8) % 8
      let (v, s1) := if lo = 0 ∧ hi = 0 then (0, s) else s.takeFree
      let w := leBytes lo v ++ d ++ leBytes hi (v / 2 ^ (8 * lo))
      (s1.noteStore (a - lo) w.length).mirrorWords (a - lo) w
    else s

/-- BAR2_REQUEST (R305, R352, R368, R369, R437): a request of the host, divided into segments. `bad` marks a write that came poisoned,
or what an outside target returned poisoned. -/
def execBar2Request (write : Bool) (off len : Nat) (data : List Byte) (bad : Bool) (ext : List Byte) (t : Nat) (s : State) : Out :=
  let s0 := s.upTo t
  if !s0.alive || !s0.hostUp then .next s0
  else
    let a := s0.get R.STORE_BAR2_BASE * 68719476736 + off % 68719476736
    if !write then
      .next ((segments a len).foldl (fun b sg => b.serveRead bar2Port sg.1 sg.2 (ext.drop (sg.1 - a)) bad) s0)
    else if s0.is R.PAIR_CTL_MODE ∧ (s0.side = sideStandby ∨ s0.side = sideSyncing) then .next (s0.bump R.PAIR_STATUS_STBY_IGNORED 1)
    else
      let s1 := if bad then s0.pciePoison else s0
      let s2 := (segments a data.length).foldl (fun b sg =>
        let d := (data.drop (sg.1 - a)).take sg.2
        let (c, st) := b.serveWrite bar2Port sg.1 d bad
        if st = stOk then c.mirrorBar2 sg.1 d else c) s1
      .next (s2.flushLanes bar2Port)

end Sys2Proof.Machine
end

