-- ==== Sys2Proof/Machine/HostPorts.lean ====
section
/-!
DEFINITION. Register accesses of the ports: PCIe BAR0 (R436), the management port (R443), SCP (R446, R447).
-/

namespace Sys2Proof.Machine

/-! ## PCIe (R436) -/

/-- A BAR0 request refused: counted, PCIE_EVT.REFUSED. -/
def State.bar0Refuse (s : State) : State := (s.bump R.PCIE_ERR_PARTIAL 1).pcieEvt 2

/-- BAR0_REQUEST (R13, R436): a write of one aligned DWORD with all its byte enables, or a read of at most one, is a register access; any
other is refused, a read with an error completion. BAR decoding stops in D3hot and with the link down (R438). -/
def execBar0Request (write : Bool) (off len enables value t : Nat) (s : State) : Out :=
  let s0 := s.upTo t
  let o := off % 134217728
  if !s0.alive || !s0.hostUp then .next s0
  else if write then
    if len = 4 ∧ enables = 15 ∧ o % 4 = 0 then .next (s0.access 0 o (some (value % 4294967296)) t) else .next s0.bar0Refuse
  else if o % 4 + len ≤ 4 then
    if o % 4 = 0 then .next (s0.access 0 o none t) else .next (s0.bar0Refuse.emit (.regRead 0 o 0))
  else .next (s0.bar0Refuse.emit (.regError 0 o))

/-! ## The management port (R443) -/

/-- Why a register request is malformed (R13, R443). -/
def reqMalformed (p : List Byte) : Bool :=
  let op := byteAt p 4
  let n := byteAt p 5
  fld p 6 2 != 0 || fld p 8 4 % 4 != 0 || !(op == 1 || op == 2) || decide (n = 0 ∨ 64 < n) ||
    decide (p.length < 12 + (if op = 2 then 4 * n else 0))

/-- The response to a register request. -/
def reqResponse (p : List Byte) (status : Nat) (words : List Nat) : List Byte :=
  leBytes 2 0x8003 ++ (p.drop 2).take 4 ++ leBytes 1 status ++ zeros 1 ++ (p.drop 8).take 4 ++ words.flatMap (leBytes 4)

/-- The words of a request carried out in order as master 2; those in `late` end with a crossbar error (R417). -/
def State.reqWords (s : State) (p : List Byte) (late : List Nat) (t : Nat) : List Nat × State :=
  (List.range (byteAt p 5)).foldl (fun (acc : List Nat × State) k =>
    if late.contains k then (acc.1 ++ [0], (acc.2.bump R.XBAR_STATUS_TIMEOUT 1).raise 0x17E)
    else
      let (v, b) := acc.2.accessNow 2 (fld p 8 4 + 4 * k) (if byteAt p 4 = 2 then some (fld p (12 + 4 * k) 4) else none) t
      (acc.1 ++ [v], b)) ([], s)

/-- REGISTER_REQUEST (R443): the oldest register request is served and answered. A request to a target that another master has locked
waits, but for the words in `late`. The
MCTP control requests that arrived behind it follow. -/
def execRegisterRequest (late : List Nat) (t : Nat) (s : State) : Out :=
  let s0 := s.upTo t
  match s0.mgmt.reqs with
  | [] => .next s0
  | (src, p) :: r =>
    let s1 : State := { s0 with mgmt := { s0.mgmt with reqs := r } }
    let late' := late.filter (fun k => decide (k < byteAt p 5))
    if !s0.alive then .next s0
    else if !s0.is R.MGMT_CTL_REG_EN then .next (s1.respond src (reqResponse p 2 [])).mctpTurn
    else if reqMalformed p then .next ((s1.mgmtEvt 4).respond src (reqResponse p 1 [])).mctpTurn
    else if (List.range (byteAt p 5)).any (fun k => !late'.contains k && s0.mustWait 2 (fld p 8 4 + 4 * k) (byteAt p 4 == 2)) then .next s0
    else
      let (ws, s2) := s1.reqWords p late' t
      .next (s2.respond src (reqResponse p (if late'.isEmpty then 0 else 3) (if byteAt p 4 = 1 then ws else []))).mctpTurn

/-! ## SCP (R446, R447) -/

def scpOp (cmd : Nat) : Nat := bits cmd 30 2

/-- A bad command word. -/
def scpBad (cmd : Nat) : Bool := bits cmd 27 2 != 0 || cmd % 4 != 0 || scpOp cmd == 3

def State.scpMode (s : State) (m : Nat) : State := { s with scp := { s.scp with mode := m } }

/-- A bad command: the rest of the transaction is ignored. -/
def State.scpRefuse (s : State) : State := ((s.bump R.SCP_STATUS_REFUSED 1).scpEvt 1).scpMode 2

/-- Address of word `k` of a transaction. -/
def scpAddr (cmd k : Nat) : Nat := (bits cmd 0 27 + (if bit cmd 29 then 4 * k else 0)) % 134217728

/-- Does a transaction with this operation begin? SCP works with the fabric, and after the last transaction's end. -/
def State.scpBegins (s : State) (cmd op : Nat) : Bool := s.alive && s.scp.mode == 0 && (scpOp cmd == op || scpOp cmd == 3)

/-- SCP_WRITE: the command word and the complete data words of a transaction. -/
def execScpWrite (cmd : Nat) (words : List Nat) (t : Nat) (s : State) : Out :=
  let s0 := s.upTo t
  if !s0.scpBegins cmd 0 then .next s0
  else if scpBad cmd then .next s0.scpRefuse
  else
    .next ((((List.range words.length).zip words).foldl (fun a x => a.access 1 (scpAddr cmd x.1) (some (x.2 % 4294967296)) t) s0).scpMode 1)

/-- SCP_READ: the command word and the complete words behind it, of which the first is COUNT. -/
def execScpRead (cmd : Nat) (words : List Nat) (t : Nat) (s : State) : Out :=
  let s0 := s.upTo t
  if !s0.scpBegins cmd 1 then .next s0
  else if scpBad cmd then .next s0.scpRefuse
  else
    match words with
    | [] => .next (s0.scpMode 3)
    | n :: _ =>
      if n = 0 ∨ 64 < n then .next s0.scpRefuse
      else
        let q := s0.xbar.queue.filter (fun x => !(x.master == 1 && x.value.isNone))
        let s1 : State := { s0 with
          scp := { s0.scp with buf := [], due := n, err := false, mode := 2 }
          xbar := { s0.xbar with queue := q } }
        .next (forN n (fun k a => a.access 1 (scpAddr cmd k) none t) s1)

/-- SCP_FETCH: the command word, and how many words behind it are clocked out whole, the status first. -/
def execScpFetch (cmd words t : Nat) (s : State) : Out :=
  let s0 := s.upTo t
  if !s0.scpBegins cmd 2 then .next s0
  else if scpBad cmd then .next s0.scpRefuse
  else if words = 0 then .next (s0.scpMode 5)
  else
    let p := s0.scp
    let n := min (words - 1) p.buf.length
    let status := 2147483648 * b2n (p.due == 0) + 1073741824 * b2n p.err + p.buf.length
    .next (({ s0 with scp := { p with buf := p.buf.drop n, mode := if n = p.buf.length then 2 else 4 } } : State).emit
      (.scp (status :: p.buf.take n)))

/-- SCP_SEL_RISE: the transaction ends, `nbits` bits into a word. A word cut short is discarded and counted; of a FETCH it leaves the
buffer. -/
def execScpSelRise (nbits : Nat) (s : State) : Out :=
  if !s.alive then .next (s.scpMode 0)
  else if s.scp.mode = 2 ∨ nbits % 32 = 0 then .next (s.scpMode 0)
  else
    let s1 : State := if s.scp.mode = 4 then { s with scp := { s.scp with buf := s.scp.buf.drop 1 } } else s
    .next (((s1.bump R.SCP_STATUS_PARTIAL 1).scpEvt 0).scpMode 0)

end Sys2Proof.Machine
end

