-- ==== Sys2Proof/Machine/MirrorApply.lean ====
section
/-!
DEFINITION. Mirror records received (R305, R306, R308, R311): their order, what a side does with each, the snapshot of a resync.
-/

namespace Sys2Proof.Machine

/-! ## Reception -/

/-- The whole records of a mirror frame (R282). Fuelled by its length. -/
def mirrorSplitF : Nat → List Byte → List (List Byte)
  | 0, _ => []
  | f + 1, d =>
    let n := 8 * byteAt d 1
    if n = 0 ∨ d.length < n then [] else d.take n :: mirrorSplitF f (d.drop n)

/-- The records of received frames that are not applied yet, with those of a lane's oldest mirror frame when there are none. -/
def State.mirrorPull (s : State) (lane : Nat) : State :=
  if !s.pair.rxRecs.isEmpty then s
  else
    match s.rxTake lane (fun f => hdrType f.hdr == 0x07) with
    | none => s
    | some (f, s1) => { s1 with pair := { s1.pair with rxRecs := mirrorSplitF f.payload.length f.payload } }

/-- A mirror gap (R306, R309): event 0x14B, and MIRROR_OK is 0 until a resync completes; a STANDBY moves to SYNCING. -/
def State.mirrorGap (s : State) : State :=
  let s1 := s.pairEvt 3
  let s2 : State := { s1 with pair := { s1.pair with mirrorOk := false } }
  if s2.side = sideStandby then s2.toSyncing else s2

/-- A record's place in the sequence (R306). -/
def State.mirrorSeq (s : State) (r : List Byte) : State :=
  let m := fld r 4 4
  let s1 := s.put R.PAIR_MSEQ_RX_MSEQ m
  if m = (s.get R.PAIR_MSEQ_RX_MSEQ + 1) % 4294967296 then s1 else s1.mirrorGap

/-- Does this side follow its partner's records: it is paired, runs, and is not the active one? -/
def State.follows (s : State) : Bool := s.is R.PAIR_CTL_MODE && s.side != sideOff && s.side != sideActive

/-! ## The records of a standby -/

/-- A coefficient that a snapshot brings: a side in SYNCING takes it into either bank (R311; notes/assumptions/106.md). Answers none where
the offset is another register's. -/
def State.snapCoef (s : State) (off v : Nat) : Option State :=
  let k := off - R.ZOOM_COEF_DATA_COEF.addr
  let e := k / R.ZOOM_COEF_DATA_COEF.s1
  if s.side ≠ sideSyncing ∨ off < R.ZOOM_COEF_DATA_COEF.addr ∨ 64 ≤ e ∨ k % R.ZOOM_COEF_DATA_COEF.s1 ≠ 0 then none
  else
    let key := coefKey e (s.get1 R.ZOOM_COEF_ADDR_BANK e) (s.get1 R.ZOOM_COEF_ADDR_INDEX e)
    some (({ s with zoom := { s.zoom with coef := Tab.set 0 s.zoom.coef key (v % 262144) } } : State).wrap1 R.ZOOM_COEF_ADDR_INDEX e 1)

/-- REG_WRITE (R306): applied at once as crossbar master 7; late when the end of its ASPAN has been processed. The channels of a
standby run nothing (R425), so DMA_CTL is left alone. -/
def State.applyRegWrite (s : State) (b : List Byte) (t : Nat) : State :=
  let off := fld b 0 4
  let s1 := if fld b 8 8 < s.get R.DRAFT_SPAN_SPAN then s.mirrorGap else s
  if accTarget off = some 16 ∧ off % 256 = 0 then s1
  else (s1.snapCoef off (fld b 4 4)).getD (s1.request 7 off (some (fld b 4 4)) t)

/-- STORE_WRITE (R306): the bytes of a mirrored store write. -/
def State.applyStoreWrite (s : State) (b : List Byte) : State :=
  (((s.storeWrite bar2Port (fld b 0 8) (b.drop 8)).1).noteStore (fld b 0 8) (b.length - 8))

/-- The interval U of a FOX_BATCH record; all ones stands for none in use (notes/assumptions/91.md). -/
def recordU (b : List Byte) : Option Nat := if fld b 8 8 = 18446744073709551615 then none else some (fld b 8 8)

/-- FOX_BATCH (R306): the chunks of a batch in order; the last one, with none missing, brings the batch, accepted as at the start of
interval U. A snapshot's batch carries the
interval in which the active side accepted it; a side that holds its model already has classified it (R178). -/
def State.applyFoxBatch (s : State) (b : List Byte) : State :=
  let seq := fld b 0 4
  let data := b.drop 16
  let keep := if fld b 4 2 = 0 then some []
    else if fld b 4 2 = s.pair.chunks.length ∧ fld s.pair.chunks.flatten 8 4 = seq then some s.pair.chunks else none
  match keep with
  | none => { s with pair := { s.pair with chunks := [] } }
  | some cs =>
    if fld b 6 2 = 0 then { s with pair := { s.pair with chunks := cs ++ [data] } }
    else
      let batch := (cs ++ [data]).flatten
      let ms := ((chunks 48 (batch.drop 32)).take (fld batch 12 2)).map (foxEntry (fld batch 0 8))
      let same := fun (x : FoxModel) => ms.any (fun m => m.slot == x.slot && m.eff == x.eff && m.tref == x.tref)
      let s1 : State := { s with pair := { s.pair with chunks := [] } }
      if s.side = sideSyncing ∧ s.fox.models.any same then
        { s1 with fox := { s1.fox with models := s1.fox.models.map (fun x =>
          if same x then { x with acc := (recordU b).getD (2 ^ 64 - 1) } else x) } }
      else s1.foxAccept batch (recordU b)

/-- EMITTED (R308): the items up to ITEM were sent whole and are released, unless a resync has not brought their numbers into step yet; the
destination's ALIVE goes on behind the last one sent. -/
def State.applyEmitted (s0 : State) (b : List Byte) : State :=
  let d := fld b 0 2
  let item := fld b 8 8
  let s : State := { s0 with frames := { s0.frames with destAlive := Tab.set 0 s0.frames.destAlive d ((fld b 4 4 + 1) % 65536) } }
  let apart := s.side == sideSyncing && s.pair.resyncR.all (fun r => decide (item < itemsFrom r))
  if apart then s
  else
    let s1 := s.itemSent d item
    { s1 with
      frames := { s1.frames with
        destQ := Tab.set [] s.frames.destQ d ((Tab.get [] s.frames.destQ d).filter (fun f => decide (item < f.item))) }
      pass := { s.pass with held := s.pass.held.filter (fun x => !(x.dest == d && decide (x.item ≤ item))) }
      beam := { s.beam with held := s.beam.held.filter (fun x => !(x.dest == d && decide (x.item ≤ item))) } }

/-- A record but RESYNC, by its KIND (R305, R306). Digests are compared on both sides; the others concern a side that follows. -/
def State.applyRecord (s : State) (r : List Byte) (t : Nat) : State :=
  let b := r.drop 8
  let kind := byteAt r 0
  if kind = 5 then s.peerDigest (fld b 0 2) (fld b 2 2) (fld b 8 8) (fld b 16 8)
  else if !s.follows then s
  else if kind = 1 then s.applyRegWrite b t
  else if kind = 2 then s.applyStoreWrite b
  else if kind = 3 then s.applyFoxBatch b
  else if kind = 4 then
    (s.setSpindle (fld b 0 2) { s.spindle (fld b 0 2) with abortAt := some (fld b 8 8) }).mirrorAbort (fld b 0 2)
  else if kind = 6 then s.applyEmitted b
  else s

/-- MIRROR_RECORD (R306): the oldest record received on a lane, when it is no RESYNC. -/
def execMirrorRecord (lane t : Nat) (s : State) : Out :=
  let s0 := (s.upTo t).mirrorPull lane
  match s0.pair.rxRecs with
  | [] => .next s0
  | r :: rest =>
    if byteAt r 0 = 7 then .next s0
    else
      let s1 : State := { s0 with pair := { s0.pair with rxRecs := rest } }
      if !s1.is R.PAIR_CTL_MODE || s1.side == sideOff then .next s1 else .next ((s1.mirrorSeq r).applyRecord r t)

/-! ## Resync (R311) -/

/-- The value that RW fields of a register hold. -/
def State.rwWord (s : State) (r : Reg) (i j : Nat) : Nat :=
  r.parts.foldl (fun v p => if p.fld.acc = .rw then v + bits (s.get2 p.fld i j) p.sh p.w * 2 ^ p.lo else v) 0

/-- Registers of the mirrored blocks whose value a snapshot does not write as it stands: the data windows, those of locks, memory
training, and the instant of a wake that is not scheduled. -/
def State.snapSkips (s : State) (r : Reg) : Bool :=
  !(r.parts.any (fun p => p.fld.acc == .rw)) || r.addr == R.XBAR_LOCK_ACQUIRE.addr ||
    r.addr == R.SPIN_LMEM_DATA_DATA.addr || r.addr == R.SPIN_GAIN_DATA_REAL.addr || r.addr == R.ZOOM_COEF_DATA_COEF.addr ||
    (decide (0x2000040 ≤ r.addr) && decide (r.addr ≤ 0x2000050)) ||
    (!s.power.armed && decide (R.POWER_WAKE_TIME_TIME.addr ≤ r.addr) && decide (r.addr ≤ R.POWER_WAKE_TIME_TIME.addr + 4))

/-- The registers of a snapshot: offset and value. -/
def State.snapRegs (s : State) : List (Nat × Nat) :=
  ((List.range blocks.length).zip blocks).flatMap (fun x =>
    if !mirroredTarget (some x.1) then []
    else
      (x.2.2.2.filter (fun r => !s.snapSkips r)).flatMap (fun r =>
        (List.range r.n1).flatMap (fun i => (List.range (max 1 r.n2)).map (fun j => (r.addr + i * r.s1 + j * r.s2, s.rwWord r i j)))))

/-- A window of a snapshot: its address register written once, then its words. -/
def window (addrOff addr dataOff : Nat) (words : List Nat) : List (Nat × Nat) := (addrOff, addr) :: words.map (fun w => (dataOff, w))

/-- Local memory, gains and inactive bank of a spindle. -/
def State.snapSpindle (s : State) (n : Nat) : List (Nat × Nat) :=
  let at_ := fun (f : Field) => f.addr + n * f.s1
  let sp := s.spindle n
  let b := 1 - s.activeBank n
  let bank := sp.bankNo b
  window (at_ R.SPIN_LMEM_ADDR_WORD) 0 (at_ R.SPIN_LMEM_DATA_DATA) ((List.range 65536).map (fun k => Tab.get 0 sp.lmem k)) ++
    window (at_ R.SPIN_GAIN_ADDR_INDEX) 0 (at_ R.SPIN_GAIN_DATA_REAL) ((List.range 8192).map (fun k => Tab.get 32767 sp.gains k)) ++
    (if sp.swapSpan.isSome then []
     else
      window (at_ R.SPIN_PROG_ADDR_WORD) (4096 * b) (at_ R.SPIN_PROG_DATA_WORD) ((List.range 4096).map (fun k => Tab.get 0 bank.words k)) ++
        (if s.is1 (validField b) n then [(at_ R.SPIN_PROG_ENTRY_ENTRY, 2147483648 + bank.entry)] else []))

/-- Both coefficient banks of a zoom engine. -/
def State.snapZoom (s : State) (e : Nat) : List (Nat × Nat) :=
  (List.range 2).flatMap (fun b =>
    window (R.ZOOM_COEF_ADDR_INDEX.addr + e * R.ZOOM_COEF_ADDR_INDEX.s1) (256 * b) (R.ZOOM_COEF_DATA_COEF.addr + e * R.ZOOM_COEF_DATA_COEF.s1)
      ((List.range 64).map (fun k => Tab.get 0 s.zoom.coef (coefKey e b k))))

/-- A stored Fox model as a batch of one entry (R163). -/
def modelBatch (bseq : Nat) (m : FoxModel) : List Byte :=
  let b := leBytes 8 m.eff ++ leBytes 4 bseq ++ leBytes 2 1 ++ zeros 18 ++ leBytes 2 m.slot ++ zeros 6 ++ leBytes 8 m.tref ++ leBytes 8 m.tend ++
    leBytes 8 (usgn 64 m.c0) ++ leBytes 4 (usgn 32 m.c1) ++ leBytes 4 (usgn 32 m.c2) ++ leBytes 4 (usgn 32 m.c3) ++ zeros 4
  b ++ leBytes 4 (crc32c b) ++ zeros 4

/-- The store contents that mirrored writes set, as they stand, in STORE_WRITE records (R311 step 3). -/
def State.snapStores (s : State) : State :=
  s.pair.stores.foldl (fun a x => a.mirrorWords x.1 (s.storeRead bar2Port x.1 x.2 []).data) s

/-- The snapshot (R311 step 3): REG_WRITE records with ASPAN R − 1, STORE_WRITE records, the Fox models, PHASE 1 with R. -/
def State.sendSnapshot (s : State) (r : Nat) : State :=
  let regs := (List.range 512).flatMap s.snapSpindle ++ (List.range 64).flatMap s.snapZoom ++ s.snapRegs
  let s1 := regs.foldl (fun a x => a.mirrorRec 1 (leBytes 4 x.1 ++ leBytes 4 x.2 ++ leBytes 8 (r - 1))) s.snapStores
  let bseq := s.get R.FOX_BATCH_SEQ_BSEQ
  let s2 := s.fox.models.foldl (fun a m => a.mirrorRec 3
    (leBytes 4 bseq ++ leBytes 2 0 ++ leBytes 2 1 ++ leBytes 8 m.acc ++ modelBatch bseq m)) s1
  s2.mirrorRec 7 (leBytes 1 1 ++ zeros 7 ++ leBytes 8 r)

/-- The first span that begins at least 20 ms from now. -/
def State.resyncFrom (s : State) : Nat :=
  let due := s.now + nsToT 20000000
  let q := ((due - s.draft.t0 : Nat) : Rat) / 4294967296 / spanQ s.draft.struct
  max (s.get R.DRAFT_SPAN_SPAN + 1) (s.draft.base + q.ceil.toNat)

/-- A resync request at the active side (R311 steps 2 and 3); a new one starts afresh. -/
def State.resyncAsked (s0 : State) (agree : Bool) : State :=
  let peer := (s0.mirrorLane.map (fun l => (s0.announce l).serial)).getD (s0.get R.DRAFT_SERIAL_SERIAL)
  let s := { s0 with pair := { s0.pair with peerOut := true, resyncR := none } }
  if peer ≠ s.get R.DRAFT_SERIAL_SERIAL ∨ !agree then (s.mirrorRec 7 (leBytes 1 2 ++ zeros 15)).pairEvt 8
  else
    let r := s.resyncFrom
    ({ s with pair := { s.pair with resyncR := some r } } : State).sendSnapshot r

/-- RESYNC_RECORD (R311): the oldest record received on a lane, when it is a RESYNC. `agree` says whether the pending patches of both sides
agree, which no frame carries. -/
def execResyncRecord (lane : Nat) (agree : Bool) (t : Nat) (s : State) : Out :=
  let s0 := (s.upTo t).mirrorPull lane
  match s0.pair.rxRecs with
  | [] => .next s0
  | r :: rest =>
    if byteAt r 0 ≠ 7 then .next s0
    else
      let s1 : State := { s0 with pair := { s0.pair with rxRecs := rest } }
      if !s1.is R.PAIR_CTL_MODE || s1.side == sideOff then .next s1
      else
        let s2 := s1.mirrorSeq r
        let phase := byteAt r 8
        if phase = 0 ∧ s2.side = sideActive then .next (s2.resyncAsked agree)
        else if phase = 1 ∧ s2.side = sideSyncing then .next { s2 with pair := { s2.pair with resyncR := some (fld r 16 8) } }
        else .next s2

end Sys2Proof.Machine
end

