-- ==== Sys2Proof/Machine/Dispatch.lean ====
section
/-!
DEFINITION. Which meaning each command has: one arm per constructor of `Instr`, each a direct call.
-/

namespace Sys2Proof.Machine

def exec (i : Instr) (s : State) : Host.Outcome State Fault Refusal :=
  match i with
  | .draftAdmit t => Sys2Proof.Machine.execDraftAdmit t s
  | .draftStart t => Sys2Proof.Machine.execDraftStart t s
  | .draftStop t => Sys2Proof.Machine.execDraftStop t s
  | .draftAbort => Sys2Proof.Machine.execDraftAbort s
  | .draftScpData value => Sys2Proof.Machine.execDraftScpData value s
  | .checkComplete t => Sys2Proof.Machine.execCheckComplete t s
  | .draftRunning t => Sys2Proof.Machine.execDraftRunning t s
  | .stoppingEnd t => Sys2Proof.Machine.execStoppingEnd t s
  | .spanStart span t => Sys2Proof.Machine.execSpanStart span t s
  | .spanFinal span t => Sys2Proof.Machine.execSpanFinal span t s
  | .spanDeadline span t => Sys2Proof.Machine.execSpanDeadline span t s
  | .passStart ply t => Sys2Proof.Machine.execPassStart ply t s
  | .injectionResume ply cycles => Sys2Proof.Machine.execInjectionResume ply cycles s
  | .passInjected ply => Sys2Proof.Machine.execPassInjected ply s
  | .mergeDone ply => Sys2Proof.Machine.execMergeDone ply s
  | .replayDone ply cycles => Sys2Proof.Machine.execReplayDone ply cycles s
  | .passCommit ply t => Sys2Proof.Machine.execPassCommit ply t s
  | .bufferRelease ply => Sys2Proof.Machine.execBufferRelease ply s
  | .dumpStateWrite => Sys2Proof.Machine.execDumpStateWrite s
  | .testStart knot seed => Sys2Proof.Machine.execTestStart knot seed s
  | .testAbort knot => Sys2Proof.Machine.execTestAbort knot s
  | .selfTestDone knot cells t => Sys2Proof.Machine.execSelfTestDone knot cells t s
  | .testPower sect on => Sys2Proof.Machine.execTestPower sect on s
  | .sectionPowerGood sect => Sys2Proof.Machine.execSectionPowerGood sect s
  | .sectionPowerTimeout sect => Sys2Proof.Machine.execSectionPowerTimeout sect s
  | .powerGoodLost sect => Sys2Proof.Machine.execPowerGoodLost sect s
  | .sectionDrained sect => Sys2Proof.Machine.execSectionDrained sect s
  | .foxSubmit => Sys2Proof.Machine.execFoxSubmit s
  | .batchChecked ext t => Sys2Proof.Machine.execBatchChecked ext t s
  | .foxClear => Sys2Proof.Machine.execFoxClear s
  | .intervalInUse late t => Sys2Proof.Machine.execIntervalInUse late t s
  | .tableComplete interval => Sys2Proof.Machine.execTableComplete interval s
  | .foxStalePop => Sys2Proof.Machine.execFoxStalePop s
  | .retractionSend dest n t => Sys2Proof.Machine.execRetractionSend dest n t s
  | .withdrawalWrite t => Sys2Proof.Machine.execWithdrawalWrite t s
  | .settledWrite t => Sys2Proof.Machine.execSettledWrite t s
  | .beamPassStart ply t => Sys2Proof.Machine.execBeamPassStart ply t s
  | .beamComplete ply beam t => Sys2Proof.Machine.execBeamComplete ply beam t s
  | .beamPassEmitted ply => Sys2Proof.Machine.execBeamPassEmitted ply s
  | .steeringBuildDone ply cycles => Sys2Proof.Machine.execSteeringBuildDone ply cycles s
  | .beamPageHeader t => Sys2Proof.Machine.execBeamPageHeader t s
  | .nop spin t => Sys2Proof.Machine.execNop spin t s
  | .rpt spin t => Sys2Proof.Machine.execRpt spin t s
  | .jmp spin t => Sys2Proof.Machine.execJmp spin t s
  | .br spin t => Sys2Proof.Machine.execBr spin t s
  | .jal spin t => Sys2Proof.Machine.execJal spin t s
  | .jr spin t => Sys2Proof.Machine.execJr spin t s
  | .blk spin t => Sys2Proof.Machine.execBlk spin t s
  | .evt spin t => Sys2Proof.Machine.execEvt spin t s
  | .salu spin t => Sys2Proof.Machine.execSalu spin t s
  | .salui spin t => Sys2Proof.Machine.execSalui spin t s
  | .ssh spin t => Sys2Proof.Machine.execSsh spin t s
  | .smul spin t => Sys2Proof.Machine.execSmul spin t s
  | .sget spin t => Sys2Proof.Machine.execSget spin t s
  | .aset spin t => Sys2Proof.Machine.execAset spin t s
  | .aget spin t => Sys2Proof.Machine.execAget spin t s
  | .lds spin t => Sys2Proof.Machine.execLds spin t s
  | .sts spin t => Sys2Proof.Machine.execSts spin t s
  | .vld spin t => Sys2Proof.Machine.execVld spin t s
  | .vst spin t => Sys2Proof.Machine.execVst spin t s
  | .vldb spin t => Sys2Proof.Machine.execVldb spin t s
  | .pin spin t => Sys2Proof.Machine.execPin spin t s
  | .pout spin t => Sys2Proof.Machine.execPout spin t s
  | .pseek spin t => Sys2Proof.Machine.execPseek spin t s
  | .vadd spin t => Sys2Proof.Machine.execVadd spin t s
  | .vsub spin t => Sys2Proof.Machine.execVsub spin t s
  | .vbf spin t => Sys2Proof.Machine.execVbf spin t s
  | .vmul spin t => Sys2Proof.Machine.execVmul spin t s
  | .vshr spin t => Sys2Proof.Machine.execVshr spin t s
  | .vshl spin t => Sys2Proof.Machine.execVshl spin t s
  | .vperm spin t => Sys2Proof.Machine.execVperm spin t s
  | .vbcs spin t => Sys2Proof.Machine.execVbcs spin t s
  | .vcvt spin t => Sys2Proof.Machine.execVcvt spin t s
  | .vlut spin t => Sys2Proof.Machine.execVlut spin t s
  | .vmac spin t => Sys2Proof.Machine.execVmac spin t s
  | .vmacp spin t => Sys2Proof.Machine.execVmacp spin t s
  | .vacr spin t => Sys2Proof.Machine.execVacr spin t s
  | .vacl spin t => Sys2Proof.Machine.execVacl spin t s
  | .vsrch spin t => Sys2Proof.Machine.execVsrch spin t s
  | .vstat spin t => Sys2Proof.Machine.execVstat spin t s
  | .vstatf spin t => Sys2Proof.Machine.execVstatf spin t s
  | .vrqs spin t => Sys2Proof.Machine.execVrqs spin t s
  | .vnco spin t => Sys2Proof.Machine.execVnco spin t s
  | .stallResume spin t => Sys2Proof.Machine.execStallResume spin t s
  | .flushLate spin t => Sys2Proof.Machine.execFlushLate spin t s
  | .inVector spin t => Sys2Proof.Machine.execInVector spin t s
  | .spinSwap spin => Sys2Proof.Machine.execSpinSwap spin s
  | .spinForceSwap spin t => Sys2Proof.Machine.execSpinForceSwap spin t s
  | .forcedImageStart spin t => Sys2Proof.Machine.execForcedImageStart spin t s
  | .spinProgData spin word => Sys2Proof.Machine.execSpinProgData spin word s
  | .progCommit spin entry => Sys2Proof.Machine.execProgCommit spin entry s
  | .spinLmemData spin value write => Sys2Proof.Machine.execSpinLmemData spin value write s
  | .spinGainData spin value => Sys2Proof.Machine.execSpinGainData spin value s
  | .zoomSample engine t => Sys2Proof.Machine.execZoomSample engine t s
  | .swapArm engine t => Sys2Proof.Machine.execSwapArm engine t s
  | .swapCancel engine => Sys2Proof.Machine.execSwapCancel engine s
  | .zoomSwap engine t => Sys2Proof.Machine.execZoomSwap engine t s
  | .zoomCoefData engine value => Sys2Proof.Machine.execZoomCoefData engine value s
  | .signalPresent lane t => Sys2Proof.Machine.execSignalPresent lane t s
  | .adaptDone lane eye ctle taps t => Sys2Proof.Machine.execAdaptDone lane eye ctle taps t s
  | .commaFound lane t => Sys2Proof.Machine.execCommaFound lane t s
  | .commaInterval lane blk reads t => Sys2Proof.Machine.execCommaInterval lane blk reads t s
  | .headerErrorLimit lane t => Sys2Proof.Machine.execHeaderErrorLimit lane t s
  | .signalLost lane t => Sys2Proof.Machine.execSignalLost lane t s
  | .laneRelock lane => Sys2Proof.Machine.execLaneRelock lane s
  | .blockReceive lane blk reads t => Sys2Proof.Machine.execBlockReceive lane blk reads t s
  | .txBlock lane t => Sys2Proof.Machine.execTxBlock lane t s
  | .laneTxFfe lane pre post => Sys2Proof.Machine.execLaneTxFfe lane pre post s
  | .hankCtl hank value t => Sys2Proof.Machine.execHankCtl hank value t s
  | .hankPllLock hank t => Sys2Proof.Machine.execHankPllLock hank t s
  | .hankPllTimeout hank t => Sys2Proof.Machine.execHankPllTimeout hank t s
  | .hankPllLoss hank t => Sys2Proof.Machine.execHankPllLoss hank t s
  | .frameHeader lane t => Sys2Proof.Machine.execFrameHeader lane t s
  | .frameTrailer lane t => Sys2Proof.Machine.execFrameTrailer lane t s
  | .frameTruncated lane t => Sys2Proof.Machine.execFrameTruncated lane t s
  | .creditReceive lane t => Sys2Proof.Machine.execCreditReceive lane t s
  | .creditSend lane t => Sys2Proof.Machine.execCreditSend lane t s
  | .frameTransmit lane t => Sys2Proof.Machine.execFrameTransmit lane t s
  | .classDrainDone t => Sys2Proof.Machine.execClassDrainDone t s
  | .frameGapPop => Sys2Proof.Machine.execFrameGapPop s
  | .meshRequest lane t => Sys2Proof.Machine.execMeshRequest lane t s
  | .completionReceive lane t => Sys2Proof.Machine.execCompletionReceive lane t s
  | .npTimeout t => Sys2Proof.Machine.execNpTimeout t s
  | .announceSend lane t => Sys2Proof.Machine.execAnnounceSend lane t s
  | .announceReceive lane t => Sys2Proof.Machine.execAnnounceReceive lane t s
  | .meshArm t => Sys2Proof.Machine.execMeshArm t s
  | .meshCancel => Sys2Proof.Machine.execMeshCancel s
  | .layoutApply t => Sys2Proof.Machine.execLayoutApply t s
  | .meshOperand lane t => Sys2Proof.Machine.execMeshOperand lane t s
  | .summaryReceive lane t => Sys2Proof.Machine.execSummaryReceive lane t s
  | .summaryTimeout span t => Sys2Proof.Machine.execSummaryTimeout span t s
  | .nodeLost node t => Sys2Proof.Machine.execNodeLost node t s
  | .heartbeatSend t => Sys2Proof.Machine.execHeartbeatSend t s
  | .heartbeatReceive lane t => Sys2Proof.Machine.execHeartbeatReceive lane t s
  | .arbiterTimeout t => Sys2Proof.Machine.execArbiterTimeout t s
  | .leaseEnd t => Sys2Proof.Machine.execLeaseEnd t s
  | .pairGrantEnd hi t => Sys2Proof.Machine.execPairGrantEnd hi t s
  | .mirrorRecord lane t => Sys2Proof.Machine.execMirrorRecord lane t s
  | .emittedSend t => Sys2Proof.Machine.execEmittedSend t s
  | .pairResync => Sys2Proof.Machine.execPairResync s
  | .resyncRecord lane agree t => Sys2Proof.Machine.execResyncRecord lane agree t s
  | .pairSolo => Sys2Proof.Machine.execPairSolo s
  | .standbySelfTest t => Sys2Proof.Machine.execStandbySelfTest t s
  | .badgerWatchdog t => Sys2Proof.Machine.execBadgerWatchdog t s
  | .badgerRestart => Sys2Proof.Machine.execBadgerRestart s
  | .memCommandCycle site pch cyc t banks err refreshDue => Sys2Proof.Machine.execMemCommandCycle site pch cyc t banks err refreshDue s
  | .rdWindow site t => Sys2Proof.Machine.execRdWindow site t s
  | .throttleEnd port => Sys2Proof.Machine.execThrottleEnd port s
  | .sitePowerGood site t verify => Sys2Proof.Machine.execSitePowerGood site t verify s
  | .sitePowerTimeout site => Sys2Proof.Machine.execSitePowerTimeout site s
  | .memProbe site => Sys2Proof.Machine.execMemProbe site s
  | .probeDone site pass => Sys2Proof.Machine.execProbeDone site pass s
  | .memTrainDly site dly all => Sys2Proof.Machine.execMemTrainDly site dly all s
  | .trainCommit site t => Sys2Proof.Machine.execTrainCommit site t s
  | .trainFail site => Sys2Proof.Machine.execTrainFail site s
  | .sweepDone site t => Sys2Proof.Machine.execSweepDone site t s
  | .tempReport site t temp => Sys2Proof.Machine.execTempReport site t temp s
  | .patrolScrub site err => Sys2Proof.Machine.execPatrolScrub site err s
  | .memRetire site sid t => Sys2Proof.Machine.execMemRetire site sid t s
  | .migrationDone site => Sys2Proof.Machine.execMigrationDone site s
  | .shedLevelChange site row t => Sys2Proof.Machine.execShedLevelChange site row t s
  | .storeAccess port addr len write data bad ext t => Sys2Proof.Machine.execStoreAccess port addr len write data bad ext t s
  | .walkDone n bad ext t => Sys2Proof.Machine.execWalkDone n bad ext t s
  | .invGo gen => Sys2Proof.Machine.execInvGo gen s
  | .invAll => Sys2Proof.Machine.execInvAll s
  | .invDone => Sys2Proof.Machine.execInvDone s
  | .mapBuildDone => Sys2Proof.Machine.execMapBuildDone s
  | .storeOpen => Sys2Proof.Machine.execStoreOpen s
  | .storeFaultPop => Sys2Proof.Machine.execStoreFaultPop s
  | .bar2Request write off len data bad ext t => Sys2Proof.Machine.execBar2Request write off len data bad ext t s
  | .refGate gates ticks t => Sys2Proof.Machine.execRefGate gates ticks t s
  | .refEdgeLoss cycle t => Sys2Proof.Machine.execRefEdgeLoss cycle t s
  | .wtrTick code t => Sys2Proof.Machine.execWtrTick code t s
  | .ppsEdge pps ns t => Sys2Proof.Machine.execPpsEdge pps ns t s
  | .ppsMissing pps t => Sys2Proof.Machine.execPpsMissing pps t s
  | .freqLock t => Sys2Proof.Machine.execFreqLock t s
  | .pullDone t => Sys2Proof.Machine.execPullDone t s
  | .timeSet hi t => Sys2Proof.Machine.execTimeSet hi t s
  | .timeStep hi t => Sys2Proof.Machine.execTimeStep hi t s
  | .timeNetAdj value t => Sys2Proof.Machine.execTimeNetAdj value t s
  | .netTimeout t => Sys2Proof.Machine.execNetTimeout t s
  | .xoFault t => Sys2Proof.Machine.execXoFault t s
  | .beaconSend lane t => Sys2Proof.Machine.execBeaconSend lane t s
  | .beaconReceive lane arrival t => Sys2Proof.Machine.execBeaconReceive lane arrival t s
  | .beaconChoice t => Sys2Proof.Machine.execBeaconChoice t s
  | .trigoutArm unit t => Sys2Proof.Machine.execTrigoutArm unit t s
  | .trigoutCancel unit => Sys2Proof.Machine.execTrigoutCancel unit s
  | .trigoutPulse unit t => Sys2Proof.Machine.execTrigoutPulse unit t s
  | .triginEdge pin t => Sys2Proof.Machine.execTriginEdge pin t s
  | .triginPop => Sys2Proof.Machine.execTriginPop s
  | .denTick => Sys2Proof.Machine.execDenTick s
  | .denPpsEdge pps => Sys2Proof.Machine.execDenPpsEdge pps s
  | .tapSample unit t => Sys2Proof.Machine.execTapSample unit t s
  | .capWptrAdvance stream t => Sys2Proof.Machine.execCapWptrAdvance stream t s
  | .captureFrameSend stream t => Sys2Proof.Machine.execCaptureFrameSend stream t s
  | .frameSkip stream t => Sys2Proof.Machine.execFrameSkip stream t s
  | .registerWrite master off w t => Sys2Proof.Machine.execRegisterWrite master off w t s
  | .rcRead master off t => Sys2Proof.Machine.execRcRead master off t s
  | .latchedLowRead master off t => Sys2Proof.Machine.execLatchedLowRead master off t s
  | .groupWrite master off w t => Sys2Proof.Machine.execGroupWrite master off w t s
  | .groupRead master off t => Sys2Proof.Machine.execGroupRead master off t s
  | .lockAcquire master target t => Sys2Proof.Machine.execLockAcquire master target t s
  | .lockGrant master t => Sys2Proof.Machine.execLockGrant master t s
  | .lockRelease master t => Sys2Proof.Machine.execLockRelease master t s
  | .lockExpiry master t => Sys2Proof.Machine.execLockExpiry master t s
  | .xbarTimeout master off t write => Sys2Proof.Machine.execXbarTimeout master off t write s
  | .dmaArm chan => Sys2Proof.Machine.execDmaArm chan s
  | .dmaDisable chan ext bad t => Sys2Proof.Machine.execDmaDisable chan ext bad t s
  | .descriptorFetch chan ext bad t => Sys2Proof.Machine.execDescriptorFetch chan ext bad t s
  | .descriptorComplete chan ext bad t => Sys2Proof.Machine.execDescriptorComplete chan ext bad t s
  | .dmaFailure chan err moved ext bad t => Sys2Proof.Machine.execDmaFailure chan err moved ext bad t s
  | .checkInit unit => Sys2Proof.Machine.execCheckInit unit s
  | .checkData unit word => Sys2Proof.Machine.execCheckData unit word s
  | .checkAliveIn unit value => Sys2Proof.Machine.execCheckAliveIn unit value s
  | .checkState unit high word => Sys2Proof.Machine.execCheckState unit high word s
  | .evtPend word value => Sys2Proof.Machine.execEvtPend word value s
  | .msixUnmask which value => Sys2Proof.Machine.execMsixUnmask which value s
  | .bar0Request write off len enables value t => Sys2Proof.Machine.execBar0Request write off len enables value t s
  | .completionTimeout read t => Sys2Proof.Machine.execCompletionTimeout read t s
  | .linkDown => Sys2Proof.Machine.execLinkDown s
  | .linkUp speed width => Sys2Proof.Machine.execLinkUp speed width s
  | .fnReset => Sys2Proof.Machine.execFnReset s
  | .d3hot on => Sys2Proof.Machine.execD3hot on s
  | .mgmtReceive frame ok held t => Sys2Proof.Machine.execMgmtReceive frame ok held t s
  | .mgmtTransmit ptp other t => Sys2Proof.Machine.execMgmtTransmit ptp other t s
  | .collision t => Sys2Proof.Machine.execCollision t s
  | .backoffExpiry t => Sys2Proof.Machine.execBackoffExpiry t s
  | .registerRequest late t => Sys2Proof.Machine.execRegisterRequest late t s
  | .mgmtTsPop dir => Sys2Proof.Machine.execMgmtTsPop dir s
  | .scpWrite cmd words t => Sys2Proof.Machine.execScpWrite cmd words t s
  | .scpRead cmd words t => Sys2Proof.Machine.execScpRead cmd words t s
  | .scpFetch cmd words t => Sys2Proof.Machine.execScpFetch cmd words t s
  | .scpSelRise nbits => Sys2Proof.Machine.execScpSelRise nbits s
  | .flashGo t => Sys2Proof.Machine.execFlashGo t s
  | .flashDone data => Sys2Proof.Machine.execFlashDone data s
  | .flashTimeout t => Sys2Proof.Machine.execFlashTimeout t s
  | .monFrame port t => Sys2Proof.Machine.execMonFrame port t s
  | .monBlock port t => Sys2Proof.Machine.execMonBlock port t s
  | .enterD1 force keep t => Sys2Proof.Machine.execEnterD1 force keep t s
  | .enterD2 force keep t => Sys2Proof.Machine.execEnterD2 force keep t s
  | .wakeFromD1 master t force keep => Sys2Proof.Machine.execWakeFromD1 master t force keep s
  | .ledgerDone t => Sys2Proof.Machine.execLedgerDone t s
  | .ledgerWaitTimeout t => Sys2Proof.Machine.execLedgerWaitTimeout t s
  | .warmReset t => Sys2Proof.Machine.execWarmReset t s
  | .fwReady t => Sys2Proof.Machine.execFwReady t s
  | .wakeTime t => Sys2Proof.Machine.execWakeTime t s
  | .denWakeN t => Sys2Proof.Machine.execDenWakeN t s
  | .wakeFrame frame ok t => Sys2Proof.Machine.execWakeFrame frame ok t s
  | .scpSelFall t => Sys2Proof.Machine.execScpSelFall t s
  | .perstRise t => Sys2Proof.Machine.execPerstRise t s
  | .supplyFault rail t => Sys2Proof.Machine.execSupplyFault rail t s
  | .causeClear => Sys2Proof.Machine.execCauseClear s
  | .hpEnFall t => Sys2Proof.Machine.execHpEnFall t s
  | .hpEnRise t => Sys2Proof.Machine.execHpEnRise t s
  | .tempSample die stack den t => Sys2Proof.Machine.execTempSample die stack den t s
  | .porNAssert => Sys2Proof.Machine.execPorNAssert s
  | .porNRelease t => Sys2Proof.Machine.execPorNRelease t s
  | .railsGood t => Sys2Proof.Machine.execRailsGood t s
  | .creelSweepDone => Sys2Proof.Machine.execCreelSweepDone s
  | .imageFetched image t => Sys2Proof.Machine.execImageFetched image t s
  | .bootRetry => Sys2Proof.Machine.execBootRetry s
  | .spdmRequest transport req => Sys2Proof.Machine.execSpdmRequest transport req s
  | .spdmResponse => Sys2Proof.Machine.execSpdmResponse s
  | .mboxGo len => Sys2Proof.Machine.execMboxGo len s
  | .trustMboxData master value write => Sys2Proof.Machine.execTrustMboxData master value write s
  | .fwUpdate t => Sys2Proof.Machine.execFwUpdate t s
  | .imageLoaded ext t => Sys2Proof.Machine.execImageLoaded ext t s
  | .fwReadyCore t => Sys2Proof.Machine.execFwReadyCore t s
  | .fwYield t => Sys2Proof.Machine.execFwYield t s
  | .fwStartTimeout t => Sys2Proof.Machine.execFwStartTimeout t s
  | .handoverTimeout t => Sys2Proof.Machine.execHandoverTimeout t s
  | .ledgerCommit t => Sys2Proof.Machine.execLedgerCommit t s
  | .commitDone ok => Sys2Proof.Machine.execCommitDone ok s
  | .ledgerData master value write => Sys2Proof.Machine.execLedgerData master value write s
  | .ledgerSample rails t => Sys2Proof.Machine.execLedgerSample rails t s
  | .partnerLost t => Sys2Proof.Machine.execPartnerLost t s
  | .arbiterLost t => Sys2Proof.Machine.execArbiterLost t s
  | .recordRetry unit t => Sys2Proof.Machine.execRecordRetry unit t s

end Sys2Proof.Machine
end

