-- ==== Sys2Proof/Safety.lean ====
section
/-!
DEFINITION. What claims speak of: a command that completes, the canonical form of the tables, what one state leaves of another.
-/

namespace Sys2Proof.Machine

/-- A meaning answers a next state, and `P` holds of it. -/
def Completes (o : Out) (P : State → Prop) : Prop := ∃ u, o = .next u ∧ P u

/-- The stacks' bytes are listed in canonical form: by strictly rising key, none that reads as an unlisted one does. -/
def Memory.wf (m : List Host.Cell) : Bool := Tab.wf 0#8 m

/-- The canonical form of what State holds as tables of registers, bytes and poison marks: equal contents are equal data. -/
def State.Canonical (s : State) : Prop :=
  Memory.wf s.mem = true ∧ Tab.wf false s.poison = true ∧ Tab.sortedFrom 0 s.regs = true

/-- Spindle `n` issues an instruction of opcode `op` at array time `t` (R201 to R203, R209): it runs, no stall holds it, it has
slots, the word at its PC has that opcode, and no repeat covers a control instruction. -/
def State.issues (s : State) (n t op : Nat) : Prop :=
  let c := (s.upTo t).spinCtx n
  c.sp.run = true ∧ c.sp.restart = none ∧ c.sp.stall = 0 ∧ c.slots ≠ [] ∧ c.w / 67108864 % 64 = op ∧
    ¬(c.sp.left ≠ 0 ∧ 1 ≤ op ∧ op ≤ 7)

end Sys2Proof.Machine
end

