-- ==== Sys2Proof/Certificates/Slice0/Obligations.lean ====
section
/-!
DEFINITION. The statements for the provers: where each command completes and with what state, and what holds of every step.
-/

open Sys2Proof Sys2Proof.Machine

/-- START, DRAFT_RUNNING, STOP and STOPPING_END complete (R68). START of an admitted Draft 100 ms or more ahead measures it, arms its
structures and leaves ARMED, or waits while another master holds the lock of a target that it writes; nearer it changes only the code,
0x0117, and stays ADMITTED. DRAFT_RUNNING at the start time leaves RUNNING with the staging range released; STOP leaves STOPPING with the
span at which it stops and only the patches already in force by then; STOPPING_END, when that span is done, leaves IDLE with no patch and no
stop span. Each state is the rule's changes applied to the state before, and nothing else. -/
def Obligations.DraftStartAndStop : Prop :=
  (∀ (s : State) (t : Nat) (d : Stream), s.dState = 2 → s.draft.admitted = some d →
    max s.now t + nsToT 100000000 ≤ s.get R.DRAFT_START_START → (s.upTo t).armLocked = false →
    Completes (exec (.draftStart t) s) fun u =>
      let s1 := ((s.upTo t).measureReset235.measure 2 4 0 d.digest).measure 3 5 0 d.tablesDigest
      let s2 := s1.withSections (fun a => (a.structArm d).put R.DRAFT_STATUS_STATE 3)
      let s3 := ((((s2.grantDraft.placeArm d.items).hanksArm d.items).classArm).spinsStart.zoomStart).foxStart
      u = ((s3.beginBuilds d.items ((localBeam d.items s3.node).map (·.idx)) s3.draft.base).ledCount 3).showPatches) ∧
  (∀ (s : State) (t : Nat) (d : Stream), s.dState = 2 → s.draft.admitted = some d →
    max s.now t + nsToT 100000000 ≤ s.get R.DRAFT_START_START → (s.upTo t).armLocked = true →
    Completes (exec (.draftStart t) s) fun u => u = { s.upTo t with xbar := { s.xbar with armWaits := true } }) ∧
  (∀ (s : State) (t : Nat) (d : Stream), s.dState = 2 → s.draft.admitted = some d →
    s.get R.DRAFT_START_START < max s.now t + nsToT 100000000 →
    Completes (exec (.draftStart t) s) fun u => u.dState = 2 ∧ u.draft = s.draft ∧ u.get R.DRAFT_REFUSE_CODE_CODE = 0x0117) ∧
  (∀ (s : State) (t : Nat), s.dState = 3 → s.draft.t0 ≤ max s.now t →
    Completes (exec (.draftRunning t) s) fun u =>
      let s1 := ((s.upTo t).stageRelease.toDraft 4).put R.DRAFT_SPAN_SPAN s.draft.base
      let s2 := (s1.spinsRun true).zoomRunning.sideRun.put R.FOX_STATUS_LOG_USED
        (foxLog s1.draft.struct (s1.get R.FOX_CTL_LOG_INTERVAL))
      s1.dState = 4 ∧ s1.draft.prot = none ∧ u = (s2.capStart s.draft.base).raise 0x1C2) ∧
  (∀ (s : State) (t : Nat), s.dState = 4 →
    Completes (exec (.draftStop t) s) fun u => u.dState = 5 ∧ u.draft.stopSpan = some (s.get R.DRAFT_SPAN_SPAN) ∧
      u.draft.patches = s.draft.patches.filter (fun p => decide (p.effSpan ≤ s.get R.DRAFT_SPAN_SPAN)) ∧
      u.draft.struct = s.draft.struct) ∧
  (∀ (s : State) (t S : Nat), s.dState = 5 → s.draft.stopSpan = some S → (s.upTo t).stopped S = true →
    Completes (exec (.stoppingEnd t) s) fun u =>
      let s1 := ((s.upTo t).endIntegs.cutWindows (fun _ _ => true)).capStop
      let s2 := s1.withSections (fun a => (a.setDraft (fun d => { d with stopSpan := none, patches := [] })).put R.DRAFT_STATUS_STATE 0)
      s2.dState = 0 ∧ s2.draft.stopSpan = none ∧ s2.draft.patches = [] ∧
        u = (((((s2.put R.DRAFT_SPAN_SPAN 0).showPatches.foxStop.spinsRun false).zoomRunning).sideStop)).raise 0x1C3)

/-- ADMIT, ABORT, STOP, CHECK_COMPLETE and DRAFT_SCP_DATA complete (R64, R65, R68). ADMIT in IDLE, ADMITTED or REFUSED leaves CHECKING with
the staged range protected, but refuses a stream that says it is a patch with 0x0115 and checks nothing; in RUNNING, with no patch check
under way, it starts the check of a patch. ABORT and STOP lead to the states that R68 gives and drop or keep the admitted stream;
CHECK_COMPLETE leaves ADMITTED with the decoded stream, or REFUSED with the code of the first check that fails; DRAFT_SCP_DATA, with the
range unprotected and the pointer inside it, writes its word to the staging range and moves the pointer on by one. -/
def Obligations.DraftControllerCommands : Prop :=
  (∀ (s : State) (t : Nat), s.dState = 0 ∨ s.dState = 2 ∨ s.dState = 6 → kindIs (s.upTo t).stagedKind.1 1 = false →
    Completes (exec (.draftAdmit t) s) fun u => u.dState = 1 ∧ u.draft.admitted = none ∧ u.draft.prot.isSome ∧
      u.get R.DRAFT_REFUSE_CODE_CODE = 0) ∧
  (∀ (s : State) (t : Nat), s.dState = 0 ∨ s.dState = 2 ∨ s.dState = 6 → kindIs (s.upTo t).stagedKind.1 1 = true →
    Completes (exec (.draftAdmit t) s) fun u => u.dState = (s.upTo t).stagedKind.2.dState ∧ u.draft = (s.upTo t).stagedKind.2.draft ∧
      u.get R.DRAFT_REFUSE_CODE_CODE = 0x0115) ∧
  (∀ (s : State) (t : Nat), s.dState = 4 → s.get R.DRAFT_STATUS_PCHECK = 0 → kindIs (s.upTo t).stagedKind.1 0 = false →
    Completes (exec (.draftAdmit t) s) fun u => u.get R.DRAFT_STATUS_PCHECK = 1 ∧ u.draft.prot.isSome ∧
      u.get R.DRAFT_REFUSE_CODE_CODE = 0) ∧
  (∀ s : State, s.dState = 1 →
    Completes (exec .draftAbort s) fun u => u.dState = 0 ∧ u.draft.admitted = none ∧ u.draft.prot = none ∧
      u.get R.DRAFT_REFUSE_CODE_CODE = 0x0119) ∧
  (∀ s : State, s.dState = 2 ∨ s.dState = 6 →
    Completes (exec .draftAbort s) fun u => u.dState = 0 ∧ u.draft.admitted = none ∧ u.draft.prot = none) ∧
  (∀ s : State, s.dState = 3 → Completes (exec .draftAbort s) fun u => u.dState = 2 ∧ u.draft = s.draft) ∧
  (∀ (s : State) (t : Nat), s.dState = 3 → Completes (exec (.draftStop t) s) fun u => u.dState = 2 ∧ u.draft = s.draft) ∧
  (∀ (s : State) (t : Nat), s.dState = 1 →
    Completes (exec (.checkComplete t) s) fun u =>
      match ((s.upTo t).checkAll false).1 with
      | .error r => u.dState = 6 ∧ u.draft.prot = none ∧ u.get R.DRAFT_REFUSE_CODE_CODE = r.code % 2 ^ 16
      | .ok d => u.dState = 2 ∧ u.draft.admitted = some d) ∧
  (∀ (s : State) (v : Nat), s.draft.prot = none → 4 * s.get R.DRAFT_SCP_PTR_PTR < s.stageLen →
    Completes (exec (.draftScpData v) s) fun u =>
      u = (s.storeWrite 34 (s.stageBase + 4 * s.get R.DRAFT_SCP_PTR_PTR) (leBytes 4 v)).1.wrap R.DRAFT_SCP_PTR_PTR 1)

/-- SPAN_START, SPAN_FINAL and SPAN_DEADLINE complete (R24, R132, R155). SPAN_START of the next span at its time applies what waits for the
span, opens its passes and starts its captures; SPAN_FINAL of the next span whose verdicts are in makes it final, sends its summary and
decides the passes that waited; SPAN_DEADLINE abandons the passes and beam passes whose deadline has come and drops their prefetches. -/
def Obligations.SpanCommands : Prop :=
  (∀ (s : State) (span t : Nat), s.spanning = true → span = s.get R.DRAFT_SPAN_SPAN + 1 → s.spanTime span ≤ max s.now t →
    Completes (exec (.spanStart span t) s) fun u =>
      let s1 := ((((s.upTo t).patchLate span).hostFlags (span - 1)).snapLimits (span - 1)).measureSpanEnd
      let s2 := s1.put R.DRAFT_SPAN_SPAN span
      let sp := (if s2.inDraft (span - 1) then s2.openPasses (span - 1) else s2).applyPatches span
      let s3 := if sp.inDraft (span - 1) then (sp.operandSend (span - 1)).fillAllLost (span - 1) else sp
      u = (s3.resyncSpan span).capSpan span) ∧
  (∀ (s : State) (span t : Nat), s.spanning = true →
    span = (if s.get R.PASS_FINAL_SPAN_SPAN = 2 ^ 64 - 1 then s.draft.base else s.get R.PASS_FINAL_SPAN_SPAN + 1) →
    span < s.get R.DRAFT_SPAN_SPAN → (s.upTo t).verdictsIn span = true →
    Completes (exec (.spanFinal span t) s) fun u =>
      let s1 := if span = s.draft.base then
          (enabledSlots (s.structAt span)).foldl (fun a x => a.exclude span allChans x 2) (s.upTo t)
        else s.upTo t
      let sn := if Tab.get false s1.mesh.sent (2 * span + 1) then s1
        else (s1.newSlots (span + 1)).foldl (fun a x => a.newSlotMissing (span + 1) x) s1
      let s2 := sn.summarySend span
      let s3 := s2.put R.PASS_FINAL_SPAN_SPAN span
      let ready := s3.pass.passes.filter (fun p => p.state == 3 && decide (p.last ≤ span))
      let waits := s2.pass.passes.any (fun p => p.state == 3 && decide (p.last ≤ span) &&
        decide (6 ≤ plyLevel (plyBody (s2.structAt span) p.ply)))
      u = if s2.remoteFinal span then (ready.foldl State.decide_ s3).beamFinal span else if waits then s2.meshEvt 5 else s2) ∧
  (∀ (s : State) (span t : Nat),
    Completes (exec (.spanDeadline span t) s) fun u =>
      let s0 := s.upTo t
      let due := fun (last chan : Nat) => decide (last ≤ span) &&
        decide (s0.spanTime (last + 1 + zoomRatio (s0.structAt last) chan) ≤ s0.now)
      let late := s.pass.passes.filter (fun p => decide (p.state < 5) && due p.last p.chan)
      let s1 := ((late.map (·.ply)).dedup).foldl State.dumpOwed
        (late.foldl State.abandon (s0.cancelPrefetch (fun _ chan last => due last chan)))
      let s2 := ((late.map (fun p => (p.ply, p.last))).dedup).foldl (fun a x =>
        let n := (late.filter (fun p => p.ply == x.1 && p.last == x.2)).length
        a.recordSlack x.1 (-((n : Rat) * passNs (s0.structAt x.2) x.1).floor)) s1
      u = ((s.beam.passes.filter (fun p => decide (p.state < 3) && due p.last p.chan)).foldl State.beamAbandon s2).sectionsMove)

/-- Each pass command takes the oldest pass of one stage to the next (R134, R136, R137, R153). PASS_START, PASS_INJECTED, MERGE_DONE,
REPLAY_DONE, PASS_COMMIT and BUFFER_RELEASE take the oldest pass of a ply in one stage to the next stage, with the drained and merged sums
that the stage makes, and no other pass changes; DUMP_STATE_WRITE marks the oldest dump that waits as complete in the store. -/
def Obligations.PassStages : Prop :=
  (∀ (s : State) (ply t : Nat) (p : Pass), s.pass.passes.find? (fun p => p.ply == ply && p.state == 0) = some p →
    (s.upTo t).mayStart (s.structAt p.last) p = true → (s.upTo t).remoteReady (s.structAt p.last) p = true →
    p.held = false → (s.upTo t).plyOn (plyBody (s.structAt p.last) ply) = true →
    Completes (exec (.passStart ply t) s) fun u =>
      let (q, s1) := (s.upTo t).fillPass (s.structAt p.last) p
      let s2 := (s1.setPass p q).bump R.PASS_MARKED_COUNT q.nmarked
      q.state = 1 ∧ q.ply = ply ∧ q.chan = p.chan ∧ q.span = p.span ∧ q.ord = p.ord ∧
        s2.pass.passes = updPass (· == p) (fun _ => q) s.pass.passes ∧
        u = (if q.nmarked = 0 then s2 else s2.passEvt 3).prefetch ply) ∧
  (∀ (s : State) (ply : Nat) (p : Pass), s.pass.passes.find? (fun p => p.ply == ply && p.state == 1) = some p → p.held = false →
    Completes (exec (.passInjected ply) s) fun u =>
      let (q, s1) := s.latePass (s.structAt p.last) p
      let (d, s2) := s1.inject (s.structAt p.last) q (fun _ => true)
      (s.stk.lateBad = [] → q = p ∧ s1 = s) ∧ u = s2.setPass p { q with state := 2, drained := d }) ∧
  (∀ (s : State) (ply : Nat) (p : Pass), s.pass.passes.find? (fun p => p.ply == ply && p.state == 2) = some p →
    s.isFinal p.last = false →
    Completes (exec (.mergeDone ply) s) fun u =>
      ∃ q : Pass, q.state = 3 ∧ q.drained = [] ∧
        q.work = mergeAll (accW (s.structAt p.last)) false
          (fun d => !p.spec && (excluded p.excl d.s || excluded p.excl d.t)) p.work (p.drained ++ (s.fromQueues ply).1) ∧
        u.pass.passes = updPass (· == p) (fun _ => q) s.pass.passes) ∧
  (∀ (s : State) (ply : Nat) (p : Pass), s.pass.passes.find? (fun p => p.ply == ply && p.state == 2) = some p →
    s.isFinal p.last = true →
    Completes (exec (.mergeDone ply) s) fun u =>
      ∃ (q : Pass) (v : State), q = { p with work := q.work, drained := [], nmarked := q.nmarked } ∧
        q.work = mergeAll (accW (s.structAt p.last)) false
          (fun d => !p.spec && (excluded p.excl d.s || excluded p.excl d.t)) p.work (p.drained ++ (s.fromQueues ply).1) ∧
        v.pass.passes = updPass (· == p) (fun _ => q) s.pass.passes ∧ u = v.decide_ q) ∧
  (∀ (s : State) (ply cycles : Nat) (p : Pass), s.pass.passes.find? (fun p => p.ply == ply && p.state == 4) = some p →
    p.held = false → s.plyOn (plyBody (s.structAt p.last) ply) = true →
    Completes (exec (.replayDone ply cycles) s) fun u =>
      ∃ q : Pass, q.state = 5 ∧
        (let (d, s0) := s.inject (s.structAt p.last) p (stepExcluded (s.structAt p.last) ply p.excl)
         q.work = mergeAll (accW (s.structAt p.last)) true (fun d => !(excluded p.excl d.s || excluded p.excl d.t)) p.work
          (d ++ (s0.fromQueues ply).1)) ∧
        u.pass.passes = updPass (· == p) (fun _ => q) s.pass.passes) ∧
  (∀ (s : State) (ply t : Nat) (p : Pass), s.pass.passes.find? (fun p => p.ply == ply && decide (p.state < 6)) = some p → p.state = 5 →
    Completes (exec (.passCommit ply t) s) fun u =>
      ∃ (q : Pass) (v : State), q.state = 6 ∧ q.work = [] ∧ q.ops = [] ∧ q.last = p.last ∧ q.ply = p.ply ∧ q.chan = p.chan ∧
        v.pass.passes = updPass (· == p) (fun _ => q) s.pass.passes ∧ u.pass.passes = (v.dumpOwed ply).pass.passes) ∧
  (∀ (s : State) (ply : Nat) (p : Pass),
    s.pass.passes.find? (fun p => p.ply == ply && p.state == 6 && (s.silent || !s.dumpWaits p)) = some p →
    Completes (exec (.bufferRelease ply) s) fun u => u.pass.passes = s.pass.passes.erase p) ∧
  (∀ (s : State) (d : StoreDump) (r : List StoreDump), s.pass.dumps = d :: r →
    Completes (exec .dumpStateWrite s) fun u =>
      u = ((({ s with pass := { s.pass with dumps := r } } : State).storeWrite 7 d.addr (putAt d.header 56 (leBytes 4 1))).1).itemSent
        d.dest d.item)

/-- TEST_START, TEST_ABORT and SELF_TEST_DONE of a knot (R125, R126). In a section that is ON: TEST_START of an idle knot that no ply of a
Draft past ADMITTED uses sets TEST_BUSY and the seed, of a used knot it sets TEST_REFUSED; TEST_ABORT clears TEST_BUSY, sets TEST_ABORTED
and counts the cycles driven. In a section that is not ON, TEST_START only sets OFFLINE_ACCESS. SELF_TEST_DONE of a knot under test gives
the number of failing cells, the first of them, and PASS or FAIL. Nothing but registers and the instants of tests and of busy cycles (and
for SELF_TEST_DONE the event and the pair's health) changes. -/
def Obligations.KnotSelfTests : Prop :=
  (∀ (s : State) (k seed : Nat), k < 1024 → s.pstate (k / 64) = 2 →
    (s.draftRuns = false ∨ knotPly s.draft.struct s.node k = none) →
    s.get1 R.KNOT_STATUS_TEST_BUSY k = 0 →
    Completes (exec (.testStart k seed) s) fun u => u.get1 R.KNOT_STATUS_TEST_BUSY k = 1 ∧ u.get1 R.KNOT_STATUS_TEST_PASS k = 0 ∧
      u.get1 R.KNOT_CTL_TEST_SEED k = seed % 256 ∧
      u = { s with regs := u.regs, loom := { s.loom with testAt := Tab.set 0 s.loom.testAt k s.now } }) ∧
  (∀ (s : State) (k seed : Nat), k < 1024 → s.pstate (k / 64) = 2 → s.draftRuns = true →
    (knotPly s.draft.struct s.node k).isSome = true →
    Completes (exec (.testStart k seed) s) fun u => u.get1 R.KNOT_STATUS_TEST_REFUSED k = 1 ∧
      u.get1 R.KNOT_STATUS_TEST_BUSY k = s.get1 R.KNOT_STATUS_TEST_BUSY k ∧ u = { s with regs := u.regs }) ∧
  (∀ (s : State) (k : Nat), k < 1024 → s.pstate (k / 64) = 2 → s.get1 R.KNOT_STATUS_TEST_BUSY k = 1 →
    Completes (exec (.testAbort k) s) fun u => u.get1 R.KNOT_STATUS_TEST_BUSY k = 0 ∧ u.get1 R.KNOT_STATUS_TEST_ABORTED k = 1 ∧
      u.get1 R.KNOT_ACTIVE_CYCLES k =
        (s.get1 R.KNOT_ACTIVE_CYCLES k + min 4096 (loomCycles (Tab.get 0 s.loom.testAt k) s.now)) % 2 ^ 32 ∧
      u = { s with regs := u.regs, loom := { s.loom with busy := u.loom.busy } }) ∧
  (∀ (s : State) (k seed : Nat), k < 1024 → s.pstate (k / 64) ≠ 2 →
    Completes (exec (.testStart k seed) s) fun u => u.get1 R.SECTION_EVT_OFFLINE_ACCESS (k / 64) = 1 ∧ u = { s with regs := u.regs }) ∧
  (∀ (s : State) (k : Nat) (cells : List Nat) (t : Nat), k < 1024 → s.get1 R.KNOT_STATUS_TEST_BUSY k = 1 →
    Completes (exec (.selfTestDone k cells t) s) fun u =>
      let bad := (List.range 1024).filter (fun c => cells.contains c)
      u.get1 R.KNOT_STATUS_TEST_BUSY k = 0 ∧ u.get1 R.KNOT_TEST_RESULT_FAILS k = bad.length ∧
      (bad = [] → u.get1 R.KNOT_STATUS_TEST_PASS k = 1) ∧ (bad ≠ [] → u.get1 R.KNOT_STATUS_TEST_FAIL k = 1) ∧
      (∀ c, bad.head? = some c → u.get1 R.KNOT_TEST_RESULT_FIRST k = c) ∧
      u = { s.upTo t with regs := u.regs, evt := u.evt, sent := u.sent, pair := u.pair, loom := { s.loom with busy := u.loom.busy } })

/-- The power commands of the sections complete (R109, R122, R127). TEST_POWER, SECTION_POWER_GOOD (which zeroes the section's cells),
SECTION_POWER_TIMEOUT, POWER_GOOD_LOST and SECTION_DRAINED move a section between its power states as R122 gives them; INJECTION_RESUME
counts the cycles of the hold and releases the ply's held pass, correlating or else beam, once its sections are ON, and no other pass
changes. -/
def Obligations.SectionPower : Prop :=
  (∀ (s : State) (S : Nat) (on : Bool), S < 16 →
    Completes (exec (.testPower S on) s) fun u => 
      u = s.withSections (fun a => (if on then a else a.abortTests S).put1 R.SECTION_CTL_TEST_POWER S (b2n on)) ∧
        u = { s with regs := u.regs, loom := { s.loom with busy := u.loom.busy } }) ∧
  (∀ (s : State) (S : Nat), S < 16 → s.pstate S = 1 →
    Completes (exec (.sectionPowerGood S) s) fun u => 
      u = (((s.zeroCells S).put1 R.SECTION_STATUS_PSTATE S 2).bump1 R.SECTION_PWR_COUNT_UPS S 1).sectionMove S ∧
        u = { s with regs := u.regs, loom := { (s.zeroCells S).loom with busy := u.loom.busy } }) ∧
  (∀ (s : State) (S : Nat), S < 16 → s.pstate S = 1 → Completes (exec (.sectionPowerTimeout S) s) fun u => u = s.sectionFault S) ∧
  (∀ (s : State) (S : Nat), S < 16 → s.pstate S = 2 ∨ s.pstate S = 3 →
    Completes (exec (.powerGoodLost S) s) fun u => u = s.sectionFault S) ∧
  (∀ (s : State) (S : Nat), S < 16 → s.pstate S = 3 →
    Completes (exec (.sectionDrained S) s) fun u => u = (s.put1 R.SECTION_STATUS_PSTATE S 0).sectionMove S ∧
      u = { s with regs := u.regs, loom := { s.loom with busy := u.loom.busy } }) ∧
  (∀ (s : State) (ply cycles : Nat) (p : Pass), s.pass.passes.find? (fun p => p.ply == ply && p.held) = some p →
    s.plyOn (plyBody (s.structAt p.last) ply) = true →
    Completes (exec (.injectionResume ply cycles) s) fun u =>
      u = (s.holdCount (plyBody (s.structAt p.last) ply) cycles).withPassList
        (fun l => l.map (fun (q : Pass) => if q = p then { q with held := false, t0 := s.now } else q))) ∧
  (∀ (s : State) (ply cycles : Nat) (p : BeamPass), s.pass.passes.find? (fun p => p.ply == ply && p.held) = none →
    s.beam.passes.find? (fun p => p.ply == ply && p.held) = some p →
    s.plyOn (plyBody (s.structAt p.last) ply) = true →
    Completes (exec (.injectionResume ply cycles) s) fun u =>
      let v := s.holdCount (plyBody (s.structAt p.last) ply) cycles
      u = { v with beam := { v.beam with passes := v.beam.passes.map (fun (q : BeamPass) => if q = p then { q with held := false, t0 := s.now } else q) } })

/-- Batches and phase tables of Fox: every command completes (R164, R165, R166, R169, R171). SUBMIT takes the batch address and sets
PENDING; BATCH_CHECKED accepts the batch or refuses it with the first error of R164; CLEAR empties the stored models while no Draft runs;
INTERVAL_IN_USE classifies the slots of the new interval; TABLE_COMPLETE stores the computed table and counts recomputations; STALE_POP
drops the oldest stale record. -/
def Obligations.FoxCommands : Prop :=
  (∀ (s : State), s.is R.FOX_STATUS_PENDING = false →
    Completes (exec .foxSubmit s) fun u => u.get R.FOX_STATUS_PENDING = 1 ∧ u.fox.batch = s.get R.FOX_BATCH_ADDR_ADDR / 64 * 64 ∧
      u.fox.models = s.fox.models ∧ u.fox.tables = s.fox.tables ∧ u = { s with regs := u.regs, fox := u.fox }) ∧
  (∀ (s : State) (ext : List Byte) (t : Nat), (s.upTo t).is R.FOX_STATUS_PENDING = true →
    let s1 := (s.upTo t).put R.FOX_STATUS_PENDING 0
    let h := s1.storeRead 34 s1.fox.batch 32 ext
    let n := fld h.data 12 2
    let r := h.st.storeRead 34 (s1.fox.batch + 32) (8 + 48 * n) (ext.drop 32)
    let b := h.data ++ r.data
    Completes (exec (.batchChecked ext t) s) fun u =>
      u = if h.status ≠ stOk ∨ h.poisoned = true then h.st.foxRefuse 7
        else if n = 0 ∨ 4096 < n then h.st.foxRefuse 2
        else if r.status ≠ stOk ∨ r.poisoned = true then r.st.foxRefuse 7
        else if r.st.foxErr b = 0 then (r.st.foxAccept b r.st.foxU).mirrorBatch b
        else r.st.foxRefuse (r.st.foxErr b)) ∧
  (∀ (s : State), s.draftRuns = false →
    Completes (exec .foxClear s) fun u => u = { s with fox := { s.fox with models := [] } }) ∧
  (∀ (s : State) (late : List Nat) (t : Nat), s.dState = 4 ∨ s.dState = 5 →
    Completes (exec (.intervalInUse late t) s) fun u =>
      u = if (s.upTo t).is R.FOX_CTL_ENABLE then (s.upTo t).foxInUse late s.foxNext else (s.upTo t).foxMark s.foxNext) ∧
  (∀ (s : State) (v : Nat) (d : FoxTable), s.fox.tables.find? (fun d => d.n == v) = some d →
    s.fox.tables.any (fun x => x.n + 1 == v && !(s.foxTodo x).isEmpty) = false →
    Completes (exec (.tableComplete v) s) fun u =>
      let d1 := (s.foxTodo d).foldl (fun a x => s.foxCompute x a) d
      u = ((s.foxPut { d1 with redo := [] }).bump R.FOX_RECOMPUTES_COUNT (d.redo.length * fineChannels s.draft.struct)).foxRun) ∧
  (∀ (s : State), Completes (exec .foxStalePop s) fun u => u.fox.stale = s.fox.stale.drop 1 ∧
      u.get R.FOX_STALE_CTL_COUNT = R.FOX_STALE_CTL_COUNT.trunc (s.fox.stale.length - 1) ∧ u = { s with regs := u.regs, fox := u.fox })

/-- RETRACTION_SEND, WITHDRAWAL_WRITE and SETTLED_WRITE complete (R172, R175, R176). RETRACTION_SEND takes up to 128 owed records of a
destination in order and advances its sequence by as many, as a frame or as a store page: a page that cannot be written is tried again, a
page of a side that must stay silent is held. WITHDRAWAL_WRITE writes the record of the first mark that has lost its evidence to each of its
streams, marks it withdrawn and raises TRIG_EVT.WITHDRAWN; SETTLED_WRITE writes a SETTLED record to every stream that may record one. -/
def Obligations.RetractionRecords : Prop :=
  (∀ (s : State) (dest n t : Nat), (owedTake dest (s.owedDb dest) (clampN 1 128 n) s.beam.owed).1 ≠ [] →
    destKind (s.owedDb dest) = 0 → (s.silent = true ∨ s.beam.held.any (fun h => h.dest == dest && h.ptype == 2) = false) →
    let x := owedTake dest (s.owedDb dest) (clampN 1 128 n) s.beam.owed
    Completes (exec (.retractionSend dest n t) s) fun u =>
      u.beam.owed = x.2 ∧ Tab.get 0 u.beam.rseq dest = Tab.get 0 s.beam.rseq dest + x.1.length) ∧
  (∀ (s : State) (dest n t : Nat), (owedTake dest (s.owedDb dest) (clampN 1 128 n) s.beam.owed).1 ≠ [] →
    destKind (s.owedDb dest) ≠ 0 → s.silent = false → s.beam.held.any (fun h => h.dest == dest && h.ptype == 2) = false →
    let x := owedTake dest (s.owedDb dest) (clampN 1 128 n) s.beam.owed
    let q := Tab.get 0 s.beam.rseq dest
    let recs := ((List.range x.1.length).zip x.1).flatMap (fun y => owedBytes y.2 (q + y.1) (max s.now t))
    let w := (s.upTo t).writePage dest (s.nextItem dest).1 (s.owedDb dest) 2 x.1.length recs none
    Completes (exec (.retractionSend dest n t) s) fun u =>
      if w.2 then u.beam.owed = x.2 ∧ u.beam.rseq = Tab.set 0 w.1.beam.rseq dest (q + x.1.length)
      else u = { w.1 with beam := { w.1.beam with retry := dest :: w.1.beam.retry.filter (· != dest) } }) ∧
  (∀ (s : State) (dest n t : Nat), (owedTake dest (s.owedDb dest) (clampN 1 128 n) s.beam.owed).1 ≠ [] →
    destKind (s.owedDb dest) ≠ 0 → s.silent = true →
    let x := owedTake dest (s.owedDb dest) (clampN 1 128 n) s.beam.owed
    let q := Tab.get 0 s.beam.rseq dest
    let recs := ((List.range x.1.length).zip x.1).flatMap (fun y => owedBytes y.2 (q + y.1) (max s.now t))
    Completes (exec (.retractionSend dest n t) s) fun u =>
      u.beam.owed = x.2 ∧ u.beam.held = s.beam.held ++ [⟨dest, s.owedDb dest, (s.nextItem dest).1, s.pass.heldSeq, 2, x.1.length, recs, none⟩] ∧
        u.beam.rseq = Tab.set 0 s.beam.rseq dest (q + x.1.length)) ∧
  (∀ (s : State) (dest n t : Nat), s.silent = false → s.beam.held.any (fun h => h.dest == dest && h.ptype == 2) = true →
    let v := (s.upTo t).retryHeld dest
    v.silent = false → v.beam.held.any (fun h => h.dest == dest && h.ptype == 2) = true →
    Completes (exec (.retractionSend dest n t) s) fun u => u = v) ∧
  (∀ (s : State) (t : Nat) (m : Mark) (span cl src : Nat) (late : Bool),
    (s.upTo t).cap.marks.findSome? (fun m => if m.gone then none else ((s.upTo t).markCause m).map (fun c => (m, c))) =
      some (m, span, cl, src, late) →
    Completes (exec (.withdrawalWrite t) s) fun u =>
      let r := ctlRec 4 (leBytes 2 m.unit ++ leBytes 4 m.mseq ++ leBytes 8 m.time ++ leBytes 2 cl ++ leBytes 2 src ++
        leBytes 1 (b2n (decide (m.kind ≠ 1)) + 2 * b2n late) ++ zeros 3 ++ leBytes 8 span)
      let ks := m.streams.filter (fun k => decide ((s.stream k).settled ≤ span))
      let s1 := (s.upTo t).withCap (fun c => { c with marks := c.marks.map (fun (x : Mark) =>
        if x = m then { x with withdrawn := true, streams := x.streams.filter (fun k => !ks.contains k) } else x) })
      let s2 := ks.foldl (fun a k => (a.ctlPut k r).drain k) s1
      u = if m.withdrawn then s2 else (s2.bump1 R.TRIG_WITHDRAWN_COUNT m.unit 1).trigEvt R.TRIG_EVT_WITHDRAWN m.unit) ∧
  (∀ (s : State) (t : Nat),
    Completes (exec (.settledWrite t) s) fun u =>
      u = ((s.capStreams.foldl (fun (a : State) k =>
        if a.mayRecord k then
          let a := match (a.stream k).gap with
            | none => a
            | some (_, _, f) => if f / a.capT ≤ (a.stream k).settled then a.gapClose k else a
          let x := a.stream k
          let r : CapRec := ⟨leBytes 1 5 ++ leBytes 1 2 ++ zeros 6 ++ leBytes 8 x.settled, 0, 0⟩
          ((a.setStream k { x with settled := x.settled + 1 }).ctlPut k r).drain k
        else a) (s.upTo t)).pruneMarks))

/-- Beam passes, steering builds and page headers: every command completes (R180, R182, R184, R189). BEAM_PASS_START, BEAM_COMPLETE,
BEAM_PASS_EMITTED take a beam pass through its stages with the sums and blocks it makes; a build that is not ready makes the pass wait with
event 0x0D1; STEERING_BUILD_DONE ends the build of a ply; BEAM_PAGE_HEADER writes the header of the oldest page with its CRC, and a failed
write loses or repeats it as its kind says. -/
def Obligations.BeamCommands : Prop :=
  (∀ (s : State) (ply t : Nat) (p : BeamPass), s.beam.passes.find? (fun p => p.ply == ply && p.state == 0) = some p →
    (s.upTo t).beamMayStart (s.structAt p.last) p = true → p.waited = false → p.held = false → s.buildLate ply p.last = false →
    s.plyOn (plyBody (s.structAt p.last) ply) = true →
    let l := s.structAt p.last
    let ops := (s.upTo t).beamOperands l p
    let q := { ops.1 with
      state := if (plyBeams l ply).isEmpty then 2 else 1, spec := !ops.2.isFinal p.last, t0 := ops.2.now, runs := [] }
    let v := ((ops.2.setBeam p q).loadShadow l q 0).weightBoundary l q 0
    Completes (exec (.beamPassStart ply t) s) fun u =>
      u = (if q.spec then v else v.owe (v.passOwes l q (fun _ => 1))).prefetchBeam ply) ∧
  (∀ (s : State) (ply t : Nat) (p : BeamPass), s.beam.passes.find? (fun p => p.ply == ply && p.state == 0) = some p →
    (s.upTo t).beamMayStart (s.structAt p.last) p = true → p.waited = false → p.held = false → s.buildLate ply p.last = true →
    Completes (exec (.beamPassStart ply t) s) fun u =>
      u = (((s.upTo t).setBeam p { p with waited := true, heldAt := max s.now t }).holdNote (plyBody (s.structAt p.last) ply)).beamEvt 1) ∧
  (∀ (s : State) (ply beam t : Nat) (p : BeamPass), s.beam.passes.find? (fun p => p.ply == ply && p.state == 1) = some p →
    let l := s.structAt p.last
    let s0 := (s.upTo t).lateOperands l 4 p.span p.chan p.last (plySlots l ply)
    let todo := ((plyBeams l ply).map (·.idx)).filter (fun b => !p.sums.any (fun x => x.1 == b))
    todo.contains beam = true → todo.any (fun b => decide (b < beam)) = false → p.held = false → s0.plyOn (plyBody l ply) = true →
    let ys := s0.beamSum l p beam
    let tag := s0.routeTag (beamTag beam) p.last
    let bl := s0.beamBlocks l p beam (2 * b2n p.spec + 4 * b2n tag) ys
    let q := { p with
      sums := p.sums ++ [(beam, ys)], data := p.data ++ bl.1.flatMap (·.2), out := true
      wins := p.wins ++ [(beam, Tab.get (0, 0) s0.beam.windows (winKey beam p.chan))], state := if todo.length == 1 then 2 else 1 }
    let s2 := (if tag then bl.2.useTag (beamTag beam) p.last else bl.2).setBeam p q
    let s3 := if s2.isFinal p.last then s2 else
      { s2 with beam := { s2.beam with early := Tab.set false s2.beam.early (earlyKey p.span p.chan beam) true } }
    let v := ((s3.tapBeam p (tOf l) beam ys).owedAhead (bmDest (beamBody l beam)) p.span).emitBeam l p beam bl.1
    Completes (exec (.beamComplete ply beam t) s) fun u => u = if todo.length == 1 then v.beamInjected l p else v) ∧
  (∀ (s : State) (ply : Nat) (p : BeamPass), s.beam.passes.find? (fun p => p.ply == ply && p.state == 2) = some p →
    (!s.silent && s.beamWaits (s.structAt p.last) p) = false →
    let s1 := (s.digest p.ply p.chan p.span (s.itemInStep (p.span - 1)) p.data).releaseBeams (s.structAt p.last) p
    let q := { p with state := 3, ops := [], sums := [], data := [] }
    Completes (exec (.beamPassEmitted ply) s) fun u =>
      u = (if s1.isFinal p.last then { s1 with beam := { s1.beam with passes := s1.beam.passes.erase p } } else s1.setBeam p q).sectionsMove) ∧
  (∀ (s : State) (ply cycles : Nat) (m : SteerMatrix), s.beam.builds.find? (fun b => b.ply == ply) = some m →
    Completes (exec (.steeringBuildDone ply cycles) s) fun u =>
      u.beam.builds = s.beam.builds.erase m ∧ u.beam.matrices = s.beam.matrices ++ [m] ∧
        ((s.beam.passes.find? (fun p => p.ply == ply && p.waited && p.state == 0) = none ∧ u.beam.passes = s.beam.passes) ∨
          ∃ p, s.beam.passes.find? (fun p => p.ply == ply && p.waited && p.state == 0) = some p ∧
            u.beam.passes = if u.buildLate ply p.last then s.beam.passes
              else updBeam (· == p) (fun _ => { p with waited := false }) s.beam.passes)) ∧
  (∀ (s : State) (t : Nat) (p : BeamPage) (r : List BeamPage), s.beam.pages = p :: r →
    let b := padTo 60 (p.hdr ++ leBytes 8 (max s.now t))
    let w := (s.upTo t).storeWrite 8 p.addr (b ++ leBytes 4 (crc32c b))
    let v := if byteAt p.hdr 0 = 1 then w.1 else w.1.noteRetry 8 p.addr 64 (w.2 != stOk)
    Completes (exec (.beamPageHeader t) s) fun u =>
      u = if w.2 = stOk then
          let a : State := { v with beam := { v.beam with
            pages := r, shown := Tab.set 0 v.beam.shown p.dest (p.pseq + 1), retry := v.beam.retry.filter (· != 65536) } }
          ((if byteAt p.hdr 0 = 1 then a.bump R.BEAM_FRAMES_COUNT 1 else a).itemPages p.dest p.item)
        else if byteAt p.hdr 0 = 1 then
          ((({ v with beam := { v.beam with pages := r } }.bump R.BEAM_STORE_LOST_COUNT 1).beamEvt 3).itemPages p.dest p.item)
        else { v with beam := { v.beam with retry := 65536 :: v.beam.retry.filter (· != 65536) } })

/-- Every spindle instruction but BLK and EVT completes where it issues (R209, R210, R211, R213, 08_spindles.md). For each of the 40
opcodes: where the spindle issues the opcode at time t, the command of its row answers the state that applies the meaning of that opcode to
the context of the spindle at t. -/
def Obligations.SpindleInstructions : Prop :=
  ∀ (s : State) (n t op : Nat) (i : Instr),
    (i, op) ∈ [(.nop n t, 0x00), (.rpt n t, 0x01), (.jmp n t, 0x02), (.br n t, 0x03), (.jal n t, 0x04), (.jr n t, 0x05),
      (.salu n t, 0x08), (.salui n t, 0x09), (.ssh n t, 0x0A), (.smul n t, 0x0B), (.sget n t, 0x0C), (.aset n t, 0x10),
      (.aget n t, 0x11), (.lds n t, 0x14), (.sts n t, 0x15), (.vld n t, 0x16), (.vst n t, 0x17), (.vldb n t, 0x18),
      (.pin n t, 0x1C), (.pout n t, 0x1D), (.pseek n t, 0x1E), (.vadd n t, 0x20), (.vsub n t, 0x21), (.vbf n t, 0x22),
      (.vmul n t, 0x23), (.vshr n t, 0x24), (.vshl n t, 0x25), (.vperm n t, 0x26), (.vbcs n t, 0x27), (.vcvt n t, 0x28),
      (.vlut n t, 0x29), (.vmac n t, 0x30), (.vmacp n t, 0x31), (.vacr n t, 0x32), (.vacl n t, 0x33), (.vsrch n t, 0x34),
      (.vstat n t, 0x35), (.vstatf n t, 0x36), (.vrqs n t, 0x37), (.vnco n t, (0x38 : Nat))] →
    s.issues n t op →
    Completes (exec i s) fun u =>
      let c := (s.upTo t).spinCtx n
      ∃ sem, semOf op = some sem ∧ u = (s.upTo t).applySem c (sem c)

/-- BLK and EVT complete where they issue (R209). BLK with a reserved field of zero closes the block and lets the capture taps take its
samples; EVT puts its code into PCODE and raises the program event of the spindle. -/
def Obligations.SpindleBlkEvt : Prop :=
  (∀ (s : State) (n t : Nat), s.issues n t 6 → ((s.upTo t).spinCtx n).sub = 0 →
    Completes (exec (.blk n t) s) fun u => u = ((s.upTo t).closeBlock ((s.upTo t).spinCtx n)).capPull) ∧
  (∀ (s : State) (n t : Nat), s.issues n t 7 → ((s.upTo t).spinCtx n).sub = 0 →
    Completes (exec (.evt n t) s) fun u =>
      let c := (s.upTo t).spinCtx n
      u = (((s.upTo t).setSpindle n (c.goOn c.sp none)).put1 R.SPIN_FAULT_PCODE n (c.b 0 8)).spinEvt R.SPIN_EVT_PROG_EVT n)

/-- Results of control, scalar and memory instructions of a spindle (R209, R210, R211, R213, 08_spindles.md). Where the spindle issues it
with its reserved fields zero, each form of NOP, RPT, JMP, BR, JAL, JR, SALU, SALUI, SSH, SMUL, ASET, AGET, LDS, STS, VLD and VST that is
named leaves the spindle with the one result register, memory entry or PC that R209 to R211 give, its address register updated, and
everything else in the machine as it was. -/
def Obligations.SpindleScalarResults : Prop :=
  ∀ (s : State) (n t : Nat),
    let c := (s.upTo t).spinCtx n
    let ends := fun (i : Instr) (sp : Spindle) (next : Option Nat) =>
      Completes (exec i s) fun u => u = (s.upTo t).setSpindle n (c.goOn sp next)
    let rd := c.b 22 4
    (s.issues n t 0 → c.sub = 0 → ends (.nop n t) c.sp none) ∧
    (s.issues n t 1 → c.sub = 0 → ends (.rpt n t)
      { c.sp with left := (if bit c.w 18 then c.sp.s rd % 65536 else c.b 0 16) + 1, iter := 0 } none) ∧
    (s.issues n t 2 → c.sub = 0 → c.b 12 4 = 0 → ends (.jmp n t) c.sp (some (c.b 0 12))) ∧
    (s.issues n t 3 → c.sub = 0 → c.b 12 4 = 0 → c.b 19 3 = 0 → ends (.br n t) c.sp (if sgn 32 (c.sp.s rd) = 0 then some (c.b 0 12) else none)) ∧
    (s.issues n t 3 → c.sub = 0 → c.b 12 4 = 0 → c.b 19 3 = 1 → ends (.br n t) c.sp (if sgn 32 (c.sp.s rd) ≠ 0 then some (c.b 0 12) else none)) ∧
    (s.issues n t 3 → c.sub = 0 → c.b 12 4 = 0 → c.b 19 3 = 2 → ends (.br n t) c.sp (if sgn 32 (c.sp.s rd) < 0 then some (c.b 0 12) else none)) ∧
    (s.issues n t 3 → c.sub = 0 → c.b 12 4 = 0 → c.b 19 3 = 3 → ends (.br n t) c.sp (if 0 ≤ sgn 32 (c.sp.s rd) then some (c.b 0 12) else none)) ∧
    (s.issues n t 4 → c.sub = 0 → c.b 12 4 = 0 → ends (.jal n t) (c.sp.setS 15 ((c.sp.pc + 1) % 4096)) (some (c.b 0 12))) ∧
    (s.issues n t 5 → c.sub = 0 → ends (.jr n t) c.sp (some (c.sp.s rd % 4096))) ∧
    (s.issues n t 8 → c.sub = 0 → c.b 0 12 = 0 → ends (.salu n t) (c.sp.setS rd (c.sa + c.sb)) none) ∧
    (s.issues n t 8 → c.sub = 1 → c.b 0 12 = 0 → ends (.salu n t) (c.sp.setS rd (c.sa + 4294967296 - c.sb)) none) ∧
    (s.issues n t 8 → c.sub = 2 → c.b 0 12 = 0 → ends (.salu n t) (c.sp.setS rd (andN 32 c.sa c.sb)) none) ∧
    (s.issues n t 8 → c.sub = 3 → c.b 0 12 = 0 → ends (.salu n t) (c.sp.setS rd (orN 32 c.sa c.sb)) none) ∧
    (s.issues n t 9 → c.sub = 0 → ends (.salui n t) (c.sp.setS rd (usgn 32 ((c.sa : Int) + sgn 16 (c.b 0 16)))) none) ∧
    (s.issues n t 9 → c.sub = 1 → ends (.salui n t) (c.sp.setS rd (andN 32 c.sa (c.b 0 16))) none) ∧
    (s.issues n t 9 → c.sub = 2 → ends (.salui n t) (c.sp.setS rd (orN 32 c.sa (c.b 0 16))) none) ∧
    (s.issues n t 9 → c.sub = 3 → ends (.salui n t) (c.sp.setS rd (c.b 0 16 * 65536 + c.sp.s rd % 65536)) none) ∧
    (s.issues n t 10 → c.sub = 0 → ends (.ssh n t) (c.sp.setS rd (c.sa * 2 ^ c.b 0 5)) none) ∧
    (s.issues n t 10 → c.sub = 1 → ends (.ssh n t) (c.sp.setS rd (c.sa / 2 ^ c.b 0 5)) none) ∧
    (s.issues n t 10 → c.sub = 2 → ends (.ssh n t) (c.sp.setS rd (usgn 32 (sgn 32 c.sa / (2 ^ c.b 0 5 : Int)))) none) ∧
    (s.issues n t 11 → c.sub = 0 → c.b 0 12 = 0 → ends (.smul n t) (c.sp.setS rd (c.sa * c.sb)) none) ∧
    (s.issues n t 16 → c.sub = 0 → ends (.aset n t) (c.sp.setA (c.b 22 3) (c.sa % 2 ^ c.aw)) none) ∧
    (s.issues n t 16 → c.sub = 1 → ends (.aset n t) (c.sp.setQ (c.b 22 3) c.sa) none) ∧
    (s.issues n t 16 → c.sub = 2 → ends (.aset n t) (c.sp.setM (c.b 22 3) (c.sa % 2 ^ c.aw)) none) ∧
    (s.issues n t 17 → c.sub = 0 → ends (.aget n t) (c.sp.setS rd (usgn 32 (sgn c.aw (c.sp.a (c.b 18 3))))) none) ∧
    (s.issues n t 17 → c.sub = 1 → ends (.aget n t) (c.sp.setS rd (c.sp.q (c.b 18 3))) none) ∧
    (s.issues n t 17 → c.sub = 2 → ends (.aget n t) (c.sp.setS rd (usgn 32 (sgn c.aw (c.sp.m (c.b 18 3))))) none) ∧
    (∀ x : Nat, s.issues n t 20 → c.addr (c.b 18 3) c.disp 4 = some x →
      ends (.lds n t) (c.update (c.sp.setS (c.b 21 4) (Tab.get 0 c.sp.lmem (x / 4))) (c.b 18 3) (c.b 16 2) (c.b 13 3) 4 false) none) ∧
    (∀ x : Nat, s.issues n t 21 → c.addr (c.b 18 3) c.disp 4 = some x →
      ends (.sts n t) (c.update (c.sp.st32 x (c.sp.s (c.b 21 4))) (c.b 18 3) (c.b 16 2) (c.b 13 3) 4 false) none) ∧
    (∀ x : Nat, s.issues n t 22 → c.addr (c.b 18 3) c.disp 64 = some x →
      ends (.vld n t) (c.update (c.sp.setV (c.b 21 5) (c.sp.ld64 x)) (c.b 18 3) (c.b 16 2) (c.b 13 3) 64 false) none) ∧
    (∀ x : Nat, s.issues n t 23 → c.addr (c.b 18 3) c.disp 64 = some x →
      ends (.vst n t) (c.update (c.sp.st64 x (c.sp.v (c.b 21 5))) (c.b 18 3) (c.b 16 2) (c.b 13 3) 64 false) none)

/-- Where a spindle instruction faults (R209, R226, 08_spindles.md). An opcode that R209 does not define faults with code 1; BLK under a
repeat faults with code 4; LDS at an address that is not a multiple of 4 faults with code 2: the fault is recorded with the PC and nothing
else of the instruction happens. -/
def Obligations.SpindleFaults : Prop :=
  (∀ (s : State) (n t : Nat), let c := (s.upTo t).spinCtx n
    c.sp.run = true → c.sp.restart = none → c.sp.stall = 0 → c.slots ≠ [] → spinDefined (c.w / 67108864 % 64) = false →
    Completes (exec (.nop n t) s) fun u => u = (s.upTo t).spinFault n 1) ∧
  (∀ (s : State) (n t : Nat), let c := (s.upTo t).spinCtx n
    c.sp.run = true → c.sp.restart = none → c.sp.stall = 0 → c.slots ≠ [] → c.w / 67108864 % 64 = 6 → c.sp.left ≠ 0 →
    Completes (exec (.blk n t) s) fun u => u = ((s.upTo t).spinFault n 4).capPull) ∧
  (∀ (s : State) (n t : Nat), s.issues n t 0x14 →
    ((s.upTo t).spinCtx n).addr (((s.upTo t).spinCtx n).b 18 3) ((s.upTo t).spinCtx n).disp 4 = none →
    Completes (exec (.lds n t) s) fun u => u = (s.upTo t).spinFault n 2)

/-- STALL_RESUME, FLUSH_LATE, IN_VECTOR and FORCED_IMAGE_START complete (R201, R204, R215, R225). STALL_RESUME carries out the stalled
instruction and counts the cycles of the stall; FLUSH_LATE excludes the slots of a spindle whose flush has not come 0.9 ms after the span's
end and flushes its tally; IN_VECTOR puts the next vector into the IN FIFO, drops it when the FIFO is full or passes over it;
FORCED_IMAGE_START starts the new image at its entry. -/
def Obligations.SpindleFlow : Prop :=
  (∀ (s : State) (n t : Nat) (sem : SCtx → SRes) (sp : Spindle) (sats : Nat) (nx : Option Nat) (fr : Bool),
    let c := (s.upTo t).spinCtx n
    c.sp.stall ≠ 0 → c.sp.restart = none → semOf (c.w / 67108864 % 64) = some sem → sem c = .done sp sats nx fr →
    Completes (exec (.stallResume n t) s) fun u =>
      let d := spinCycles (max s.now t - (s.spindle n).stallAt)
      let v := if (s.spindle n).stall = 1 then (s.upTo t).bump1 R.SPIN_STALL_IN_CYCLES n d
        else if (s.spindle n).stall = 2 ∨ (s.spindle n).stall = 3 then (s.upTo t).bump1 R.SPIN_STALL_OUT_CYCLES n d
        else s.upTo t
      u = v.applySem c (.done sp sats nx fr)) ∧
  (∀ (s : State) (n t : Nat),
    let span := s.flushNext (s.spindle n)
    let l := s.structAt span
    (s.spindle n).run = true → spinSlots l n ≠ [] → s.spanTime (span + 1) + nsToT 900000 ≤ max s.now t →
    Completes (exec (.flushLate n t) s) fun u =>
      u = ((spinSlots l n).foldl (fun a x => a.exclude span allChans x 2) ((s.upTo t).flushTally n span l)).cause1
        R.SPIN_BANK_EVT_FLUSH_LATE (n / 64) 0 (0x0A0 + n / 64)) ∧
  (∀ (s : State) (n t : Nat), (s.upTo t).inComes n = true →
    let sp := s.spindle n
    let w := (s.upTo t).inTake n
    let ahead := s.inAhead n
    Completes (exec (.inVector n t) s) fun u =>
      u = if sp.inBlk < sp.blk ∨ sp.drops.any (fun d => d.1 == sp.inBlk) = true then w.2.setSpindle n ahead
        else if 1024 ≤ sp.inq.length then
          ((w.2.setSpindle n { ahead with drops := sp.drops ++ [(sp.inBlk, sp.inIdx)] }).bump1 R.SPIN_VOID_IN_DROP n 1).spinEvt R.SPIN_EVT_IN_DROP n
        else w.2.setSpindle n { ahead with inq := sp.inq ++ [(sp.inBlk, w.1)] }) ∧
  (∀ (s : State) (n t r : Nat), (s.spindle n).restart = some r → r ≤ max s.now t →
    ((s.spindle n).blk < (s.spindle n).inBlk ∨ (s.spindle n).inBlk = (s.spindle n).blk ∧ 0 < (s.spindle n).inIdx) →
    Completes (exec (.forcedImageStart n t) s) fun u =>
      u = (s.upTo t).setSpindle n { s.spindle n with restart := none, pc := ((s.spindle n).bankNo (s.activeBank n)).entry })

/-- Program banks, local memory and gains of a spindle (R199, R202, R223, R224, R225). SPIN_SWAP, SPIN_FORCE_SWAP, SPIN_PROG_DATA,
PROG_COMMIT, SPIN_LMEM_DATA and SPIN_GAIN_DATA: a write reaches the inactive bank, the word or the gain that the address register selects
and no other; a write to the active bank or a swap that cannot be taken is refused and counted. -/
def Obligations.SpindlePrograms : Prop :=
  (∀ (s : State) (n : Nat), s.forceOk n = true → Completes (exec (.spinSwap n) s) fun u =>
      u.get1 R.SPIN_PROG_STATUS_SWAP_PENDING n = 1 ∧ u = { s with regs := u.regs }) ∧
  (∀ (s : State) (n : Nat), s.forceOk n = false → Completes (exec (.spinSwap n) s) fun u => u = s.spinRefuse n) ∧
  (∀ (s : State) (n t : Nat), s.forceOk n = true → Completes (exec (.spinForceSwap n t) s) fun u =>
      u = ((s.upTo t).mirror 4 (leBytes 2 n ++ zeros 6 ++ leBytes 8 (s.spindle n).blk)).forceSwap n) ∧
  (∀ (s : State) (n w : Nat),
    let b := s.get1 R.SPIN_PROG_ADDR_BANK n
    let k := s.get1 R.SPIN_PROG_ADDR_WORD n
    b ≠ s.activeBank n → (s.spindle n).swapSpan = none →
    Completes (exec (.spinProgData n w) s) fun u =>
      ((u.spindle n).bankNo b).words = Tab.set 0 ((s.spindle n).bankNo b).words k (w % 4294967296) ∧
      (b = 0 → (u.spindle n).bank1 = (s.spindle n).bank1) ∧ (b = 1 → (u.spindle n).bank0 = (s.spindle n).bank0) ∧ u.get1 (validField b) n = 0 ∧
      u = { s with regs := u.regs, spin := u.spin }) ∧
  (∀ (s : State) (n w : Nat), s.get1 R.SPIN_PROG_ADDR_BANK n = s.activeBank n → Completes (exec (.spinProgData n w) s) fun u =>
      u = (s.put1 R.SPIN_PROG_STATUS_BUSY n 1).spinRefuse n) ∧
  (∀ (s : State) (n e : Nat), (s.spindle n).swapSpan = none →
    let b := 1 - s.activeBank n
    Completes (exec (.progCommit n e) s) fun u =>
      (u.spindle n).bankNo b = { (s.spindle n).bankNo b with
        entry := e % 4096, flags := ((s.spindle n).bankNo (s.activeBank n)).flags, dataAt := 0, data := [] } ∧
      u.get1 (validField b) n = 1 ∧ u = { s with regs := u.regs, spin := u.spin }) ∧
  (∀ (s : State) (n v : Nat), Completes (exec (.spinLmemData n v true) s) fun u =>
      (u.spindle n).lmem = Tab.set 0 (s.spindle n).lmem (s.get1 R.SPIN_LMEM_ADDR_WORD n) (v % 4294967296) ∧
      u = { s with regs := u.regs, spin := u.spin }) ∧
  (∀ (s : State) (n v : Nat), Completes (exec (.spinLmemData n v false) s) fun u =>
      u.sent = s.sent ++ [.regRead 0 (R.SPIN_LMEM_DATA_DATA.addr + n * R.SPIN_LMEM_DATA_DATA.s1)
        (Tab.get 0 (s.spindle n).lmem (s.get1 R.SPIN_LMEM_ADDR_WORD n))] ∧ u = { s with regs := u.regs, sent := u.sent }) ∧
  (∀ (s : State) (n v : Nat), Completes (exec (.spinGainData n v) s) fun u =>
      (u.spindle n).gains = Tab.set 32767 (s.spindle n).gains (s.get1 R.SPIN_GAIN_ADDR_INDEX n) (v % 4294967296) ∧
      u = { s with regs := u.regs, spin := u.spin })

/-- Zoom engines: samples, swaps and coefficient writes complete (R236, R241, R242). ZOOM_SAMPLE takes the next coarse sample of a running
engine; SWAP_ARM and SWAP_CANCEL set and clear the armed time, a time already past is late; ZOOM_SWAP swaps at its sample; ZOOM_COEF_DATA
writes an 18-bit coefficient of the inactive bank, and is refused for the active one or while a patch holds the engine, the index moving on
in each case. -/
def Obligations.ZoomCommands : Prop :=
  (∀ (s : State) (e t : Nat),
    let n := Tab.get 0 s.zoom.next e
    let l := s.structAt (s.coarseSpan n)
    s.zoomRuns l e = true → s.coarseTime n ≤ max s.now t →
    Completes (exec (.zoomSample e t) s) fun u => u = (s.upTo t).zoomTake l e n ∧ Tab.get 0 u.zoom.next e = n + 1) ∧
  (∀ (s : State) (e t : Nat),
    let n := Tab.get 0 s.zoom.next e
    let l := s.structAt (s.coarseSpan n)
    s.zoomRuns l e = true →
    Completes (exec (.zoomSwap e t) s) fun u => u = (s.upTo t).zoomSwapAt l e (n / max 1 (zR (zoomBody l e)))) ∧
  (∀ (s : State) (e t : Nat),
    let w := s.get1 R.ZOOM_SWAP_TIME_TIME e
    Completes (exec (.swapArm e t) s) fun u => u.get1 R.ZOOM_STATUS_SWAP_PENDING e = 1 ∧
      Tab.get 0 u.zoom.armed e = (if w < max s.now t then 0 else w + 1) ∧
      (w < max s.now t → u.get1 R.ZOOM_FLAGS_SWAP_LATE e = 1) ∧
      u = { s with regs := u.regs, now := max s.now t, zoom := { s.zoom with armed := u.zoom.armed } }) ∧
  (∀ (s : State) (e : Nat),
    Completes (exec (.swapCancel e) s) fun u => u.get1 R.ZOOM_STATUS_SWAP_PENDING e = 0 ∧ Tab.get 0 u.zoom.armed e = 0 ∧
      u = { s with regs := u.regs, zoom := { s.zoom with armed := u.zoom.armed } }) ∧
  (∀ (s : State) (e v : Nat),
    let b := s.get1 R.ZOOM_COEF_ADDR_BANK e
    let k := s.get1 R.ZOOM_COEF_ADDR_INDEX e
    b ≠ s.get1 R.ZOOM_STATUS_ACTIVE_BANK e → s.zoomPatched e = false →
    Completes (exec (.zoomCoefData e v) s) fun u => u.zoom.coef = Tab.set 0 s.zoom.coef (coefKey e b k) (v % 262144) ∧
      u = { s with regs := u.regs, zoom := { s.zoom with coef := u.zoom.coef } }) ∧
  (∀ (s : State) (e v : Nat),
    s.get1 R.ZOOM_COEF_ADDR_BANK e = s.get1 R.ZOOM_STATUS_ACTIVE_BANK e ∨ s.zoomPatched e = true →
    Completes (exec (.zoomCoefData e v) s) fun u => u.get1 R.ZOOM_FLAGS_COEF_REFUSED e = 1 ∧
      u.get1 R.ZOOM_COEF_ADDR_INDEX e = R.ZOOM_COEF_ADDR_INDEX.trunc (s.get1 R.ZOOM_COEF_ADDR_INDEX e + 1) ∧ u = { s with regs := u.regs })

/-- The receiver of a lane: every command completes (R260, R261). SIGNAL_PRESENT, ADAPT_DONE, COMMA_FOUND, COMMA_INTERVAL,
HEADER_ERROR_LIMIT, SIGNAL_LOST, LANE_RELOCK and BLOCK_RECEIVE take the receiver through the states of R260 and R261: four commas in place
lock it, four missed ones or 64 bad headers lose the lock, PRBS bits are checked, and blocks inside an interval are taken. -/
def Obligations.LaneReceivers : Prop :=
  (∀ (s : State) (l t : Nat), s.laneState l = 1 → s.is1 R.LANE_STATUS_SIGNAL l = false →
    Completes (exec (.signalPresent l t) s) fun u =>
      u = ((s.upTo t).setLane l { s.lane l with sigAt := max s.now t }).put1 R.LANE_STATUS_SIGNAL l 1) ∧
  (∀ (s : State) (l t : Nat), s.laneState l = 1 → s.is1 R.LANE_STATUS_SIGNAL l = true →
    (s.lane l).sigAt + nsToT 10000 ≤ max s.now t →
    Completes (exec (.signalPresent l t) s) fun u => u = (s.upTo t).laneTo_ l 2) ∧
  (∀ (s : State) (l eye ctle t : Nat) (taps : List Nat), s.laneState l = 2 ∨ s.laneState l = 4 ∨ s.laneState l = 5 →
    Completes (exec (.adaptDone l eye ctle taps t) s) fun u =>
      let fields := [R.LANE_DFE_TAP0, R.LANE_DFE_TAP1, R.LANE_DFE_TAP2, R.LANE_DFE_TAP3]
      let s1 := if s.is1 R.LANE_CTL_FREEZE l = true then s.upTo t
        else forN 12 (fun k a => a.put2 (fields.getD (k % 4) R.LANE_DFE_TAP0) l (k / 4) (taps.getD k 0))
          ((s.upTo t).put1 R.LANE_RX_EQ_CTLE l ctle)
      let s2 := s1.put1 R.LANE_RX_EQ_EYE l eye
      u = if s.laneState l ≠ 2 ∨ s2.is1 R.LANE_CTL_RX_PRBS l = true then s2 else s2.laneTo_ l 3) ∧
  (∀ (s : State) (l t : Nat), s.laneState l = 3 →
    Completes (exec (.commaFound l t) s) fun u =>
      let s1 := (s.upTo t).laneTo_ l 4
      u = s1.setLane l { s1.lane l with count := 1, descr := 0 }) ∧
  (∀ (s : State) (l blk reads t : Nat), s.laneState l = 4 → (s.lane l).pos = 1023 →
    Completes (exec (.commaInterval l blk reads t) s) fun u =>
      let x := s.lane l
      let b := s.rxBits l blk
      let s1 := ((s.upTo t).setLane l { x with pos := 0, count := x.count + 1 }).takeBlock l b reads true
      u = if (b == 4 * commaPayload + 2) = false then (s.upTo t).laneTo_ l 3 else if x.count = 3 then s1.lockGained l else s1) ∧
  (∀ (s : State) (l blk reads t : Nat), s.laneState l = 5 → (s.lane l).pos = 1023 →
    Completes (exec (.commaInterval l blk reads t) s) fun u =>
      let x := s.lane l
      let b := s.rxBits l blk
      let comma := b == 4 * commaPayload + 2
      let s1 := ((s.upTo t).setLane l { x with pos := 0, hdrErr := 0, misses := if comma then 0 else x.misses + 1 }).takeBlock l b reads true
      let s2 := if comma then s1 else s1.bump1 R.LANE_ERR_CTRL_COMMA_MISS l 1
      u = if !comma ∧ x.misses = 3 then (s2.lockLost l false).laneTo_ l 3 else s2) ∧
  (∀ (s : State) (l t : Nat), s.locked l = true → 64 ≤ (s.lane l).hdrErr →
    Completes (exec (.headerErrorLimit l t) s) fun u => u = ((s.upTo t).lockLost l false).laneTo_ l 3) ∧
  (∀ (s : State) (l t : Nat), s.laneState l ≠ 0 →
    Completes (exec (.signalLost l t) s) fun u => u = (((s.upTo t).lockLost l false).put1 R.LANE_STATUS_SIGNAL l 0).laneTo_ l 1) ∧
  (∀ (s : State) (l : Nat), 2 ≤ s.laneState l →
    Completes (exec (.laneRelock l) s) fun u => u = (s.lockLost l false).laneTo_ l 2) ∧
  (∀ (s : State) (l blk reads t : Nat), s.laneState l = 2 → s.is1 R.LANE_CTL_RX_PRBS l = true →
    Completes (exec (.blockReceive l blk reads t) s) fun u =>
      let x := s.lane l
      let r := prbsCheck 130 (s.rxBits l blk) x.prbsN x.prbs
      u = ((s.upTo t).setLane l { x with prbsN := r.1, prbs := r.2.1 }).bump1 R.LANE_PRBS_ERR_COUNT l r.2.2) ∧
  (∀ (s : State) (l blk reads t : Nat), s.laneState l = 4 ∨ s.laneState l = 5 → (s.lane l).pos < 1023 →
    Completes (exec (.blockReceive l blk reads t) s) fun u =>
      u = ((s.upTo t).setLane l { s.lane l with pos := (s.lane l).pos + 1 }).takeBlock l (s.rxBits l blk) reads false)

/-- Transmitters and PLLs of the hanks: every command completes (R248, R251, R259, R263). TX_BLOCK sends a PRBS block or the block of its
place; LANE_TX_FFE clamps its taps and shows MAIN as 64 less both; HANK_CTL sets MIN_LANES always and role, rate and lanes only while no
Draft runs; PLL lock, timeout and loss set the lock bit, restart the transmitters or raise PLL_FAULT. -/
def Obligations.HankCommands : Prop :=
  (∀ (s : State) (l t : Nat), s.txMay l = true → s.is1 R.LANE_CTL_TX_PRBS l = true →
    Completes (exec (.txBlock l t) s) fun u => u = (s.upTo t).txPrbsBlock l) ∧
  (∀ (s : State) (l t : Nat), s.txMay l = true → s.is1 R.LANE_CTL_TX_PRBS l = false →
    Completes (exec (.txBlock l t) s) fun u =>
      u = ((s.upTo t).setLane l { s.lane l with txB := (s.lane l).txB + 1 }).txPayload l (s.lane l).txB) ∧
  (∀ (s : State) (l pre post : Nat), Completes (exec (.laneTxFfe l pre post) s) fun u =>
      u.get1 R.LANE_TX_FFE_PRE l = min 12 (pre % 32) ∧ u.get1 R.LANE_TX_FFE_POST l = min 24 (post % 64) ∧
      u.get1 R.LANE_TX_FFE_MAIN l = (64 - min 12 (pre % 32) - min 24 (post % 64)) % 64 ∧ u = { s with regs := u.regs }) ∧
  (∀ (s : State) (h v t : Nat), bits v 4 2 ≠ 3 → bits v 0 4 ≤ 5 → s.draftRuns = true →
    Completes (exec (.hankCtl h v t) s) fun u => u = ((s.upTo t).put1 R.HANK_CTL_MIN_LANES h (bits v 16 4)).hankShow h) ∧
  (∀ (s : State) (h v t : Nat), bits v 4 2 ≠ 3 → bits v 0 4 ≤ 5 → s.draftRuns = false →
    Completes (exec (.hankCtl h v t) s) fun u =>
      let s1 := (s.upTo t).put1 R.HANK_CTL_MIN_LANES h (bits v 16 4)
      let s2 := ((s1.put1 R.HANK_CTL_ROLE h (bits v 0 4)).put1 R.HANK_CTL_RATE h (bits v 4 2)).put1 R.HANK_CTL_LANES h (bits v 8 8)
      u = (s2.put1 R.HANK_STATUS_DRAFT h 0).hankApply h (bits v 0 4) (bits v 4 2) (bits v 8 8)) ∧
  (∀ (s : State) (h t : Nat), s.get1 R.HANK_STATUS_ROLE h ≠ 0 → s.is1 R.HANK_STATUS_PLL_LOCK h = false →
    Completes (exec (.hankPllLock h t) s) fun u => u.get1 R.HANK_STATUS_PLL_LOCK h = 1 ∧
      u = (forN 8 (fun n a =>
        let x := a.takeFree.2.lane (8 * h + n)
        a.takeFree.2.setLane (8 * h + n)
          { x with txB := 0, scr := a.takeFree.1 % 2 ^ 58, txBytes := [], txFrames := 0, txIdle := false, stamps := [] }) (s.upTo t)).put1
          R.HANK_STATUS_PLL_LOCK h 1) ∧
  (∀ (s : State) (h t : Nat), s.get1 R.HANK_STATUS_ROLE h ≠ 0 → s.is1 R.HANK_STATUS_PLL_LOCK h = false →
    Completes (exec (.hankPllTimeout h t) s) fun u => u = (s.upTo t).hankEvt R.HANK_EVT_PLL_FAULT h) ∧
  (∀ (s : State) (h t : Nat), s.is1 R.HANK_STATUS_PLL_LOCK h = true →
    Completes (exec (.hankPllLoss h t) s) fun u => u = ((s.upTo t).put1 R.HANK_STATUS_PLL_LOCK h 0).hankEvt R.HANK_EVT_PLL_FAULT h)

/-- Reception of frames: every command completes (R271, R275, R276, R278). FRAME_HEADER discards a header with a bad CRC, a type its role
does not allow or a length above 8,192 with the code of R271, else takes it; FRAME_TRAILER accepts the payload with a good CRC and counts or
discards the rest; FRAME_TRUNCATED cuts a frame; CLASS_DRAIN_DONE ends a drain; FRAME_GAP_POP drops the oldest gap record. -/
def Obligations.FrameReception : Prop :=
  (∀ (s : State) (l t : Nat) (r : Run) (rest : List Run), Tab.get none s.frames.rx l = none → (s.lane l).runs = r :: rest →
    32 ≤ r.bytes.length →
    let hdr := r.bytes.take 32
    let s1 := (s.upTo t).setRun l ({ r with bytes := r.bytes.drop 32 } :: rest)
    let role := s.laneRole l
    let s2 := (s1.discard l 1 0).setRun l (if r.ended then rest else ⟨[], false, true, false⟩ :: rest)
    let s3 := if 3 ≤ role ∧ role ≤ 5 then s1.noteAlive l (hdrAlive hdr) else s1
    Completes (exec (.frameHeader l t) s) fun u =>
      u = if crc16 (hdr.take 30) ≠ hdrCrc hdr then (if 3 ≤ role ∧ role ≤ 5 then s2.newEpoch l else s2)
        else if !typeAllowed role (hdrType hdr) || decide (8192 < hdrLen hdr) then
          (s3.discard l 2 (hdrSource hdr)).setRx l (some (rxSkip hdr s1.now))
        else if role = 1 then s1.sampleHeader l hdr
        else s1.linkHeader l role hdr) ∧
  (∀ (s : State) (l t : Nat) (r : Run) (rest : List Run), Tab.get none s.frames.rx l = none → (s.lane l).runs = r :: rest →
    r.bytes.length < 32 → r.ended = true →
    Completes (exec (.frameHeader l t) s) fun u =>
      let s1 := (s.upTo t).setRun l rest
      let s2 := s1.bump R.FRAME_LOSS_TRUNCATED 1
      u = if r.bytes.length < 16 then s1
        else if 3 ≤ s.laneRole l ∧ s.laneRole l ≤ 5 ∧ r.broken = false then s2.newEpoch l else s2) ∧
  (∀ (s : State) (l t : Nat) (f : RxFrame) (r : Run) (rest : List Run), Tab.get none s.frames.rx l = some f →
    (s.lane l).runs = r :: rest → hdrLen f.hdr + 8 ≤ r.bytes.length →
    let len := hdrLen f.hdr
    let payload := r.bytes.take len
    let tr := (r.bytes.drop len).take 8
    let good := crc32c (f.hdr ++ payload) == fld tr 0 4
    let s1 := (((s.upTo t).decodeArrived l).setRun l ({ r with bytes := r.bytes.drop (len + 8) } :: rest)).setRx l none
    let s2 := (s1.bump R.FRAME_ERR_CRC 1).frameEvt 1
    Completes (exec (.frameTrailer l t) s) fun u =>
      u = if !f.accepted then s1
        else if !f.entry.isEmpty then (if good then s1 else s2.frameBad f)
        else if good then { s1 with frames := { s1.frames with
          rxQ := Tab.set [] s1.frames.rxQ l (Tab.get [] s1.frames.rxQ l ++ [⟨f.cls, f.hdr, payload, fld tr 4 4⟩]) } }
        else if f.cls = clsMgmt then s2 else s2.rxFree l f.cls (frameUnits len)) ∧
  (∀ (s : State) (l t : Nat) (f : RxFrame) (r : Run) (rest : List Run), Tab.get none s.frames.rx l = some f →
    (s.lane l).runs = r :: rest →
    r.bytes.length < hdrLen f.hdr + 8 → r.ended = true ∨ f.t + nsToT 900000 ≤ max s.now t →
    Completes (exec (.frameTruncated l t) s) fun u => u = (s.upTo t).frameCut l r rest f) ∧
  (∀ (s : State) (t : Nat), s.is R.CLASS_STATUS_DRAIN = true →
    s.frames.rx.any (fun e =>
      match e.2 with
      | none => false
      | some f => f.accepted && !f.entry.isEmpty && f.gen != Tab.get 0 s.frames.gens f.idx) = false →
    (List.range 12).any (fun h => ((s.upTo t).inWaiting h).any (fun f => f.gen != Tab.get 0 s.frames.gens f.idx)) = false →
    Completes (exec (.classDrainDone t) s) fun u => u = ((s.upTo t).put R.CLASS_STATUS_DRAIN 0).frameEvt 7) ∧
  (∀ (s : State), Completes (exec .frameGapPop s) fun u => u.frames.gaps = s.frames.gaps.drop 1 ∧
    u.get R.FRAME_GAP_CTL_COUNT = R.FRAME_GAP_CTL_COUNT.trunc (s.frames.gaps.length - 1) ∧ u = { s with regs := u.regs, frames := u.frames })

/-- Credits, requests and transmission of frames: every command completes (R283, R284, R286, R287, R289). CREDIT_RECEIVE takes the limits of
a good block and counts a bad one; CREDIT_SEND queues a credit block; FRAME_TRANSMIT sends the next frame of a lane within its credit;
MESH_REQUEST serves a peer's request; COMPLETION_RECEIVE ends the request whose tag it carries, or counts an unmatched one; NP_TIMEOUT ends
every request that has waited 1 ms. -/
def Obligations.FrameTransmission : Prop :=
  (∀ (s : State) (l t : Nat) (b : List Byte) (r : List (List Byte)), (s.lane l).credits = b :: r → crc16 (b.take 13) = fld b 13 2 →
    Completes (exec (.creditReceive l t) s) fun u =>
      (u.lane l).credits = r ∧ Tab.get 0 u.frames.txLimit (laneCls l clsPosted) = fld b 1 3 ∧
      Tab.get 0 u.frames.txLimit (laneCls l clsNonPosted) = fld b 4 3 ∧ Tab.get 0 u.frames.txLimit (laneCls l clsCompl) = fld b 7 3 ∧
      Tab.get 0 u.frames.txEpoch l = byteAt b 10 ∧ Tab.get false u.frames.txHas l = true ∧
      (byteAt b 10 ≠ Tab.get 0 s.frames.txEpoch l → Tab.get 0 u.frames.txUsed (laneCls l clsPosted) = 0)) ∧
  (∀ (s : State) (l t : Nat) (b : List Byte) (r : List (List Byte)), (s.lane l).credits = b :: r → crc16 (b.take 13) ≠ fld b 13 2 →
    Completes (exec (.creditReceive l t) s) fun u =>
      u = (((s.upTo t).setLane l { s.lane l with credits := r }).bump1 R.FRAME_HANK_CREDIT_CHK_ERR (l / 8) 1).frameEvt 5) ∧
  (∀ (s : State) (l t : Nat), 3 ≤ s.laneRole l → s.locked l = true →
    Completes (exec (.creditSend l t) s) fun u =>
      u.lane l = { s.lane l with txCredit := (s.lane l).txCredit ++ [s.creditBlock l] } ∧ Tab.get 0 u.frames.freed l = 0) ∧
  (∀ (s : State) (l t d : Nat) (f : OutFrame), let s0 := ((s.upTo t).mirrorPack l).purgeLane l
    s0.frameMay l = true → s0.laneRole l = 2 → s0.silent = false → s0.nextOut l = some (d, f) →
    Completes (exec (.frameTransmit l t) s) fun u =>
      u = if s0.creditOk l clsPosted f.payload.length then s0.sendOut l d f else s0.waits l) ∧
  (∀ (s : State) (l t c : Nat) (f : OutFrame), let s0 := ((s.upTo t).mirrorPack l).purgeLane l
    s0.frameMay l = true → s0.laneRole l ≠ 2 → s0.nextLink l = some (c, f) →
    Completes (exec (.frameTransmit l t) s) fun u =>
      u = if s0.laneRole l = 3 ∧ s0.silent = true ∧ c ≠ clsMgmt then s0 else s0.sendLink l c f) ∧
  (∀ (s : State) (l t : Nat) (f : RxDone) (s1 : State),
    (s.upTo t).rxTake l (fun f => hdrType f.hdr == 0x09 || (hdrType f.hdr == 0x0B && hdrFirst f.hdr != 8)) = some (f, s1) →
    Completes (exec (.meshRequest l t) s) fun u => u = if hdrType f.hdr = 0x09 then s1.servePeer l f else s1) ∧
  (∀ (s : State) (l t : Nat) (f : RxDone) (s1 : State),
    (s.upTo t).rxTake l (fun f => hdrType f.hdr == 0x0A || (hdrType f.hdr == 0x0B && hdrFirst f.hdr == 8)) = some (f, s1) →
    Completes (exec (.completionReceive l t) s) fun u =>
      u = match s1.frames.outst.find? (fun o => o.hank == l / 8 && o.tag == bits (hdrAux f.hdr) 48 16 && o.t != 0) with
        | none => (s1.bump R.FRAME_NP_TIMEOUT_UNMATCHED 1).frameEvt 6
        | some o => if hdrType f.hdr = 0x0A then s1.endRequest o (hdrFirst f.hdr) f.payload
            else s1.takeFree.2.endRequest o (s1.takeFree.1 % 6) f.payload) ∧
  (∀ (s : State) (t : Nat),
    Completes (exec (.npTimeout t) s) fun u =>
      u = (s.frames.outst.filter (fun o => o.t != 0 && decide (o.t - 1 + nsToT 1000000 ≤ max s.now t))).foldl
        (fun a o => ((a.endRequest o stError []).bump R.FRAME_NP_TIMEOUT_TIMEOUT 1).frameEvt 6) (s.upTo t))

/-- Mesh: announces, layouts, operands and summaries complete (R294, R296, R299, R300, R302). ANNOUNCE_SEND at most once a ms;
ANNOUNCE_RECEIVE records the fields of its payload; MESH_ARM arms a layout 10 ms or more ahead and is late else; MESH_CANCEL disarms;
LAYOUT_APPLY puts the next layout into force; MESH_OPERAND and SUMMARY_RECEIVE take what belongs to a span; SUMMARY_TIMEOUT and NODE_LOST
mark what is missing. -/
def Obligations.MeshCommands : Prop :=
  (∀ (s : State) (l t : Nat), 3 ≤ s.laneRole l → s.laneRole l ≤ 5 → s.locked l = true →
    Tab.get 0 s.mesh.annSent l = 0 ∨ Tab.get 0 s.mesh.annSent l + nsToT 1000000 ≤ max s.now t + 1 →
    Completes (exec (.announceSend l t) s) fun u =>
      let s1 : State := { s.upTo t with mesh := { s.mesh with annSent := Tab.set 0 s.mesh.annSent l (max s.now t + 1) } }
      u = s1.queueLane l (s1.linkFrame 0x0D 0 0 0 s1.announceBytes 0)) ∧
  (∀ (s : State) (l t : Nat) (f : RxDone) (s1 : State), (s.upTo t).rxTake l (fun f => hdrType f.hdr == 0x0D) = some (f, s1) →
    Completes (exec (.announceReceive l t) s) fun u => u = s1.announceTake l f.payload ∧
      ∃ n, Tab.get Announce.init u.mesh.ann l = ⟨byteAt f.payload 4, byteAt f.payload 5, fld f.payload 8 8, fld f.payload 16 8, n⟩) ∧
  (∀ (s : State) (t : Nat), max s.now t + nsToT 10000000 ≤ s.get R.MESH_NEXT_TIME_TIME →
    Completes (exec (.meshArm t) s) fun u => u.mesh.armed = some (s.get R.MESH_NEXT_TIME_TIME) ∧ u.get R.MESH_STATUS_ARMED = 1 ∧
      u.mesh.conflict = s.mesh.conflict.filter (fun nb => s.bitOf R.MESH_NEXT_NODES (nb % 64)) ∧
      u = { s with now := max s.now t, regs := u.regs, mesh := u.mesh }) ∧
  (∀ (s : State) (t : Nat), s.get R.MESH_NEXT_TIME_TIME < max s.now t + nsToT 10000000 →
    Completes (exec (.meshArm t) s) fun u => u = (s.upTo t).meshEvt 4) ∧
  (∀ (s : State), Completes (exec .meshCancel s) fun u => u.mesh.armed = none ∧ u.get R.MESH_STATUS_ARMED = 0 ∧
      u = { s with regs := u.regs, mesh := { s.mesh with armed := none } }) ∧
  (∀ (s : State) (t a : Nat), s.mesh.armed = some a → a ≤ max s.now t → s.dState = 4 ∨ s.dState = 5 → a ≤ s.spanTime (s.get R.DRAFT_SPAN_SPAN) →
    Completes (exec (.layoutApply t) s) fun u =>
      let v := (({ s.upTo t with mesh := { s.mesh with armed := none } } : State).put R.MESH_STATUS_ARMED 0).put R.MESH_LAYOUT_NODES
        (s.get R.MESH_NEXT_NODES)
      u = (v.endNodes (fun nd => s.inLayout nd && !v.inLayout nd)).meshEvt 2) ∧
  (∀ (s : State) (t a : Nat), s.mesh.armed = some a → a ≤ max s.now t → ¬(s.dState = 4 ∨ s.dState = 5) →
    Completes (exec (.layoutApply t) s) fun u =>
      let v := (({ s.upTo t with mesh := { s.mesh with armed := none } } : State).put R.MESH_STATUS_ARMED 0).put R.MESH_LAYOUT_NODES
        (s.get R.MESH_NEXT_NODES)
      u = (v.endNodes (fun nd => s.inLayout nd && !v.inLayout nd)).meshEvt 2) ∧
  (∀ (s : State) (l t : Nat) (f : RxDone) (s1 : State),
    (s.upTo t).rxTake l (fun f => hdrType f.hdr == 0x08 && bits (hdrAux f.hdr) 32 16 != 0xFFFF) = some (f, s1) →
    Completes (exec (.meshOperand l t) s) fun u =>
      u = match s1.spanAt (hdrFirst f.hdr) (hdrTime f.hdr) with
        | none => s1
        | some z => s1.operandTake f z) ∧
  (∀ (s : State) (l t : Nat) (f : RxDone) (s1 : State),
    (s.upTo t).rxTake l (fun f => hdrType f.hdr == 0x08 && bits (hdrAux f.hdr) 32 16 == 0xFFFF) = some (f, s1) →
    Completes (exec (.summaryReceive l t) s) fun u =>
      u = match s1.spanAt (hdrFirst f.hdr) (hdrTime f.hdr) with
        | none => s1
        | some z => s1.summaryTake f z) ∧
  (∀ (s : State) (span t : Nat), hasWide (s.structAt span) = true → s.spanTime (span + 1) + nsToT 1000000 ≤ max s.now t →
    span < s.get R.DRAFT_SPAN_SPAN →
    Completes (exec (.summaryTimeout span t) s) fun u =>
      let l := s.structAt span
      u = forN (fineChannels l) (fun c a => a.summaryMiss l span c) (s.upTo t)) ∧
  (∀ (s : State) (n t : Nat), s.mesh.ann.any (fun e => decide (e.2.node < 128) && e.2.node % 64 == n) = true →
    (s.upTo t).reached n = false → n ≠ s.node →
    Completes (exec (.nodeLost n t) s) fun u => u = (s.upTo t).nodeGone n)

/-- Heartbeats, leases and the arbiter of a pair complete (R312, R313, R314, R321). HEARTBEAT_SEND every 100 us; HEARTBEAT_RECEIVE takes a
beat; ARBITER_TIMEOUT decides for the other side and grants it after the guard; LEASE_END fences the active side before its lease ends, with
PAIR_ACTIVE low; PAIR_GRANT_END grants by hand; PAIR_SOLO leaves the pair and sends what the side had held. -/
def Obligations.PairLease : Prop :=
  (∀ (s : State) (t : Nat),
    (s.get R.PAIR_CTL_MODE = 1 ∧ s.side ≠ sideOff) ∨ s.get R.PAIR_CTL_MODE = 2 →
    s.pair.hbAt = 0 ∨ s.pair.hbAt + usT 100 ≤ max s.now t + 1 →
    Completes (exec (.heartbeatSend t) s) fun u => u = (s.upTo t).heartbeat ∧ u.pair.hbAt = u.now + 1) ∧
  (∀ (s : State) (l t : Nat) (h p : List Byte) (s1 : State), (s.upTo t).beatTake l = some (h, p, s1) →
    Completes (exec (.heartbeatReceive l t) s) fun u => u = s1.beatHeard h p) ∧
  (∀ (s : State) (t h nb : Nat), s.get R.PAIR_CTL_MODE = 2 → s.pair.holder = some h → (s.upTo t).arbOther h = some nb →
    max s.now t < s.pair.lease + guardT →
    Completes (exec (.arbiterTimeout t) s) fun u =>
      u = { s with now := max s.now t, pair := { s.pair with decided := some nb } }) ∧
  (∀ (s : State) (t h nb : Nat), s.get R.PAIR_CTL_MODE = 2 → s.pair.holder = some h → (s.upTo t).arbOther h = some nb →
    s.pair.lease + guardT ≤ max s.now t → s.sideReady nb = true →
    Completes (exec (.arbiterTimeout t) s) fun u => u = (s.upTo t).arbGrant nb) ∧
  (∀ (s : State) (t : Nat), s.side = sideActive → s.get R.PAIR_LEASE_END_TIME ≤ max s.now t + guardT →
    Completes (exec (.leaseEnd t) s) fun u =>
      u = { (s.upTo t).fence with pair := { (s.upTo t).fence.pair with fencedAt := max s.now t + 1 } } ∧ u.side = sideFenced ∧
      u.get R.PAIR_STATUS_PAIR_ACTIVE = 0) ∧
  (∀ (s : State) (hi t : Nat), s.get R.PAIR_CTL_ARB = 0x80 →
    let fin := putBits (s.get R.PAIR_GRANT_END_TIME) 32 32 hi
    Completes (exec (.pairGrantEnd hi t) s) fun u =>
      u = ((s.upTo t).put R.PAIR_GRANT_END_TIME fin).grant (s.get R.PAIR_GRANT_NODE_NODE) fin) ∧
  (∀ (s : State), s.get R.PAIR_CTL_MODE ≠ 0 →
    Completes (exec .pairSolo s) fun u => u = (s.sideStop.put R.PAIR_CTL_MODE 0).sendHeld)

/-- Mirror records, resync, standby tests and the spare core complete (R306, R308, R310, R311, R320). MIRROR_RECORD applies the next record
in sequence; EMITTED_SEND reports the last frames sent per destination; PAIR_RESYNC and RESYNC_RECORD start and schedule a resync;
STANDBY_SELF_TEST tests the next free knot; BADGER_WATCHDOG takes over, hands over or fails; BADGER_RESTART clears FAILED. -/
def Obligations.PairMirror : Prop :=
  (∀ (s : State) (l t : Nat) (r : List Byte) (rest : List (List Byte)), let s0 := (s.upTo t).mirrorPull l
    s0.pair.rxRecs = r :: rest → byteAt r 0 ≠ 7 → s0.get R.PAIR_CTL_MODE = 1 → s0.side ≠ sideOff →
    Completes (exec (.mirrorRecord l t) s) fun u =>
      u = (({ s0 with pair := { s0.pair with rxRecs := rest } } : State).mirrorSeq r).applyRecord r t) ∧
  (∀ (s : State) (t : Nat), s.get R.PAIR_CTL_MODE = 1 → s.side = sideActive →
    s.pair.emitAt = 0 ∨ s.pair.emitAt + usT 100 ≤ max s.now t + 1 →
    let ds := ((itemsOf s.draft.struct secRoutes 2).map (·.idx)).filter (fun d => Tab.get 0 s.frames.destDone d != 0)
    let s1 := ds.foldl (fun a d => a.mirrorRec 6 (leBytes 2 d ++ zeros 2 ++
      leBytes 4 ((Tab.get 0 a.frames.destAlive d + 65535) % 65536) ++ leBytes 8 (Tab.get 0 a.frames.destDone d - 1))) (s.upTo t)
    Completes (exec (.emittedSend t) s) fun u => u = { s1 with pair := { s1.pair with emitAt := s1.now + 1 } }) ∧
  (∀ (s : State), s.side = sideStandby ∨ s.side = sideSyncing → Completes (exec .pairResync s) fun u => u = s.toSyncing) ∧
  (∀ (s : State) (l t : Nat) (agree : Bool) (r : List Byte) (rest : List (List Byte)), let s0 := (s.upTo t).mirrorPull l
    s0.pair.rxRecs = r :: rest → byteAt r 0 = 7 → s0.get R.PAIR_CTL_MODE = 1 → s0.side ≠ sideOff →
    let s2 := ({ s0 with pair := { s0.pair with rxRecs := rest } } : State).mirrorSeq r
    Completes (exec (.resyncRecord l agree t) s) fun u =>
      u = if byteAt r 8 = 0 ∧ s2.side = sideActive then s2.resyncAsked agree
        else if byteAt r 8 = 1 ∧ s2.side = sideSyncing then { s2 with pair := { s2.pair with resyncR := some (fld r 16 8) } }
        else s2) ∧
  (∀ (s : State) (t K : Nat), s.side = sideStandby ∨ s.side = sideSyncing →
    s.pair.testAt = 0 ∨ s.pair.testAt + usT 100 ≤ max s.now t + 1 →
    ((List.range 1024).map (fun k => (s.pair.nextKnot + k) % 1024)).find? (fun K => s.pstate (K / 64) == 2 &&
      (knotPly s.draft.struct s.node K).isNone && !s.is1 R.KNOT_STATUS_TEST_BUSY K) = some K →
    Completes (exec (.standbySelfTest t) s) fun u => u.get1 R.KNOT_STATUS_TEST_BUSY K = 1 ∧ u.get1 R.KNOT_STATUS_TEST_PASS K = 0 ∧
      u.pair.nextKnot = (K + 1) % 1024 ∧ u.pair.testAt = max s.now t + 1 ∧
      u = { s with
        now := max s.now t, regs := u.regs, pair := u.pair
        loom := { s.loom with testAt := Tab.set 0 s.loom.testAt K (max s.now t) } }) ∧
  (∀ (s : State) (t : Nat), s.alive = true →
    Completes (exec (.badgerWatchdog t) s) fun u =>
      u = if s.fwState = fwHandover then (s.upTo t).handover
        else if s.fwState = fwLoading ∨ s.fwState = fwStarting then
          ((((s.upTo t).fwTo fwIdle).put R.TRUST_FW_STATUS_ERR 7).trustEvt 2).takeover.withTrust (fun x => { x with awaits := 2 })
        else if s.is R.PAIR_BADGER_STANDBY_OK then (s.upTo t).takeover
        else (s.upTo t).put R.PAIR_BADGER_FAILED 1) ∧
  (∀ (s : State), s.is R.PAIR_BADGER_FAILED = true →
    Completes (exec .badgerRestart s) fun u => u.get R.PAIR_BADGER_FAILED = 0 ∧
      u.trust.awaits = (if s.trust.awaits = 2 then 2 else 1) ∧ u = { s with regs := u.regs, trust := u.trust })

/-- Stack sites: power, training and sweeping complete (R335, R336, R345). SITE_POWER_GOOD leads to TRAINING, and on to the sweep with a
stored delay set that verifies; SITE_POWER_TIMEOUT and TRAIN_FAIL to FAULT; MEM_PROBE sets BUSY in TRAINING and is refused else; PROBE_DONE
gives the result; MEM_TRAIN_DLY sets the delays of the selected lines; TRAIN_COMMIT leads to SWEEPING; SWEEP_DONE leaves zeros and READY. -/
def Obligations.MemorySites : Prop :=
  (∀ (s : State) (x t : Nat) (v : Bool), x < nStacks s.part → (s.memTime t).siteState x = sitePowering →
    Completes (exec (.sitePowerGood x t v) s) fun u =>
      let s1 := ((s.memTime t).put1 R.MEM_STATUS_STATE x siteTraining).updSite x (fun x => { x with dly := [] })
      u = match s1.storedSet x with
        | none => s1
        | some vals =>
          if v then (s1.updSite x (fun x => { x with dly := (valueLines.zip vals).foldl (fun m p => Tab.set 0 m p.1 (p.2.toNat % 128)) [] })).commitDelays x
          else s1) ∧
  (∀ (s : State) (x : Nat), x < nStacks s.part → s.siteState x = sitePowering →
    Completes (exec (.sitePowerTimeout x) s) fun u => u = (s.siteFaults x).memEvt R.MEM_EVT_CA_FAIL x 1) ∧
  (∀ (s : State) (x : Nat), s.siteState x = siteTraining →
    Completes (exec (.memProbe x) s) fun u => u.get1 R.MEM_TRAIN_STATUS_BUSY x = 1 ∧ u = { s with regs := u.regs }) ∧
  (∀ (s : State) (x : Nat), s.siteState x ≠ siteTraining →
    Completes (exec (.memProbe x) s) fun u => u = s.trainRefused x) ∧
  (∀ (s : State) (x pass : Nat), s.is1 R.MEM_TRAIN_STATUS_BUSY x = true →
    Completes (exec (.probeDone x pass) s) fun u => u.get1 R.MEM_TRAIN_STATUS_BUSY x = 0 ∧
      u = (s.put1 R.MEM_TRAIN_STATUS_BUSY x 0).put1 R.MEM_TRAIN_RESULT_PASS x (pass % 2 ^ kindLines (s.get1 R.MEM_TRAIN_SEL_KIND x)) ∧
      u = { s with regs := u.regs }) ∧
  (∀ (s : State) (x dly : Nat) (all : Bool), s.siteState x = siteTraining →
    let kind := s.get1 R.MEM_TRAIN_SEL_KIND x
    let lines := if all then List.range (kindLines kind) else [s.get1 R.MEM_TRAIN_SEL_BIT x]
    Completes (exec (.memTrainDly x dly all) s) fun u => u.get1 R.MEM_TRAIN_DLY_DLY x = R.MEM_TRAIN_DLY_DLY.trunc dly ∧
      u.stk = (s.updSite x (fun y => { y with dly := lines.foldl (fun m b => Tab.set 0 m
        (dlyKey (s.get1 R.MEM_TRAIN_SEL_CH x) (kindPc kind (s.get1 R.MEM_TRAIN_SEL_PC x)) kind b) (dly % 128)) y.dly })).stk ∧
      u = { s with regs := u.regs, stk := u.stk }) ∧
  (∀ (s : State) (x t : Nat), (s.memTime t).siteState x = siteTraining →
    Completes (exec (.trainCommit x t) s) fun u => u = (s.memTime t).commitDelays x ∧ u.siteState x = siteSweeping) ∧
  (∀ (s : State) (x : Nat), s.siteState x = siteTraining →
    Completes (exec (.trainFail x) s) fun u => u = s.siteFaults x) ∧
  (∀ (s : State) (x t : Nat), (s.memTime t).siteState x = siteSweeping →
    Completes (exec (.sweepDone x t) s) fun u =>
      u = ((((s.memTime t).loseSite x).served 39 siteUnits).updSite x (fun x => { x with resweep := false })).siteBecomesReady x)

/-- Stack service: requests, refresh, scrubbing, sparing, shedding complete (R331, R333, R334, R339, R340, R343, R344, R346).
MEM_COMMAND_CYCLE issues a postponed refresh, or the refresh a flagged row owes, or serves the picked request; RD_WINDOW clears the counts
of a site after 32 ms; THROTTLE_END ends a throttle whose time has come; TEMP_REPORT moves the refresh multiplier up at once and down when a
point has been 2 C cooler for 10 ms; PATROL_SCRUB, when it is due and no request waits there, visits the next unit of the site; MEM_RETIRE
starts a retirement; MIGRATION_DONE ends one; SHED_LEVEL_CHANGE of a row whose condition holds moves the shedding level by that row, and of
any other row nothing. -/
def Obligations.MemoryService : Prop :=
  (∀ (s : State) (x pch cyc t banks err : Nat) (due : Bool), (s.memTime t).siteState x = siteReady →
    let s0 := s.memTime t
    let k := x * 32 + pch % 32
    let post := Tab.get 0 s0.stk.postponed k + b2n due
    let s1 := s0.setPostponed k post
    Completes (exec (.memCommandCycle x pch cyc t banks err due) s) fun u =>
      u = if 4 < post ∨ (post = 4 ∧ !due) then s1.setPostponed k (post - 1)
        else if 5 ≤ err then s1.migrateUe x (pch % 32) (err - 5)
        else match s1.pick x (pch % 32) cyc t banks with
          | none => if 0 < post then s1.setPostponed k (post - 1) else s1
          | some (b, r) =>
            if !s1.rowHit (k * 64 + b) cyc r && s1.stk.refreshDue.contains (k * 64 + b, r.row) then
              { s1 with stk := { s1.stk with refreshDue := s1.stk.refreshDue.erase (k * 64 + b, r.row) } }
            else
              let s2 := s1.serveReq x (k * 64 + b) cyc t err r
              { s2 with stk := { s2.stk with ptr := Tab.set 0 s2.stk.ptr k ((b + 1) % 64) } }) ∧
  (∀ (s : State) (x t : Nat), Tab.get 0 (s.memTime t).stk.winStart x + nsToT 32000000 ≤ (s.memTime t).now →
    Completes (exec (.rdWindow x t) s) fun u =>
      u.stk.acts = (s.memTime t).stk.acts.filter (fun e => e.1 / 64 / 32768 / 2048 != x) ∧
      u.stk.winServed = (s.memTime t).stk.winServed.filter (fun e => e.1 / 64 != x) ∧
      Tab.get 0 u.stk.winStart x = Tab.get 0 (s.memTime t).stk.winStart x + nsToT 32000000) ∧
  (∀ (s : State) (p : Nat), (Tab.get Throttle.init (s.throttleCount s.now).stk.throttle p).ends ≤ s.now →
    Completes (exec (.throttleEnd p) s) fun u =>
      Tab.get Throttle.init u.stk.throttle p = Throttle.init ∧
      u = { s.throttleCount s.now with stk := { (s.throttleCount s.now).stk with throttle := u.stk.throttle } }) ∧
  (∀ (s : State) (x t : Nat) (temp : Int), x < nStacks s.part →
    let s0 := (s.memTime t).put1 R.MEM_STATUS_TEMP x (usgn 8 temp)
    let cur := s0.get1 R.MEM_STATUS_MULT x
    let since := s0.coolFrom x t temp
    let cooled := fun m => since m ≠ 0 ∧ since m + nsToT 10000000 ≤ t + 1
    s0.siteState x ≠ siteOff →
    Completes (exec (.tempReport x t temp) s) fun u =>
      u = (s0.updSite x (fun y => { y with coolSince := Tab.set 0 (Tab.set 0 y.coolSince 1 (since 1)) 2 (since 2) })).put1 R.MEM_STATUS_MULT x
        (max (multCode (refreshMult s0.refreshCurve temp))
          (if cur = 2 ∧ cooled 2 then (if cooled 1 then 0 else 1) else if cur = 1 ∧ cooled 1 then 0 else cur))) ∧
  (∀ (s : State) (x err : Nat), s.siteState x = siteReady → s.is1 R.MEM_CTL_SCRUB_EN x = true → (s.site x).scrubAt ≤ s.now →
    (s.stk.bankQ ++ s.stk.ingress).any (fun e => e.1 / 64 == pchOfKey (scrubKey x (s.site x).scrubPos) && !e.2.isEmpty) = false →
    Completes (exec (.patrolScrub x err) s) fun u =>
      let n := (s.site x).scrubPos
      let s1 := (s.served 37 1).updSite x (fun y => { y with scrubAt := s.now + s.scrubStep x })
      let s2 := if err = 0 then s1.meet 37 (scrubKey x n) else if err = 1 ∨ err = 3 then s1.readCe (scrubKey x n)
        else if err = 2 then s1.readUe (scrubKey x n) else s1.parityFail (scrubKey x n) 37 false
      u = if n + 1 < siteUnits then s2.updSite x (fun y => { y with scrubPos := n + 1 })
        else (s2.updSite x (fun y => { y with scrubPos := 0 })).wrap1 R.MEM_SCRUB_PASSES x 1) ∧
  (∀ (s : State) (x sid t : Nat), Completes (exec (.memRetire x sid t) s) fun u =>
      u = ((s.memTime t).put1 R.MEM_CTL_RETIRE_SID x sid).retireRank x sid) ∧
  (∀ (s : State) (x sid : Nat), (s.site x).migSid = some sid → s.get1 R.MEM_STATUS_SPARE x = 2 →
    Completes (exec (.migrationDone x) s) fun u =>
      let s1 := s.copyRows x sid (s.site x).migDone sidBytes
      u = ((((s1.put1 R.MEM_STATUS_SPARE x 3).put1 R.MEM_MIG_PROGRESS x 65535).updSite x (fun x => { x with migSid := none })).memEvt
        R.MEM_EVT_MIG_DONE x 2)) ∧
  (∀ (s : State) (x row t : Nat), 
    let s0 := s.memTime t
    let lv := s0.get1 R.MEM_STATUS_SHED x
    s0.shedHolds x row s0.now = true →
    Completes (exec (.shedLevelChange x row t) s) fun u =>
      (row = 0 → lv = 0 → u = s0.shedTo x 1) ∧ (row = 1 → lv = 1 → u = s0.shedTo x 0) ∧
      (row = 2 → lv = 1 → u = s0.memEvt R.MEM_EVT_SHED_BE x 3) ∧
      (row = 3 → lv = 1 → u = ((s0.shedTo x 2).refuseClass1 x).memEvt R.MEM_EVT_SHED_ASSURED x 3) ∧
      (row = 4 → lv = 2 → u = (s0.shedTo x 3).memEvt R.MEM_EVT_SHED_GUAR x 3) ∧
      (row = 5 → lv = 3 → u = s0.shedTo x 2) ∧ (row = 6 → lv = 2 → u = s0.shedTo x 1)) ∧
  (∀ (s : State) (x row t : Nat), (s.memTime t).shedHolds x row (s.memTime t).now = false →
    Completes (exec (.shedLevelChange x row t) s) fun u => u = s.memTime t)

/-- Store accesses, invalidation, maps and BAR2 complete (R353, R358, R361, R362, R363, R367, R369). STORE_ACCESS is served on a hit, waits
for a walk on a miss and ends with STORE_CLOSED when the store is not open; WALK_DONE serves it; STORE_INV drops the cached translations of
a generation and sets INV_BUSY, INV_DONE clears it; MAP_BUILD_DONE puts a built map into force; STORE_OPEN opens the store; STORE_FAULT_POP
drops the oldest fault; BAR2_REQUEST reads or writes segment by segment. -/
def Obligations.StoreCommands : Prop :=
  (∀ (s : State) (port addr len t : Nat) (wr bad : Bool) (data ext : List Byte), translatedPort port = true → segLen addr len ≠ 0 →
    let n := segLen addr len
    Completes (exec (.storeAccess port addr len wr data bad ext t) s) fun u =>
      let v := (s.upTo t).refusedUnits port stClosed (unitSpan addr n)
      u = if s.get R.STORE_STATUS_STATE ≠ storeOpen then
          (if wr = true ∧ port = bar2Port then v.bump R.STORE_BAR2_DROP_COUNT 1 else v).emit (.storeDone port addr stClosed [] false)
        else if (s.is R.STORE_STATUS_DEFAULT || (s.cached addr).isSome) && !(s.upTo t).aperWaits port addr wr then
          (s.upTo t).serveSegment port addr n t wr data bad ext
        else { s.upTo t with store := { s.store with walks := s.store.walks ++ [⟨port, wr, addr, n, padTo n data, bad, false, false⟩] } }) ∧
  (∀ (s : State) (n t : Nat) (bad : Bool) (ext : List Byte) (w : Walk), s.store.walks[n]? = some w →
    s.get R.STORE_STATUS_STATE = storeOpen → w.dead = false →
    let s1 : State := { s.upTo t with store := { s.store with walks := s.store.walks.eraseIdx n } }
    let s2 := s1.serveSegment w.port w.addr w.len t w.write w.data (if w.write then w.bad else bad) ext
    s1.aperWaits w.port w.addr w.write = false →
    Completes (exec (.walkDone n bad ext t) s) fun u =>
      u = if w.uncached then { s2 with store := { s2.store with cache := s.store.cache } } else s2) ∧
  (∀ (s : State) (n t : Nat) (bad : Bool) (ext : List Byte) (w : Walk), s.store.walks[n]? = some w →
    (w.dead = true ∨ s.get R.STORE_STATUS_STATE ≠ storeOpen) →
    Completes (exec (.walkDone n bad ext t) s) fun u =>
      u = ({ s.upTo t with store := { s.store with walks := s.store.walks.eraseIdx n } } : State).closedSegment w.port w.addr w.len w.write) ∧
  (∀ (s : State) (gen : Nat), s.is R.STORE_STATUS_INV_BUSY = false →
    Completes (exec (.invGo gen) s) fun u => u.get R.STORE_STATUS_INV_BUSY = 1 ∧ u.get R.STORE_INV_GEN = gen % 256 ∧
      u.store.cache = s.store.cache.filter (fun c => !(c.gen == gen % 256 || (c.level == 2 && bits c.entry1 56 8 == gen % 256))) ∧
      u = { s with regs := u.regs, store := u.store, frames := u.frames }) ∧
  (∀ (s : State), s.is R.STORE_STATUS_INV_BUSY = false →
    Completes (exec .invAll s) fun u => u.get R.STORE_STATUS_INV_BUSY = 1 ∧ u.store.cache = [] ∧
      u = { s with regs := u.regs, store := u.store, frames := u.frames }) ∧
  (∀ (s : State), s.is R.STORE_STATUS_INV_BUSY = true → s.store.walks.any (·.uncached) = false →
    s.frames.outst.any (·.inv) = false → s.frames.reqQ.any (·.inv) = false →
    Completes (exec .invDone s) fun u => u = (s.put R.STORE_STATUS_INV_BUSY 0).storeEvt 3) ∧
  (∀ (s : State) (root : Region), s.place.regions.find? (fun r => r.use == 6) = some root → s.store.building = true →
    s.sitesReady root.sites = true →
    Completes (exec .mapBuildDone s) fun u =>
      u = { s.mapBuilt root with store := { (s.mapBuilt root).store with building := false } }) ∧
  (∀ (s : State), s.store.building = false → s.sitesUp = true → s.get R.STORE_STATUS_STATE = storeClosed → s.store.creelSwept = true →
    Completes (exec .storeOpen s) fun u => u = (s.cacheClear.put R.STORE_STATUS_STATE storeOpen).storeEvt 1 ∧
      u.get R.STORE_STATUS_STATE = storeOpen) ∧
  (∀ (s : State), s.store.building = false → s.sitesUp = true → s.get R.STORE_STATUS_STATE = storeRemapping →
    Completes (exec .storeOpen s) fun u => u = (s.put R.STORE_STATUS_STATE storeOpen).storeEvt 1 ∧
      u.get R.STORE_STATUS_STATE = storeOpen) ∧
  (∀ (s : State), Completes (exec .storeFaultPop s) fun u => u.store.faults = s.store.faults.drop 1 ∧
    u.get R.STORE_FAULT_CTL_COUNT = R.STORE_FAULT_CTL_COUNT.trunc (s.store.faults.drop 1).length ∧
    u = { s with regs := u.regs, store := { s.store with faults := u.store.faults } }) ∧
  (∀ (s : State) (off len t : Nat) (data ext : List Byte) (bad : Bool), s.alive = true → s.hostUp = true →
    let a := s.get R.STORE_BAR2_BASE * 68719476736 + off % 68719476736
    Completes (exec (.bar2Request false off len data bad ext t) s) fun u =>
      u = (segments a len).foldl (fun b sg => b.serveRead bar2Port sg.1 sg.2 (ext.drop (sg.1 - a)) bad) (s.upTo t)) ∧
  (∀ (s : State) (off len t : Nat) (data ext : List Byte) (bad : Bool), s.alive = true → s.hostUp = true →
    s.get R.PAIR_CTL_MODE ≠ 1 →
    let a := s.get R.STORE_BAR2_BASE * 68719476736 + off % 68719476736
    Completes (exec (.bar2Request true off len data bad ext t) s) fun u =>
      u = State.flushLanes ((segments a data.length).foldl (fun b sg =>
        let w := b.serveWrite bar2Port sg.1 ((data.drop (sg.1 - a)).take sg.2) bad
        if w.2 = stOk then w.1.mirrorBar2 sg.1 ((data.drop (sg.1 - a)).take sg.2) else w.1) (if bad then (s.upTo t).pciePoison else s.upTo t)) bar2Port)

/-- References and PPS inputs: every command completes (R375, R376). REF_GATE of an enabled reference that is present, at the frequency it
measured against the nominal one, marks it active, notes its rate, and qualifies it, lets it wait, or disqualifies it outside its window;
the selection is made again when the qualification of an input changes; REF_EDGE_LOSS disqualifies it; WTR_TICK counts the wait down and
qualifies at zero. PPS_EDGE takes the first edge, drops the qualification after an edge out of its window, and after the third edge in its
window qualifies, measures the offset, and pulls or sets the time when the input is the selected one; PPS_MISSING drops the qualification a
second and a window after the last edge. -/
def Obligations.TimeReferences : Prop :=
  (∀ (s : State) (code mHz nom t : Nat), 1 ≤ code → code ≤ 4 →
    code ≤ 2 ∨ (∃ l, s.rcOf code = some l ∧ s.locked l = true) → s.is1 R.TIME_REF_CTL_EN (code - 1) = true →
    s.refNominal code = some nom →
    Completes (exec (.refGate [(code, mHz)] [] t) s) fun u =>
      let off : Int := ((mHz : Int) - 1000 * nom) * 281474976710656 / (1000 * nom)
      let s1 := ((s.upTo t).put1 R.TIME_REF_STATUS_ACTIVE (code - 1) 1).withTime (fun x => { x with gated := Tab.set 0 x.gated code off })
      let v := if 100 * max 1 (s1.get1 R.TIME_REF_WIN_WINDOW (code - 1)) < (centiPpm mHz nom).natAbs then s1.unqual code
        else if s1.refQual code = true then (if s1.get R.TIME_STATUS_REF = code then s1.noteRate else s1)
        else if Tab.get false s.time.lost code = false ∨ s1.get1 R.TIME_REF_CTL_WTR (code - 1) = 0 then s1.qual code
        else if Tab.get 0 s.time.wtrAt code ≠ 0 then s1
        else (s1.withTime (fun x => { x with wtrAt := Tab.set 0 x.wtrAt code (max s.now t + 1) })).put1 R.TIME_REF_STATUS_WTR_LEFT (code - 1)
          (s1.get1 R.TIME_REF_CTL_WTR (code - 1))
      u = if (List.range 5).any (fun i => v.refQual (i + 1) != s.refQual (i + 1)) then v.select else v) ∧
  (∀ (s : State) (code t : Nat), 1 ≤ code → code ≤ 4 →
    Completes (exec (.refEdgeLoss ⟨[code], [], []⟩ t) s) fun u =>
      let v := ((s.upTo t).put1 R.TIME_REF_STATUS_ACTIVE (code - 1) 0).unqual code
      u = if (List.range 5).any (fun i => v.refQual (i + 1) != s.refQual (i + 1)) then v.select else v) ∧
  (∀ (s : State) (code t : Nat), Tab.get 0 s.time.wtrAt code ≠ 0 → s.get1 R.TIME_REF_STATUS_WTR_LEFT (code - 1) ≠ 0 →
    s.is1 R.TIME_REF_CTL_EN (code - 1) = true → Tab.get 0 s.time.wtrAt code + secT ≤ max s.now t + 1 →
    Completes (exec (.wtrTick code t) s) fun u =>
      let left := s.get1 R.TIME_REF_STATUS_WTR_LEFT (code - 1)
      let s1 := ((s.upTo t).withTime (fun x => { x with wtrAt := Tab.set 0 x.wtrAt code (Tab.get 0 s.time.wtrAt code + secT) })).put1
        R.TIME_REF_STATUS_WTR_LEFT (code - 1) (left - 1)
      let v := if left = 1 then s1.qual code else s1
      u = if (List.range 5).any (fun i => v.refQual (i + 1) != s.refQual (i + 1)) then v.select else v) ∧
  (∀ (s : State) (p ns t : Nat), p < 2 → Tab.get 0 s.time.ppsAt p = 0 →
    Completes (exec (.ppsEdge p ns t) s) fun u =>
      u = (s.upTo t).withTime (fun x => { x with ppsAt := Tab.set 0 x.ppsAt p (max s.now t + 1) })) ∧
  (∀ (s : State) (p ns t : Nat), p < 2 → Tab.get 0 s.time.ppsAt p ≠ 0 → ns + s.ppsWin p < 1000000000 ∨ 1000000000 + s.ppsWin p < ns →
    Completes (exec (.ppsEdge p ns t) s) fun u =>
      u = ((s.upTo t).withTime (fun x => { x with ppsAt := Tab.set 0 x.ppsAt p (max s.now t + 1) })).ppsLost p) ∧
  (∀ (s : State) (p ns t : Nat), p < 2 → Tab.get 0 s.time.ppsAt p ≠ 0 → 1000000000 ≤ ns + s.ppsWin p → ns ≤ 1000000000 + s.ppsWin p →
    Completes (exec (.ppsEdge p ns t) s) fun u =>
      let n := Tab.get 0 s.time.ppsGood p + 1
      let s2 := (s.upTo t).withTime (fun x => { x with
        ppsAt := Tab.set 0 x.ppsAt p (max s.now t + 1), ppsGood := Tab.set 0 x.ppsGood p n })
      let s3 := if 3 ≤ n then (s2.put1 R.TIME_REF_STATUS_PPS_QUAL p 1).select else s2
      let d : Int := nearest s3.now (s3.get1 R.TIME_REF_OFS_FRACTION p) - s3.now
      let s4 := (s3.withTime (fun x => { x with ppsDelta := Tab.set 0 x.ppsDelta p d })).put1 R.TIME_REF_OFFSET_NS p (ns32 (d * 65536))
      (s3.is1 R.TIME_REF_STATUS_PPS_QUAL p = false → u = s3) ∧
      (s3.is1 R.TIME_REF_STATUS_PPS_QUAL p = true → s4.get R.TIME_STATUS_REF ≠ p + 1 → u = s4) ∧
      (s3.is1 R.TIME_REF_STATUS_PPS_QUAL p = true → s4.get R.TIME_STATUS_REF = p + 1 → s4.time.setAt = none → u = s4.pullTo (d * 65536)) ∧
      (∀ v, s3.is1 R.TIME_REF_STATUS_PPS_QUAL p = true → s4.get R.TIME_STATUS_REF = p + 1 → s4.time.setAt = some v →
        u = if s4.draftRuns = true then s4.withTime (fun x => { x with setAt := none })
          else
            let s5 := (s4.setNow v).withTime (fun x => { x with setAt := none })
            if s5.is R.TIME_STATUS_PULLING = true then s5.startPull ((nearest v (s5.get1 R.TIME_REF_OFS_FRACTION p) - v) * 65536)
            else s5)) ∧
  (∀ (s : State) (p t : Nat), p < 2 → Tab.get 0 s.time.ppsAt p ≠ 0 → Tab.get 0 s.time.ppsAt p + secT + nsToT (s.ppsWin p) ≤ max s.now t + 1 →
    Completes (exec (.ppsMissing p t) s) fun u =>
      u = ((s.upTo t).withTime (fun x => { x with ppsAt := Tab.set 0 x.ppsAt p 0 })).ppsLost p)

/-- FREQ_LOCK, PULL_DONE, TIME_SET, TIME_STEP, TIME_NET_ADJ, NET_TIMEOUT and XO_FAULT complete (R378, R379, R380, R381). FREQ_LOCK in
ACQUIRE leaves LOCKED, by a jump when no Draft runs, or SWITCHING with a pull; PULL_DONE ends a pull within a nanosecond; TIME_SET is
ignored while a Draft runs, waits for the PPS when asked to, and else sets the time at once; TIME_STEP jumps when no Draft runs and nothing
pulls, and else pulls; TIME_NET_ADJ delivers an adjustment to the network source; NET_TIMEOUT loses it after its timeout; XO_FAULT leaves
FREERUN with the fault bit. -/
def Obligations.TimeSetting : Prop :=
  (∀ (s : State) (t : Nat), s.tb = tbAcquire → s.xoGone = false →
    Completes (exec (.freqLock t) s) fun u =>
      u = if s.timeSource = 0 ∨ overNs (s.upTo t).delta = false then (s.upTo t).setTb tbLocked
        else if s.draftRuns = false then ((((s.upTo t).jump (s.upTo t).delta).startPull 0).setTb tbLocked)
        else ((s.upTo t).startPull (s.upTo t).delta).setTb tbSwitching) ∧
  (∀ (s : State) (t : Nat), overNs (s.upTo t).pullLeft = false → s.tb = tbSwitching ∨ s.is R.TIME_STATUS_PULLING = true →
    Completes (exec (.pullDone t) s) fun u =>
      u = if s.tb = tbSwitching then (((s.upTo t).startPull 0).setTb tbLocked).timeEvt 6 else ((s.upTo t).startPull 0).timeEvt 6) ∧
  (∀ (s : State) (hi t : Nat),
    let v := putBits (s.get R.TIME_SET_TIME) 32 32 hi
    let s1 := (s.upTo t).put R.TIME_SET_TIME v
    Completes (exec (.timeSet hi t) s) fun u =>
      (s1.draftRuns = true → u = s1.bump R.TIME_STATUS_IGNORED 1 ∧ u.now = max s.now t) ∧
      (s1.draftRuns = false → s1.is R.TIME_CTL_SET_AT_PPS = true → u = s1.withTime (fun x => { x with setAt := some v })) ∧
      (s1.draftRuns = false → s1.is R.TIME_CTL_SET_AT_PPS = false → s1.is R.TIME_STATUS_PULLING = false →
        u = s1.setNow v) ∧
      (s1.draftRuns = false → s1.is R.TIME_CTL_SET_AT_PPS = false → s1.is R.TIME_STATUS_PULLING = true →
        u = (s1.setNow v).startPull (s1.setDelta v))) ∧
  (∀ (s : State) (hi t : Nat),
    let v := putBits (s.get R.TIME_STEP_STEP) 32 32 hi
    let s1 := (s.upTo t).put R.TIME_STEP_STEP v
    let s2 := s1.startPull (s1.pullLeft + sgn 64 v)
    Completes (exec (.timeStep hi t) s) fun u =>
      u = if s1.draftRuns = false ∧ s1.is R.TIME_STATUS_PULLING = false then s1.jump (sgn 64 v)
        else if s2.tb = tbLocked then s2.setTb tbSwitching else s2) ∧
  (∀ (s : State) (v t : Nat), s.get R.TIME_NET_CTL_SRC = 1 →
    Completes (exec (.timeNetAdj v t) s) fun u => u = (s.upTo t).netDeliver (sgn 32 v * 65536)) ∧
  (∀ (s : State) (t : Nat), s.netLive = true → s.time.netAt + nsToT (100000000 * max 1 (s.get R.TIME_NET_CTL_TIMEOUT)) < max s.now t + 1 →
    Completes (exec (.netTimeout t) s) fun u => u = (s.upTo t).netLost) ∧
  (∀ (s : State) (t : Nat), s.xoGone = false → s.tb ≠ tbDen →
    Completes (exec (.xoFault t) s) fun u =>
      u = ((((s.upTo t).put R.TIME_STATUS_XO_FAULT 1).startPull 0).setTb tbFreerun).timeEvt 10)

/-- BEACON_SEND, BEACON_RECEIVE and BEACON_CHOICE complete (R383). BEACON_SEND of a locked lane of ROLE 3 or 4, at most once a millisecond,
queues the beacon frame with the state, reference, hops and error; BEACON_RECEIVE, on a lane of ROLE 3 or 4 while beacons are the source,
adds the delay of a beacon whose sender is locked and within 14 hops to the lane's sum and passes over any other; BEACON_CHOICE, once a
second, follows the best lane's mean and notes it, or notes 15 hops when no lane has a beacon. -/
def Obligations.Beacons : Prop :=
  (∀ (s : State) (l t : Nat), s.is R.TIME_CTL_BEACON_TX = true → s.locked l = true → s.laneRole l = 3 ∨ s.laneRole l = 4 →
    Tab.get 0 s.time.beaconAt l = 0 ∨ Tab.get 0 s.time.beaconAt l + nsToT 1000000 ≤ max s.now t + 1 →
    Completes (exec (.beaconSend l t) s) fun u =>
      let s0 := s.upTo t
      let d := leBytes 1 s.tb ++ leBytes 1 (s.get R.TIME_STATUS_REF) ++ leBytes 2 s0.beaconHops ++ leBytes 4 s0.beaconErr ++ zeros 24
      let s1 := s0.withTime (fun x => { x with beaconAt := Tab.set 0 x.beaconAt l (max s.now t + 1) })
      u = s1.queueLane l (s1.linkFrame 0x0C 0 0 0 d 0)) ∧
  (∀ (s : State) (l arrival t : Nat) (f : RxDone) (s1 : State),
    (s.upTo t).rxTake l (fun f => hdrType f.hdr == 0x0C) = some (f, s1) →
    s1.get R.TIME_NET_CTL_SRC = 2 → s1.laneRole l = 3 ∨ s1.laneRole l = 4 →
    byteAt f.payload 0 = 2 ∨ byteAt f.payload 0 = 3 → fld f.payload 2 2 < 15 → hdrNode f.hdr ≠ s1.nodeByte →
    Completes (exec (.beaconReceive l arrival t) s) fun u =>
      let b := Tab.get Beacon.init s1.time.beacons l
      Tab.get Beacon.init u.time.beacons l = ⟨fld f.payload 2 2, fld f.payload 4 4,
        b.sum + ((hdrTime f.hdr : Int) + sgn 32 (s1.get1 R.TIME_BEACON_DELAY_DELAY l) - arrival), b.n + 1⟩ ∧
      u = { s1 with time := { s1.time with beacons := u.time.beacons } }) ∧
  (∀ (s : State) (l arrival t : Nat) (f : RxDone) (s1 : State),
    (s.upTo t).rxTake l (fun f => hdrType f.hdr == 0x0C) = some (f, s1) →
    s1.get R.TIME_NET_CTL_SRC ≠ 2 ∨ ¬(s1.laneRole l = 3 ∨ s1.laneRole l = 4) ∨
      ¬(byteAt f.payload 0 = 2 ∨ byteAt f.payload 0 = 3) ∨ 15 ≤ fld f.payload 2 2 ∨ hdrNode f.hdr = s1.nodeByte →
    Completes (exec (.beaconReceive l arrival t) s) fun u => u = s1) ∧
  (∀ (s : State) (t : Nat), s.get R.TIME_NET_CTL_SRC = 2 → s.time.choiceAt = 0 ∨ s.time.choiceAt + secT ≤ max s.now t + 1 →
    bestBeacon s.time.beacons = none →
    Completes (exec (.beaconChoice t) s) fun u =>
      u = ((s.upTo t).withTime (fun x => { x with beacons := [], choiceAt := max s.now t + 1 })).put R.TIME_STATUS_BEACON_HOPS 15) ∧
  (∀ (s : State) (t l : Nat) (b : Beacon), s.get R.TIME_NET_CTL_SRC = 2 → s.time.choiceAt = 0 ∨ s.time.choiceAt + secT ≤ max s.now t + 1 →
    bestBeacon s.time.beacons = some (l, b) →
    Completes (exec (.beaconChoice t) s) fun u =>
      let mean : Int := b.sum * 65536 / b.n
      let s1 := (s.upTo t).withTime (fun x => { x with beacons := [], choiceAt := max s.now t + 1 })
      let s2 := ((s1.put R.TIME_STATUS_BEACON_LANE l).put R.TIME_STATUS_BEACON_HOPS b.hops).withTime (fun x => { x with followErr := b.err })
      u = (s2.put R.TIME_NET_RATE_RATE (usgn 32 (sgn 32 (s2.get R.TIME_NET_RATE_RATE) + mean / 8))).netDeliver mean)

/-- Trigger outputs, trigger inputs and the DEN clock complete (R384, R386, R387). TRIGOUT_ARM of a start in the future arms the output with
its first pulse, and refuses a width of zero or a period not above the width; TRIGOUT_CANCEL disarms; TRIGOUT_PULSE fires the pulse that is
due and notes a late one; TRIGIN_EDGE within 50 ns of the last counts CLOSE, else stamps the edge, or counts DROPPED when 32 stamps wait;
TRIGIN_POP drops the oldest stamp; DEN_TICK advances the time by 320 ns from its base; DEN_PPS_EDGE of a near edge moves the time to the
nearest whole second. -/
def Obligations.TrigPins : Prop :=
  (∀ (s : State) (k t : Nat), k < 4 → s.get1 R.TRIGOUT_CTL_WIDTH k ≠ 0 → max s.now t < s.get1 R.TRIGOUT_START_TIME k →
    (s.is1 R.TRIGOUT_CTL_MODE k = true → s.get1 R.TRIGOUT_CTL_WIDTH k * 10 * secT < s.get1 R.TRIGOUT_PERIOD_PERIOD k * 1000000000) →
    Completes (exec (.trigoutArm k t) s) fun u => u.get1 R.TRIGOUT_STATUS_ARMED k = 1 ∧ (u.trigOut k).next = s.get1 R.TRIGOUT_START_TIME k ∧
      (u.trigOut k).periodic = s.is1 R.TRIGOUT_CTL_MODE k ∧
      u = { s with now := max s.now t, regs := u.regs, time := { s.time with trig := u.time.trig } }) ∧
  (∀ (s : State) (k t : Nat), k < 4 →
    s.get1 R.TRIGOUT_CTL_WIDTH k = 0 ∨ (s.is1 R.TRIGOUT_CTL_MODE k = true ∧
      s.get1 R.TRIGOUT_PERIOD_PERIOD k * 1000000000 ≤ s.get1 R.TRIGOUT_CTL_WIDTH k * 10 * secT) →
    Completes (exec (.trigoutArm k t) s) fun u => u = (s.upTo t).bump1 R.TRIGOUT_STATUS_REFUSED k 1) ∧
  (∀ (s : State) (k : Nat), k < 4 →
    Completes (exec (.trigoutCancel k) s) fun u => u = s.put1 R.TRIGOUT_STATUS_ARMED k 0 ∧ u.get1 R.TRIGOUT_STATUS_ARMED k = 0) ∧
  (∀ (s : State) (k t : Nat), k < 4 → s.is1 R.TRIGOUT_STATUS_ARMED k = true → (s.trigOut k).next ≤ max s.now t → (s.trigOut k).busyTo ≤ max s.now t →
    Completes (exec (.trigoutPulse k t) s) fun u =>
      u = if (s.trigOut k).next < max s.now t then ((s.upTo t).firePulse k (max s.now t)).trigLate k
        else (s.upTo t).firePulse k (s.trigOut k).next) ∧
  (∀ (s : State) (p t : Nat), p < 4 → Tab.get 0 s.time.edgeAt p ≠ 0 → max s.now t + 1 < Tab.get 0 s.time.edgeAt p + nsToT 50 →
    Completes (exec (.triginEdge p t) s) fun u =>
      u = ((s.upTo t).withTime (fun x => { x with edgeAt := Tab.set 0 x.edgeAt p (max s.now t + 1) })).bump R.TRIGIN_CTL_CLOSE 1) ∧
  (∀ (s : State) (p t : Nat), p < 4 → Tab.get 0 s.time.edgeAt p = 0 ∨ Tab.get 0 s.time.edgeAt p + nsToT 50 ≤ max s.now t + 1 →
    Completes (exec (.triginEdge p t) s) fun u =>
      let s1 := (s.upTo t).withTime (fun x => { x with edgeAt := Tab.set 0 x.edgeAt p (max s.now t + 1) })
      let s2 := ((s1.withTime (fun x => { x with stamps := x.stamps ++ [(p, max s.now t)] })).triginShow).tapEdge p
      u = if 32 ≤ s.time.stamps.length then ((s1.tapEdge p).bump R.TRIGIN_CTL_DROPPED 1).timeEvt 9
        else if s.time.stamps.isEmpty = true then s2.timeEvt 8 else s2) ∧
  (∀ (s : State), Completes (exec .triginPop s) fun u => u.time.stamps = s.time.stamps.drop 1 ∧
      u.get R.TRIGIN_CTL_COUNT = R.TRIGIN_CTL_COUNT.trunc (s.time.stamps.drop 1).length ∧
      u = { s with regs := u.regs, time := { s.time with stamps := u.time.stamps } }) ∧
  (∀ (s : State), s.tb = tbDen →
    Completes (exec .denTick s) fun u => u.time.denTicks = s.time.denTicks + 1 ∧
      u.now = s.time.denBase + (s.time.denTicks + 1) * 320 * secT / 1000000000 ∧
      u = { s with now := u.now, time := { s.time with denTicks := u.time.denTicks } }) ∧
  (∀ (s : State), s.tb = tbDen → (nearest s.now s.time.denOfs.1 - s.now).natAbs ≤ nsToT 10000 →
    Completes (exec (.denPpsEdge 0) s) fun u =>
      u = { s with now := (nearest s.now s.time.denOfs.1).toNat,
                   time := { s.time with denA := s.now + 1, denBase := (nearest s.now s.time.denOfs.1).toNat, denTicks := 0 } })

/-- Taps, streams, frames and retries of capture complete (R172, R189, R368, R394, R404, R405). TAP_SAMPLE of a live tap takes its value
into the unit; CAP_WPTR_ADVANCE shows the write offset and drains the stream; CAPTURE_FRAME_SEND sends the full or overdue frame of waiting
records to the destination they were queued for; FRAME_SKIP drops records that have waited 1 ms, those in queued frames too, and counts
them; RECORD_RETRY unblocks the stream and drains it, and for a page or a destination that waits it is BEAM_PAGE_HEADER or RETRACTION_SEND
again. -/
def Obligations.CaptureCommands : Prop :=
  (∀ (s : State) (k t : Nat) (c : TapCfg) (r : List TapCfg) (v : Int), (s.unit k).cfgs = c :: r → s.cap.run = true → c.live = true →
    (∀ e, s.draft.stopSpan = some e → (s.unit k).n / s.capT ≤ e) → (s.upTo t).tapValue c (s.unit k).n = some v →
    Completes (exec (.tapSample k t) s) fun u => u = ((s.upTo t).tapStep k c v).capPrune) ∧
  (∀ (s : State) (k t : Nat), k ∈ s.capStreams →
    Completes (exec (.capWptrAdvance k t) s) fun u => u = ((s.upTo t).put1 R.CAP_WPTR_OFFSET k (s.stream k).off).drain k) ∧
  (∀ (s : State) (k t : Nat) (f : Nat × Nat × Nat × List Byte) (r : List (Nat × Nat × Nat × List Byte)), (s.stream k).fq = f :: r →
    destBody s.draft.struct f.2.2.1 ≠ [] → destKind (destBody s.draft.struct f.2.2.1) = 0 →
    (frameTake f.2.2.1 8192 (f :: r)).2 ≠ [] ∨ f.2.1 + nsToT 100000 ≤ max s.now t →
    Completes (exec (.captureFrameSend k t) s) fun u =>
      let d := f.2.2.1
      let recs := (frameTake d 8192 (f :: r)).1
      let x := (s.upTo t).nextItem d
      u = (x.2.setStream k { s.stream k with fq := (frameTake d 8192 (f :: r)).2 }).queueDest d
        ⟨destSrc s.draft.struct d, 0x04, f.2.1, true, 0, recs.length, f.1 % 2 ^ 56 + k * 2 ^ 56, recs.flatMap (·.2.2.2), 0, x.1,
          destHanks (destBody s.draft.struct d)⟩) ∧
  (∀ (s : State) (k t : Nat), s.silent = false →
    (s.stream k).fq.any (fun f => decide (f.2.1 + nsToT 1000000 ≤ max s.now t)) = true →
    Completes (exec (.frameSkip k t) s) fun u =>
      let waiting := s.frames.destQ.flatMap (fun q => q.2.filter (capFrame k))
      let q := (s.frames.destQ.map (fun (q : Nat × List OutFrame) => (q.1, q.2.filter (fun f => !capFrame k f)))).filter
        (fun (q : Nat × List OutFrame) => !q.2.isEmpty)
      u = ((({ s.upTo t with frames := { s.frames with destQ := q } } : State).setStream k { s.stream k with fq := [] }).bump1
        R.CAP_LOSS_FRAME_SKIP k ((s.stream k).fq.length + sumN waiting (fun f => f.count))).trigEvt R.CAP_EVT_FRAME_SKIP k) ∧
  (∀ (s : State) (k t : Nat), k < 16 → (s.stream k).blocked = true →
    Completes (exec (.recordRetry k t) s) fun u => u = ((s.upTo t).setStream k { s.stream k with blocked := false }).drain k) ∧
  (∀ (s : State) (t : Nat), s.beam.retry.contains 65536 = true →
    exec (.recordRetry 16 t) s = exec (.beamPageHeader t) (s.upTo t)) ∧
  (∀ (s : State) (d t : Nat), s.beam.retry.contains d = true →
    exec (.recordRetry (17 + d) t) s = exec (.retractionSend d 128 t) (s.upTo t))

/-- Register and group accesses of the crossbar complete (R13, R14, R16, R411, R412). REGISTER_WRITE, RC_READ, LATCHED_LOW_READ, GROUP_WRITE
and GROUP_READ of an aligned register reach it at once when the target is free for the master, and wait in the queue otherwise; a write
without all byte enables is discarded; a misaligned access changes nothing, a read answers zero, and the Badger cores get an error. The high
half reads the latch, the low half fills it; a register of an offline unit reads zero, its write only notes the access, and the master that
has a code for it is told. -/
def Obligations.CrossbarAccesses : Prop :=
  (∀ (s : State) (m off v t : Nat), off < 0x4000000 → off % 4 = 0 → v < 4294967296 → s.alive = true → s.get R.PAIR_CTL_MODE ≠ 1 →
    (s.upTo t).mustWait m off true = false →
    let w := ((s.upTo t).granted m off).writeReg m off v t
    Completes (exec (.registerWrite m off ⟨v, 15⟩ t) s) fun u =>
      u = (if (s.upTo t).regOffline off = true then w.tellOffline m off false else w).lockWritten off (some v) t) ∧
  (∀ (s : State) (m off v e t : Nat), e ≠ 15 →
    Completes (exec (.registerWrite m off ⟨v, e⟩ t) s) (fun u => u = s.upTo t) ∧ Completes (exec (.groupWrite m off ⟨v, e⟩ t) s) (fun u => u = s.upTo t)) ∧
  (∀ (s : State) (m off t : Nat), off < 0x4000000 → off % 4 = 0 → s.alive = true → m ≠ 1 → (s.upTo t).mustWait m off false = false →
    let r := (((s.upTo t).granted m off).memShown off).readReg m off
    Completes (exec (.rcRead m off t) s) fun u =>
      u = (if (s.upTo t).regOffline off = true then r.2.tellOffline m off true else r.2).emit (.regRead m off r.1)) ∧
  (∀ (s : State) (m off t : Nat), off < 0x4000000 → off % 4 = 0 → s.alive = true → m ≠ 1 → (s.upTo t).mustWait m off false = false →
    let r := (((s.upTo t).granted m off).memShown off).readReg m off
    Completes (exec (.latchedLowRead m off t) s) fun u =>
      u = (if (s.upTo t).regOffline off = true then r.2.tellOffline m off true else r.2).emit (.regRead m off r.1)) ∧
  (∀ (s : State) (m off v t : Nat), off < 0x4000000 → off % 4 = 0 → v < 4294967296 → s.alive = true → s.get R.PAIR_CTL_MODE ≠ 1 →
    (s.upTo t).mustWait m (0x4000000 + off) true = false →
    Completes (exec (.groupWrite m off ⟨v, 15⟩ t) s) fun u =>
      u = ((s.upTo t).granted m (0x4000000 + off)).groupWrite m off v ((s.upTo t).membersAt (0x4000000 + off)) t) ∧
  (∀ (s : State) (m off t : Nat), off < 0x4000000 → off % 4 = 0 → s.alive = true → m ≠ 1 →
    (s.upTo t).mustWait m (0x4000000 + off) false = false →
    let r := (((s.upTo t).granted m (0x4000000 + off)).memShown (0x4000000 + off)).groupRead m off ((s.upTo t).membersAt (0x4000000 + off))
    Completes (exec (.groupRead m off t) s) fun u => u = r.2.emit (.regRead m (0x4000000 + off) r.1)) ∧
  (∀ (s : State) (m off v t : Nat), off < 0x4000000 → off % 4 ≠ 0 → s.alive = true →
    Completes (exec (.registerWrite m off ⟨v, 15⟩ t) s) fun u =>
      u = if m = 3 ∨ m = 4 then (s.upTo t).emit (.regError m off) else s.upTo t) ∧
  (∀ (s : State) (m off t : Nat), off < 0x4000000 → off % 4 ≠ 0 → s.alive = true → m ≠ 1 →
    Completes (exec (.rcRead m off t) s) fun u =>
      let s1 := (s.upTo t).emit (.regRead m off 0)
      u = if m = 3 ∨ m = 4 then s1.emit (.regError m off) else s1) ∧
  (∀ (s : State) (m off t : Nat), off < 0x4000000 → off % 4 = 0 → s.alive = true → (s.upTo t).mustWait m off false = true →
    Completes (exec (.rcRead m off t) s) fun u =>
      u = { s.upTo t with xbar := { s.xbar with queue := s.xbar.queue ++ [⟨m, off, none, (s.upTo t).membersAt off⟩] } }) ∧
  (∀ (s : State) (m off i j : Nat) (r : Reg), regAt off = some (r, i, j) → s.offline off r i = false → r.high = true →
    s.readReg m off = (Tab.get 0 s.xbar.latch (latchKey m (off - 4)), s)) ∧
  (∀ (s : State) (m off i j i' j' : Nat) (r h : Reg), regAt off = some (r, i, j) → s.offline off r i = false → r.high = false →
    highOf off = some (h, i', j') →
    s.readReg m off = (s.word m r i j,
      (({ s with xbar := { s.xbar with latch := Tab.set 0 s.xbar.latch (latchKey m off) (s.word m h i' j') } } : State).clearRc r i j).advance r i)) ∧
  (∀ (s : State) (m off i j : Nat) (r : Reg), regAt off = some (r, i, j) → s.offline off r i = true →
    (s.readReg m off).1 = 0 ∧ ∀ v t : Nat, (s.upTo t).offline off r i = true → s.writeReg m off v t = (s.upTo t).noteOffline r i)

/-- LOCK_ACQUIRE, LOCK_GRANT, LOCK_RELEASE, LOCK_EXPIRY and XBAR_TIMEOUT complete (R416, R417). LOCK_ACQUIRE of a master with no lock and no
wait waits for its target, and counts a refusal else or for target 21; LOCK_GRANT gives a free target to the waiting master; LOCK_RELEASE
writes the release and serves what waited; LOCK_EXPIRY takes back a lock held past its limit; XBAR_TIMEOUT counts a request without a
response, with event 0x17E, and answers a read with zero and an error; of a request that waits behind a lock it does nothing. -/
def Obligations.CrossbarLocks : Prop :=
  (∀ (s : State) (m k t : Nat), k < 32 → k ≠ 21 → (Tab.get (0, 0) s.xbar.held m).1 = 0 → Tab.get 0 s.xbar.wait m = 0 →
    Completes (exec (.lockAcquire m k t) s) fun u => Tab.get 0 u.xbar.wait m = k + 1 ∧ Tab.get 0 u.xbar.target m = k ∧
      u = { s with now := max s.now t, xbar := { s.xbar with wait := u.xbar.wait, target := u.xbar.target } }) ∧
  (∀ (s : State) (m k t : Nat), k < 32 → k = 21 ∨ (Tab.get (0, 0) s.xbar.held m).1 ≠ 0 ∨ Tab.get 0 s.xbar.wait m ≠ 0 →
    Completes (exec (.lockAcquire m k t) s) fun u => u.xbar.wait = s.xbar.wait ∧ u.xbar.held = s.xbar.held ∧
      u = (({ s.upTo t with xbar := { s.xbar with target := Tab.set 0 s.xbar.target m k } } : State).bump R.XBAR_STATUS_LOCK_REFUSED 1)) ∧
  (∀ (s : State) (m w t : Nat), Tab.get 0 s.xbar.wait m = w + 1 → s.lockedOut m (some w) = false →
    Completes (exec (.lockGrant m t) s) fun u => Tab.get 0 u.xbar.wait m = 0 ∧ Tab.get (0, 0) u.xbar.held m = (w + 1, max s.now t) ∧
      u = { s with now := max s.now t, xbar := { s.xbar with wait := u.xbar.wait, held := u.xbar.held } }) ∧
  (∀ (s : State) (m w t : Nat), Tab.get 0 s.xbar.wait m = w + 1 → s.lockedOut m (some w) = true →
    Completes (exec (.lockGrant m t) s) fun u => u = s.upTo t) ∧
  (∀ (s : State) (m t : Nat), Completes (exec (.lockRelease m t) s) fun u =>
      u = ((s.upTo t).writeLock m (1073741824 + Tab.get 0 s.xbar.target m * 65536)).drainQueue t) ∧
  (∀ (s : State) (m t : Nat), (Tab.get (0, 0) s.xbar.held m).1 ≠ 0 →
    (Tab.get (0, 0) s.xbar.held m).2 + nsToT (1000 * max 1 (s.get R.XBAR_LOCK_LIMIT_US)) ≤ max s.now t →
    Completes (exec (.lockExpiry m t) s) fun u =>
      u = (((({ s.upTo t with xbar := { s.xbar with held := Tab.set (0, 0) s.xbar.held m (0, 0) } } : State).bump
        R.XBAR_STATUS_LOCK_EXPIRED 1).raise 0x17E).drainQueue t)) ∧
  (∀ (s : State) (m off t : Nat), s.alive = true →
    s.xbar.queue.any (fun q => q.master == m && q.off == off && q.value.isSome == true) = false →
    Completes (exec (.xbarTimeout m off t true) s) fun u => u = ((s.upTo t).bump R.XBAR_STATUS_TIMEOUT 1).raise 0x17E) ∧
  (∀ (s : State) (m off t : Nat), s.alive = true → m ≠ 1 →
    s.xbar.queue.any (fun q => q.master == m && q.off == off && q.value.isSome == false) = false →
    Completes (exec (.xbarTimeout m off t false) s) fun u =>
      u = ((((s.upTo t).bump R.XBAR_STATUS_TIMEOUT 1).raise 0x17E).emit (.regRead m off 0)).emit (.regError m off)) ∧
  (∀ (s : State) (m off t : Nat) (w : Bool), s.xbar.queue.any (fun q => q.master == m && q.off == off && q.value.isSome == w) = true →
    Completes (exec (.xbarTimeout m off t w) s) fun u => u = s.upTo t)

/-- DMA channels: arming, disabling and failing (R423, R424). DMA_ARM starts a channel that is not running, with errors cleared and its
address taken, and is counted as ignored by one that is; DMA_DISABLE leaves the state DISABLED, and in a running channel lets what was
issued happen first; a failure leaves the state FAILED with its error code and the bytes moved. -/
def Obligations.DmaChannelStates : Prop :=
  (∀ (s : State) (n : Nat), s.dmaState n ≠ 1 →
    Completes (exec (.dmaArm n) s) fun u => u.dmaState n = 1 ∧ u.get1 R.DMA_STATUS_ERR n = 0 ∧ u.get1 R.DMA_STATUS_POISON n = 0 ∧
      u.get1 R.DMA_CUR_ADDR n = s.get1 R.DMA_DESC_ADDR n / 64 * 64 % 2 ^ 64 ∧ u.dmaChan n = DmaChan.init ∧
      u = { s with regs := u.regs, dma := u.dma }) ∧
  (∀ (s : State) (n : Nat), s.dmaState n = 1 → Completes (exec (.dmaArm n) s) fun u => u = s.bump1 R.DMA_STATUS_IGNORED n 1) ∧
  (∀ (s : State) (n t : Nat) (ext : List Byte) (bad : List Nat), s.dmaState n ≠ 1 →
    Completes (exec (.dmaDisable n ext bad t) s) fun u => u = (s.upTo t).put1 R.DMA_STATUS_STATE n 4) ∧
  (∀ (s : State) (n t : Nat) (ext : List Byte) (bad : List Nat), s.dmaState n = 1 →
    Completes (exec (.dmaDisable n ext bad t) s) fun u =>
      u = ((s.upTo t).dmaIssued (aperRead t) (aperWrite t) n ext bad).dmaDrop n 4) ∧
  (∀ (s : State) (n t : Nat) (ext : List Byte) (bad : List Nat), s.dmaState n = 1 → (s.dmaChan n).desc = [] →
    Completes (exec (.dmaDisable n ext bad t) s) fun u => u.dmaState n = 4 ∧ u.dmaChan n = DmaChan.init ∧ u.free = s.free + 2 ∧
      u = { s with now := max s.now t, regs := u.regs, dma := u.dma, free := u.free }) ∧
  (∀ (s : State) (n e m : Nat), n < 32 → (s.dmaFail n e m false).dmaState n = 3 ∧ (s.dmaFail n e m false).get1 R.DMA_STATUS_ERR n = e % 16 ∧
    (s.dmaFail n e m false).dma = (s.setDma n { s.dmaChan n with desc := [], moved := m }).dma)

/-- DMA descriptors: fetching, completing and failing (R419, R421, R422). DESCRIPTOR_FETCH takes a good descriptor, fails with 2 when it is
misaligned, unreadable or poisoned and with 1 when it is invalid; DESCRIPTOR_COMPLETE does the descriptor's work, with BARRIER waits until
its writes are visible, writes its status back and goes on, ends, or fails with the error met; DMA_FAILURE of a channel with no descriptor
fails it with 2, of one with a descriptor with errors 3 and 4 after the bytes that were moved. -/
def Obligations.DmaDescriptors : Prop :=
  (∀ (s : State) (n t : Nat) (ext : List Byte) (bad : Bool), s.dmaState n = 1 → (s.dmaChan n).desc = [] → s.get1 R.DMA_CUR_ADDR n % 64 ≠ 0 →
    Completes (exec (.descriptorFetch n ext bad t) s) fun u => u = (s.upTo t).dmaFail n 2 0 false) ∧
  (∀ (s : State) (n t : Nat) (ext : List Byte) (bad : Bool), s.dmaState n = 1 → (s.dmaChan n).desc = [] → s.get1 R.DMA_CUR_ADDR n % 64 = 0 →
    let r := (s.upTo t).storeRead 33 (s.get1 R.DMA_CUR_ADDR n) 64 ext
    (r.status ≠ 0 ∨ (r.poisoned = true ∧ bad = false) →
      Completes (exec (.descriptorFetch n ext bad t) s) fun u => u = r.st.dmaFail n 2 0 false) ∧
    (∀ h, ((s.upTo t).translate 33 false (s.get1 R.DMA_CUR_ADDR n)).1 = .host h → r.status = 0 →
      Completes (exec (.descriptorFetch n ext true t) s) fun u => u = r.st.pciePoison.dmaFail n 2 0 false)) ∧
  (∀ (s : State) (n t : Nat) (ext : List Byte), s.dmaState n = 1 → (s.dmaChan n).desc = [] → s.get1 R.DMA_CUR_ADDR n % 64 = 0 →
    let r := (s.upTo t).storeRead 33 (s.get1 R.DMA_CUR_ADDR n) 64 ext
    r.status = 0 → r.poisoned = false →
    Completes (exec (.descriptorFetch n ext false t) s) fun u =>
      u = if (r.st.setDma n ⟨r.data, 0, false, none⟩).dmaValid r.data = true
        then (r.st.setDma n ⟨r.data, 0, false, none⟩).put1 R.DMA_REMAIN_BYTES n (dmaLen r.data)
        else (r.st.setDma n ⟨r.data, 0, false, none⟩).dmaFail n 1 0 true) ∧
  (∀ (s : State) (n t : Nat) (ext : List Byte) (bad : List Nat), s.dmaState n = 1 → (s.dmaChan n).desc ≠ [] →
    (s.upTo t).dmaLocked (s.dmaChan n).desc = false → (s.dmaChan n).held = none →
    let d := (s.dmaChan n).desc
    let b := (s.upTo t).dmaBody (aperRead t) (aperWrite t) n ext bad
    let s3 := b.1.st.dmaVisible (s.upTo t)
    (b.1.err ≠ 0 → Completes (exec (.descriptorComplete n ext bad t) s) fun u => u = b.1.st.dmaFail n b.1.err b.1.moved true) ∧
    (b.1.err = 0 → dmaBarrier d = false →
      Completes (exec (.descriptorComplete n ext bad t) s) fun u => u = b.1.st.dmaFinish n b.2 b.1.moved) ∧
    (b.1.err = 0 → dmaBarrier d = true →
      Completes (exec (.descriptorComplete n ext bad t) s) fun u =>
        u = if s3.dmaFlushing = true ∨ s3.sent.length ≠ b.1.st.sent.length
          then s3.setDma n { s3.dmaChan n with held := some (b.2, b.1.moved) } else s3.dmaFinish n b.2 b.1.moved)) ∧
  (∀ (s : State) (n t v m : Nat) (ext : List Byte) (bad : List Nat), s.dmaState n = 1 → (s.dmaChan n).desc ≠ [] →
    (s.upTo t).dmaLocked (s.dmaChan n).desc = false → (s.dmaChan n).held = some (v, m) →
    Completes (exec (.descriptorComplete n ext bad t) s) fun u =>
      u = if (s.upTo t).dmaFlushing = true then s.upTo t else (s.upTo t).dmaFinish n v m) ∧
  (∀ (s : State) (n v m : Nat),
    let d := (s.dmaChan n).desc
    let w := s.storePut 33 (s.get1 R.DMA_CUR_ADDR n + 40)
      (leBytes 8 v ++ leBytes 4 (1 + 256 * b2n (s.dmaChan n).poison) ++ leBytes 4 m ++ leBytes 8 s.now) false
    let s5 := (if dmaIrq d then w.1.dmaEvt R.DMA_EVT_DESC n else w.1).put1 R.DMA_REMAIN_BYTES n 0
    (w.2 ≠ 0 → s.dmaFinish n v m = w.1.dmaFail n 2 m false) ∧
    (w.2 = 0 → dmaLast d = true → s.dmaFinish n v m = ((s5.setDma n DmaChan.init).put1 R.DMA_STATUS_STATE n 2).dmaEvt R.DMA_EVT_DONE n) ∧
    (w.2 = 0 → dmaLast d = false → s.dmaFinish n v m = s5.dmaNext n (dmaNextAddr d))) ∧
  (∀ (s : State) (n t e m : Nat) (ext : List Byte) (bad : List Nat), s.dmaState n = 1 → (s.dmaChan n).desc = [] →
    Completes (exec (.dmaFailure n e m ext bad t) s) fun u => u = (s.upTo t).dmaFail n 2 0 false) ∧
  (∀ (s : State) (n t m : Nat) (ext : List Byte) (bad : List Nat), s.dmaState n = 1 → (s.dmaChan n).desc ≠ [] →
    (s.upTo t).dmaLocked (s.dmaChan n).desc = false → (s.dmaChan n).held = none →
    let x := (s.upTo t).dmaMove (aperRead t) (aperWrite t) (s.dmaChan n).desc (min m (dmaLen (s.dmaChan n).desc)) ext bad
    x.err = 0 →
    Completes (exec (.dmaFailure n 3 m ext bad t) s) (fun u => u = (x.st.dmaPoison n x.poison).dmaFail n 3 x.moved true) ∧
    Completes (exec (.dmaFailure n 4 m ext bad t) s) (fun u => u = (x.st.dmaPoison n x.poison).dmaFail n 4 x.moved true))

/-- CHECK_ALIVE_IN classifies the counter value it is given (R427). The first value, or one more than the last, becomes the last value; the
same value or one from behind counts a duplicate and keeps the last value; a value 2 to 32,768 ahead counts a jump, records how many were
missed and becomes the last value. Everything else stays as it was but for the event of the unit. -/
def Obligations.AliveCounter : Prop :=
  ∀ (s : State) (u v : Nat), u < 16 → v < 65536 →
    let last := s.get1 R.CHECK_ALIVE_LAST_LAST u
    let d := (v + 65536 - last) % 65536
    let valid := s.get1 R.CHECK_ALIVE_LAST_VALID u
    Completes (exec (.checkAliveIn u v) s) fun x =>
      (valid ≠ 1 ∨ d = 1 → x = (s.put1 R.CHECK_ALIVE_LAST_LAST u v).put1 R.CHECK_ALIVE_LAST_VALID u 1 ∧
        x.get1 R.CHECK_ALIVE_LAST_LAST u = v ∧ x.get1 R.CHECK_ALIVE_LAST_VALID u = 1) ∧
      (valid = 1 → d = 0 ∨ 32768 < d → x = (s.bump1 R.CHECK_COUNT_DUPS u 1).cause1 R.CHECK_STATUS_DUP u 0 (0x120 + u) ∧
        x.get1 R.CHECK_STATUS_DUP u = 1 ∧ x.get1 R.CHECK_ALIVE_LAST_LAST u = last ∧
        x.get1 R.CHECK_COUNT_DUPS u = min (2 ^ R.CHECK_COUNT_DUPS.w - 1) (s.get1 R.CHECK_COUNT_DUPS u + 1)) ∧
      (valid = 1 → 2 ≤ d → d ≤ 32768 →
        x = ((((s.put1 R.CHECK_ALIVE_LAST_LAST u v).put1 R.CHECK_ALIVE_LAST_VALID u 1).put1 R.CHECK_STATUS_MISSED u (d - 1)).bump1
          R.CHECK_COUNT_JUMPS u 1).cause1 R.CHECK_STATUS_JUMP u 0 (0x120 + u) ∧
        x.get1 R.CHECK_STATUS_JUMP u = 1 ∧ x.get1 R.CHECK_STATUS_MISSED u = d - 1 ∧ x.get1 R.CHECK_ALIVE_LAST_LAST u = v ∧
        x.get1 R.CHECK_COUNT_JUMPS u = min (2 ^ R.CHECK_COUNT_JUMPS.w - 1) (s.get1 R.CHECK_COUNT_JUMPS u + 1))

/-- CHECK_INIT, CHECK_DATA and CHECK_STATE complete (R426, R428). CHECK_INIT loads the initial state of the selected polynomial and clears
the alive counter; CHECK_DATA feeds the selected bytes of its word and selects four bytes again; CHECK_STATE replaces one half of the state;
each shows the result of the state it leaves and changes no other register. -/
def Obligations.CheckUnits : Prop :=
  (∀ (s : State) (u : Nat),
    let p := s.get1 R.CHECK_CTL_POLY u
    let k := if p = 3 then 0 else p
    Completes (exec (.checkInit u) s) fun x =>
      x.get1 R.CHECK_STATE_STATE u = Machine.checkInit k % 2 ^ checkWidth k ∧ x.checkKind u = k ∧
      x.get1 R.CHECK_RESULT_RESULT u = checkFinal k (Machine.checkInit k % 2 ^ checkWidth k) % 2 ^ 64 ∧
      x.get1 R.CHECK_ALIVE_LAST_VALID u = 0 ∧ x.get1 R.CHECK_ALIVE_LAST_LAST u = 0 ∧
      x = { s with regs := x.regs, checkPoly := x.checkPoly }) ∧
  (∀ (s : State) (u w : Nat),
    let n := s.get1 R.CHECK_CTL_BYTES u
    let k := s.checkKind u
    let v := checkFeed k (s.get1 R.CHECK_STATE_STATE u) ((leBytes 4 w).take (if n = 0 then 4 else n)) % 2 ^ checkWidth k
    Completes (exec (.checkData u w) s) fun x =>
      x.get1 R.CHECK_STATE_STATE u = v % 2 ^ 64 ∧ x.get1 R.CHECK_RESULT_RESULT u = checkFinal k v % 2 ^ 64 ∧
      x.get1 R.CHECK_CTL_BYTES u = 0 ∧ x = { s with regs := x.regs }) ∧
  (∀ (s : State) (u w : Nat) (high : Bool),
    let k := s.checkKind u
    let v := putBits (s.get1 R.CHECK_STATE_STATE u) (if high then 32 else 0) 32 w % 2 ^ checkWidth k
    Completes (exec (.checkState u high w) s) fun x =>
      x.get1 R.CHECK_STATE_STATE u = v % 2 ^ 64 ∧ x.get1 R.CHECK_RESULT_RESULT u = checkFinal k v % 2 ^ 64 ∧
      x = { s with regs := x.regs })

/-- The host function: link, reset, D3hot and timeouts complete (R437, R438). LINK_DOWN of a link that is up clears it and counts; LINK_UP
brings a link up with its speed and width and sends the vectors that waited; FN_RESET clears the link state, the MSI-X table and the host's
SPDM connection; D3HOT sets and leaves D3hot; the reads of host memory under way end with status 1 as the link or the function goes;
COMPLETION_TIMEOUT of a read that has stood for 10 ms counts and answers the port with an error. -/
def Obligations.HostFunction : Prop :=
  (∀ (s : State), s.get R.PCIE_STATUS_UP = 1 →
    Completes (exec .linkDown s) fun u => u.get R.PCIE_STATUS_UP = 0 ∧ u.get R.PCIE_STATUS_SPEED = 0 ∧ u.get R.PCIE_STATUS_WIDTH = 0 ∧
      u.get R.PCIE_STATUS_DOWNS = min (2 ^ R.PCIE_STATUS_DOWNS.w - 1) (s.get R.PCIE_STATUS_DOWNS + 1) ∧
      u = (((((s.put R.PCIE_STATUS_UP 0).put R.PCIE_STATUS_SPEED 0).put R.PCIE_STATUS_WIDTH 0).bump R.PCIE_STATUS_DOWNS 1).causeBase R.PCIE_EVT_CAUSE 0x160 0).hostReadsEnd) ∧
  (∀ (s : State), s.get R.PCIE_STATUS_UP ≠ 1 → Completes (exec .linkDown s) fun u => u = s) ∧
  (∀ (s : State) (v w : Nat), s.get R.PCIE_STATUS_UP ≠ 1 → s.alive = true →
    Completes (exec (.linkUp v w) s) fun u =>
      u = ((((s.put R.PCIE_STATUS_UP 1).put R.PCIE_STATUS_SPEED v).put R.PCIE_STATUS_WIDTH w).causeBase R.PCIE_EVT_CAUSE 0x160 1).vecFlush) ∧
  (∀ (s : State), s.power.d ≤ 1 →
    Completes (exec .fnReset s) fun u => u.get R.PCIE_STATUS_UP = 0 ∧ u.get R.PCIE_STATUS_SPEED = 0 ∧ u.get R.PCIE_STATUS_WIDTH = 0 ∧
      u = (({ ((s.put R.PCIE_STATUS_UP 0).put R.PCIE_STATUS_SPEED 0).put R.PCIE_STATUS_WIDTH 0 with
        evt := { s.evt with msix := [], enable := false, fmask := false }
        power := { s.power with d3hot := false }
        trust := { s.trust with conns := Tab.set 0 s.trust.conns 0 0, spdm := s.trust.spdm.filter (fun q => q.transport != 0) } } :
        State).causeBase R.PCIE_EVT_CAUSE 0x160 5).hostReadsEnd) ∧
  (∀ (s : State) (on : Bool), Completes (exec (.d3hot on) s) fun u =>
    u = if on = true then ({ s with power := { s.power with d3hot := on } } : State).hostReadsEnd else { s with power := { s.power with d3hot := on } }) ∧
  (∀ (s : State), s.hostReadsEnd = { s with
    store := { s.store with hostReads := [] }
    sent := s.sent ++ s.store.hostReads.map (fun e => .storeDone e.1 e.2.1 1 [] false) }) ∧
  (∀ (s : State) (p a t : Nat) (e : Nat × Nat × Nat), s.store.hostReads.find? (fun e => e.1 == p && e.2.1 == a) = some e →
    e.2.2 + nsToT 10000000 ≤ max s.now t →
    Completes (exec (.completionTimeout ⟨p, a⟩ t) s) fun u =>
      u.get R.PCIE_ERR_CTO = min (2 ^ R.PCIE_ERR_CTO.w - 1) (s.get R.PCIE_ERR_CTO + 1) ∧
      u = ((({ s.upTo t with store := { s.store with hostReads := s.store.hostReads.erase e } } : State).bump R.PCIE_ERR_CTO 1).causeBase
        R.PCIE_EVT_CAUSE 0x160 3).emit (.storeDone p a 3 [] false))

/-- BAR0 requests by alignment, length and byte enables (R436). For a powered part whose host function is up: an aligned 4-byte write with
all enables and an aligned read of at most 4 bytes are register accesses of master 0; any other write is counted as partial and dropped; a
misaligned read that stays in its word is counted and answers zero, one that leaves it is counted and answers an error. -/
def Obligations.HostRegisterRequests : Prop :=
  ∀ (s : State) (off t : Nat), s.alive = true → s.hostUp = true → off < 134217728 →
    (∀ v : Nat, v < 4294967296 → off % 4 = 0 →
      Completes (exec (.bar0Request true off 4 15 v t) s) fun u => u = (s.upTo t).access 0 off (some v) t) ∧
    (∀ v len en : Nat, off % 4 ≠ 0 ∨ len ≠ 4 ∨ en ≠ 15 →
      Completes (exec (.bar0Request true off len en v t) s) fun u =>
        u = ((s.upTo t).bump R.PCIE_ERR_PARTIAL 1).causeBase R.PCIE_EVT_CAUSE 0x160 2) ∧
    (∀ v en len : Nat, len ≤ 4 → off % 4 = 0 →
      Completes (exec (.bar0Request false off len en v t) s) fun u => u = (s.upTo t).access 0 off none t) ∧
    (∀ v en len : Nat, off % 4 + len ≤ 4 → off % 4 ≠ 0 →
      Completes (exec (.bar0Request false off len en v t) s) fun u =>
        u = (((s.upTo t).bump R.PCIE_ERR_PARTIAL 1).causeBase R.PCIE_EVT_CAUSE 0x160 2).emit (.regRead 0 off 0)) ∧
    (∀ v en len : Nat, 4 < off % 4 + len →
      Completes (exec (.bar0Request false off len en v t) s) fun u =>
        u = (((s.upTo t).bump R.PCIE_ERR_PARTIAL 1).causeBase R.PCIE_EVT_CAUSE 0x160 2).emit (.regError 0 off))

/-- EVT_PEND and MSIX_UNMASK complete; when a vector is sent (R429, R432). EVT_PEND clears the written pending bits, lowers their vectors
and raises again what is still at its level; MSIX_UNMASK sets a mask bit, the function mask or the enable and sends what waited; a vector
that rises is sent when it is open and noted in the pending array else, and rises once only. -/
def Obligations.PendingAndVectors : Prop :=
  (∀ (s : State) (w v : Nat), w < 32 → v < 4294967296 →
    let cleared := (bitList 32 v).map (fun k => 32 * w + k) |>.filter s.pend
    let vecs := ((cleared.filter (fun n => s.is1 R.EVT_ROUTE_MSIX n)).map (fun n => s.get1 R.EVT_ROUTE_VECTOR n)).dedup
    let s1 := s.put1 R.EVT_PEND_PEND w (clearN 32 (s.get1 R.EVT_PEND_PEND w) v)
    Completes (exec (.evtPend w v) s) fun u =>
      u = cleared.foldl (fun a n => if a.level n then a.raise n else a) (vecs.foldl State.vecFall s1) ∧
      (cleared = [] → u = s1)) ∧
  (∀ (s : State) (k : Nat) (v : Bool), k < 64 →
    Completes (exec (.msixUnmask k v) s) fun u =>
      u = ({ s with evt := { s.evt with msix := Tab.set 1 s.evt.msix (4 * k + 3) (b2n v) } } : State).vecFlush) ∧
  (∀ (s : State) (v : Bool), Completes (exec (.msixUnmask 64 v) s) fun u => u = ({ s with evt := { s.evt with fmask := v } } : State).vecFlush) ∧
  (∀ (s : State) (v : Bool), Completes (exec (.msixUnmask 65 v) s) fun u => u = ({ s with evt := { s.evt with enable := v } } : State).vecFlush) ∧
  (∀ (s : State) (v : Nat), Tab.get false s.evt.vecPend v = false → s.vecOpen v = true →
    Tab.get false (s.vecRise v).evt.vecPend v = true ∧ (s.vecRise v).sent = s.sent ++ [.msix v]) ∧
  (∀ (s : State) (v : Nat), Tab.get false s.evt.vecPend v = false → s.vecOpen v = false →
    Tab.get false (s.vecRise v).evt.vecPend v = true ∧ Tab.get false (s.vecRise v).evt.pba v = true ∧ (s.vecRise v).sent = s.sent) ∧
  (∀ (s : State) (v : Nat), Tab.get false s.evt.vecPend v = true → s.vecRise v = s)

/-- The management port: reception, transmission, collisions and register requests complete (R439, R440, R443, R444, R445). MGMT_RECEIVE
counts runts, oversizes and bad frames and dispatches a good one; MGMT_TRANSMIT sends the next frame of the order heartbeat, PTP, response;
COLLISION backs off a random number of slots, gives up after 16 tries and counts a late one; BACKOFF_EXPIRY tries again once the medium has
been quiet for a gap; MGMT_TS_POP drops a stamp; REGISTER_REQUEST is answered with 2 when requests are off, with 1 when malformed, else with
the words read. -/
def Obligations.ManagementPort : Prop :=
  (∀ (s : State) (d : List Byte) (ok : Bool) (held t : Nat), s.get R.MGMT_CTL_EN = 1 → s.alive = true →
    let s0 := (s.upTo t).carrierTo (t + nsToT (800 * (d.length + 4)))
    let tooFull := rxBuffer < s.rxHeld + held + d.length
    (d.length + 4 < 64 → Completes (exec (.mgmtReceive d ok held t) s) fun u =>
      u = (s0.bump R.MGMT_RX_RUNT 1).causeBase R.MGMT_EVT_CAUSE 0x168 0) ∧
    (1522 < d.length + 4 → Completes (exec (.mgmtReceive d ok held t) s) fun u =>
      u = (s0.bump R.MGMT_RX_OVERSIZE 1).causeBase R.MGMT_EVT_CAUSE 0x168 0) ∧
    (64 ≤ d.length + 4 → d.length + 4 ≤ 1522 → ok = false ∨ s.destOk d = false ∨ s.tagOk d = false ∨ tooFull →
      Completes (exec (.mgmtReceive d ok held t) s) fun u => u = (s0.bump R.MGMT_RX_BAD 1).causeBase R.MGMT_EVT_CAUSE 0x168 0) ∧
    (64 ≤ d.length + 4 → d.length + 4 ≤ 1522 → ok = true → s.destOk d = true → s.tagOk d = true → ¬ tooFull →
      Completes (exec (.mgmtReceive d ok held t) s) fun u => u = s0.mgmtDispatch (untag d))) ∧
  (∀ (s : State) (ptp other f : List Byte) (p : Bool) (u1 : State) (t : Nat), s.get R.MGMT_CTL_EN = 1 → s.alive = true → s.power.hpEn = true →
    (s.upTo t).macFree = true → (s.upTo t).nextMgmt ptp other = some (f, p, u1) →
    Completes (exec (.mgmtTransmit ptp other t) s) fun u => u = u1.attempt ⟨u1.txFrame f, 0, 0, 0, p, false⟩) ∧
  (∀ (s : State) (h : List Byte) (ptp other : List Byte), s.pair.hbQueue = some h →
    s.nextMgmt ptp other = some ((s.takeFree.2).etherFrame (leBytes 6 s.takeFree.1) 0x88B5 h, false,
      { s.takeFree.2 with pair := { s.pair with hbQueue := none } })) ∧
  (∀ (s : State) (ptp other : List Byte), s.pair.hbQueue = none → ptp ≠ [] → s.nextMgmt ptp other = some (ptp, true, s)) ∧
  (∀ (s : State) (f : List Byte) (r : List (List Byte)) (other : List Byte), s.pair.hbQueue = none → s.mgmt.resps = f :: r →
    s.nextMgmt [] other = some (f, false, { s with mgmt := { s.mgmt with resps := r } })) ∧
  (∀ (s : State) (x : MgmtTx) (t : Nat), s.mgmt.tx = some x → x.backoff = 0 → max s.now t ≤ x.start + nsToT (800 * (x.frame.length + 12)) →
    let s1 := ({ s.upTo t with mgmt := { s.mgmt with
      tx := none
      txTs := if x.stamped then s.mgmt.txTs.dropLast else s.mgmt.txTs
      carrier := max s.now t + nsToT (800 * 4) + 1 } } : State).tsShow
    (x.start + nsToT 51200 < max s.now t →
      Completes (exec (.collision t) s) fun u => u = (s1.bump R.MGMT_TX_LATE 1).causeBase R.MGMT_EVT_CAUSE 0x168 2) ∧
    (max s.now t ≤ x.start + nsToT 51200 → 16 ≤ x.tries + 1 →
      Completes (exec (.collision t) s) fun u => u = (s1.bump R.MGMT_TX_EXCESS 1).causeBase R.MGMT_EVT_CAUSE 0x168 1) ∧
    (max s.now t ≤ x.start + nsToT 51200 → x.tries + 1 < 16 →
      Completes (exec (.collision t) s) fun u => ∃ r, r < 2 ^ min (x.tries + 1) 10 ∧
        u = { s1.takeFree.2 with mgmt := { s1.mgmt with
          tx := some { x with tries := x.tries + 1, stamped := false, backoff := max s.now t + nsToT (51200 * r) + 1 } } })) ∧
  (∀ (s : State) (x : MgmtTx) (t : Nat), s.mgmt.tx = some x → x.backoff ≠ 0 → x.backoff ≤ max s.now t + 1 → (s.upTo t).gapOver = true →
    s.get R.MGMT_CTL_EN = 1 → s.alive = true → s.power.hpEn = true →
    Completes (exec (.backoffExpiry t) s) fun u => u = (s.upTo t).attempt x) ∧
  (∀ (s : State) (dir : Nat), dir < 2 →
    Completes (exec (.mgmtTsPop dir) s) fun u =>
      u.mgmt.rxTs = (if dir = 1 then s.mgmt.rxTs else s.mgmt.rxTs.drop 1) ∧ u.mgmt.txTs = (if dir = 1 then s.mgmt.txTs.drop 1 else s.mgmt.txTs) ∧
      u = ({ s.put R.MGMT_TS_CTL_DIR dir with mgmt := { s.mgmt with rxTs := u.mgmt.rxTs, txTs := u.mgmt.txTs } } : State).tsShow) ∧
  (∀ (s : State) (src p : List Byte) (r : List (List Byte × List Byte)) (t : Nat), s.mgmt.reqs = (src, p) :: r → s.alive = true →
    let s1 : State := { s.upTo t with mgmt := { s.mgmt with reqs := r } }
    (s.get R.MGMT_CTL_REG_EN ≠ 1 → ∀ late, Completes (exec (.registerRequest late t) s) fun u => u = (s1.respond src (reqResponse p 2 [])).mctpTurn) ∧
    (s.get R.MGMT_CTL_REG_EN = 1 → reqMalformed p = true → ∀ late,
      Completes (exec (.registerRequest late t) s) fun u => u = ((s1.causeBase R.MGMT_EVT_CAUSE 0x168 4).respond src (reqResponse p 1 [])).mctpTurn) ∧
    (s.get R.MGMT_CTL_REG_EN = 1 → reqMalformed p = false →
      (∀ k, k < byteAt p 5 → (s.upTo t).mustWait 2 (fld p 8 4 + 4 * k) (byteAt p 4 == 2) = false) →
      Completes (exec (.registerRequest [] t) s) fun u =>
        u = ((s1.reqWords p [] t).2.respond src (reqResponse p 0 (if byteAt p 4 = 1 then (s1.reqWords p [] t).1 else []))).mctpTurn))

/-- SCP and flash commands complete (R446, R447, R448, R457). SCP_WRITE and SCP_READ of a good header access the words it names, of a bad
one they are refused; SCP_FETCH hands out the buffer behind its status word; SCP_SEL rising ends a transaction and counts one that ends
inside a byte; SCP_SEL falling in D2 wakes the part where enabled; FLASH_GO starts an operation, waits for the boot fetch, or is ignored
while busy; FLASH_DONE and FLASH_TIMEOUT end it. -/
def Obligations.BoardPorts : Prop :=
  (∀ (s : State) (cmd t : Nat) (w : List Nat), (s.upTo t).scpBegins cmd 0 = true → scpBad cmd = false →
    Completes (exec (.scpWrite cmd w t) s) fun u =>
      u = (((List.range w.length).zip w).foldl (fun a x => a.access 1 (scpAddr cmd x.1) (some (x.2 % 4294967296)) t) (s.upTo t)).scpMode 1) ∧
  (∀ (s : State) (cmd t : Nat) (w : List Nat),
    (∀ op, op < 3 → (s.upTo t).scpBegins cmd op = true → scpBad cmd = true →
      let refused := fun (i : Instr) => Completes (exec i s) fun u => u = (((s.upTo t).bump R.SCP_STATUS_REFUSED 1).causeBase R.SCP_EVT_CAUSE 0x170 1).scpMode 2
      (op = 0 → refused (.scpWrite cmd w t)) ∧ (op = 1 → refused (.scpRead cmd w t)) ∧ (op = 2 → ∀ n, refused (.scpFetch cmd n t)))) ∧
  (∀ (s : State) (cmd t n : Nat) (w : List Nat), (s.upTo t).scpBegins cmd 1 = true → scpBad cmd = false → 1 ≤ n → n ≤ 64 →
    Completes (exec (.scpRead cmd (n :: w) t) s) fun u =>
      u = forN n (fun k a => a.access 1 (scpAddr cmd k) none t) { s.upTo t with
        scp := { s.scp with buf := [], due := n, err := false, mode := 2 },
        xbar := { s.xbar with queue := s.xbar.queue.filter (fun x => !(x.master == 1 && x.value.isNone)) } }) ∧
  (∀ (s : State) (cmd t n : Nat) (w : List Nat), (s.upTo t).scpBegins cmd 1 = true → scpBad cmd = false → n = 0 ∨ 64 < n →
    Completes (exec (.scpRead cmd (n :: w) t) s) fun u =>
      u = (((s.upTo t).bump R.SCP_STATUS_REFUSED 1).causeBase R.SCP_EVT_CAUSE 0x170 1).scpMode 2) ∧
  (∀ (s : State) (cmd t k : Nat), (s.upTo t).scpBegins cmd 2 = true → scpBad cmd = false →
    Completes (exec (.scpFetch cmd (k + 1) t) s) fun u =>
      let n := min k s.scp.buf.length
      u = ({ s.upTo t with scp := { s.scp with buf := s.scp.buf.drop n, mode := if n = s.scp.buf.length then 2 else 4 } } : State).emit
        (.scp ((2147483648 * b2n (s.scp.due == 0) + 1073741824 * b2n s.scp.err + s.scp.buf.length) :: s.scp.buf.take n))) ∧
  (∀ (s : State) (n : Nat), s.scp.mode = 2 ∨ n % 32 = 0 →
    Completes (exec (.scpSelRise n) s) fun u => u = { s with scp := { s.scp with mode := 0 } }) ∧
  (∀ (s : State) (n : Nat), s.alive = true → s.scp.mode ≠ 2 → n % 32 ≠ 0 →
    Completes (exec (.scpSelRise n) s) fun u =>
      let s1 : State := { s with scp := { s.scp with buf := if s.scp.mode = 4 then s.scp.buf.drop 1 else s.scp.buf } }
      u = ((s1.bump R.SCP_STATUS_PARTIAL 1).causeBase R.SCP_EVT_CAUSE 0x170 0).scpMode 0) ∧
  (∀ (s : State) (t : Nat), s.power.d ≠ 2 → Completes (exec (.scpSelFall t) s) fun u => u = s.upTo t) ∧
  (∀ (s : State) (t : Nat), s.power.d = 2 → s.wakeOn 3 = true → Completes (exec (.scpSelFall t) s) fun u => u = (s.upTo t).wakeUp 3) ∧
  (∀ (s : State) (t : Nat), s.get R.FLASH_CTL_BUSY = 1 →
    Completes (exec (.flashGo t) s) fun u => u = (s.upTo t).bump R.FLASH_CTL_IGNORED 1) ∧
  (∀ (s : State) (t : Nat), s.get R.FLASH_CTL_BUSY ≠ 1 → s.bootHolds = true →
    Completes (exec (.flashGo t) s) fun u => u = { s.upTo t with scp := { s.scp with flashWait := true } }) ∧
  (∀ (s : State) (t : Nat), s.get R.FLASH_CTL_BUSY ≠ 1 → s.bootHolds = false →
    Completes (exec (.flashGo t) s) fun u =>
      let ab := s.get R.FLASH_CTL_ABYTES
      let w := s.get R.FLASH_CTL_WRITE
      let len := min 256 (s.get R.FLASH_CTL_LEN)
      u.get R.FLASH_CTL_BUSY = 1 ∧
      u = (({ s.upTo t with scp := { s.scp with flashWait := false, flashAt := max s.now t, flashCtl := len * 512 + w * 2 ^ 29 } } : State).put
        R.FLASH_CTL_BUSY 1).emit (.flash (s.get R.FLASH_CTL_OPCODE) (if ab = 1 then 3 else if ab = 2 then 4 else 0) (s.get R.FLASH_ADDR_ADDR)
        (s.get R.FLASH_DUMMY_CLOCKS) len (s.get R.FLASH_CTL_QUAD) (if w = 1 then s.flashBuf len else []))) ∧
  (∀ (s : State) (d : List Byte), s.get R.FLASH_CTL_BUSY = 1 → bit s.scp.flashCtl 29 = true →
    Completes (exec (.flashDone d) s) fun u => u = s.put R.FLASH_CTL_BUSY 0) ∧
  (∀ (s : State) (d : List Byte), s.get R.FLASH_CTL_BUSY = 1 → bit s.scp.flashCtl 29 = false →
    Completes (exec (.flashDone d) s) fun u =>
      let x := padTo (flashLen s.scp.flashCtl) d
      u = forN 64 (fun k a => a.put1 R.FLASH_BUF_DATA k (fld (x ++ ((s.put R.FLASH_CTL_BUSY 0).flashBuf 256).drop x.length) (4 * k) 4))
        (s.put R.FLASH_CTL_BUSY 0)) ∧
  (∀ (s : State) (t : Nat), s.get R.FLASH_CTL_BUSY = 1 → s.scp.flashAt + nsToT 10000000 ≤ max s.now t →
    Completes (exec (.flashTimeout t) s) fun u =>
      u = (((s.upTo t).put R.FLASH_CTL_BUSY 0).bump R.FLASH_CTL_ERRORS 1).causeBase R.SCP_EVT_CAUSE 0x170 2)

/-- MON_FRAME and MON_BLOCK complete (R449). MON_FRAME of a running port forms and sends a frame at its own instant in master mode, or from
its FIFO, with the block time of the frame in whose place it leaves, with a slip when that is empty, and a gang sends four; MON_BLOCK at the
end of a block stops a disabled port, starts or restarts one, all slots muted for one block, or takes the slots that changed, muted for one
block, with the time and sequence of the block, in master mode only at an instant of the grid. -/
def Obligations.MonitorPorts : Prop :=
  (∀ (s : State) (p t : Nat), p < 4 → (s.monPort p).run = true → (s.monPort p).frame < 1000 → s.power.d ≤ 1 → s.ganged = false →
    (s.monFifo p = false → max s.now t < (s.monPort p).frameAt → Completes (exec (.monFrame p t) s) fun u => u = s.upTo t) ∧
    (s.monFifo p = false → (s.monPort p).frameAt ≤ max s.now t →
      let f := (s.upTo t).monForm p (s.monPort p).frame (s.monPort p).frameAt
      Completes (exec (.monFrame p t) s) fun u =>
        u = (f.2.setMon p { f.2.monPort p with frame := (s.monPort p).frame + 1, last := f.1 }).emit (.mon p f.1)) ∧
    (s.monFifo p = true →
      let a := (s.upTo t).monFill p
      (∀ f r, (a.monPort p).fifo = f :: r → Completes (exec (.monFrame p t) s) fun u =>
        let d := (a.monPort p).leaving (a.monPort p).frame f
        u = (a.setMon p { a.monPort p with fifo := r, last := d, frame := (a.monPort p).frame + 1 }).emit (.mon p d)) ∧
      ((a.monPort p).fifo = [] → Completes (exec (.monFrame p t) s) fun u =>
        u = ((((a.setMon p { a.monPort p with frame := (a.monPort p).frame + 1 }).emit (.mon p (a.monPort p).last)).bump1
          R.MON_STATUS_SLIPS p 1).monEvt R.MON_EVT_SLIP p)))) ∧
  (∀ (s : State) (t : Nat), s.ganged = true → (s.monPort 0).frame < 1000 → s.power.d ≤ 1 →
    Completes (exec (.monFrame 0 t) s) fun u => u = forN 4 (fun q a => a.monSend q) (s.upTo t)) ∧
  (∀ (s : State) (p t : Nat), p < 4 → (s.monPort p).run = false ∨ 1000 ≤ (s.monPort p).frame → s.ganged = false → s.power.d = 0 →
    (s.get1 R.MON_CTL_EN p ≠ 1 → Completes (exec (.monBlock p t) s) fun u => u = (s.upTo t).setMon p MonPort.init) ∧
    (s.get1 R.MON_CTL_EN p = 1 → ¬(p = 0 ∧ s.get1 R.MON_CTL_GANG 0 = 1) →
      bit (s.monCtl p) 3 = false → monGrid (s.monCtl p) (max s.now t) = false → Completes (exec (.monBlock p t) s) fun u => u = s.upTo t) ∧
    (s.get1 R.MON_CTL_EN p = 1 → ¬(p = 0 ∧ s.get1 R.MON_CTL_GANG 0 = 1) →
      bit (s.monCtl p) 3 = true ∨ monGrid (s.monCtl p) (max s.now t) = true →
      (s.monPort p).run = false ∨ (s.monPort p).ctl ≠ s.monCtl p →
      Completes (exec (.monBlock p t) s) fun u =>
        u.monPort p = ⟨s.monCtl p, (List.range 8).map (s.monSlot p), List.range 8, 0, max s.now t, true,
          List.replicate 1024 (List.replicate 8 0), 0, max s.now t, List.replicate 8 0⟩ ∧
        u.get1 R.MON_BLOCK_TIME_TIME p = max s.now t % 2 ^ 64 ∧
        u.get1 R.MON_BLOCK_SEQ_SEQ p = (if (s.monPort p).run then s.get1 R.MON_BLOCK_SEQ_SEQ p + 1 else 1) % 2 ^ 32 ∧
        u = { s.upTo t with mon := u.mon, regs := u.regs }) ∧
    (s.get1 R.MON_CTL_EN p = 1 → ¬(p = 0 ∧ s.get1 R.MON_CTL_GANG 0 = 1) →
      bit (s.monCtl p) 3 = true ∨ monGrid (s.monCtl p) (max s.now t) = true → (s.monPort p).run = true → (s.monPort p).ctl = s.monCtl p →
      Completes (exec (.monBlock p t) s) fun u =>
        let ws := (List.range 8).map (s.monSlot p)
        let mute := (List.range 8).filter (fun j => ws.getD j 0 != (s.monPort p).slots.getD j 0)
        u.monPort p = { s.monPort p with slots := ws, mute := mute, frame := 0, edge := max s.now t } ∧
        u.get1 R.MON_BLOCK_TIME_TIME p = max s.now t % 2 ^ 64 ∧ u.get1 R.MON_BLOCK_SEQ_SEQ p = (s.get1 R.MON_BLOCK_SEQ_SEQ p + 1) % 2 ^ 32 ∧
        u = { s.upTo t with mon := u.mon, regs := u.regs }) ∧
    (p = 0 → s.get1 R.MON_CTL_EN p = 1 → s.get1 R.MON_CTL_GANG 0 = 1 →
      Completes (exec (.monBlock p t) s) fun u => u = forN 4 (fun q a => a.monEdge q (s.monCtl 0)) (s.upTo t)))

/-- Entry to D1 and D2, waking, warm reset and the end of a wake complete (R456, R457, R458, R470). ENTER_D1 and ENTER_D2 take their power
state's entry (D2 after abandoning a running Draft that FORCE overrides), or are refused where R456 refuses them; WAKE_FROM_D1 of the host
or the board (of another master with a free source), WAKE_TIME, DEN_WAKE_N, WAKE_FRAME and PERST_RISE wake the part where their source is
enabled, a write of the host or the board with its source off only sets POWER_CTL; LEDGER_DONE and LEDGER_WAIT_TIMEOUT take a part that
waits down, the second with the failure noted; WARM_RESET does the warm reset; FW_READY of a waking part at BOOT_STAGE 3 leaves D0 at stage
4 and sends the events owed. -/
def Obligations.PowerStates : Prop :=
  (∀ (s : State) (force keep : Bool) (t : Nat), let s0 := (s.upTo t).powerCtl 1 force keep
    s0.powerRefused 1 = false → Completes (exec (.enterD1 force keep t) s) fun u => u = s0.enterD1) ∧
  (∀ (s : State) (force keep : Bool) (t : Nat), let s0 := (s.upTo t).powerCtl 1 force keep
    s0.powerRefused 1 = true → Completes (exec (.enterD1 force keep t) s) fun u => u = s0.powerRefuse) ∧
  (∀ (s : State) (force keep : Bool) (t : Nat), let s0 := (s.upTo t).powerCtl 2 force keep
    s0.powerRefused 2 = false → Completes (exec (.enterD2 force keep t) s) fun u =>
      let s1 := if s0.draftRuns = true then s0.draftOff.sectionsMove else s0
      u = (((s1.powerEvt 0).ledCount 2).withPower (fun p => { p with waits := true, waitAt := s0.now })).setPw pwEntering) ∧
  (∀ (s : State) (force keep : Bool) (t : Nat), let s0 := (s.upTo t).powerCtl 2 force keep
    s0.powerRefused 2 = true → Completes (exec (.enterD2 force keep t) s) fun u => u = s0.powerRefuse) ∧
  (∀ (s : State) (force keep : Bool) (m t : Nat), let s0 := (s.upTo t).powerCtl 0 force keep
    m < 2 → s0.wakeOn (4 - m) = true → Completes (exec (.wakeFromD1 m t force keep) s) fun u => u = s0.wakeUp (4 - m)) ∧
  (∀ (s : State) (force keep : Bool) (m t : Nat), let s0 := (s.upTo t).powerCtl 0 force keep
    2 ≤ m → Completes (exec (.wakeFromD1 m t force keep) s) fun u => u = s0.takeFree.2.wakeUp (s0.takeFree.1 % 6)) ∧
  (∀ (s : State) (force keep : Bool) (m t : Nat), let s0 := (s.upTo t).powerCtl 0 force keep
    m < 2 → s0.wakeOn (4 - m) = false → Completes (exec (.wakeFromD1 m t force keep) s) fun u => u = s0) ∧
  (∀ (s : State) (t : Nat), s.power.waits = true →
    Completes (exec (.ledgerDone t) s) fun u => u = (s.upTo t).powerDown 1 0 false) ∧
  (∀ (s : State) (t : Nat), s.power.waits = true → s.power.waitAt + nsToT 100000000 ≤ max s.now t →
    Completes (exec (.ledgerWaitTimeout t) s) fun u => u = (s.upTo t).powerDown 1 0 true) ∧
  (∀ (s : State) (t : Nat), Completes (exec (.warmReset t) s) fun u => u = (s.memTime t).warmReset) ∧
  (∀ (s : State) (t : Nat), s.pw = pwWaking → s.get R.SYS_BOOT_STAGE = 3 →
    Completes (exec (.fwReady t) s) fun u => u.get R.SYS_BOOT_STAGE = 4 ∧ u.power = { s.power with owed := 0, wake := false } ∧
      let s1 := ((s.upTo t).put R.SYS_BOOT_STAGE 4).setPw pwD0
      let s2 := if s.power.wake = true then s1.powerEvt 1 else s1
      u = (if s.power.owed = 0 then s2 else if s.get R.POWER_CAUSE_CAUSE = 2 then s2.powerEvt 4
        else if s.get R.POWER_CAUSE_CAUSE = 3 then s2.powerEvt 5 else s2).withPower (fun p => { p with owed := 0, wake := false })) ∧
  (∀ (s : State) (t : Nat), s.power.armed = true → s.get R.POWER_WAKE_TIME_TIME ≤ max s.now t →
    let s1 := (s.upTo t).withPower (fun p => { p with armed := false })
    Completes (exec (.wakeTime t) s) fun u => u = if s1.wakeOn 1 = true then s1.wakeUp 1 else s1) ∧
  (∀ (s : State) (t : Nat), (s.upTo t).wakeOn 5 = true → Completes (exec (.denWakeN t) s) fun u => u = (s.upTo t).wakeUp 5) ∧
  (∀ (s : State) (f : List Byte) (ok : Bool) (t : Nat), (s.upTo t).wakeOn 2 = true → (s.upTo t).wakeFrame f ok = true →
    Completes (exec (.wakeFrame f ok t) s) fun u => u = (s.upTo t).wakeUp 2) ∧
  (∀ (s : State) (t : Nat), s.power.d = 2 → (s.upTo t).wakeOn 4 = true →
    Completes (exec (.perstRise t) s) fun u => u = (s.upTo t).wakeUp 4)

/-- Supplies, temperatures, resets and the boot complete (R466, R467, R468, R489, R491). SUPPLY_FAULT of rails 2 and 7 leaves D3, of any
other rail the emergency shutdown of cause 3 with the rail; CAUSE_CLEAR clears the cause; HP_EN_FALL and HP_EN_RISE note the pin;
TEMP_SAMPLE shows the three temperatures, raises the warnings on their edges and shuts down at 130 C; POR_N leads to D3 and out of it;
RAILS_GOOD powers the stack sites and restores the kept hanks; CREEL_SWEEP_DONE notes the sweep; IMAGE_FETCHED of a good image enters it at
stage 3, of a bad first one tries the second with the error noted, of a bad second one stops at stage 5; BOOT_RETRY leaves stage 2. -/
def Obligations.BootAndSupplies : Prop :=
  (∀ (s : State) (rail t : Nat), rail = 2 ∨ rail = 7 → Completes (exec (.supplyFault rail t) s) fun u => u = (s.upTo t).enterD3) ∧
  (∀ (s : State) (rail t : Nat), rail < 8 → rail ≠ 2 → rail ≠ 7 → s.power.d ≤ 1 →
    Completes (exec (.supplyFault rail t) s) fun u => u = (s.upTo t).emergencyDown 3 rail) ∧
  (∀ (s : State), Completes (exec .causeClear s) fun u => u.get R.POWER_CAUSE_CAUSE = 0 ∧ u.get R.POWER_CAUSE_RAIL = 0 ∧
    u = { s with regs := u.regs, power := { s.power with fault := false } }) ∧
  (∀ (s : State) (t : Nat), s.power.hpEn = true → Completes (exec (.hpEnFall t) s) fun u =>
    let s1 := (s.upTo t).withPower (fun p => { p with hpEn := false })
    u = if s.power.d ≤ 1 then (s1.powerEvt 6).ledCount 6 else s1) ∧
  (∀ (s : State) (t : Nat), s.power.hpEn = false → Completes (exec (.hpEnRise t) s) fun u =>
    u = { s with now := max s.now t, power := { s.power with hpEn := true, hpAt := max s.now t + nsToT 10000 } }) ∧
  (∀ (s : State) (die stack den : Int) (t : Nat), s.power.d ≤ 1 → Completes (exec (.tempSample die stack den t) s) fun u =>
    let s0 := (s.upTo t).withPower (fun p => { p with denTemp := den })
    let s1 := ((s0.put R.POWER_TEMP_DIE_MAX (tempByte die)).put R.POWER_TEMP_STACK_MAX (tempByte stack)).put R.POWER_TEMP_DEN (tempByte den)
    let warn := sgn 8 (s.get R.POWER_THERM_CTL_WARN)
    let s2 := if sgn 8 (s.get R.POWER_TEMP_DIE_MAX) ≤ warn ∧ warn < die then s1.powerEvt 3 else s1
    let s3 := if s2.draftRuns = true ∧ tempMax s2.draft.struct < stack then s2.powerEvt 7 else s2
    u = if 130 ≤ die ∨ 130 ≤ stack then s3.emergencyDown 2 0 else s3) ∧
  (∀ (s : State), Completes (exec .porNAssert s) fun u => u = s.enterD3 ∧ u.power.d = 3) ∧
  (∀ (s : State) (t : Nat), s.power.d = 3 → Completes (exec (.porNRelease t) s) fun u => u = (s.upTo t).weaveUp 0) ∧
  (∀ (s : State) (t : Nat), s.pw = pwWaking → s.get R.SYS_BOOT_STAGE = 0 → Completes (exec (.railsGood t) s) fun u =>
    let s1 := (s.upTo t).put R.SYS_BOOT_STAGE 2
    let s2 := s1.populated.foldl (fun a x => if a.siteState x = siteOff then a.put1 R.MEM_STATUS_STATE x sitePowering else a) s1
    let s3 : State := { s2 with regs := s.power.hanks.foldl (fun m e => Tab.put m e.1 e.2) s2.regs }
    u = (if s.power.hanks.isEmpty = true then s3 else s3.lanesWake).withPower (fun p => { p with image := 0, hanks := [] })) ∧
  (∀ (s : State), 2 ≤ s.get R.SYS_BOOT_STAGE → Completes (exec .creelSweepDone s) fun u =>
    u = { s with store := { s.store with creelSwept := true } }) ∧
  (∀ (s : State) (d : List Byte) (t : Nat), s.get R.SYS_BOOT_STAGE = 2 → s.power.image < 2 → imageFault d = 0 →
    Completes (exec (.imageFetched d t) s) fun u =>
      let ms := tToNs (max s.now t - s.power.bootAt) / 1000000
      let s1 := (((s.upTo t).imageEnter d 1).put R.TRUST_FW_VERSION_VERSION (fld d 4 4)).put R.SYS_BOOT_START_MS (min 4095 ms)
      let s2 := (s1.put R.SYS_BOOT_STAGE 3).withPower (fun p => { p with image := 2 })
      u = if s.power.image = 1 then ((s2.put R.SYS_BOOT_SECONDARY 1).cause1 R.SYS_BOOT_SECONDARY_EVT 0 0 0x1A9).flashFree
        else s2.flashFree) ∧
  (∀ (s : State) (d : List Byte) (t : Nat), s.get R.SYS_BOOT_STAGE = 2 → s.power.image = 0 → imageFault d ≠ 0 →
    Completes (exec (.imageFetched d t) s) fun u => u.get R.SYS_BOOT_ERR = imageFault d % 16 ∧
      u = { s with now := max s.now t, regs := u.regs, power := { s.power with image := 1 } }) ∧
  (∀ (s : State) (d : List Byte) (t : Nat), s.get R.SYS_BOOT_STAGE = 2 → s.power.image = 1 → imageFault d ≠ 0 →
    Completes (exec (.imageFetched d t) s) fun u =>
      u = (((((s.upTo t).put R.SYS_BOOT_ERR (imageFault d)).put R.SYS_BOOT_STAGE 5).withPower
        (fun p => { p with image := 2 })).cause1 R.SYS_BOOT_FAILED_EVT 0 0 0x1AA).flashFree) ∧
  (∀ (s : State), s.get R.SYS_BOOT_STAGE = 5 → Completes (exec .bootRetry s) fun u => u.get R.SYS_BOOT_STAGE = 2 ∧
    u = { s with regs := u.regs, power := { s.power with image := 0 } })

/-- SPDM requests, answers and the mailbox complete (R475, R477). SPDM_REQUEST of each transport queues the request with the measurements of
its moment; SPDM_RESPONSE answers the oldest on the transport it came by and notes the connection; GET_VERSION is always answered with
version 1.2; MBOX_GO of 1 to 4,096 bytes hands over the bytes written, padded, with BUSY set; TRUST_MBOX_DATA writes the next word of a
request and reads the next word of a response that is done. -/
def Obligations.TrustSessions : Prop :=
  (∀ (s : State) (d : List Byte), s.alive = true → s.is R.PCIE_STATUS_UP = true →
    Completes (exec (.spdmRequest 0 d) s) fun u =>
      u = { s with trust := { s.trust with spdm := s.trust.spdm ++ [⟨0, [], d, s.trust.slots, s.trust.log⟩] } }) ∧
  (∀ (s : State) (x back d : List Byte) (rest : List (List Byte)), s.alive = true → mctpMessage [] s.trust.mctp = some (back, d, rest) →
    Completes (exec (.spdmRequest 1 x) s) fun u =>
      u = { s with trust := { s.trust with mctp := rest, spdm := s.trust.spdm ++ [⟨1, back, d, s.trust.slots, s.trust.log⟩] } }) ∧
  (∀ (s : State) (x : List Byte), s.alive = true → s.is R.TRUST_MBOX_CTL_BUSY = true → s.trust.spdm.any (fun q => q.transport == 2) = false →
    Completes (exec (.spdmRequest 2 x) s) fun u =>
      u = { s with trust := { s.trust with spdm := s.trust.spdm ++ [⟨2, [], s.trust.mboxResp, s.trust.slots, s.trust.log⟩] } }) ∧
  (∀ (s : State) (q : SpdmReq) (r : List SpdmReq), s.trust.spdm = q :: r → let a := s.spdmAnswer q
    let s2 := a.2.2.2.withTrust (fun x => { x with spdm := r, conns := Tab.set 0 x.conns q.transport a.2.2.1 })
    let s3 := if a.2.1 = true then (s2.bump R.TRUST_EVT_ERRORS 1).trustEvt 3 else s2
    Completes (exec .spdmResponse s) fun u =>
      (q.transport = 0 → u = s3.emit (.spdm 0 [] a.1)) ∧ (q.transport = 1 → u = s3.mctpSend q.back a.1) ∧
      (2 ≤ q.transport → u = (((s3.withTrust (fun x => { x with mboxResp := a.1, mboxRead := 0, mboxReq := [] })).put
        R.TRUST_MBOX_CTL_BUSY 0).put R.TRUST_MBOX_CTL_DONE 1).put R.TRUST_MBOX_CTL_LEN a.1.length)) ∧
  (∀ (s : State) (q : SpdmReq) (r : List SpdmReq), s.trust.spdm = q :: r → byteAt q.req 1 = 0x84 →
    s.spdmAnswer q = (spdmHead 0x04 0 0 ++ [0#8, 1#8] ++ leBytes 2 0x1200, false, 1, s)) ∧
  (∀ (s : State) (n : Nat), s.is R.TRUST_MBOX_CTL_BUSY = false → 1 ≤ n → n ≤ 4096 →
    Completes (exec (.mboxGo n) s) fun u => u.get R.TRUST_MBOX_CTL_BUSY = 1 ∧ u.get R.TRUST_MBOX_CTL_DONE = 0 ∧
      u.get R.TRUST_MBOX_CTL_LEN = n ∧
      u = { s with regs := u.regs, trust := { s.trust with mboxResp := padTo n s.trust.mboxReq, mboxReq := [], mboxRead := 0 } }) ∧
  (∀ (s : State) (m v : Nat), Completes (exec (.trustMboxData m v true) s) fun u =>
      u = { s with trust := { s.trust with mboxReq := (s.trust.mboxReq ++ leBytes 4 v).take 4096 } }) ∧
  (∀ (s : State) (m v : Nat), s.is R.TRUST_MBOX_CTL_DONE = true → Completes (exec (.trustMboxData m v false) s) fun u =>
      u = ({ s with trust := { s.trust with mboxRead := s.trust.mboxRead + 4 } } : State).emit
        (.regRead m R.TRUST_MBOX_DATA_DATA.addr (fld s.trust.mboxResp s.trust.mboxRead 4)))

/-- The firmware update: every command completes (R480). FW_UPDATE starts a load from IDLE and is counted as ignored else; IMAGE_LOADED
starts the good image on the spare core and fails the update with the error of the first check that fails; FW_READY_CORE leads from STARTING
to HANDOVER, from RELOADING to IDLE with the update done, and in IDLE makes an awaited spare core ready; FW_YIELD and HANDOVER_TIMEOUT hand
over, the active core changing; FW_START_TIMEOUT fails the update with 5 or 6. -/
def Obligations.FirmwareUpdate : Prop :=
  (∀ (s : State) (t : Nat), s.fwState = fwIdle → Completes (exec (.fwUpdate t) s) fun u =>
      u.fwState = fwLoading ∧ u.get R.PAIR_BADGER_STANDBY_OK = 0 ∧ u.trust = { s.trust with fwAt := max s.now t } ∧
      u = { s with now := max s.now t, regs := u.regs, trust := u.trust }) ∧
  (∀ (s : State) (t : Nat), s.fwState ≠ fwIdle → Completes (exec (.fwUpdate t) s) fun u =>
      u = (s.upTo t).bump R.TRUST_FW_STATUS_IGNORED 1) ∧
  (∀ (s : State) (ext : List Byte) (t : Nat), s.fwState = fwLoading →
    let a := s.get R.TRUST_FW_ADDR_ADDR / 64 * 64
    let h := (s.upTo t).storeRead 35 a 64 ext
    let r := h.st.storeRead 35 (a + 64) (fld h.data 8 4 - 64) (ext.drop 64)
    let d := h.data ++ r.data
    Completes (exec (.imageLoaded ext t) s) fun u =>
      u = if h.status ≠ stOk ∨ h.poisoned = true then h.st.fwFail 4
        else if imageFault h.data = 1 ∨ imageFault h.data = 2 then h.st.fwFail (imageFault h.data)
        else if r.status ≠ stOk ∨ r.poisoned = true then r.st.fwFail 4
        else if imageFault d ≠ 0 then r.st.fwFail (imageFault d)
        else ((r.st.imageEnter d 2).withTrust (fun x => { x with fwVersion := fld d 4 4 })).fwTo fwStarting) ∧
  (∀ (s : State) (t : Nat), s.fwState = fwStarting → Completes (exec (.fwReadyCore t) s) fun u => u = (s.upTo t).fwTo fwHandover) ∧
  (∀ (s : State) (t : Nat), s.fwState = fwReloading → Completes (exec (.fwReadyCore t) s) fun u =>
      u = ((((((s.upTo t).fwTo fwIdle).put R.TRUST_FW_STATUS_ERR 0).put R.PAIR_BADGER_STANDBY_OK 1).put
        R.PAIR_BADGER_FAILED 0).ledCount 10).trustEvt 1) ∧
  (∀ (s : State) (t : Nat), s.fwState = fwIdle → s.trust.awaits = 1 → Completes (exec (.fwReadyCore t) s) fun u =>
      u.get R.PAIR_BADGER_STANDBY_OK = 1 ∧ u = { s with now := max s.now t, regs := u.regs, trust := { s.trust with awaits := 0 } }) ∧
  (∀ (s : State) (t : Nat), s.fwState = fwHandover → Completes (exec (.fwYield t) s) fun u => u = (s.upTo t).handover) ∧
  (∀ (s : State) (t : Nat), s.fwState = fwStarting → s.trust.fwAt + nsToT 150000000 ≤ max s.now t →
    Completes (exec (.fwStartTimeout t) s) fun u => u = (s.upTo t).fwFail 5) ∧
  (∀ (s : State) (t : Nat), s.fwState = fwReloading → s.trust.fwAt + nsToT 150000000 ≤ max s.now t →
    Completes (exec (.fwStartTimeout t) s) fun u => u = (s.upTo t).fwFail 6) ∧
  (∀ (s : State) (t : Nat), s.fwState = fwHandover → s.trust.fwAt + nsToT 1000000 ≤ max s.now t →
    Completes (exec (.handoverTimeout t) s) fun u => u = (s.upTo t).handover ∧
      u.get R.PAIR_BADGER_ACTIVE_CORE = (1 - s.get R.PAIR_BADGER_ACTIVE_CORE) % 2)

/-- The Ledger: commits, accesses and samples complete (R482, R484, R485). LEDGER_COMMIT in D2 or D3, or of a busy Ledger, does nothing; of
an idle one it stamps its header, one commit further, and starts the commit of that image; COMMIT_DONE keeps the copy and moves on, or tries
the next place, or after the third failure gives up with event and FAIL; LEDGER_DATA reads the selected word, or writes it where it may be
written and counts a refusal else, and moves the pointer on; LEDGER_SAMPLE adds the sample to the temperature, rail and lane-error bins and
starts the next. -/
def Obligations.LedgerCommands : Prop :=
  (∀ (s : State) (t : Nat), s.alive = false ∨ s.is R.LEDGER_STATUS_BUSY = true →
    Completes (exec (.ledgerCommit t) s) fun u => u = s.upTo t) ∧
  (∀ (s : State) (t : Nat), s.is R.LEDGER_STATUS_BUSY = false → s.alive = true → Completes (exec (.ledgerCommit t) s) fun u =>
      let img := ledgerHeader s.ledger.image (ledgerCommits s.ledger.image + 1) (max s.now t)
      u.get R.LEDGER_STATUS_BUSY = 1 ∧ u = { s with now := max s.now t, regs := u.regs, ledger := { s.ledger with
        image := img, commit := some img, tries := 0, copies := Tab.del s.ledger.copies s.ledger.next } }) ∧
  (∀ (s : State) (img : Tab Byte), s.ledger.commit = some img → Completes (exec (.commitDone true) s) fun u =>
      u.get R.LEDGER_STATUS_BUSY = 0 ∧ u.get R.LEDGER_STATUS_COPY = R.LEDGER_STATUS_COPY.trunc s.ledger.next ∧
      u = { s with regs := u.regs, ledger := { s.ledger with
        commit := none, next := (s.ledger.next + 1) % 63, since := [],
        copies := Tab.set [] s.ledger.copies s.ledger.next img } }) ∧
  (∀ (s : State) (img : Tab Byte), s.ledger.commit = some img → s.ledger.tries < 2 → Completes (exec (.commitDone false) s) fun u =>
      let s1 := s.bump R.LEDGER_STATUS_FAILS 1
      u = { s1 with ledger := { s1.ledger with next := (s.ledger.next + 1) % 63, tries := s.ledger.tries + 1,
                                               copies := Tab.del s1.ledger.copies ((s.ledger.next + 1) % 63) } }) ∧
  (∀ (s : State) (img : Tab Byte), s.ledger.commit = some img → 2 ≤ s.ledger.tries → Completes (exec (.commitDone false) s) fun u =>
      let s1 := s.bump R.LEDGER_STATUS_FAILS 1
      let s2 : State := { s1 with ledger := { s1.ledger with commit := none, next := (s.ledger.next + 1) % 63, tries := 0 } }
      u = ((s2.put R.LEDGER_STATUS_BUSY 0).put R.LEDGER_STATUS_FAIL 1).ledgerEvt 0) ∧
  (∀ (s : State) (m v : Nat), Completes (exec (.ledgerData m v false) s) fun u =>
      let w := s.get R.LEDGER_ADDR_WORD
      u = (s.put R.LEDGER_ADDR_WORD (w + 1)).emit (.regRead m R.LEDGER_DATA_DATA.addr (s.led (4 * w) 4))) ∧
  (∀ (s : State) (m v : Nat), Completes (exec (.ledgerData m v true) s) fun u =>
      let w := s.get R.LEDGER_ADDR_WORD
      u = if ledgerWritable (4 * w) = true then (s.ledgerWord (4 * w) v).put R.LEDGER_ADDR_WORD (w + 1)
        else ((s.bump R.LEDGER_STATUS_REFUSED 1).ledgerEvt 3).put R.LEDGER_ADDR_WORD (w + 1)) ∧
  (∀ (s : State) (rails : List Int) (t : Nat), s.power.d ≤ 1 → Completes (exec (.ledgerSample rails t) s) fun u =>
      let s1 := ((s.upTo t).ledCount 0).ledBump (0xC0 + 4 * tempBin (sgn 8 (s.get R.POWER_TEMP_DIE_MAX))) 4 1
      let s2 := forN 8 (fun k a => a.ledBump (0x100 + 32 * k + 4 * railBin (rails.getD k 0)) 4 1) s1
      let s3 := (s.ledger.lockedAll.filter s.locked).foldl (fun a l => a.ledBump (0x400 + 32 * l + 4 * hdrBin (Tab.get 0 s.ledger.hdr l)) 4 1) s2
      u = { s3 with ledger := { s3.ledger with hdr := [], lockedAll := (List.range 96).filter s.locked } })

/-- PARTNER_LOST and ARBITER_LOST complete (R309, R315). When the partner, or the arbiter, has been silent for 300 us, the part no longer
sees it and raises its event; the side's state stays as it was. -/
def Obligations.PartnerLosses : Prop :=
  (∀ (s : State) (t : Nat), s.pair.partnerSeen = true → s.pair.partnerAt + usT 300 ≤ max s.now t →
    Completes (exec (.partnerLost t) s) fun u => u.pair.partnerSeen = false ∧ u.side = s.side ∧
      u = ({ s with now := max s.now t, pair := { s.pair with partnerSeen := false } } : State).pairEvt 5) ∧
  (∀ (s : State) (t : Nat), s.pair.arbSeen = true → s.pair.arbAt + usT 300 ≤ max s.now t →
    Completes (exec (.arbiterLost t) s) fun u => u.pair.arbSeen = false ∧ u.side = s.side ∧
      u = ({ s with now := max s.now t, pair := { s.pair with arbSeen := false } } : State).pairEvt 6)

/-- A step carries out the command at the front of the queue (00_scope.md, 17_control_plane.md). With c in front of the queue, step is exec
of c on the state with the queue's rest; with an empty queue it answers the same state. This is the model's form of a step (log entries 11
and 13). -/
def Obligations.StepRunsFront : Prop :=
  (∀ (s : State) (c : Instr) (rest : List Instr), s.pending = c :: rest → step s = exec c { s with pending := rest }) ∧
  ∀ s : State, s.pending = [] → step s = .next s

/-- Every command answers a next state and leaves part and queue as they were (R2). For every command, whatever its operands, and every
state, exec answers a next state (no rule gives the part a stop) whose queue and ordering code are those of the state before. -/
def Obligations.EveryCommandAnswers : Prop :=
  ∀ (i : Instr) (s : State), Completes (exec i s) fun u => u.pending = s.pending ∧ u.part = s.part

/-- What has left the part stays on record, in order (00_scope.md). Whatever a command does, the list of what has left the part afterwards
begins with the list before (the record is the model's, log entry 73). -/
def Obligations.SentIsALog : Prop :=
  ∀ (i : Instr) (s u : State), exec i s = .next u → ∃ more, u.sent = s.sent ++ more

/-- At reset every table has its canonical form (13_memory_stacks.md). The tables of register fields, stack bytes and poison marks are
canonical at reset (the form is the model's, log entry 42). -/
def Obligations.ResetCanonical : Prop := State.reset.Canonical

/-- Every step keeps the canonical form of registers, stack bytes and poison (13_memory_stacks.md, 17_control_plane.md). From every state in
which the stacks' bytes and poison marks are listed by strictly rising key without default values, and the register fields by strictly
rising key, every step leads to such a state (the form is the model's, log entry 42). -/
def Obligations.StepKeepsCanonical : Prop := ∀ s u : State, s.Canonical → step s = .next u → u.Canonical

/-- The raw payloads of COMMA and FILLER are those of R256 (R256). The bytes of both payloads; the comma opens with exactly 20 ones and 20
zeros and then a one; in the block with its control header bits 1 to 21 are ones and 22 to 41 zeros; both blocks are recognised by the whole
raw payload whatever the descrambler holds. -/
def Obligations.CommaAndFiller : Prop :=
  leBytes 16 commaPayload =
    [0xFF#8, 0xFF#8, 0x0F#8, 0x00#8, 0x00#8, 0xB5#8, 0x62#8, 0xC9#8, 0x3A#8, 0x4E#8, 0xD1#8, 0x27#8, 0x9C#8, 0x86#8, 0xE3#8, 0x5B#8] ∧
  leBytes 16 fillerPayload = 0x2D#8 :: List.replicate 15 0x55#8 ∧
  (∀ k : Nat, k < 20 → bit commaPayload k = true) ∧ (∀ k : Nat, 20 ≤ k → k < 40 → bit commaPayload k = false) ∧ bit commaPayload 40 = true ∧
  (∀ k : Nat, 1 ≤ k → k < 22 → bit (2 + 4 * commaPayload) k = true) ∧
  (∀ k : Nat, 22 ≤ k → k < 42 → bit (2 + 4 * commaPayload) k = false) ∧
  ∀ h : Nat, (blockKind (2 + 4 * commaPayload) h).1 = kComma ∧ (blockKind (2 + 4 * fillerPayload) h).1 = kFiller

/-- A group read is the bitwise OR over the members reached and changes nothing (R412). For an aperture address of a group-writable register
with at least one member that a write would reach, every bit of the value read is the OR of that bit of the register over those members,
each word as it stands, and the state is unchanged. -/
def Obligations.GroupReadOr : Prop :=
  ∀ (s : State) (m off arr g r : Nat), groupOf off = some (arr, g, r) → s.groupReached arr r (s.groupMembers arr g) ≠ [] →
    groupWritable arr r = true →
    s.membersAt (0x4000000 + off) = s.groupMembers arr g ∧ (s.groupRead m off (s.groupMembers arr g)).2 = s ∧
    ∀ b : Nat, b < 32 → bit (s.groupRead m off (s.groupMembers arr g)).1 b =
      (s.groupReached arr r (s.groupMembers arr g)).any (fun k => match regAt (memberOff arr k r) with
        | some (y, i, j) => bit (s.word m y i j) b
        | none => false)
end

