-- ==== Sys2Proof/Laws/Completes.lean ====
section
/-!
SUPPORT. `Completes` of an answer.
-/

namespace Sys2Proof.Machine

@[simp] theorem completes_next (u : State) (P : State → Prop) : Completes (.next u) P ↔ P u :=
  ⟨fun ⟨_, e, h⟩ => by cases e; exact h, fun h => ⟨u, rfl, h⟩⟩

@[simp] theorem completes_fault (r : Fault) (P : State → Prop) : ¬ Completes (.fault r) P := fun ⟨_, e, _⟩ => by cases e

@[simp] theorem completes_refused (r : Refusal) (P : State → Prop) : ¬ Completes (.refused r) P := fun ⟨_, e, _⟩ => by cases e

theorem Completes.mono {o : Out} {P Q : State → Prop} (h : Completes o P) (k : ∀ u, P u → Q u) : Completes o Q := by
  obtain ⟨u, e, p⟩ := h
  exact ⟨u, e, k u p⟩

end Sys2Proof.Machine
end

