-- ==== Sys2Proof/Laws/Tab.lean ====
section
/-!
SUPPORT. Laws of the sparse table: what a write leaves to be read, and the canonical form, which every operation keeps.
-/

namespace Sys2Proof.Machine

variable {α : Type}

theorem Tab.get_put_same (d : α) (m : Tab α) (k : Nat) (v : α) : Tab.get d (Tab.put m k v) k = v := by
  induction m with
  | nil => simp [Tab.put, Tab.get]
  | cons e r ih =>
    obtain ⟨k', v'⟩ := e
    by_cases h : k' = k
    · simp [Tab.put, Tab.get, h]
    · by_cases h2 : k < k' <;> simp [Tab.put, Tab.get, h, h2, ih]

theorem Tab.get_put_other (d : α) (m : Tab α) (k j : Nat) (v : α) (h : j ≠ k) : Tab.get d (Tab.put m k v) j = Tab.get d m j := by
  have hk : ¬ k = j := fun e => h e.symm
  induction m with
  | nil => simp [Tab.put, Tab.get, hk]
  | cons e r ih =>
    obtain ⟨k', v'⟩ := e
    by_cases h1 : k' = k
    · have hj : ¬ k' = j := by omega
      simp [Tab.put, Tab.get, h1, hk]
    · by_cases h2 : k < k' <;> simp [Tab.put, Tab.get, h1, h2, hk, ih]

theorem Tab.get_del_same (d : α) (m : Tab α) (k : Nat) : Tab.get d (Tab.del m k) k = d := by
  induction m with
  | nil => rfl
  | cons e r ih =>
    obtain ⟨k', v'⟩ := e
    by_cases h : k' = k <;> simp [Tab.del, Tab.get, h, ih]

theorem Tab.get_del_other (d : α) (m : Tab α) (k j : Nat) (h : j ≠ k) : Tab.get d (Tab.del m k) j = Tab.get d m j := by
  induction m with
  | nil => rfl
  | cons e r ih =>
    obtain ⟨k', v'⟩ := e
    by_cases h1 : k' = k
    · have hj : ¬ k' = j := by omega
      simp only [Tab.del, Tab.get, h1, if_true, ih]
      rw [if_neg (fun e => h e.symm)]
    · simp [Tab.del, Tab.get, h1, ih]

/-- A key reads back what was written to it. -/
@[simp] theorem Tab.get_set_same [DecidableEq α] (d : α) (m : Tab α) (k : Nat) (v : α) : Tab.get d (Tab.set d m k v) k = v := by
  by_cases h : v = d
  · simp [Tab.set, h, Tab.get_del_same]
  · simp [Tab.set, h, Tab.get_put_same]

/-- A write leaves every other key alone. -/
theorem Tab.get_set_other [DecidableEq α] (d : α) (m : Tab α) (k j : Nat) (v : α) (h : j ≠ k) :
    Tab.get d (Tab.set d m k v) j = Tab.get d m j := by
  by_cases hv : v = d
  · simp [Tab.set, hv, Tab.get_del_other _ _ _ _ h]
  · simp [Tab.set, hv, Tab.get_put_other _ _ _ _ _ h]

/-- The same whatever default the reader of the other key takes. -/
theorem Tab.get_set_other' [DecidableEq α] (d e : α) (m : Tab α) (k j : Nat) (v : α) (h : j ≠ k) :
    Tab.get e (Tab.set d m k v) j = Tab.get e m j := by
  by_cases hv : v = d
  · simp [Tab.set, hv, Tab.get_del_other _ _ _ _ h]
  · simp [Tab.set, hv, Tab.get_put_other _ _ _ _ _ h]

/-! ## The canonical form -/

theorem Tab.sorted_mono {k k' : Nat} (h : k' ≤ k) (m : Tab α) (hm : Tab.sortedFrom k m = true) : Tab.sortedFrom k' m = true := by
  cases m with
  | nil => rfl
  | cons e r =>
    simp only [Tab.sortedFrom, Bool.and_eq_true, decide_eq_true_eq] at hm ⊢
    exact ⟨by omega, hm.2⟩

theorem Tab.sorted_put (m : Tab α) (k v) : ∀ n, n ≤ k → Tab.sortedFrom n m = true → Tab.sortedFrom n (Tab.put m k v) = true := by
  induction m with
  | nil => intro n hn _; simp [Tab.put, Tab.sortedFrom, hn]
  | cons e r ih =>
    obtain ⟨k', v'⟩ := e
    intro n hn hs
    simp only [Tab.sortedFrom, Bool.and_eq_true, decide_eq_true_eq] at hs
    by_cases h1 : k' = k
    · subst h1; simp [Tab.put, Tab.sortedFrom, hs.1, hs.2]
    · by_cases h2 : k < k'
      · simp only [Tab.put, h1, h2, if_true, if_false, Tab.sortedFrom, Bool.and_eq_true, decide_eq_true_eq]
        exact ⟨hn, by omega, hs.2⟩
      · simp only [Tab.put, h1, h2, if_false, Tab.sortedFrom, Bool.and_eq_true, decide_eq_true_eq]
        exact ⟨hs.1, ih (k' + 1) (by omega) hs.2⟩

theorem Tab.sorted_filter (p : Nat × α → Bool) (m : Tab α) : ∀ n, Tab.sortedFrom n m = true → Tab.sortedFrom n (m.filter p) = true := by
  induction m with
  | nil => intro n _; rfl
  | cons e r ih =>
    intro n hs
    simp only [Tab.sortedFrom, Bool.and_eq_true, decide_eq_true_eq] at hs
    by_cases h : p e
    · simp only [List.filter_cons_of_pos h, Tab.sortedFrom, Bool.and_eq_true, decide_eq_true_eq]
      exact ⟨hs.1, ih _ hs.2⟩
    · rw [List.filter_cons_of_neg h]
      exact Tab.sorted_mono (by omega) _ (ih _ hs.2)

theorem Tab.del_eq_filter (m : Tab α) (k : Nat) : Tab.del m k = m.filter (fun e => e.1 != k) := by
  induction m with
  | nil => rfl
  | cons e r ih =>
    obtain ⟨k', v'⟩ := e
    by_cases h : k' = k <;> simp [Tab.del, h, ih]

theorem Tab.sorted_set [DecidableEq α] (d : α) (m : Tab α) (k : Nat) (v : α) (h : Tab.sortedFrom 0 m = true) :
    Tab.sortedFrom 0 (Tab.set d m k v) = true := by
  by_cases hv : v = d
  · simp only [Tab.set, hv, if_true, Tab.del_eq_filter]
    exact Tab.sorted_filter _ _ _ h
  · simp only [Tab.set, hv, if_false]
    exact Tab.sorted_put _ _ _ _ (by omega) h

theorem Tab.wf_filter [DecidableEq α] (d : α) (p : Nat × α → Bool) (m : Tab α) (h : Tab.wf d m = true) : Tab.wf d (m.filter p) = true := by
  simp only [Tab.wf, Bool.and_eq_true, List.all_eq_true, decide_eq_true_eq] at h ⊢
  exact ⟨Tab.sorted_filter p m _ h.1, fun x hx => h.2 x (List.mem_filter.mp hx).1⟩

theorem Tab.put_mem (m : Tab α) (k : Nat) (v : α) (x : Nat × α) (h : x ∈ Tab.put m k v) : x = (k, v) ∨ x ∈ m := by
  induction m with
  | nil => exact .inl (by simpa [Tab.put] using h)
  | cons e r ih =>
    obtain ⟨k', v'⟩ := e
    simp only [Tab.put] at h
    split at h
    · rcases List.mem_cons.mp h with h | h
      · exact .inl h
      · exact .inr (List.mem_cons_of_mem _ h)
    · split at h
      · rcases List.mem_cons.mp h with h | h
        · exact .inl h
        · exact .inr h
      · rcases List.mem_cons.mp h with h | h
        · exact .inr (h ▸ List.mem_cons_self)
        · rcases ih h with h | h
          · exact .inl h
          · exact .inr (List.mem_cons_of_mem _ h)

/-- Every write keeps the canonical form. -/
theorem Tab.wf_set [DecidableEq α] (d : α) (m : Tab α) (k : Nat) (v : α) (h : Tab.wf d m = true) : Tab.wf d (Tab.set d m k v) = true := by
  by_cases hv : v = d
  · simp only [Tab.set, hv, if_true, Tab.del_eq_filter]
    exact Tab.wf_filter d _ _ h
  · simp only [Tab.wf, Bool.and_eq_true, List.all_eq_true, decide_eq_true_eq] at h ⊢
    simp only [Tab.set, hv, if_false]
    refine ⟨Tab.sorted_put _ _ _ _ (by omega) h.1, fun x hx => ?_⟩
    rcases Tab.put_mem _ _ _ _ hx with hx | hx
    · subst hx; exact hv
    · exact h.2 x hx

end Sys2Proof.Machine
end

