-- ==== Sys2Proof/Laws/Keeps.lean ====
section
/-!
SUPPORT. What every command leaves: `Keeps s t` holds of the state `t` that an operation makes of `s`. The part and the queue are the same,
what has left the part stays on record, the tables of stack bytes, poison marks and register fields keep their canonical form. One
lemma per operation, in the order of the model.
-/

namespace Sys2Proof.Machine

structure Keeps (s t : State) : Prop where
  part : t.part = s.part
  pending : t.pending = s.pending
  sent : s.sent <+: t.sent
  mem : Tab.wf 0#8 s.mem = true → Tab.wf 0#8 t.mem = true
  poison : Tab.wf false s.poison = true → Tab.wf false t.poison = true
  regs : Tab.sortedFrom 0 s.regs = true → Tab.sortedFrom 0 t.regs = true

/-- The same of what a meaning answers. -/
def KeepsOut (s : State) (o : Out) : Prop := ∃ t, o = .next t ∧ Keeps s t

theorem Keeps.refl (s : State) : Keeps s s := ⟨rfl, rfl, List.prefix_refl _, id, id, id⟩

theorem Keeps.trans {r s t : State} (h : Keeps r s) (k : Keeps s t) : Keeps r t :=
  ⟨k.part.trans h.part, k.pending.trans h.pending, h.sent.trans k.sent, fun x => k.mem (h.mem x), fun x => k.poison (h.poison x),
    fun x => k.regs (h.regs x)⟩

/-- A change of nothing but the units' own state. -/
theorem Keeps.upd {s0 b : State} {n : Nat} {place stk store draft evt trust ledger pass loom frames beam fox pair spin zoom mesh time cap xbar dma
    mgmt scp mon power checkPoly monTest monBad free} :
    Keeps s0 (State.mk b.part n b.regs b.mem b.poison place stk store draft evt trust ledger pass loom frames beam fox pair spin zoom mesh time cap
      xbar dma mgmt scp mon power checkPoly monTest monBad b.sent free b.pending) ↔ Keeps s0 b :=
  ⟨fun h => ⟨h.part, h.pending, h.sent, h.mem, h.poison, h.regs⟩, fun h => ⟨h.part, h.pending, h.sent, h.mem, h.poison, h.regs⟩⟩

theorem Keeps.ite {s0 a b : State} {c : Prop} [Decidable c] (ha : Keeps s0 a) (hb : Keeps s0 b) : Keeps s0 (if c then a else b) := by
  split <;> assumption

theorem Keeps.ite_snd {α : Type} {s0 : State} {a b : α × State} {c : Prop} [Decidable c] (ha : Keeps s0 a.2) (hb : Keeps s0 b.2) :
    Keeps s0 (if c then a else b).2 := by
  split <;> assumption

theorem Keeps.ite_fst {α : Type} {s0 : State} {a b : State × α} {c : Prop} [Decidable c] (ha : Keeps s0 a.1) (hb : Keeps s0 b.1) :
    Keeps s0 (if c then a else b).1 := by
  split <;> assumption

theorem KeepsOut.ite {s0 : State} {a b : Out} {c : Prop} [Decidable c] (ha : KeepsOut s0 a) (hb : KeepsOut s0 b) :
    KeepsOut s0 (if c then a else b) := by
  split <;> assumption

theorem KeepsOut.next {s0 t : State} (h : Keeps s0 t) : KeepsOut s0 (.next t) := ⟨t, rfl, h⟩

theorem Keeps.foldl {α : Type} {s0 : State} {f : State → α → State} {l : List α} {s : State} (h : Keeps s0 s)
    (hf : ∀ a x, Keeps s0 a → Keeps s0 (f a x)) : Keeps s0 (l.foldl f s) := by
  induction l generalizing s with
  | nil => exact h
  | cons x r ih => exact ih (hf _ _ h)

theorem Keeps.foldl_fst {α β : Type} {s0 : State} {f : State × β → α → State × β} {l : List α} {s : State × β} (h : Keeps s0 s.1)
    (hf : ∀ a x, Keeps s0 a.1 → Keeps s0 (f a x).1) : Keeps s0 (l.foldl f s).1 := by
  induction l generalizing s with
  | nil => exact h
  | cons x r ih => exact ih (hf _ _ h)

theorem Keeps.foldl_snd {α β : Type} {s0 : State} {f : β × State → α → β × State} {l : List α} {s : β × State} (h : Keeps s0 s.2)
    (hf : ∀ a x, Keeps s0 a.2 → Keeps s0 (f a x).2) : Keeps s0 (l.foldl f s).2 := by
  induction l generalizing s with
  | nil => exact h
  | cons x r ih => exact ih (hf _ _ h)

theorem Keeps.foldl_snd_snd {α β γ : Type} {s0 : State} {f : β × γ × State → α → β × γ × State} {l : List α} {s : β × γ × State}
    (h : Keeps s0 s.2.2) (hf : ∀ a x, Keeps s0 a.2.2 → Keeps s0 (f a x).2.2) : Keeps s0 (l.foldl f s).2.2 := by
  induction l generalizing s with
  | nil => exact h
  | cons x r ih => exact ih (hf _ _ h)

theorem Keeps.ite_snd_snd {α β : Type} {s0 : State} {a b : α × β × State} {c : Prop} [Decidable c] (ha : Keeps s0 a.2.2)
    (hb : Keeps s0 b.2.2) : Keeps s0 (if c then a else b).2.2 := by
  split <;> assumption

theorem Keeps.ite_snd_snd_snd {α β γ : Type} {s0 : State} {a b : α × β × γ × State} {c : Prop} [Decidable c] (ha : Keeps s0 a.2.2.2)
    (hb : Keeps s0 b.2.2.2) : Keeps s0 (if c then a else b).2.2.2 := by
  split <;> assumption

/-- The state of a pair that a match has taken apart. -/
theorem Keeps.of_snd {α : Type} {s0 t : State} {x : α × State} {a : α} (e : x = (a, t)) (h : Keeps s0 x.2) : Keeps s0 t := by
  subst e; exact h

theorem Keeps.of_fst {α : Type} {s0 t : State} {x : State × α} {a : α} (e : x = (t, a)) (h : Keeps s0 x.1) : Keeps s0 t := by
  subst e; exact h

theorem Keeps.of_snd_snd {α β : Type} {s0 t : State} {x : α × β × State} {a : α} {b : β} (e : x = (a, b, t)) (h : Keeps s0 x.2.2) :
    Keeps s0 t := by
  subst e; exact h

theorem Keeps.of_snd_snd_snd {α β γ : Type} {s0 t : State} {x : α × β × γ × State} {a : α} {b : β} {c : γ} (e : x = (a, b, c, t))
    (h : Keeps s0 x.2.2.2) : Keeps s0 t := by
  subst e; exact h

theorem Keeps.forN {s0 : State} {n : Nat} {f : Nat → State → State} {s : State} (h : Keeps s0 s)
    (hf : ∀ k a, Keeps s0 a → Keeps s0 (f k a)) : Keeps s0 (forN n f s) := Keeps.foldl h (fun a x ha => hf x a ha)

theorem Keeps.forL {α : Type} {s0 : State} {l : List α} {f : α → State → State} {s : State} (h : Keeps s0 s)
    (hf : ∀ k a, Keeps s0 a → Keeps s0 (f k a)) : Keeps s0 (forL l f s) := Keeps.foldl h (fun a x ha => hf x a ha)

/-! ## The operations that change what `Keeps` speaks of -/

theorem State.put2_keeps {s0 s : State} {f i j v} (h : Keeps s0 s) : Keeps s0 (s.put2 f i j v) :=
  ⟨h.part, h.pending, h.sent, h.mem, h.poison, fun x => Tab.sorted_set _ _ _ _ (h.regs x)⟩

theorem State.emit_keeps {s0 s : State} {o} (h : Keeps s0 s) : Keeps s0 (s.emit o) := by
  unfold State.emit
  split
  · exact h
  · exact ⟨h.part, h.pending, h.sent.trans (List.prefix_append _ _), h.mem, h.poison, h.regs⟩

theorem State.wr_keeps {s0 s : State} {k b} (h : Keeps s0 s) : Keeps s0 (s.wr k b) :=
  ⟨h.part, h.pending, h.sent, fun x => Tab.wf_set _ _ _ _ (h.mem x), h.poison, h.regs⟩

theorem State.setPoison_keeps {s0 s : State} {u b} (h : Keeps s0 s) : Keeps s0 (s.setPoison u b) :=
  ⟨h.part, h.pending, h.sent, h.mem, fun x => Tab.wf_set _ _ _ _ (h.poison x), h.regs⟩

theorem State.loseSite_keeps {s0 s : State} {x} (h : Keeps s0 s) : Keeps s0 (s.loseSite x) :=
  ⟨h.part, h.pending, h.sent, fun y => Tab.wf_filter _ _ _ (h.mem y), fun y => Tab.wf_filter _ _ _ (h.poison y), h.regs⟩

theorem State.wrKeys_keeps {s0 : State} {ks bs} : ∀ {s : State}, Keeps s0 s → Keeps s0 (s.wrKeys ks bs) := by
  induction ks generalizing bs with
  | nil => intro s h; simpa [State.wrKeys] using h
  | cons k ks ih =>
    intro s h
    cases bs with
    | nil => simpa [State.wrKeys] using h
    | cons b bs => exact ih (State.wr_keeps h)


end Sys2Proof.Machine
end

