-- ==== Sys2Proof/Laws/KeepsStore.lean ====
section
/-!
SUPPORT. `Keeps` for every operation of the registers, the events, the memory system and the passes.
-/

namespace Sys2Proof.Machine

/-! ## Ops -/

theorem State.put1_keeps {s0 s : State} {x1 x2 x3} (h : Keeps s0 s) : Keeps s0 (State.put1 s x1 x2 x3) := by
  unfold State.put1
  with_reducible repeat' first | assumption | apply State.put2_keeps

theorem State.put_keeps {s0 s : State} {x1 x2} (h : Keeps s0 s) : Keeps s0 (State.put s x1 x2) := by
  unfold State.put
  with_reducible repeat' first | assumption | apply State.put2_keeps

theorem State.bump2_keeps {s0 s : State} {x1 x2 x3 x4} (h : Keeps s0 s) : Keeps s0 (State.bump2 s x1 x2 x3 x4) := by
  unfold State.bump2
  with_reducible repeat' first | assumption | apply State.put2_keeps

theorem State.bump1_keeps {s0 s : State} {x1 x2 x3} (h : Keeps s0 s) : Keeps s0 (State.bump1 s x1 x2 x3) := by
  unfold State.bump1
  with_reducible repeat' first | assumption | apply State.bump2_keeps

theorem State.bump_keeps {s0 s : State} {x1 x2} (h : Keeps s0 s) : Keeps s0 (State.bump s x1 x2) := by
  unfold State.bump
  with_reducible repeat' first | assumption | apply State.bump2_keeps

theorem State.wrap1_keeps {s0 s : State} {x1 x2 x3} (h : Keeps s0 s) : Keeps s0 (State.wrap1 s x1 x2 x3) := by
  unfold State.wrap1
  with_reducible repeat' first | assumption | apply State.put1_keeps

theorem State.wrap_keeps {s0 s : State} {x1 x2} (h : Keeps s0 s) : Keeps s0 (State.wrap s x1 x2) := by
  unfold State.wrap
  with_reducible repeat' first | assumption | apply State.put_keeps

theorem State.setBit1_keeps {s0 s : State} {x1 x2 x3} (h : Keeps s0 s) : Keeps s0 (State.setBit1 s x1 x2 x3) := by
  unfold State.setBit1
  with_reducible repeat' first | assumption | apply State.put1_keeps

theorem State.setBit_keeps {s0 s : State} {x1 x2} (h : Keeps s0 s) : Keeps s0 (State.setBit s x1 x2) := by
  unfold State.setBit
  with_reducible repeat' first | assumption | apply State.setBit1_keeps

theorem State.upTo_keeps {s0 s : State} {x1} (h : Keeps s0 s) : Keeps s0 (State.upTo s x1) := by
  unfold State.upTo
  with_reducible repeat' first | assumption | simp only [Keeps.upd]

theorem State.takeFree_keeps {s0 s : State} (h : Keeps s0 s) : Keeps s0 (State.takeFree s).2 := by
  unfold State.takeFree
  with_reducible repeat' first | assumption | simp only [Keeps.upd]

theorem State.writeRegion_keeps {s0 s : State} {x1 x2 x3} (h : Keeps s0 s) : Keeps s0 (State.writeRegion s x1 x2 x3) := by
  unfold State.writeRegion
  with_reducible repeat' first | assumption | intro _ _ _ | intro _ _ | apply State.setPoison_keeps | apply State.wrKeys_keeps | apply Keeps.foldl

theorem State.updSite_keeps {s0 s : State} {x1 x2} (h : Keeps s0 s) : Keeps s0 (State.updSite s x1 x2) := by
  unfold State.updSite
  with_reducible repeat' first | assumption | simp only [Keeps.upd]

theorem State.served_keeps {s0 s : State} {x1 x2} (h : Keeps s0 s) : Keeps s0 (State.served s x1 x2) := by
  unfold State.served
  with_reducible repeat' first | assumption | apply State.wrap1_keeps

theorem State.defaultPlace_keeps {s0 s : State} (h : Keeps s0 s) : Keeps s0 (State.defaultPlace s) := by
  unfold State.defaultPlace
  with_reducible repeat' first | assumption | simp only [Keeps.upd]

theorem State.siteFaults_keeps {s0 s : State} {x1} (h : Keeps s0 s) : Keeps s0 (State.siteFaults s x1) := by
  unfold State.siteFaults
  with_reducible repeat' first | assumption | apply State.defaultPlace_keeps | apply State.put1_keeps | apply Keeps.ite

theorem State.enqueue_keeps {s0 s : State} {x1} (h : Keeps s0 s) : Keeps s0 (State.enqueue s x1) := by
  unfold State.enqueue
  with_reducible repeat' first | assumption | apply Keeps.ite | simp only [Keeps.upd]

theorem State.grantedTo_keeps {s0 s : State} {x1 x2} (h : Keeps s0 s) : Keeps s0 (State.grantedTo s x1 x2) := by
  unfold State.grantedTo
  with_reducible repeat' first | assumption | simp only [Keeps.upd]

theorem State.grantDraft_keeps {s0 s : State} (h : Keeps s0 s) : Keeps s0 (State.grantDraft s) := by
  unfold State.grantDraft
  with_reducible repeat' first | assumption | intro _ _ _ | intro _ _ | apply State.grantedTo_keeps | apply Keeps.foldl

/-! ## Events -/

theorem State.vecRise_keeps {s0 s : State} {x1} (h : Keeps s0 s) : Keeps s0 (State.vecRise s x1) := by
  unfold State.vecRise
  with_reducible repeat' first | assumption | apply State.emit_keeps | apply Keeps.ite | simp only [Keeps.upd]

theorem State.vecFall_keeps {s0 s : State} {x1} (h : Keeps s0 s) : Keeps s0 (State.vecFall s x1) := by
  unfold State.vecFall
  with_reducible repeat' first | assumption | apply Keeps.ite | simp only [Keeps.upd]

theorem State.vecFlush_keeps {s0 s : State} (h : Keeps s0 s) : Keeps s0 (State.vecFlush s) := by
  unfold State.vecFlush
  with_reducible repeat' first
    | assumption | intro _ _ _ | intro _ _ | apply State.emit_keeps | apply Keeps.ite | apply Keeps.forN | simp only [Keeps.upd]

theorem State.raiseWith_keeps {s0 s : State} {x1 x2} (h : Keeps s0 s) : Keeps s0 (State.raiseWith s x1 x2) := by
  unfold State.raiseWith
  with_reducible repeat' first
    | assumption | apply State.bump_keeps | apply State.put_keeps | apply State.setBit1_keeps | apply State.vecRise_keeps | apply Keeps.ite
    | simp only [Keeps.upd]

theorem State.raise_keeps {s0 s : State} {x1} (h : Keeps s0 s) : Keeps s0 (State.raise s x1) := by
  unfold State.raise
  with_reducible repeat' first | assumption | apply State.raiseWith_keeps

theorem State.noteDetail_keeps {s0 s : State} {x1 x2} (h : Keeps s0 s) : Keeps s0 (State.noteDetail s x1 x2) := by
  unfold State.noteDetail
  with_reducible repeat' first | assumption | apply Keeps.ite | simp only [Keeps.upd]

theorem State.withLevels_keeps {s0 s : State} {srcs f} (h : Keeps s0 (f s)) : Keeps s0 (s.withLevels srcs f) :=
  Keeps.foldl h (fun a n ha => by split; exacts [State.raise_keeps ha, ha])

theorem State.cause1_keeps {s0 s : State} {x1 x2 x3 x4} (h : Keeps s0 s) : Keeps s0 (State.cause1 s x1 x2 x3 x4) := by
  unfold State.cause1
  with_reducible repeat' first | assumption | apply State.setBit1_keeps | apply State.withLevels_keeps

theorem State.causeBase_keeps {s0 s : State} {x1 x2 x3} (h : Keeps s0 s) : Keeps s0 (State.causeBase s x1 x2 x3) := by
  unfold State.causeBase
  with_reducible repeat' first | assumption | apply State.cause1_keeps

theorem State.passEvt_keeps {s0 s : State} {x1} (h : Keeps s0 s) : Keeps s0 (State.passEvt s x1) := by
  unfold State.passEvt
  with_reducible repeat' first | assumption | apply State.causeBase_keeps

theorem State.foxEvt_keeps {s0 s : State} {x1} (h : Keeps s0 s) : Keeps s0 (State.foxEvt s x1) := by
  unfold State.foxEvt
  with_reducible repeat' first | assumption | apply State.causeBase_keeps

theorem State.beamEvt_keeps {s0 s : State} {x1} (h : Keeps s0 s) : Keeps s0 (State.beamEvt s x1) := by
  unfold State.beamEvt
  with_reducible repeat' first | assumption | apply State.causeBase_keeps

theorem State.timeEvt_keeps {s0 s : State} {x1} (h : Keeps s0 s) : Keeps s0 (State.timeEvt s x1) := by
  unfold State.timeEvt
  with_reducible repeat' first | assumption | apply State.causeBase_keeps

theorem State.meshEvt_keeps {s0 s : State} {x1} (h : Keeps s0 s) : Keeps s0 (State.meshEvt s x1) := by
  unfold State.meshEvt
  with_reducible repeat' first | assumption | apply State.causeBase_keeps

theorem State.pairEvt_keeps {s0 s : State} {x1} (h : Keeps s0 s) : Keeps s0 (State.pairEvt s x1) := by
  unfold State.pairEvt
  with_reducible repeat' first | assumption | apply State.causeBase_keeps

theorem State.storeEvt_keeps {s0 s : State} {x1} (h : Keeps s0 s) : Keeps s0 (State.storeEvt s x1) := by
  unfold State.storeEvt
  with_reducible repeat' first | assumption | apply State.causeBase_keeps

theorem State.frameEvt_keeps {s0 s : State} {x1} (h : Keeps s0 s) : Keeps s0 (State.frameEvt s x1) := by
  unfold State.frameEvt
  with_reducible repeat' first | assumption | apply State.causeBase_keeps

theorem State.powerEvt_keeps {s0 s : State} {x1} (h : Keeps s0 s) : Keeps s0 (State.powerEvt s x1) := by
  unfold State.powerEvt
  with_reducible repeat' first | assumption | apply State.causeBase_keeps

theorem State.trustEvt_keeps {s0 s : State} {x1} (h : Keeps s0 s) : Keeps s0 (State.trustEvt s x1) := by
  unfold State.trustEvt
  with_reducible repeat' first | assumption | apply State.causeBase_keeps

theorem State.ledgerEvt_keeps {s0 s : State} {x1} (h : Keeps s0 s) : Keeps s0 (State.ledgerEvt s x1) := by
  unfold State.ledgerEvt
  with_reducible repeat' first | assumption | apply State.causeBase_keeps

theorem State.pcieEvt_keeps {s0 s : State} {x1} (h : Keeps s0 s) : Keeps s0 (State.pcieEvt s x1) := by
  unfold State.pcieEvt
  with_reducible repeat' first | assumption | apply State.causeBase_keeps

theorem State.mgmtEvt_keeps {s0 s : State} {x1} (h : Keeps s0 s) : Keeps s0 (State.mgmtEvt s x1) := by
  unfold State.mgmtEvt
  with_reducible repeat' first | assumption | apply State.causeBase_keeps

theorem State.scpEvt_keeps {s0 s : State} {x1} (h : Keeps s0 s) : Keeps s0 (State.scpEvt s x1) := by
  unfold State.scpEvt
  with_reducible repeat' first | assumption | apply State.causeBase_keeps

theorem State.memEvt_keeps {s0 s : State} {x1 x2 x3} (h : Keeps s0 s) : Keeps s0 (State.memEvt s x1 x2 x3) := by
  unfold State.memEvt
  with_reducible repeat' first | assumption | apply State.raise_keeps | apply State.setBit1_keeps | apply Keeps.ite

theorem State.sectionEvt_keeps {s0 s : State} {x1 x2} (h : Keeps s0 s) : Keeps s0 (State.sectionEvt s x1 x2) := by
  unfold State.sectionEvt
  with_reducible repeat' first | assumption | apply State.cause1_keeps

theorem State.laneEvt_keeps {s0 s : State} {x1 x2} (h : Keeps s0 s) : Keeps s0 (State.laneEvt s x1 x2) := by
  unfold State.laneEvt
  with_reducible repeat' first | assumption | apply State.cause1_keeps

theorem State.hankEvt_keeps {s0 s : State} {x1 x2} (h : Keeps s0 s) : Keeps s0 (State.hankEvt s x1 x2) := by
  unfold State.hankEvt
  with_reducible repeat' first | assumption | apply State.cause1_keeps

theorem State.spinEvt_keeps {s0 s : State} {x1 x2} (h : Keeps s0 s) : Keeps s0 (State.spinEvt s x1 x2) := by
  unfold State.spinEvt
  with_reducible repeat' first | assumption | apply State.setBit1_keeps | apply State.withLevels_keeps

theorem State.gain_keeps {s0 s : State} {x1 x2 x3 x4} (h : Keeps s0 s) : Keeps s0 (State.gain s x1 x2 x3 x4) := by
  unfold State.gain
  with_reducible repeat' first
    | assumption | apply State.bump_keeps | apply State.put_keeps | apply State.raise_keeps | apply State.vecRise_keeps | apply Keeps.ite
    | simp only [Keeps.upd]

theorem State.routeGain_keeps {s0 s : State} {x1 x2 x3 x4} (h : Keeps s0 s) : Keeps s0 (State.routeGain s x1 x2 x3 x4) := by
  unfold State.routeGain
  with_reducible repeat' first | assumption | apply State.gain_keeps | apply State.vecFall_keeps | apply Keeps.ite

theorem clearPend_keeps {s0 s : State} {x0 x1} (h : Keeps s0 s) : Keeps s0 (clearPend x0 x1 s) := by
  unfold clearPend
  with_reducible repeat' first
    | assumption | intro _ _ _ | intro _ _ | apply State.put1_keeps | apply State.raise_keeps | apply State.vecFall_keeps | apply Keeps.ite
    | apply Keeps.foldl

/-! ## Link -/

theorem State.setLane_keeps {s0 s : State} {x1 x2} (h : Keeps s0 s) : Keeps s0 (State.setLane s x1 x2) := by
  unfold State.setLane
  with_reducible repeat' first | assumption | simp only [Keeps.upd]

theorem State.queueLane_keeps {s0 s : State} {x1 x2} (h : Keeps s0 s) : Keeps s0 (State.queueLane s x1 x2) := by
  unfold State.queueLane
  with_reducible repeat' first | assumption | simp only [Keeps.upd]

theorem State.sendWrite_keeps {s0 s : State} {x1 x2 x3 x4 x5} (h : Keeps s0 s) : Keeps s0 (State.sendWrite s x1 x2 x3 x4 x5) := by
  unfold State.sendWrite
  with_reducible repeat' first
    | assumption | intro _ _ _ | intro _ _ | apply State.queueLane_keeps | apply State.takeFree_keeps | apply Keeps.ite_snd | apply Keeps.foldl
    | simp only [Keeps.upd]

theorem State.sendRequest_keeps {s0 s : State} {x1} (h : Keeps s0 s) : Keeps s0 (State.sendRequest s x1) := by
  unfold State.sendRequest
  with_reducible repeat' first | assumption | apply State.queueLane_keeps | simp only [Keeps.upd] | split

theorem State.sendReads_keeps {s0 s : State} {x1 x2 x3 x4 x5 x6 x7} (h : Keeps s0 s) : Keeps s0 (State.sendReads s x1 x2 x3 x4 x5 x6 x7) := by
  unfold State.sendReads
  with_reducible repeat' first | assumption | intro _ _ _ | intro _ _ | apply State.sendRequest_keeps | apply Keeps.foldl

theorem State.newEpoch_keeps {s0 s : State} {x1} (h : Keeps s0 s) : Keeps s0 (State.newEpoch s x1) := by
  unfold State.newEpoch
  with_reducible repeat' first | assumption | simp only [Keeps.upd]

theorem State.rxHold_keeps {s0 s : State} {x1 x2 x3} (h : Keeps s0 s) : Keeps s0 (State.rxHold s x1 x2 x3) := by
  unfold State.rxHold
  with_reducible repeat' first | assumption | simp only [Keeps.upd]

theorem State.rxFree_keeps {s0 s : State} {x1 x2 x3} (h : Keeps s0 s) : Keeps s0 (State.rxFree s x1 x2 x3) := by
  unfold State.rxFree
  with_reducible repeat' first | assumption | simp only [Keeps.upd]

theorem State.rxTake_keeps {s0 s : State} {l p f t} (h : Keeps s0 s) (e : s.rxTake l p = some (f, t)) : Keeps s0 t := by
  unfold State.rxTake at e
  dsimp only at e
  split at e
  · cases e
  · split at e <;> cases e <;> (apply State.rxFree_keeps; simp only [Keeps.upd]; exact h)

/-! ## MemErrors -/

theorem State.ledSet_keeps {s0 s : State} {x1 x2 x3} (h : Keeps s0 s) : Keeps s0 (State.ledSet s x1 x2 x3) := by
  unfold State.ledSet
  with_reducible repeat' first | assumption | simp only [Keeps.upd]

theorem State.ledBump_keeps {s0 s : State} {x1 x2 x3} (h : Keeps s0 s) : Keeps s0 (State.ledBump s x1 x2 x3) := by
  unfold State.ledBump
  with_reducible repeat' first | assumption | apply State.ledSet_keeps

theorem State.ledCount_keeps {s0 s : State} {x1} (h : Keeps s0 s) : Keeps s0 (State.ledCount s x1) := by
  unfold State.ledCount
  with_reducible repeat' first | assumption | apply State.ledBump_keeps

theorem State.ledStackErr_keeps {s0 s : State} {x1 x2 x3} (h : Keeps s0 s) : Keeps s0 (State.ledStackErr s x1 x2 x3) := by
  unfold State.ledStackErr
  with_reducible repeat' first | assumption | apply State.ledBump_keeps

theorem State.retireRank_keeps {s0 s : State} {x1 x2} (h : Keeps s0 s) : Keeps s0 (State.retireRank s x1 x2) := by
  unfold State.retireRank
  with_reducible repeat' first
    | assumption | apply State.ledCount_keeps | apply State.ledSet_keeps | apply State.memEvt_keeps | apply State.put1_keeps
    | apply State.updSite_keeps | apply Keeps.ite

theorem State.rankFails_keeps {s0 s : State} {x1 x2} (h : Keeps s0 s) : Keeps s0 (State.rankFails s x1 x2) := by
  unfold State.rankFails
  with_reducible repeat' first | assumption | apply State.retireRank_keeps | apply Keeps.ite | simp only [Keeps.upd]

theorem State.errWhere_keeps {s0 s : State} {x1 x2 x3} (h : Keeps s0 s) : Keeps s0 (State.errWhere s x1 x2 x3) := by
  unfold State.errWhere
  with_reducible repeat' first | assumption | apply State.put1_keeps

theorem State.readCe_keeps {s0 s : State} {x1} (h : Keeps s0 s) : Keeps s0 (State.readCe s x1) := by
  unfold State.readCe
  with_reducible repeat' first | assumption | apply State.bump1_keeps | apply State.ledStackErr_keeps | apply State.memEvt_keeps

theorem State.readUe_keeps {s0 s : State} {x1} (h : Keeps s0 s) : Keeps s0 (State.readUe s x1) := by
  unfold State.readUe
  with_reducible repeat' first
    | assumption | apply State.bump1_keeps | apply State.errWhere_keeps | apply State.ledStackErr_keeps | apply State.memEvt_keeps
    | apply State.rankFails_keeps | apply State.setPoison_keeps

theorem State.parityFail_keeps {s0 s : State} {x1 x2 x3} (h : Keeps s0 s) : Keeps s0 (State.parityFail s x1 x2 x3) := by
  unfold State.parityFail
  with_reducible repeat' first
    | assumption | apply State.bump1_keeps | apply State.errWhere_keeps | apply State.memEvt_keeps | apply State.rankFails_keeps
    | apply State.readUe_keeps | apply Keeps.ite

theorem State.rankMap_keeps {s0 s : State} {x1} (h : Keeps s0 s) : Keeps s0 (State.rankMap s x1) := by
  unfold State.rankMap
  dsimp only
  with_reducible repeat' first | assumption | apply State.put1_keeps | apply State.updSite_keeps | split

theorem State.sweepBegins_keeps {s0 s : State} {x1} (h : Keeps s0 s) : Keeps s0 (State.sweepBegins s x1) := by
  unfold State.sweepBegins
  with_reducible repeat' first | assumption | apply State.put1_keeps | apply State.rankMap_keeps

theorem State.meet_keeps {s0 s : State} {x1 x2} (h : Keeps s0 s) : Keeps s0 (State.meet s x1 x2) := by
  unfold State.meet
  with_reducible repeat' first | assumption | apply State.parityFail_keeps | apply State.readUe_keeps | apply Keeps.ite | split

theorem State.ask_keeps {s0 s : State} {x1 x2 x3} (h : Keeps s0 s) : Keeps s0 (State.ask s x1 x2 x3) := by
  unfold State.ask
  with_reducible repeat' first | assumption | intro _ _ _ | intro _ _ | apply State.enqueue_keeps | apply State.meet_keeps | apply Keeps.foldl

theorem State.askWrite_keeps {s0 s sx : State} {port r o n keep} (h : Keeps s0 s) : Keeps s0 (s.askWrite sx port r o n keep) :=
  Keeps.foldl h (fun a k ha => by dsimp only; split <;> simp only [Keeps.upd, State.enqueue_keeps, State.meet_keeps, ha])

/-! ## Store -/

theorem State.walkFault_keeps {s0 s : State} {x1 x2 x3 x4 x5 x6} (h : Keeps s0 s) : Keeps s0 (State.walkFault s x1 x2 x3 x4 x5 x6) := by
  unfold State.walkFault
  with_reducible repeat' first
    | assumption | apply State.bump_keeps | apply State.noteDetail_keeps | apply State.put_keeps | apply State.storeEvt_keeps | apply Keeps.ite
    | simp only [Keeps.upd]

theorem State.noteRetry_keeps {s0 s : State} {x1 x2 x3 x4} (h : Keeps s0 s) : Keeps s0 (State.noteRetry s x1 x2 x3 x4) := by
  unfold State.noteRetry
  with_reducible repeat' first | assumption | simp only [Keeps.upd]

theorem State.cachePut_keeps {s0 s : State} {x1 x2 x3 x4} (h : Keeps s0 s) : Keeps s0 (State.cachePut s x1 x2 x3 x4) := by
  unfold State.cachePut
  with_reducible repeat' first | assumption | simp only [Keeps.upd]

theorem State.cacheUse_keeps {s0 s : State} {x1} (h : Keeps s0 s) : Keeps s0 (State.cacheUse s x1) := by
  unfold State.cacheUse
  with_reducible repeat' first | assumption | simp only [Keeps.upd]

theorem State.cacheClear_keeps {s0 s : State} (h : Keeps s0 s) : Keeps s0 (State.cacheClear s) := by
  unfold State.cacheClear
  with_reducible repeat' first | assumption | apply State.put_keeps | apply State.storeEvt_keeps | apply Keeps.ite | simp only [Keeps.upd]

theorem State.askWalk_keeps {s0 s : State} {x1 x2 x3} (h : Keeps s0 s) : Keeps s0 (State.askWalk s x1 x2 x3) := by
  unfold State.askWalk
  with_reducible repeat' first | assumption | apply State.ask_keeps | apply Keeps.ite | split

theorem State.translate_keeps {s0 s : State} {x1 x2 x3} (h : Keeps s0 s) : Keeps s0 (State.translate s x1 x2 x3).2 := by
  unfold State.translate
  dsimp only
  with_reducible repeat' first
    | assumption | apply State.askWalk_keeps | apply State.bump_keeps | apply State.cachePut_keeps | apply State.cacheUse_keeps | apply Keeps.ite_snd
    | split

theorem State.refusedUnits_keeps {s0 s : State} {x1 x2 x3} (h : Keeps s0 s) : Keeps s0 (State.refusedUnits s x1 x2 x3) := by
  unfold State.refusedUnits
  with_reducible repeat' first | assumption | apply State.bump1_keeps | apply Keeps.ite

theorem State.portWrite_keeps {s0 s : State} {x1 x2 x3 x4} (h : Keeps s0 s) : Keeps s0 (s.portWrite x1 x2 x3 x4).1 := by
  unfold State.portWrite
  dsimp only
  split
  · exact State.askWrite_keeps (State.writeRegion_keeps h)
  · split
    · dsimp only
      refine State.refusedUnits_keeps (State.askWrite_keeps (Keeps.foldl h ?_))
      exact fun a x ha => State.writeRegion_keeps ha
    · exact State.refusedUnits_keeps h

theorem State.portRead_keeps {s0 s : State} {x1 x2 x3 x4} (h : Keeps s0 s) : Keeps s0 (State.portRead s x1 x2 x3 x4).2.2.2 := by
  unfold State.portRead
  with_reducible repeat' first | assumption | apply State.ask_keeps | apply State.refusedUnits_keeps | apply Keeps.ite_snd_snd_snd

theorem State.pciePoison_keeps {s0 s : State} (h : Keeps s0 s) : Keeps s0 (State.pciePoison s) := by
  unfold State.pciePoison
  with_reducible repeat' first | assumption | apply State.bump_keeps | apply State.pcieEvt_keeps

theorem State.pcieCto_keeps {s0 s : State} (h : Keeps s0 s) : Keeps s0 (State.pcieCto s) := by
  unfold State.pcieCto
  with_reducible repeat' first | assumption | apply State.bump_keeps | apply State.pcieEvt_keeps

theorem State.hostReadsEnd_keeps {s0 s : State} (h : Keeps s0 s) : Keeps s0 (State.hostReadsEnd s) := by
  unfold State.hostReadsEnd
  with_reducible repeat' first | assumption | intro _ _ _ | intro _ _ | apply State.emit_keeps | apply Keeps.foldl | simp only [Keeps.upd]

theorem State.poisonRange_keeps {s0 s : State} {x1 x2 x3} (h : Keeps s0 s) : Keeps s0 (State.poisonRange s x1 x2 x3) := by
  unfold State.poisonRange
  with_reducible repeat' first | assumption | intro _ _ _ | intro _ _ | apply State.setPoison_keeps | apply Keeps.foldl

theorem State.faultUnits_keeps {s0 s : State} {x1 x2 x3} (h : Keeps s0 s) : Keeps s0 (State.faultUnits s x1 x2 x3) := by
  unfold State.faultUnits
  with_reducible repeat' first | assumption | apply State.refusedUnits_keeps | apply Keeps.ite

theorem State.segWriteP_keeps {s0 s : State} {x1 x2 x3 x4} (h : Keeps s0 s) : Keeps s0 (State.segWriteP s x1 x2 x3 x4).1 := by
  unfold State.segWriteP
  dsimp only
  with_reducible repeat' first
    | assumption | apply State.emit_keeps | apply State.faultUnits_keeps | apply State.poisonRange_keeps | apply State.portWrite_keeps
    | apply State.raise_keeps | apply State.refusedUnits_keeps | apply State.sendWrite_keeps | apply State.translate_keeps
    | apply State.walkFault_keeps | apply Keeps.ite | apply Keeps.ite_fst | split

theorem State.segWrite_keeps {s0 s : State} {x1 x2 x3} (h : Keeps s0 s) : Keeps s0 (State.segWrite s x1 x2 x3).1 := by
  unfold State.segWrite
  with_reducible repeat' first | assumption | apply State.segWriteP_keeps

theorem State.segRead_keeps {s0 s : State} {x1 x2 x3 x4} (h : Keeps s0 s) : Keeps s0 (State.segRead s x1 x2 x3 x4).2.2.2 := by
  unfold State.segRead
  dsimp only
  with_reducible repeat' first
    | assumption | apply State.emit_keeps | apply State.faultUnits_keeps | apply State.pcieCto_keeps | apply State.portRead_keeps
    | apply State.refusedUnits_keeps | apply State.sendReads_keeps | apply State.translate_keeps | apply State.walkFault_keeps
    | apply Keeps.ite_snd_snd_snd | split

theorem State.sendWaiting_keeps {s0 s : State} {x1} (h : Keeps s0 s) : Keeps s0 (State.sendWaiting s x1) := by
  unfold State.sendWaiting
  with_reducible repeat' first | assumption | apply State.sendRequest_keeps | apply Keeps.ite | simp only [Keeps.upd] | split

theorem State.endRequest_keeps {s0 s : State} {x1 x2 x3} (h : Keeps s0 s) : Keeps s0 (State.endRequest s x1 x2 x3) := by
  unfold State.endRequest
  with_reducible repeat' first | assumption | apply State.emit_keeps | apply State.sendWaiting_keeps | simp only [Keeps.upd]

theorem State.flushLanes_keeps {s0 s : State} {x1} (h : Keeps s0 s) : Keeps s0 (State.flushLanes s x1) := by
  unfold State.flushLanes
  with_reducible repeat' first | assumption | intro _ _ _ | intro _ _ | apply State.sendRequest_keeps | apply Keeps.foldl | simp only [Keeps.upd]

theorem State.storePut_keeps {s0 s : State} {x1 x2 x3 x4} (h : Keeps s0 s) : Keeps s0 (State.storePut s x1 x2 x3 x4).1 := by
  unfold State.storePut
  with_reducible repeat' first | assumption | intro _ _ _ | intro _ _ | apply State.segWriteP_keeps | apply Keeps.foldl_fst

theorem State.storeWrite_keeps {s0 s : State} {x1 x2 x3} (h : Keeps s0 s) : Keeps s0 (State.storeWrite s x1 x2 x3).1 := by
  unfold State.storeWrite
  with_reducible repeat' first | assumption | apply State.flushLanes_keeps | apply State.storePut_keeps

theorem State.storeRead_keeps {s0 s : State} {x1 x2 x3 x4} (h : Keeps s0 s) : Keeps s0 (State.storeRead s x1 x2 x3 x4).st := by
  unfold State.storeRead
  generalize segments x2 x3 = l
  have H : ∀ (l : List (Nat × Nat)) (r : ReadResult), Keeps s0 r.st → Keeps s0 (l.foldl (fun (acc : ReadResult) sg =>
    let (d, p, st, s1) := acc.st.segRead x1 sg.1 sg.2 (x4.drop (sg.1 - x2))
    ({ data := acc.data ++ d, poisoned := acc.poisoned || p,
       status := if acc.status = stOk then st else acc.status,
       failAddr := if acc.status = stOk ∧ (st ≠ stOk ∨ p) ∧ !acc.poisoned then sg.1 else acc.failAddr,
       st := s1 } : ReadResult)) r).st := by
    intro l
    induction l with
    | nil => exact fun _ h => h
    | cons g l ih => exact fun r h => ih _ (State.segRead_keeps h)
  exact H l _ h

/-! ## Measure -/

theorem State.ledSlack_keeps {s0 s : State} {x1} (h : Keeps s0 s) : Keeps s0 (State.ledSlack s x1) := by
  unfold State.ledSlack
  with_reducible repeat' first | assumption | apply State.ledBump_keeps

theorem State.measure_keeps {s0 s : State} {x1 x2 x3 x4} (h : Keeps s0 s) : Keeps s0 (State.measure s x1 x2 x3 x4) := by
  unfold State.measure
  with_reducible repeat' first
    | assumption | apply State.bump_keeps | apply State.put_keeps | apply State.trustEvt_keeps | apply Keeps.ite | simp only [Keeps.upd]

theorem State.measureReset235_keeps {s0 s : State} (h : Keeps s0 s) : Keeps s0 (State.measureReset235 s) := by
  unfold State.measureReset235
  with_reducible repeat' first | assumption | apply State.put_keeps | simp only [Keeps.upd]

theorem State.measureSwap_keeps {s0 s : State} {x1 x2 x3} (h : Keeps s0 s) : Keeps s0 (State.measureSwap s x1 x2 x3) := by
  unfold State.measureSwap
  with_reducible repeat' first | assumption | simp only [Keeps.upd]

theorem State.measureSpanEnd_keeps {s0 s : State} (h : Keeps s0 s) : Keeps s0 (State.measureSpanEnd s) := by
  unfold State.measureSpanEnd
  with_reducible repeat' first | assumption | intro _ _ _ | intro _ _ | apply State.measure_keeps | apply Keeps.foldl | simp only [Keeps.upd]

/-! ## Loom -/

theorem State.busyCount_keeps {s0 s : State} {x1 x2 x3} (h : Keeps s0 s) : Keeps s0 (State.busyCount s x1 x2 x3) := by
  unfold State.busyCount
  with_reducible repeat' first | assumption | apply State.wrap1_keeps | apply Keeps.ite | simp only [Keeps.upd]

theorem State.countRun_keeps {s0 s : State} {x1 x2 x3 x4 x5} (h : Keeps s0 s) : Keeps s0 (State.countRun s x1 x2 x3 x4 x5) := by
  unfold State.countRun
  with_reducible repeat' first
    | assumption | intro _ _ _ | intro _ _ | apply State.busyCount_keeps | apply State.wrap1_keeps | apply Keeps.ite | apply Keeps.foldl

theorem State.countRuns_keeps {s0 s : State} {cyc steps n l} (h : Keeps s0 s) : Keeps s0 (s.countRuns cyc steps n l) := by
  induction l generalizing s n with
  | nil => exact h
  | cons r rs ih => exact ih (State.countRun_keeps h)

theorem State.testStops_keeps {s0 s : State} {x1 x2} (h : Keeps s0 s) : Keeps s0 (State.testStops s x1 x2) := by
  unfold State.testStops
  with_reducible repeat' first | assumption | apply State.busyCount_keeps | apply State.put1_keeps | apply State.wrap1_keeps

theorem State.testAborted_keeps {s0 s : State} {x1} (h : Keeps s0 s) : Keeps s0 (State.testAborted s x1) := by
  unfold State.testAborted
  with_reducible repeat' first | assumption | apply State.put1_keeps | apply State.testStops_keeps

theorem State.testBegins_keeps {s0 s : State} {x1} (h : Keeps s0 s) : Keeps s0 (State.testBegins s x1) := by
  unfold State.testBegins
  with_reducible repeat' first | assumption | apply State.put1_keeps | simp only [Keeps.upd]

theorem State.abortTests_keeps {s0 s : State} {x1} (h : Keeps s0 s) : Keeps s0 (State.abortTests s x1) := by
  unfold State.abortTests
  with_reducible repeat' first | assumption | intro _ _ _ | intro _ _ | apply State.testAborted_keeps | apply Keeps.ite | apply Keeps.forN

theorem State.sectionMove_keeps {s0 s : State} {x1} (h : Keeps s0 s) : Keeps s0 (State.sectionMove s x1) := by
  unfold State.sectionMove
  with_reducible repeat' first | assumption | apply State.abortTests_keeps | apply State.put1_keeps | apply Keeps.ite | split

theorem State.sectionsMove_keeps {s0 s : State} (h : Keeps s0 s) : Keeps s0 (State.sectionsMove s) := by
  unfold State.sectionsMove
  with_reducible repeat' first | assumption | intro _ _ _ | intro _ _ | apply State.sectionMove_keeps | apply Keeps.forN

theorem State.withSections_keeps {s0 s : State} {f} (h : Keeps s0 (f s)) : Keeps s0 (s.withSections f) :=
  State.sectionsMove_keeps (Keeps.forN h (fun k a ha => by split; exacts [State.abortTests_keeps ha, ha]))

theorem State.withPassList_keeps {s0 s : State} {x1} (h : Keeps s0 s) : Keeps s0 (State.withPassList s x1) := by
  unfold State.withPassList
  with_reducible repeat' first | assumption | simp only [Keeps.upd]

theorem State.holdNote_keeps {s0 s : State} {x1} (h : Keeps s0 s) : Keeps s0 (State.holdNote s x1) := by
  unfold State.holdNote
  with_reducible repeat' first | assumption | intro _ _ _ | intro _ _ | apply State.sectionEvt_keeps | apply Keeps.foldl

theorem State.holdCount_keeps {s0 s : State} {x1 x2} (h : Keeps s0 s) : Keeps s0 (State.holdCount s x1 x2) := by
  unfold State.holdCount
  with_reducible repeat' first | assumption | intro _ _ _ | intro _ _ | apply State.bump1_keeps | apply Keeps.ite | apply Keeps.foldl

theorem State.holdEnd_keeps {s0 s : State} {x1 x2 x3} (h : Keeps s0 s) : Keeps s0 (State.holdEnd s x1 x2 x3) := by
  unfold State.holdEnd
  with_reducible repeat' first | assumption | apply State.holdCount_keeps | apply Keeps.ite

theorem State.exchange_keeps {s0 s : State} {x1 x2} (h : Keeps s0 s) : Keeps s0 (State.exchange s x1 x2) := by
  unfold State.exchange
  with_reducible repeat' first | assumption | simp only [Keeps.upd]

theorem State.intoQueues_keeps {s0 s : State} {x1 x2} (h : Keeps s0 s) : Keeps s0 (State.intoQueues s x1 x2) := by
  unfold State.intoQueues
  with_reducible repeat' first | assumption | simp only [Keeps.upd]

theorem State.fromQueues_keeps {s0 s : State} {x1} (h : Keeps s0 s) : Keeps s0 (State.fromQueues s x1).2 := by
  unfold State.fromQueues
  with_reducible repeat' first | assumption | simp only [Keeps.upd]

theorem State.boundary_keeps {s0 s : State} {x1 x2 x3 x4} (h : Keeps s0 s) : Keeps s0 (State.boundary s x1 x2 x3 x4).2 := by
  unfold State.boundary
  with_reducible repeat' first | assumption | apply State.exchange_keeps | apply State.fromQueues_keeps | apply State.intoQueues_keeps

theorem State.clearCells_keeps {s0 s : State} {x1 x2} (h : Keeps s0 s) : Keeps s0 (State.clearCells s x1 x2) := by
  unfold State.clearCells
  with_reducible repeat' first | assumption | apply State.fromQueues_keeps | simp only [Keeps.upd]

theorem State.dropPrefetch_keeps {s0 s : State} {x1} (h : Keeps s0 s) : Keeps s0 (State.dropPrefetch s x1) := by
  unfold State.dropPrefetch
  with_reducible repeat' first | assumption | apply State.bump_keeps

theorem State.cancelPrefetch_keeps {s0 s : State} {x1} (h : Keeps s0 s) : Keeps s0 (State.cancelPrefetch s x1) := by
  unfold State.cancelPrefetch
  with_reducible repeat' first | assumption | intro _ _ _ | intro _ _ | apply State.dropPrefetch_keeps | apply Keeps.foldl | simp only [Keeps.upd]

theorem State.holdRunning_keeps {s0 s : State} {x1} (h : Keeps s0 s) : Keeps s0 (State.holdRunning s x1) := by
  unfold State.holdRunning
  with_reducible repeat' first | assumption | intro _ _ _ | intro _ _ | apply State.holdNote_keeps | apply Keeps.foldl | simp only [Keeps.upd]

theorem State.sectionFault_keeps {s0 s : State} {x1} (h : Keeps s0 s) : Keeps s0 (State.sectionFault s x1) := by
  unfold State.sectionFault
  with_reducible repeat' first
    | assumption | apply State.abortTests_keeps | apply State.bump1_keeps | apply State.cancelPrefetch_keeps | apply State.holdRunning_keeps
    | apply State.put1_keeps | apply State.sectionEvt_keeps | apply State.sectionMove_keeps

theorem State.knotOffline_keeps {s0 s : State} {x1} (h : Keeps s0 s) : Keeps s0 (State.knotOffline s x1) := by
  unfold State.knotOffline
  with_reducible repeat' first | assumption | apply State.put1_keeps

theorem execTestStart_keeps {s0 s : State} {x0 x1} (h : Keeps s0 s) : KeepsOut s0 (execTestStart x0 x1 s) := by
  unfold execTestStart
  with_reducible repeat' first
    | assumption | apply State.knotOffline_keeps | apply State.put1_keeps | apply State.testBegins_keeps | apply KeepsOut.ite | apply KeepsOut.next

theorem execTestAbort_keeps {s0 s : State} {x0} (h : Keeps s0 s) : KeepsOut s0 (execTestAbort x0 s) := by
  unfold execTestAbort
  with_reducible repeat' first | assumption | apply State.knotOffline_keeps | apply State.testAborted_keeps | apply KeepsOut.ite | apply KeepsOut.next

theorem State.noteTest_keeps {s0 s : State} {x1} (h : Keeps s0 s) : Keeps s0 (State.noteTest s x1) := by
  unfold State.noteTest
  with_reducible repeat' first | assumption | simp only [Keeps.upd]

theorem execSelfTestDone_keeps {s0 s : State} {x0 x1 x2} (h : Keeps s0 s) : KeepsOut s0 (execSelfTestDone x0 x1 x2 s) := by
  unfold execSelfTestDone
  with_reducible repeat' first
    | assumption | apply State.noteTest_keeps | apply State.put1_keeps | apply State.sectionEvt_keeps | apply State.testStops_keeps | apply State.upTo_keeps | apply Keeps.ite
    | apply KeepsOut.ite | apply KeepsOut.next

theorem execTestPower_keeps {s0 s : State} {x0 x1} (h : Keeps s0 s) : KeepsOut s0 (execTestPower x0 x1 s) := by
  unfold execTestPower
  with_reducible repeat' first
    | assumption | apply State.abortTests_keeps | apply State.put1_keeps | apply State.withSections_keeps | apply Keeps.ite | apply KeepsOut.next

theorem State.zeroCells_keeps {s0 s : State} {x1} (h : Keeps s0 s) : Keeps s0 (State.zeroCells s x1) := by
  unfold State.zeroCells
  with_reducible repeat' first | assumption | simp only [Keeps.upd]

theorem execSectionPowerGood_keeps {s0 s : State} {x0} (h : Keeps s0 s) : KeepsOut s0 (execSectionPowerGood x0 s) := by
  unfold execSectionPowerGood
  with_reducible repeat' first
    | assumption | apply State.bump1_keeps | apply State.put1_keeps | apply State.sectionMove_keeps | apply State.zeroCells_keeps | apply KeepsOut.ite
    | apply KeepsOut.next

theorem execSectionPowerTimeout_keeps {s0 s : State} {x0} (h : Keeps s0 s) : KeepsOut s0 (execSectionPowerTimeout x0 s) := by
  unfold execSectionPowerTimeout
  with_reducible repeat' first | assumption | apply State.sectionFault_keeps | apply KeepsOut.ite | apply KeepsOut.next

theorem execPowerGoodLost_keeps {s0 s : State} {x0} (h : Keeps s0 s) : KeepsOut s0 (execPowerGoodLost x0 s) := by
  unfold execPowerGoodLost
  with_reducible repeat' first | assumption | apply State.sectionFault_keeps | apply KeepsOut.ite | apply KeepsOut.next

theorem execSectionDrained_keeps {s0 s : State} {x0} (h : Keeps s0 s) : KeepsOut s0 (execSectionDrained x0 s) := by
  unfold execSectionDrained
  with_reducible repeat' first | assumption | apply State.put1_keeps | apply State.sectionMove_keeps | apply KeepsOut.ite | apply KeepsOut.next

theorem execInjectionResume_keeps {s0 s : State} {x0 x1} (h : Keeps s0 s) : KeepsOut s0 (execInjectionResume x0 x1 s) := by
  unfold execInjectionResume
  with_reducible repeat' first
    | assumption | apply State.holdCount_keeps | apply State.withPassList_keeps | apply Keeps.ite | apply KeepsOut.next | simp only [Keeps.upd]
    | split

/-! ## Mirror -/

theorem State.nextItem_keeps {s0 s : State} {x1} (h : Keeps s0 s) : Keeps s0 (State.nextItem s x1).2 := by
  unfold State.nextItem
  with_reducible repeat' first | assumption | simp only [Keeps.upd]

theorem State.itemSent_keeps {s0 s : State} {x1 x2} (h : Keeps s0 s) : Keeps s0 (State.itemSent s x1 x2) := by
  unfold State.itemSent
  with_reducible repeat' first | assumption | simp only [Keeps.upd]

theorem State.mirrorRec_keeps {s0 s : State} {x1 x2} (h : Keeps s0 s) : Keeps s0 (State.mirrorRec s x1 x2) := by
  unfold State.mirrorRec
  with_reducible repeat' first | assumption | apply State.put_keeps | simp only [Keeps.upd]

theorem State.noteStore_keeps {s0 s : State} {x1 x2} (h : Keeps s0 s) : Keeps s0 (State.noteStore s x1 x2) := by
  unfold State.noteStore
  with_reducible repeat' first | assumption | apply Keeps.ite | simp only [Keeps.upd]

theorem State.mirrorWords_keeps {s0 s : State} {x1 x2} (h : Keeps s0 s) : Keeps s0 (State.mirrorWords s x1 x2) := by
  unfold State.mirrorWords
  with_reducible repeat' first | assumption | intro _ _ _ | intro _ _ | apply State.mirrorRec_keeps | apply Keeps.foldl

theorem State.mirror_keeps {s0 s : State} {x1 x2} (h : Keeps s0 s) : Keeps s0 (State.mirror s x1 x2) := by
  unfold State.mirror
  with_reducible repeat' first | assumption | apply State.mirrorRec_keeps | apply Keeps.ite

theorem State.toSyncing_keeps {s0 s : State} (h : Keeps s0 s) : Keeps s0 (State.toSyncing s) := by
  unfold State.toSyncing
  with_reducible repeat' first | assumption | apply State.mirrorRec_keeps | apply State.put_keeps | simp only [Keeps.upd]

theorem State.diverge_keeps {s0 s : State} {x1 x2} (h : Keeps s0 s) : Keeps s0 (State.diverge s x1 x2) := by
  unfold State.diverge
  with_reducible repeat' first
    | assumption | apply State.bump_keeps | apply State.pairEvt_keeps | apply State.put_keeps | apply State.toSyncing_keeps | apply Keeps.ite

theorem State.digest_keeps {s0 s : State} {x1 x2 x3 x4 x5} (h : Keeps s0 s) : Keeps s0 (State.digest s x1 x2 x3 x4 x5) := by
  unfold State.digest
  with_reducible repeat' first
    | assumption | apply State.diverge_keeps | apply State.mirrorRec_keeps | apply Keeps.ite | simp only [Keeps.upd] | split

theorem State.peerDigest_keeps {s0 s : State} {x1 x2 x3 x4} (h : Keeps s0 s) : Keeps s0 (State.peerDigest s x1 x2 x3 x4) := by
  unfold State.peerDigest
  with_reducible repeat' first | assumption | apply State.diverge_keeps | apply Keeps.ite | simp only [Keeps.upd] | split

/-! ## Passes -/

theorem State.exclude_keeps {s0 s : State} {x1 x2 x3 x4} (h : Keeps s0 s) : Keeps s0 (State.exclude s x1 x2 x3 x4) := by
  unfold State.exclude
  with_reducible repeat' first | assumption | simp only [Keeps.upd]

theorem State.spaceRead_keeps {s0 s : State} {x1 x2 x3 x4} (h : Keeps s0 s) : Keeps s0 (State.spaceRead s x1 x2 x3 x4).2 := by
  unfold State.spaceRead
  with_reducible repeat' first | assumption | apply State.ask_keeps | apply State.refusedUnits_keeps | apply Keeps.ite_snd | split

theorem State.spaceWrite_keeps {s0 s : State} {x1 x2 x3 x4} (h : Keeps s0 s) : Keeps s0 (State.spaceWrite s x1 x2 x3 x4) := by
  unfold State.spaceWrite
  with_reducible repeat' first | assumption | apply State.portWrite_keeps | apply Keeps.ite | split

theorem State.setInteg_keeps {s0 s : State} {x1 x2 x3} (h : Keeps s0 s) : Keeps s0 (State.setInteg s x1 x2 x3) := by
  unfold State.setInteg
  with_reducible repeat' first | assumption | simp only [Keeps.upd]

theorem State.fetchWork_keeps {s0 s : State} {x1 x2 x3 x4} (h : Keeps s0 s) : Keeps s0 (State.fetchWork s x1 x2 x3 x4).2.2 := by
  unfold State.fetchWork
  with_reducible repeat' first | assumption | apply State.spaceRead_keeps | split

theorem State.readBlock_keeps {s0 s : State} {x1 x2 x3 x4 x5} (h : Keeps s0 s) : Keeps s0 (State.readBlock s x1 x2 x3 x4 x5).2.2 := by
  unfold State.readBlock
  with_reducible repeat' first | assumption | apply State.spaceRead_keeps

theorem State.lateOperands_keeps {s0 s : State} {x1 x2 x3 x4 x5 x6} (h : Keeps s0 s) : Keeps s0 (State.lateOperands s x1 x2 x3 x4 x5 x6) := by
  unfold State.lateOperands
  with_reducible repeat' first | assumption | intro _ _ _ | intro _ _ | apply State.exclude_keeps | apply Keeps.ite | apply Keeps.foldl

theorem State.setPass_keeps {s0 s : State} {x1 x2} (h : Keeps s0 s) : Keeps s0 (State.setPass s x1 x2) := by
  unfold State.setPass
  with_reducible repeat' first | assumption | apply State.withPassList_keeps

theorem State.fetchPass_keeps {s0 s : State} {x1 x2} (h : Keeps s0 s) : Keeps s0 (State.fetchPass s x1 x2).2 := by
  unfold State.fetchPass
  with_reducible repeat' first
    | assumption | intro _ _ _ | intro _ _ | apply State.exclude_keeps | apply State.fetchWork_keeps | apply State.readBlock_keeps | apply Keeps.ite
    | apply Keeps.ite_snd | apply Keeps.foldl_snd

theorem State.fillPass_keeps {s0 s : State} {x1 x2} (h : Keeps s0 s) : Keeps s0 (State.fillPass s x1 x2).2 := by
  unfold State.fillPass
  with_reducible repeat' first | assumption | apply State.fetchPass_keeps

theorem State.prefetch_keeps {s0 s : State} {x1} (h : Keeps s0 s) : Keeps s0 (State.prefetch s x1) := by
  unfold State.prefetch
  with_reducible repeat' first | assumption | apply State.fetchPass_keeps | apply State.setPass_keeps | apply Keeps.ite | split

theorem execPassStart_keeps {s0 s : State} {x0 x1} (h : Keeps s0 s) : KeepsOut s0 (execPassStart x0 x1 s) := by
  unfold execPassStart
  dsimp only
  with_reducible repeat' first
    | assumption | apply State.bump_keeps | apply State.fillPass_keeps | apply State.holdNote_keeps | apply State.meshEvt_keeps
    | apply State.passEvt_keeps | apply State.prefetch_keeps | apply State.setPass_keeps | apply State.upTo_keeps | apply Keeps.ite
    | apply KeepsOut.ite | apply KeepsOut.next | split

theorem State.countInjection_keeps {s0 s : State} {x1 x2 x3 x4} (h : Keeps s0 s) : Keeps s0 (State.countInjection s x1 x2 x3 x4) := by
  unfold State.countInjection
  with_reducible repeat' first | assumption | apply State.countRuns_keeps

theorem State.countOverflows_keeps {s0 s : State} {x1} (h : Keeps s0 s) : Keeps s0 (State.countOverflows s x1) := by
  unfold State.countOverflows
  with_reducible repeat' first
    | assumption | intro _ _ _ | intro _ _ | apply State.bump1_keeps | apply State.put1_keeps | apply State.sectionEvt_keeps | apply Keeps.foldl

theorem State.inject_keeps {s0 s : State} {x1 x2 x3} (h : Keeps s0 s) : Keeps s0 (State.inject s x1 x2 x3).2 := by
  unfold State.inject
  with_reducible repeat' first
    | assumption | intro _ _ _ | intro _ _ | apply State.boundary_keeps | apply State.countInjection_keeps | apply State.countOverflows_keeps
    | apply Keeps.foldl_snd

theorem State.latePass_keeps {s0 s : State} {x1 x2} (h : Keeps s0 s) : Keeps s0 (State.latePass s x1 x2).2 := by
  unfold State.latePass
  with_reducible repeat' first
    | assumption | apply State.bump_keeps | apply State.lateOperands_keeps | apply State.passEvt_keeps | apply Keeps.ite | apply Keeps.ite_snd

theorem execPassInjected_keeps {s0 s : State} {x0} (h : Keeps s0 s) : KeepsOut s0 (execPassInjected x0 s) := by
  unfold execPassInjected
  with_reducible repeat' first
    | assumption | apply State.inject_keeps | apply State.latePass_keeps | apply State.setPass_keeps | apply KeepsOut.ite | apply KeepsOut.next
    | split

theorem State.countMarks_keeps {s0 s : State} {x1 x2 x3} (h : Keeps s0 s) : Keeps s0 (State.countMarks s x1 x2 x3).1 := by
  unfold State.countMarks
  with_reducible repeat' first | assumption | apply State.bump_keeps | apply State.passEvt_keeps | apply Keeps.ite

theorem State.decide__keeps {s0 s : State} {x1} (h : Keeps s0 s) : Keeps s0 (State.decide_ s x1) := by
  unfold State.decide_
  with_reducible repeat' first | assumption | apply State.bump_keeps | apply State.passEvt_keeps | apply State.setPass_keeps | apply Keeps.ite

theorem execMergeDone_keeps {s0 s : State} {x0} (h : Keeps s0 s) : KeepsOut s0 (execMergeDone x0 s) := by
  unfold execMergeDone
  with_reducible repeat' first
    | assumption | apply State.countMarks_keeps | apply State.decide__keeps | apply State.fromQueues_keeps | apply State.meshEvt_keeps
    | apply State.setPass_keeps | apply Keeps.ite | apply KeepsOut.ite | apply KeepsOut.next | split

theorem execReplayDone_keeps {s0 s : State} {x0 x1} (h : Keeps s0 s) : KeepsOut s0 (execReplayDone x0 x1 s) := by
  unfold execReplayDone
  with_reducible repeat' first
    | assumption | apply State.bump_keeps | apply State.countMarks_keeps | apply State.fromQueues_keeps | apply State.inject_keeps
    | apply State.setPass_keeps | apply KeepsOut.ite | apply KeepsOut.next | split

theorem State.queueDest_keeps {s0 s : State} {x1 x2} (h : Keeps s0 s) : Keeps s0 (State.queueDest s x1 x2) := by
  unfold State.queueDest
  with_reducible repeat' first | assumption | simp only [Keeps.upd]

theorem State.writeItem_keeps {s0 s : State} {x1} (h : Keeps s0 s) : Keeps s0 (State.writeItem s x1) := by
  unfold State.writeItem
  with_reducible repeat' first
    | assumption | intro _ _ _ | intro _ _ | apply State.flushLanes_keeps | apply State.passEvt_keeps | apply State.segWrite_keeps
    | apply State.storeWrite_keeps | apply Keeps.ite | apply Keeps.foldl_fst | simp only [Keeps.upd]

theorem State.dump_keeps {s0 s : State} {x1 x2 x3 x4 x5 x6} (h : Keeps s0 s) : Keeps s0 (State.dump s x1 x2 x3 x4 x5 x6) := by
  unfold State.dump
  with_reducible repeat' first
    | assumption | intro _ _ _ | intro _ _ | apply State.nextItem_keeps | apply State.queueDest_keeps | apply State.setInteg_keeps
    | apply State.writeItem_keeps | apply Keeps.ite | apply Keeps.foldl | simp only [Keeps.upd] | split

theorem State.useTag_keeps {s0 s : State} {x1 x2} (h : Keeps s0 s) : Keeps s0 (State.useTag s x1 x2) := by
  unfold State.useTag
  with_reducible repeat' first | assumption | simp only [Keeps.upd]

theorem State.recordSlack_keeps {s0 s : State} {x1 x2} (h : Keeps s0 s) : Keeps s0 (State.recordSlack s x1 x2) := by
  unfold State.recordSlack
  with_reducible repeat' first | assumption | apply State.ledSlack_keeps | apply State.passEvt_keeps | apply Keeps.ite | simp only [Keeps.upd]

theorem State.commitPass_keeps {s0 s : State} {x1 x2 x3 x4} (h : Keeps s0 s) : Keeps s0 (State.commitPass s x1 x2 x3 x4) := by
  unfold State.commitPass
  with_reducible repeat' first
    | assumption | apply State.digest_keeps | apply State.dump_keeps | apply State.setInteg_keeps | apply State.setPass_keeps
    | apply State.spaceWrite_keeps | apply State.useTag_keeps | apply Keeps.ite | simp only [Keeps.upd]

theorem State.releaseHeld_keeps {s0 s : State} {x1} (h : Keeps s0 s) : Keeps s0 (State.releaseHeld s x1) := by
  unfold State.releaseHeld
  with_reducible repeat' first | assumption | apply State.bump_keeps | apply Keeps.ite | simp only [Keeps.upd] | split

theorem execBufferRelease_keeps {s0 s : State} {x0} (h : Keeps s0 s) : KeepsOut s0 (execBufferRelease x0 s) := by
  unfold execBufferRelease
  with_reducible repeat' first | assumption | apply State.releaseHeld_keeps | apply State.withPassList_keeps | apply KeepsOut.next | split

theorem execDumpStateWrite_keeps {s0 s : State} (h : Keeps s0 s) : KeepsOut s0 (execDumpStateWrite s) := by
  unfold execDumpStateWrite
  with_reducible repeat' first
    | assumption | apply State.itemSent_keeps | apply State.storeWrite_keeps | apply KeepsOut.next | simp only [Keeps.upd] | split

theorem State.markPoisoned_keeps {s0 s : State} {x1} (h : Keeps s0 s) : Keeps s0 (State.markPoisoned s x1) := by
  unfold State.markPoisoned
  with_reducible repeat' first | assumption | apply State.bump_keeps | apply State.passEvt_keeps | apply Keeps.ite

theorem State.dumpCopy_keeps {s0 s : State} {x1 x2 x3 x4} (h : Keeps s0 s) : Keeps s0 (State.dumpCopy s x1 x2 x3 x4) := by
  unfold State.dumpCopy
  with_reducible repeat' first | assumption | apply State.dump_keeps | apply State.fetchWork_keeps | apply State.markPoisoned_keeps

theorem State.dumpOwed_keeps {s0 s : State} {x1} (h : Keeps s0 s) : Keeps s0 (State.dumpOwed s x1) := by
  unfold State.dumpOwed
  with_reducible repeat' first
    | assumption | intro _ _ _ | intro _ _ | apply State.dumpCopy_keeps | apply State.setPass_keeps | apply Keeps.forN | split

theorem State.abandon_keeps {s0 s : State} {x1} (h : Keeps s0 s) : Keeps s0 (State.abandon s x1) := by
  unfold State.abandon
  with_reducible repeat' first
    | assumption | apply State.bump_keeps | apply State.clearCells_keeps | apply State.countInjection_keeps | apply State.fromQueues_keeps
    | apply State.holdEnd_keeps | apply State.ledCount_keeps | apply State.passEvt_keeps | apply State.setInteg_keeps | apply State.setPass_keeps
    | apply State.useTag_keeps | apply Keeps.ite

theorem execPassCommit_keeps {s0 s : State} {x0 x1} (h : Keeps s0 s) : KeepsOut s0 (execPassCommit x0 x1 s) := by
  unfold execPassCommit
  dsimp only
  with_reducible repeat' first
    | assumption | apply State.commitPass_keeps | apply State.countMarks_keeps | apply State.dumpOwed_keeps | apply State.recordSlack_keeps
    | apply State.sectionsMove_keeps | apply State.upTo_keeps | apply Keeps.ite | apply KeepsOut.ite | apply KeepsOut.next | split

/-! ## Stacks -/

theorem Tab.wf_foldl {α β : Type} [DecidableEq α] (d : α) (g : Tab α → β → Tab α) (l : List β) (m : Tab α) (h : Tab.wf d m = true)
    (hg : ∀ m x, Tab.wf d m = true → Tab.wf d (g m x) = true) : Tab.wf d (l.foldl g m) = true := by
  induction l generalizing m with
  | nil => exact h
  | cons x r ih => exact ih _ (hg _ _ h)

theorem State.copyRank_keeps {s0 s : State} {x1 x2 x3 x4 x5} (h : Keeps s0 s) : Keeps s0 (State.copyRank s x1 x2 x3 x4 x5) :=
  ⟨h.part, h.pending, h.sent,
    fun y => Tab.wf_foldl _ _ _ _ (Tab.wf_filter _ _ _ (h.mem y)) (fun m x hm => Tab.wf_set _ _ _ _ hm),
    fun y => Tab.wf_foldl _ _ _ _ (Tab.wf_filter _ _ _ (h.poison y)) (fun m x hm => Tab.wf_set _ _ _ _ hm), h.regs⟩

theorem State.copyRows_keeps {s0 s : State} {x1 x2 x3 x4} (h : Keeps s0 s) : Keeps s0 (State.copyRows s x1 x2 x3 x4) := by
  unfold State.copyRows
  with_reducible repeat' first
    | assumption | intro _ _ _ | intro _ _ | apply State.copyRank_keeps | apply State.meet_keeps | apply State.served_keeps | apply Keeps.foldl
    | apply Keeps.forN

theorem State.migrateTo_keeps {s0 s : State} {x1 x2} (h : Keeps s0 s) : Keeps s0 (State.migrateTo s x1 x2) := by
  unfold State.migrateTo
  with_reducible repeat' first
    | assumption | apply State.copyRows_keeps | apply State.put1_keeps | apply State.updSite_keeps | apply Keeps.ite | split

theorem State.migrateUe_keeps {s0 s : State} {x1 x2 x3} (h : Keeps s0 s) : Keeps s0 (State.migrateUe s x1 x2 x3) := by
  unfold State.migrateUe
  with_reducible repeat' first | assumption | apply State.readUe_keeps | apply Keeps.ite | split

theorem State.migrateResume_keeps {s0 s : State} {x1} (h : Keeps s0 s) : Keeps s0 (State.migrateResume s x1) := by
  unfold State.migrateResume
  with_reducible repeat' first | assumption | apply State.updSite_keeps

theorem State.setMigRate_keeps {s0 s : State} {x1 x2} (h : Keeps s0 s) : Keeps s0 (State.setMigRate s x1 x2) := by
  unfold State.setMigRate
  with_reducible repeat' first | assumption | apply State.migrateResume_keeps | apply State.put1_keeps

theorem State.throttleCount_keeps {s0 s : State} {x1} (h : Keeps s0 s) : Keeps s0 (State.throttleCount s x1) := by
  unfold State.throttleCount
  with_reducible repeat' first
    | assumption | intro _ _ _ | intro _ _ | apply State.bump1_keeps | apply Keeps.ite | apply Keeps.foldl | simp only [Keeps.upd]

theorem State.shedTime_keeps {s0 s : State} {x1} (h : Keeps s0 s) : Keeps s0 (State.shedTime s x1) := by
  unfold State.shedTime
  with_reducible repeat' first | assumption | apply State.bump1_keeps | apply State.updSite_keeps | split

theorem State.memTime_keeps {s0 s : State} {x1} (h : Keeps s0 s) : Keeps s0 (State.memTime s x1) := by
  unfold State.memTime
  with_reducible repeat' first
    | assumption | intro _ _ _ | intro _ _ | apply State.migrateTo_keeps | apply State.throttleCount_keeps | apply State.upTo_keeps | apply Keeps.forN

theorem State.throttleUse_keeps {s0 s : State} {x1 x2} (h : Keeps s0 s) : Keeps s0 (State.throttleUse s x1 x2) := by
  unfold State.throttleUse
  with_reducible repeat' first | assumption | simp only [Keeps.upd]

theorem State.dequeue_keeps {s0 s : State} {x1 x2} (h : Keeps s0 s) : Keeps s0 (State.dequeue s x1 x2) := by
  unfold State.dequeue
  with_reducible repeat' first | assumption | simp only [Keeps.upd] | split

theorem State.throttlePort_keeps {s0 s : State} {x1 x2 x3} (h : Keeps s0 s) : Keeps s0 (State.throttlePort s x1 x2 x3) := by
  unfold State.throttlePort
  with_reducible repeat' first | assumption | simp only [Keeps.upd]

theorem State.activate_keeps {s0 s : State} {x1 x2 x3 x4 x5} (h : Keeps s0 s) : Keeps s0 (State.activate s x1 x2 x3 x4 x5) := by
  unfold State.activate
  with_reducible repeat' first
    | assumption | apply State.bump1_keeps | apply State.memEvt_keeps | apply State.put1_keeps | apply State.throttlePort_keeps | apply Keeps.ite
    | simp only [Keeps.upd]

theorem State.noteLate_keeps {s0 s : State} {x1} (h : Keeps s0 s) : Keeps s0 (State.noteLate s x1) := by
  unfold State.noteLate
  with_reducible repeat' first | assumption | simp only [Keeps.upd]

theorem State.undoWrite_keeps {s0 s : State} {x1 x2} (h : Keeps s0 s) : Keeps s0 (State.undoWrite s x1 x2) := by
  unfold State.undoWrite
  with_reducible repeat' first | assumption | apply State.setPoison_keeps | apply State.wrKeys_keeps | apply Keeps.ite | simp only [Keeps.upd]

theorem State.writeRefused_keeps {s0 s : State} {x1} (h : Keeps s0 s) : Keeps s0 (State.writeRefused s x1) := by
  unfold State.writeRefused
  with_reducible repeat' first
    | assumption | apply State.beamEvt_keeps | apply State.bump_keeps | apply State.passEvt_keeps | apply Keeps.ite | simp only [Keeps.upd]

theorem State.shedMark_keeps {s0 s : State} {x1 x2 x3} (h : Keeps s0 s) : Keeps s0 (State.shedMark s x1 x2 x3) := by
  unfold State.shedMark
  with_reducible repeat' first | assumption | apply State.updSite_keeps

theorem State.queuedUe_keeps {s0 s : State} {x1 x2 x3} (h : Keeps s0 s) : Keeps s0 (State.queuedUe s x1 x2 x3) := by
  unfold State.queuedUe
  with_reducible repeat' first
    | assumption | apply State.noteLate_keeps | apply State.parityFail_keeps | apply State.readUe_keeps | apply State.setPoison_keeps
    | apply Keeps.ite

theorem State.goesBad_keeps {s0 s : State} {x1 x2} (h : Keeps s0 s) : Keeps s0 (State.goesBad s x1 x2) := by
  unfold State.goesBad
  with_reducible repeat' first | assumption | apply Keeps.ite | simp only [Keeps.upd]

theorem State.serveReq_keeps {s0 s : State} {x1 x2 x3 x4 x5 x6} (h : Keeps s0 s) : Keeps s0 (State.serveReq s x1 x2 x3 x4 x5 x6) := by
  unfold State.serveReq
  with_reducible repeat' first
    | assumption | apply State.activate_keeps | apply State.bump1_keeps | apply State.dequeue_keeps | apply State.emit_keeps
    | apply State.goesBad_keeps | apply State.parityFail_keeps | apply State.queuedUe_keeps | apply State.readCe_keeps | apply State.served_keeps
    | apply State.shedMark_keeps | apply State.throttleUse_keeps | apply State.undoWrite_keeps | apply State.writeRefused_keeps | apply Keeps.ite
    | simp only [Keeps.upd]

theorem State.setPostponed_keeps {s0 s : State} {x1 x2} (h : Keeps s0 s) : Keeps s0 (State.setPostponed s x1 x2) := by
  unfold State.setPostponed
  with_reducible repeat' first | assumption | simp only [Keeps.upd]

theorem execMemCommandCycle_keeps {s0 s : State} {x0 x1 x2 x3 x4 x5 x6} (h :
    Keeps s0 s) : KeepsOut s0 (execMemCommandCycle x0 x1 x2 x3 x4 x5 x6 s) := by
  unfold execMemCommandCycle
  with_reducible repeat' first
    | assumption | apply State.memTime_keeps | apply State.migrateUe_keeps | apply State.serveReq_keeps | apply State.setPostponed_keeps
    | apply Keeps.ite | apply KeepsOut.ite | apply KeepsOut.next | simp only [Keeps.upd] | split

theorem State.trackersRestart_keeps {s0 s : State} {x1 x2} (h : Keeps s0 s) : Keeps s0 (State.trackersRestart s x1 x2) := by
  unfold State.trackersRestart
  with_reducible repeat' first | assumption | simp only [Keeps.upd]

theorem execRdWindow_keeps {s0 s : State} {x0 x1} (h : Keeps s0 s) : KeepsOut s0 (execRdWindow x0 x1 s) := by
  unfold execRdWindow
  with_reducible repeat' first | assumption | apply State.memTime_keeps | apply State.trackersRestart_keeps | apply KeepsOut.ite | apply KeepsOut.next

theorem execThrottleEnd_keeps {s0 s : State} {x0} (h : Keeps s0 s) : KeepsOut s0 (execThrottleEnd x0 s) := by
  unfold execThrottleEnd
  with_reducible repeat' first | assumption | apply State.throttleCount_keeps | apply KeepsOut.ite | apply KeepsOut.next | simp only [Keeps.upd]

theorem State.commitDelays_keeps {s0 s : State} {x1} (h : Keeps s0 s) : Keeps s0 (State.commitDelays s x1) := by
  unfold State.commitDelays
  with_reducible repeat' first | assumption | apply State.measure_keeps | apply State.sweepBegins_keeps

theorem execSitePowerGood_keeps {s0 s : State} {x0 x1 x2} (h : Keeps s0 s) : KeepsOut s0 (execSitePowerGood x0 x1 x2 s) := by
  unfold execSitePowerGood
  dsimp only
  with_reducible repeat' first
    | assumption | apply State.commitDelays_keeps | apply State.memTime_keeps | apply State.put1_keeps | apply State.updSite_keeps | apply Keeps.ite
    | apply KeepsOut.ite | apply KeepsOut.next | split

theorem execSitePowerTimeout_keeps {s0 s : State} {x0} (h : Keeps s0 s) : KeepsOut s0 (execSitePowerTimeout x0 s) := by
  unfold execSitePowerTimeout
  with_reducible repeat' first | assumption | apply State.memEvt_keeps | apply State.siteFaults_keeps | apply KeepsOut.ite | apply KeepsOut.next

theorem State.trainRefused_keeps {s0 s : State} {x1} (h : Keeps s0 s) : Keeps s0 (State.trainRefused s x1) := by
  unfold State.trainRefused
  with_reducible repeat' first | assumption | apply State.bump1_keeps

theorem execMemProbe_keeps {s0 s : State} {x0} (h : Keeps s0 s) : KeepsOut s0 (execMemProbe x0 s) := by
  unfold execMemProbe
  with_reducible repeat' first | assumption | apply State.put1_keeps | apply State.trainRefused_keeps | apply KeepsOut.ite | apply KeepsOut.next

theorem execProbeDone_keeps {s0 s : State} {x0 x1} (h : Keeps s0 s) : KeepsOut s0 (execProbeDone x0 x1 s) := by
  unfold execProbeDone
  with_reducible repeat' first | assumption | apply State.put1_keeps | apply KeepsOut.ite | apply KeepsOut.next

theorem execMemTrainDly_keeps {s0 s : State} {x0 x1 x2} (h : Keeps s0 s) : KeepsOut s0 (execMemTrainDly x0 x1 x2 s) := by
  unfold execMemTrainDly
  with_reducible repeat' first
    | assumption | apply State.put1_keeps | apply State.trainRefused_keeps | apply State.updSite_keeps | apply KeepsOut.ite | apply KeepsOut.next

theorem execTrainCommit_keeps {s0 s : State} {x0 x1} (h : Keeps s0 s) : KeepsOut s0 (execTrainCommit x0 x1 s) := by
  unfold execTrainCommit
  with_reducible repeat' first
    | assumption | apply State.commitDelays_keeps | apply State.memTime_keeps | apply State.trainRefused_keeps | apply KeepsOut.ite
    | apply KeepsOut.next

theorem execTrainFail_keeps {s0 s : State} {x0} (h : Keeps s0 s) : KeepsOut s0 (execTrainFail x0 s) := by
  unfold execTrainFail
  with_reducible repeat' first | assumption | apply State.siteFaults_keeps | apply State.trainRefused_keeps | apply KeepsOut.ite | apply KeepsOut.next

theorem State.siteBecomesReady_keeps {s0 s : State} {x1} (h : Keeps s0 s) : Keeps s0 (State.siteBecomesReady s x1) := by
  unfold State.siteBecomesReady
  with_reducible repeat' first | assumption | apply State.put1_keeps | apply State.rankMap_keeps | apply State.trackersRestart_keeps

theorem execSweepDone_keeps {s0 s : State} {x0 x1} (h : Keeps s0 s) : KeepsOut s0 (execSweepDone x0 x1 s) := by
  unfold execSweepDone
  with_reducible repeat' first
    | assumption | apply State.loseSite_keeps | apply State.memTime_keeps | apply State.served_keeps | apply State.siteBecomesReady_keeps
    | apply State.updSite_keeps | apply KeepsOut.ite | apply KeepsOut.next

theorem execTempReport_keeps {s0 s : State} {x0 x1 x2} (h : Keeps s0 s) : KeepsOut s0 (execTempReport x0 x1 x2 s) := by
  unfold execTempReport
  with_reducible repeat' first
    | assumption | apply State.memTime_keeps | apply State.put1_keeps | apply State.updSite_keeps | apply KeepsOut.ite | apply KeepsOut.next

theorem execPatrolScrub_keeps {s0 s : State} {x0 x1} (h : Keeps s0 s) : KeepsOut s0 (execPatrolScrub x0 x1 s) := by
  unfold execPatrolScrub
  with_reducible repeat' first
    | assumption | apply State.meet_keeps | apply State.parityFail_keeps | apply State.readCe_keeps | apply State.readUe_keeps
    | apply State.served_keeps | apply State.updSite_keeps | apply State.wrap1_keeps | apply Keeps.ite | apply KeepsOut.ite | apply KeepsOut.next
    | split

theorem execMemRetire_keeps {s0 s : State} {x0 x1 x2} (h : Keeps s0 s) : KeepsOut s0 (execMemRetire x0 x1 x2 s) := by
  unfold execMemRetire
  with_reducible repeat' first | assumption | apply State.memTime_keeps | apply State.put1_keeps | apply State.retireRank_keeps | apply KeepsOut.next

theorem execMigrationDone_keeps {s0 s : State} {x0} (h : Keeps s0 s) : KeepsOut s0 (execMigrationDone x0 s) := by
  unfold execMigrationDone
  with_reducible repeat' first
    | assumption | apply State.copyRows_keeps | apply State.memEvt_keeps | apply State.put1_keeps | apply State.updSite_keeps | apply KeepsOut.ite
    | apply KeepsOut.next | split

theorem State.refill_keeps {s0 s : State} {x1} (h : Keeps s0 s) : Keeps s0 (State.refill s x1) := by
  unfold State.refill
  with_reducible repeat' first | assumption | simp only [Keeps.upd]

theorem State.shedOne_keeps {s0 s : State} {x1 x2 x3} (h : Keeps s0 s) : Keeps s0 (State.shedOne s x1 x2 x3) := by
  unfold State.shedOne
  with_reducible repeat' first
    | assumption | apply State.bump1_keeps | apply State.shedMark_keeps | apply State.undoWrite_keeps | apply State.writeRefused_keeps
    | apply Keeps.ite | simp only [Keeps.upd]

theorem State.refuseClass1_keeps {s0 s : State} {x1} (h : Keeps s0 s) : Keeps s0 (State.refuseClass1 s x1) := by
  unfold State.refuseClass1
  with_reducible repeat' first | assumption | intro _ _ _ | intro _ _ | apply State.refill_keeps | apply State.shedOne_keeps | apply Keeps.foldl

theorem State.shedTo_keeps {s0 s : State} {x1 x2} (h : Keeps s0 s) : Keeps s0 (State.shedTo s x1 x2) := by
  unfold State.shedTo
  with_reducible repeat' first | assumption | apply State.put1_keeps | apply State.shedTime_keeps | apply State.updSite_keeps

theorem execShedLevelChange_keeps {s0 s : State} {x0 x1 x2} (h : Keeps s0 s) : KeepsOut s0 (execShedLevelChange x0 x1 x2 s) := by
  unfold execShedLevelChange
  with_reducible repeat' first
    | assumption | apply State.memEvt_keeps | apply State.memTime_keeps | apply State.refuseClass1_keeps | apply State.shedTo_keeps | apply Keeps.ite
    | apply KeepsOut.ite | apply KeepsOut.next | split

end Sys2Proof.Machine
end

