-- ==== Sys2Proof/Laws/KeepsSky.lean ====
section
/-!
SUPPORT. `Keeps` for every operation of beams, Fox, zooms, spindles, lanes, frames, the mesh, the pair.
-/

namespace Sys2Proof.Machine

/-! ## Beams -/

theorem State.loadShadow_keeps {s0 s : State} {x1 x2 x3} (h : Keeps s0 s) : Keeps s0 (State.loadShadow s x1 x2 x3) := by
  unfold State.loadShadow
  with_reducible repeat' first | assumption | simp only [Keeps.upd]

theorem State.weightBoundary_keeps {s0 s : State} {x1 x2 x3} (h : Keeps s0 s) : Keeps s0 (State.weightBoundary s x1 x2 x3) := by
  unfold State.weightBoundary
  with_reducible repeat' first | assumption | apply State.loadShadow_keeps | apply Keeps.ite | simp only [Keeps.upd]

theorem State.owe_keeps {s0 s : State} {x1} (h : Keeps s0 s) : Keeps s0 (State.owe s x1) := by
  unfold State.owe
  with_reducible repeat' first | assumption | simp only [Keeps.upd]

theorem State.writePage_keeps {s0 s : State} {x1 x2 x3 x4 x5 x6 x7} (h : Keeps s0 s) : Keeps s0 (State.writePage s x1 x2 x3 x4 x5 x6 x7).1 := by
  unfold State.writePage
  with_reducible repeat' first
    | assumption | apply State.noteRetry_keeps | apply State.storeWrite_keeps | apply Keeps.ite | apply Keeps.ite_fst | simp only [Keeps.upd] | split

theorem State.itemPages_keeps {s0 s : State} {x1 x2} (h : Keeps s0 s) : Keeps s0 (State.itemPages s x1 x2) := by
  unfold State.itemPages
  with_reducible repeat' first | assumption | apply State.itemSent_keeps | apply Keeps.ite

theorem State.beamPage_keeps {s0 s : State} {x1 x2 x3 x4 x5} (h : Keeps s0 s) : Keeps s0 (State.beamPage s x1 x2 x3 x4 x5) := by
  unfold State.beamPage
  with_reducible repeat' first
    | assumption | apply State.beamEvt_keeps | apply State.bump_keeps | apply State.itemPages_keeps | apply State.writePage_keeps | apply Keeps.ite

theorem execBeamPageHeader_keeps {s0 s : State} {x0} (h : Keeps s0 s) : KeepsOut s0 (execBeamPageHeader x0 s) := by
  unfold execBeamPageHeader
  with_reducible repeat' first
    | assumption | apply State.beamEvt_keeps | apply State.bump_keeps | apply State.itemPages_keeps | apply State.noteRetry_keeps
    | apply State.storeWrite_keeps | apply State.upTo_keeps | apply Keeps.ite | apply KeepsOut.ite | apply KeepsOut.next | simp only [Keeps.upd]
    | split

theorem State.writeHeld_keeps {s0 s : State} {x1} (h : Keeps s0 s) : Keeps s0 (State.writeHeld s x1) := by
  unfold State.writeHeld
  with_reducible repeat' first
    | assumption | apply State.beamPage_keeps | apply State.bump_keeps | apply State.foxEvt_keeps | apply State.writePage_keeps | apply Keeps.ite
    | simp only [Keeps.upd]

theorem State.retryHeld_keeps {s0 s : State} {x1} (h : Keeps s0 s) : Keeps s0 (State.retryHeld s x1) := by
  unfold State.retryHeld
  with_reducible repeat' first
    | assumption | intro _ _ _ | intro _ _ | apply State.writeHeld_keeps | apply Keeps.ite | apply Keeps.foldl | simp only [Keeps.upd]

theorem State.sendOwed_keeps {s0 s : State} {x1 x2} (h : Keeps s0 s) : Keeps s0 (State.sendOwed s x1 x2) := by
  unfold State.sendOwed
  with_reducible repeat' first
    | assumption | apply State.bump_keeps | apply State.foxEvt_keeps | apply State.nextItem_keeps | apply State.queueDest_keeps
    | apply State.retryHeld_keeps | apply State.writePage_keeps | apply Keeps.ite | simp only [Keeps.upd]

theorem execRetractionSend_keeps {s0 s : State} {x0 x1 x2} (h : Keeps s0 s) : KeepsOut s0 (execRetractionSend x0 x1 x2 s) := by
  unfold execRetractionSend
  with_reducible repeat' first | assumption | apply State.sendOwed_keeps | apply State.upTo_keeps | apply KeepsOut.next

theorem State.cutWindows_keeps {s0 s : State} {x1} (h : Keeps s0 s) : Keeps s0 (State.cutWindows s x1) := by
  unfold State.cutWindows
  with_reducible repeat' first | assumption | apply State.beamEvt_keeps | apply State.bump_keeps | apply Keeps.ite | simp only [Keeps.upd]

theorem State.cutAfter_keeps {s0 s : State} {x1 x2 x3 x4} (h : Keeps s0 s) : Keeps s0 (State.cutAfter s x1 x2 x3 x4) := by
  unfold State.cutAfter
  with_reducible repeat' first | assumption | apply State.cutWindows_keeps | apply Keeps.ite

theorem State.beamBlocks_keeps {s0 s : State} {x1 x2 x3 x4 x5} (h : Keeps s0 s) : Keeps s0 (State.beamBlocks s x1 x2 x3 x4 x5).2 := by
  unfold State.beamBlocks
  with_reducible repeat' first | assumption | apply State.cutAfter_keeps | apply Keeps.ite_snd | simp only [Keeps.upd]

theorem State.emitBeam_keeps {s0 s : State} {x1 x2 x3 x4} (h : Keeps s0 s) : Keeps s0 (State.emitBeam s x1 x2 x3 x4) := by
  unfold State.emitBeam
  with_reducible repeat' first
    | assumption | intro _ _ _ | intro _ _ | apply State.beamPage_keeps | apply State.nextItem_keeps | apply State.queueDest_keeps | apply Keeps.ite
    | apply Keeps.foldl | simp only [Keeps.upd]

theorem State.setBeam_keeps {s0 s : State} {x1 x2} (h : Keeps s0 s) : Keeps s0 (State.setBeam s x1 x2) := by
  unfold State.setBeam
  with_reducible repeat' first | assumption | simp only [Keeps.upd]

theorem State.beamOperands_keeps {s0 s : State} {x1 x2} (h : Keeps s0 s) : Keeps s0 (State.beamOperands s x1 x2).2 := by
  unfold State.beamOperands
  with_reducible repeat' first
    | assumption | intro _ _ _ | intro _ _ | apply State.exclude_keeps | apply State.readBlock_keeps | apply Keeps.ite | apply Keeps.ite_snd
    | apply Keeps.foldl_snd

theorem State.prefetchBeam_keeps {s0 s : State} {x1} (h : Keeps s0 s) : Keeps s0 (State.prefetchBeam s x1) := by
  unfold State.prefetchBeam
  with_reducible repeat' first | assumption | apply State.beamOperands_keeps | apply State.setBeam_keeps | apply Keeps.ite | split

theorem execBeamPassStart_keeps {s0 s : State} {x0 x1} (h : Keeps s0 s) : KeepsOut s0 (execBeamPassStart x0 x1 s) := by
  unfold execBeamPassStart
  dsimp only
  with_reducible repeat' first
    | assumption | apply State.beamEvt_keeps | apply State.beamOperands_keeps | apply State.holdNote_keeps | apply State.loadShadow_keeps
    | apply State.owe_keeps | apply State.prefetchBeam_keeps | apply State.setBeam_keeps | apply State.upTo_keeps | apply State.weightBoundary_keeps
    | apply Keeps.ite | apply KeepsOut.ite | apply KeepsOut.next | split

theorem State.tapBeam_keeps {s0 s : State} {x1 x2 x3 x4} (h : Keeps s0 s) : Keeps s0 (State.tapBeam s x1 x2 x3 x4) := by
  unfold State.tapBeam
  with_reducible repeat' first | assumption | apply Keeps.ite | simp only [Keeps.upd]

theorem State.owedAhead_keeps {s0 s : State} {x1 x2} (h : Keeps s0 s) : Keeps s0 (State.owedAhead s x1 x2) := by
  unfold State.owedAhead
  with_reducible repeat' first | assumption | intro _ _ _ | intro _ _ | apply State.sendOwed_keeps | apply Keeps.ite | apply Keeps.forN

theorem State.beamInjected_keeps {s0 s : State} {x1 x2} (h : Keeps s0 s) : Keeps s0 (State.beamInjected s x1 x2) := by
  unfold State.beamInjected
  with_reducible repeat' first
    | assumption | intro _ _ _ | intro _ _ | apply State.countRuns_keeps | apply State.weightBoundary_keeps | apply Keeps.foldl

theorem execBeamComplete_keeps {s0 s : State} {x0 x1 x2} (h : Keeps s0 s) : KeepsOut s0 (execBeamComplete x0 x1 x2 s) := by
  unfold execBeamComplete
  with_reducible repeat' first
    | assumption | apply State.beamBlocks_keeps | apply State.beamInjected_keeps | apply State.emitBeam_keeps | apply State.lateOperands_keeps
    | apply State.owedAhead_keeps | apply State.setBeam_keeps | apply State.tapBeam_keeps | apply State.upTo_keeps | apply State.useTag_keeps
    | apply Keeps.ite | apply KeepsOut.ite | apply KeepsOut.next | simp only [Keeps.upd] | split

theorem State.releaseBeams_keeps {s0 s : State} {x1 x2} (h : Keeps s0 s) : Keeps s0 (State.releaseBeams s x1 x2) := by
  unfold State.releaseBeams
  with_reducible repeat' first
    | assumption | intro _ _ _ | intro _ _ | apply State.bump_keeps | apply Keeps.ite | apply Keeps.foldl | simp only [Keeps.upd]

theorem execBeamPassEmitted_keeps {s0 s : State} {x0} (h : Keeps s0 s) : KeepsOut s0 (execBeamPassEmitted x0 s) := by
  unfold execBeamPassEmitted
  with_reducible repeat' first
    | assumption | apply State.digest_keeps | apply State.releaseBeams_keeps | apply State.sectionsMove_keeps | apply State.setBeam_keeps
    | apply Keeps.ite | apply KeepsOut.ite | apply KeepsOut.next | simp only [Keeps.upd] | split

theorem State.weightHold_keeps {s0 s : State} {x1 x2} (h : Keeps s0 s) : Keeps s0 (State.weightHold s x1 x2) := by
  unfold State.weightHold
  with_reducible repeat' first | assumption | apply State.bump_keeps | apply State.holdCount_keeps

theorem execSteeringBuildDone_keeps {s0 s : State} {x0 x1} (h : Keeps s0 s) : KeepsOut s0 (execSteeringBuildDone x0 x1 s) := by
  unfold execSteeringBuildDone
  with_reducible repeat' first
    | assumption | apply State.setBeam_keeps | apply State.weightHold_keeps | apply KeepsOut.ite | apply KeepsOut.next | simp only [Keeps.upd] | split

theorem State.beginBuilds_keeps {s0 s : State} {x1 x2 x3} (h : Keeps s0 s) : Keeps s0 (State.beginBuilds s x1 x2 x3) := by
  unfold State.beginBuilds
  with_reducible repeat' first | assumption | simp only [Keeps.upd]

theorem State.beamFinal_keeps {s0 s : State} {x1} (h : Keeps s0 s) : Keeps s0 (State.beamFinal s x1) := by
  unfold State.beamFinal
  with_reducible repeat' first | assumption | apply State.owe_keeps | simp only [Keeps.upd]

theorem State.dropSamples_keeps {s0 s : State} {x1 x2} (h : Keeps s0 s) : Keeps s0 (State.dropSamples s x1 x2) := by
  unfold State.dropSamples
  with_reducible repeat' first | assumption | intro _ _ _ | intro _ _ | apply Keeps.ite | apply Keeps.foldl | simp only [Keeps.upd]

theorem State.dropPages_keeps {s0 s : State} {x1} (h : Keeps s0 s) : Keeps s0 (State.dropPages s x1) := by
  unfold State.dropPages
  with_reducible repeat' first | assumption | simp only [Keeps.upd]

theorem State.beamAbandon_keeps {s0 s : State} {x1} (h : Keeps s0 s) : Keeps s0 (State.beamAbandon s x1) := by
  unfold State.beamAbandon
  with_reducible repeat' first
    | assumption | intro _ _ _ | intro _ _ | apply State.beamEvt_keeps | apply State.bump_keeps | apply State.countRuns_keeps
    | apply State.cutAfter_keeps | apply State.dropPages_keeps | apply State.dropSamples_keeps | apply State.holdEnd_keeps
    | apply State.ledCount_keeps | apply State.owe_keeps | apply State.passEvt_keeps | apply State.setBeam_keeps | apply State.tapBeam_keeps
    | apply State.weightHold_keeps | apply Keeps.ite | apply Keeps.foldl | simp only [Keeps.upd]

/-! ## Fox -/

theorem State.foxPut_keeps {s0 s : State} {x1} (h : Keeps s0 s) : Keeps s0 (State.foxPut s x1) := by
  unfold State.foxPut
  with_reducible repeat' first | assumption | simp only [Keeps.upd]

theorem State.foxRun_keeps {s0 s : State} (h : Keeps s0 s) : Keeps s0 (State.foxRun s) := by
  unfold State.foxRun
  with_reducible repeat' first | assumption | apply State.put_keeps

theorem State.foxStart_keeps {s0 s : State} (h : Keeps s0 s) : Keeps s0 (State.foxStart s) := by
  unfold State.foxStart
  with_reducible repeat' first | assumption | apply State.foxRun_keeps | apply State.put_keeps | simp only [Keeps.upd]

theorem State.foxStop_keeps {s0 s : State} (h : Keeps s0 s) : Keeps s0 (State.foxStop s) := by
  unfold State.foxStop
  with_reducible repeat' first | assumption | apply State.put_keeps | simp only [Keeps.upd]

theorem State.foxReset_keeps {s0 s : State} (h : Keeps s0 s) : Keeps s0 (State.foxReset s) := by
  unfold State.foxReset
  with_reducible repeat' first | assumption | apply State.put_keeps | simp only [Keeps.upd]

theorem execTableComplete_keeps {s0 s : State} {x0} (h : Keeps s0 s) : KeepsOut s0 (execTableComplete x0 s) := by
  unfold execTableComplete
  with_reducible repeat' first
    | assumption | apply State.bump_keeps | apply State.foxPut_keeps | apply State.foxRun_keeps | apply KeepsOut.ite | apply KeepsOut.next | split

theorem State.foxExclude_keeps {s0 s : State} {x1 x2} (h : Keeps s0 s) : Keeps s0 (State.foxExclude s x1 x2) := by
  unfold State.foxExclude
  with_reducible repeat' first | assumption | intro _ _ _ | intro _ _ | apply State.exclude_keeps | apply Keeps.foldl

theorem State.foxRedo_keeps {s0 s : State} {x1 x2 x3 x4} (h : Keeps s0 s) : Keeps s0 (State.foxRedo s x1 x2 x3 x4) := by
  unfold State.foxRedo
  with_reducible repeat' first
    | assumption | intro _ _ _ | intro _ _ | apply State.exclude_keeps | apply State.foxEvt_keeps | apply State.foxPut_keeps | apply Keeps.ite
    | apply Keeps.foldl | simp only [Keeps.upd]

theorem State.foxPatch_keeps {s0 s : State} {x1 x2 x3} (h : Keeps s0 s) : Keeps s0 (State.foxPatch s x1 x2 x3) := by
  unfold State.foxPatch
  with_reducible repeat' first | assumption | intro _ _ _ | intro _ _ | apply State.foxRedo_keeps | apply Keeps.ite | apply Keeps.foldl

theorem State.foxMark_keeps {s0 s : State} {x1} (h : Keeps s0 s) : Keeps s0 (State.foxMark s x1) := by
  unfold State.foxMark
  with_reducible repeat' first | assumption | apply State.put_keeps | simp only [Keeps.upd]

theorem State.foxInUse_keeps {s0 s : State} {x1 x2} (h : Keeps s0 s) : Keeps s0 (State.foxInUse s x1 x2) := by
  unfold State.foxInUse
  with_reducible repeat' first
    | assumption | apply State.bump_keeps | apply State.foxEvt_keeps | apply State.foxExclude_keeps | apply State.foxMark_keeps
    | apply State.foxRun_keeps | apply Keeps.ite | simp only [Keeps.upd]

theorem execIntervalInUse_keeps {s0 s : State} {x0 x1} (h : Keeps s0 s) : KeepsOut s0 (execIntervalInUse x0 x1 s) := by
  unfold execIntervalInUse
  with_reducible repeat' first
    | assumption | apply State.foxInUse_keeps | apply State.foxMark_keeps | apply State.upTo_keeps | apply Keeps.ite | apply KeepsOut.ite
    | apply KeepsOut.next

theorem execFoxSubmit_keeps {s0 s : State} (h : Keeps s0 s) : KeepsOut s0 (execFoxSubmit s) := by
  unfold execFoxSubmit
  with_reducible repeat' first
    | assumption | apply State.bump_keeps | apply State.put_keeps | apply KeepsOut.ite | apply KeepsOut.next | simp only [Keeps.upd]

theorem execFoxClear_keeps {s0 s : State} (h : Keeps s0 s) : KeepsOut s0 (execFoxClear s) := by
  unfold execFoxClear
  with_reducible repeat' first | assumption | apply Keeps.ite | apply KeepsOut.next | simp only [Keeps.upd]

theorem State.staleSkips_keeps {s0 s : State} {x1} (h : Keeps s0 s) : Keeps s0 (State.staleSkips s x1) := by
  unfold State.staleSkips
  with_reducible repeat' first | assumption | simp only [Keeps.upd]

theorem State.staleSpan_keeps {s0 s : State} {x1 x2 x3 x4 x5} (h : Keeps s0 s) : Keeps s0 (State.staleSpan s x1 x2 x3 x4 x5) := by
  unfold State.staleSpan
  with_reducible repeat' first
    | assumption | apply State.bump_keeps | apply State.foxEvt_keeps | apply State.noteDetail_keeps | apply State.owe_keeps | apply State.put_keeps
    | apply State.staleSkips_keeps | apply Keeps.ite | simp only [Keeps.upd]

theorem State.foxAccept_keeps {s0 s : State} {x1 x2} (h : Keeps s0 s) : Keeps s0 (State.foxAccept s x1 x2) := by
  unfold State.foxAccept
  with_reducible repeat' first
    | assumption | apply State.foxRun_keeps | apply State.put_keeps | apply State.staleSpan_keeps | apply Keeps.ite | simp only [Keeps.upd] | split

theorem State.mirrorBatch_keeps {s0 s : State} {x1} (h : Keeps s0 s) : Keeps s0 (State.mirrorBatch s x1) := by
  unfold State.mirrorBatch
  with_reducible repeat' first | assumption | intro _ _ _ | intro _ _ | apply State.mirror_keeps | apply Keeps.foldl

theorem State.foxRefuse_keeps {s0 s : State} {x1} (h : Keeps s0 s) : Keeps s0 (State.foxRefuse s x1) := by
  unfold State.foxRefuse
  with_reducible repeat' first | assumption | apply State.foxEvt_keeps | apply State.put_keeps

theorem execBatchChecked_keeps {s0 s : State} {x0 x1} (h : Keeps s0 s) : KeepsOut s0 (execBatchChecked x0 x1 s) := by
  unfold execBatchChecked
  with_reducible repeat' first
    | assumption | apply State.foxAccept_keeps | apply State.foxRefuse_keeps | apply State.mirrorBatch_keeps | apply State.put_keeps
    | apply State.storeRead_keeps | apply State.upTo_keeps | apply Keeps.ite | apply KeepsOut.ite | apply KeepsOut.next

theorem execFoxStalePop_keeps {s0 s : State} (h : Keeps s0 s) : KeepsOut s0 (execFoxStalePop s) := by
  unfold execFoxStalePop
  with_reducible repeat' first | assumption | apply State.put_keeps | apply KeepsOut.next | simp only [Keeps.upd]

/-! ## Zoom -/

theorem State.putBank_keeps {s0 s : State} {x1 x2 x3} (h : Keeps s0 s) : Keeps s0 (State.putBank s x1 x2 x3) := by
  unfold State.putBank
  with_reducible repeat' first | assumption | simp only [Keeps.upd]

theorem State.zoomReach_keeps {s0 s : State} {x1 x2 x3 x4 x5} (h : Keeps s0 s) : Keeps s0 (State.zoomReach s x1 x2 x3 x4 x5) := by
  unfold State.zoomReach
  with_reducible repeat' first | assumption | intro _ _ _ | intro _ _ | apply State.exclude_keeps | apply Keeps.forN

theorem State.zoomMissing_keeps {s0 s : State} {x1 x2 x3} (h : Keeps s0 s) : Keeps s0 (State.zoomMissing s x1 x2 x3) := by
  unfold State.zoomMissing
  with_reducible repeat' first | assumption | apply State.zoomReach_keeps

theorem State.zoomSwap_keeps {s0 s : State} {x1 x2} (h : Keeps s0 s) : Keeps s0 (State.zoomSwap s x1 x2) := by
  unfold State.zoomSwap
  with_reducible repeat' first | assumption | apply State.measureSwap_keeps | apply State.put1_keeps | simp only [Keeps.upd]

theorem State.zoomSwapAt_keeps {s0 s : State} {x1 x2 x3} (h : Keeps s0 s) : Keeps s0 (State.zoomSwapAt s x1 x2 x3) := by
  unfold State.zoomSwapAt
  with_reducible repeat' first | assumption | apply State.zoomSwap_keeps | apply Keeps.ite

theorem State.zoomNewBanks_keeps {s0 s : State} {x1 x2 x3} (h : Keeps s0 s) : Keeps s0 (State.zoomNewBanks s x1 x2 x3) := by
  unfold State.zoomNewBanks
  with_reducible repeat' first | assumption | intro _ _ _ | intro _ _ | apply State.putBank_keeps | apply Keeps.foldl | simp only [Keeps.upd]

theorem State.zoomSat_keeps {s0 s : State} {x1 x2} (h : Keeps s0 s) : Keeps s0 (State.zoomSat s x1 x2) := by
  unfold State.zoomSat
  with_reducible repeat' first | assumption | apply State.bump1_keeps | apply State.put1_keeps | apply Keeps.ite

theorem State.zoomPosStep_keeps {s0 s : State} {x1 x2 x3 x4 x5} (h : Keeps s0 s) : Keeps s0 (State.zoomPosStep s x1 x2 x3 x4 x5) := by
  unfold State.zoomPosStep
  with_reducible repeat' first
    | assumption | apply State.bump1_keeps | apply State.put2_keeps | apply State.zoomMissing_keeps | apply State.zoomSat_keeps | apply Keeps.ite
    | simp only [Keeps.upd]

theorem State.zoomTake_keeps {s0 s : State} {x1 x2 x3} (h : Keeps s0 s) : Keeps s0 (State.zoomTake s x1 x2 x3) := by
  unfold State.zoomTake
  with_reducible repeat' first
    | assumption | intro _ _ _ | intro _ _ | apply State.zoomNewBanks_keeps | apply State.zoomPosStep_keeps | apply State.zoomSwapAt_keeps
    | apply Keeps.ite | apply Keeps.foldl | simp only [Keeps.upd]

theorem execZoomSample_keeps {s0 s : State} {x0 x1} (h : Keeps s0 s) : KeepsOut s0 (execZoomSample x0 x1 s) := by
  unfold execZoomSample
  with_reducible repeat' first | assumption | apply State.upTo_keeps | apply State.zoomTake_keeps | apply KeepsOut.ite | apply KeepsOut.next

theorem execSwapArm_keeps {s0 s : State} {x0 x1} (h : Keeps s0 s) : KeepsOut s0 (execSwapArm x0 x1 s) := by
  unfold execSwapArm
  with_reducible repeat' first
    | assumption | apply State.put1_keeps | apply State.upTo_keeps | apply Keeps.ite | apply KeepsOut.next | simp only [Keeps.upd]

theorem State.zoomDisarm_keeps {s0 s : State} {x1} (h : Keeps s0 s) : Keeps s0 (State.zoomDisarm s x1) := by
  unfold State.zoomDisarm
  with_reducible repeat' first | assumption | apply State.put1_keeps | simp only [Keeps.upd]

theorem execSwapCancel_keeps {s0 s : State} {x0} (h : Keeps s0 s) : KeepsOut s0 (execSwapCancel x0 s) := by
  unfold execSwapCancel
  with_reducible repeat' first | assumption | apply State.zoomDisarm_keeps | apply KeepsOut.next

theorem execZoomSwap_keeps {s0 s : State} {x0 x1} (h : Keeps s0 s) : KeepsOut s0 (execZoomSwap x0 x1 s) := by
  unfold execZoomSwap
  with_reducible repeat' first | assumption | apply State.upTo_keeps | apply State.zoomSwapAt_keeps | apply KeepsOut.ite | apply KeepsOut.next

theorem execZoomCoefData_keeps {s0 s : State} {x0 x1} (h : Keeps s0 s) : KeepsOut s0 (execZoomCoefData x0 x1 s) := by
  unfold execZoomCoefData
  with_reducible repeat' first
    | assumption | apply State.bump1_keeps | apply State.put1_keeps | apply State.wrap1_keeps | apply KeepsOut.ite | apply KeepsOut.next
    | simp only [Keeps.upd]

theorem State.zoomBlank_keeps {s0 s : State} {x1} (h : Keeps s0 s) : Keeps s0 (s.zoomBlank x1) :=
  ⟨h.part, h.pending, h.sent, h.mem, h.poison, fun y => Tab.sorted_filter _ _ _ (h.regs y)⟩

theorem State.zoomShow_keeps {s0 s : State} {x1} (h : Keeps s0 s) : Keeps s0 (State.zoomShow s x1) := by
  unfold State.zoomShow
  with_reducible repeat' first
    | assumption | intro _ _ _ | intro _ _ | apply State.put1_keeps | apply State.put2_keeps | apply State.zoomBlank_keeps | apply Keeps.ite
    | apply Keeps.forN | split

theorem State.zoomStart_keeps {s0 s : State} (h : Keeps s0 s) : Keeps s0 (State.zoomStart s) := by
  unfold State.zoomStart
  with_reducible repeat' first
    | assumption | intro _ _ _ | intro _ _ | apply State.put1_keeps | apply State.putBank_keeps | apply State.zoomShow_keeps | apply Keeps.forN
    | simp only [Keeps.upd]

theorem State.zoomRunning_keeps {s0 s : State} (h : Keeps s0 s) : Keeps s0 (State.zoomRunning s) := by
  unfold State.zoomRunning
  with_reducible repeat' first | assumption | intro _ _ _ | intro _ _ | apply State.put1_keeps | apply Keeps.forN

theorem State.zoomAdmit_keeps {s0 s : State} {x1 x2} (h : Keeps s0 s) : Keeps s0 (State.zoomAdmit s x1 x2) := by
  unfold State.zoomAdmit
  with_reducible repeat' first
    | assumption | intro _ _ _ | intro _ _ | apply State.put1_keeps | apply State.putBank_keeps | apply State.zoomDisarm_keeps | apply Keeps.ite
    | apply Keeps.foldl | simp only [Keeps.upd]

theorem State.zoomPatch_keeps {s0 s : State} {x1 x2 x3} (h : Keeps s0 s) : Keeps s0 (State.zoomPatch s x1 x2 x3) := by
  unfold State.zoomPatch
  with_reducible repeat' first | assumption | apply State.zoomRunning_keeps | apply State.zoomShow_keeps | simp only [Keeps.upd]

theorem State.zoomSource_keeps {s0 s : State} {x1 x2} (h : Keeps s0 s) : Keeps s0 (State.zoomSource s x1 x2) := by
  unfold State.zoomSource
  with_reducible repeat' first | assumption | apply Keeps.ite | simp only [Keeps.upd]

theorem State.zoomReset_keeps {s0 s : State} (h : Keeps s0 s) : Keeps s0 (State.zoomReset s) := by
  unfold State.zoomReset
  with_reducible repeat' first
    | assumption | intro _ _ _ | intro _ _ | apply State.put1_keeps | apply State.zoomShow_keeps | apply Keeps.forN | simp only [Keeps.upd]

/-! ## Spindles -/

theorem State.setSpindle_keeps {s0 s : State} {x1 x2} (h : Keeps s0 s) : Keeps s0 (State.setSpindle s x1 x2) := by
  unfold State.setSpindle
  with_reducible repeat' first | assumption | simp only [Keeps.upd]

theorem State.flushTally_keeps {s0 s : State} {x1 x2 x3} (h : Keeps s0 s) : Keeps s0 (State.flushTally s x1 x2 x3) := by
  unfold State.flushTally
  with_reducible repeat' first
    | assumption | intro _ _ _ | intro _ _ | apply State.exclude_keeps | apply State.setSpindle_keeps | apply Keeps.foldl | simp only [Keeps.upd]

theorem State.voidBlock_keeps {s0 s : State} {x1 x2 x3} (h : Keeps s0 s) : Keeps s0 (State.voidBlock s x1 x2 x3) := by
  unfold State.voidBlock
  with_reducible repeat' first
    | assumption | intro _ _ _ | intro _ _ | apply State.bump1_keeps | apply State.exclude_keeps | apply State.spinEvt_keeps | apply Keeps.foldl

theorem State.zoomAuto_keeps {s0 s : State} {x1 x2 x3 x4 x5} (h : Keeps s0 s) : Keeps s0 (State.zoomAuto s x1 x2 x3 x4 x5) := by
  unfold State.zoomAuto
  with_reducible repeat' first | assumption | apply Keeps.ite | simp only [Keeps.upd]

theorem State.tapFine_keeps {s0 s : State} {x1 x2 x3 x4 x5} (h : Keeps s0 s) : Keeps s0 (State.tapFine s x1 x2 x3 x4 x5) := by
  unfold State.tapFine
  with_reducible repeat' first | assumption | apply Keeps.ite | simp only [Keeps.upd]

theorem State.cornerPut_keeps {s0 s : State} {x1 x2 x3 x4 x5} (h : Keeps s0 s) : Keeps s0 (State.cornerPut s x1 x2 x3 x4 x5) := by
  unfold State.cornerPut
  with_reducible repeat' first
    | assumption | apply State.spaceWrite_keeps | apply State.zoomAuto_keeps | apply Keeps.ite | simp only [Keeps.upd] | split

theorem State.writeBlock_keeps {s0 s : State} {x1 x2 x3 x4 x5} (h : Keeps s0 s) : Keeps s0 (State.writeBlock s x1 x2 x3 x4 x5) := by
  unfold State.writeBlock
  with_reducible repeat' first
    | assumption | intro _ _ _ | intro _ _ | apply State.cornerPut_keeps | apply State.tapFine_keeps | apply Keeps.forN | apply Keeps.foldl_fst

theorem State.spinRefuse_keeps {s0 s : State} {x1} (h : Keeps s0 s) : Keeps s0 (State.spinRefuse s x1) := by
  unfold State.spinRefuse
  with_reducible repeat' first | assumption | apply State.bump1_keeps | apply State.spinEvt_keeps

theorem State.pendImages_keeps {s0 s : State} {x1 x2} (h : Keeps s0 s) : Keeps s0 (State.pendImages s x1 x2) := by
  unfold State.pendImages
  with_reducible repeat' first | assumption | apply State.put1_keeps | apply State.setSpindle_keeps | split

theorem State.swapBank_keeps {s0 s : State} {x1 x2} (h : Keeps s0 s) : Keeps s0 (State.swapBank s x1 x2) := by
  unfold State.swapBank
  with_reducible repeat' first
    | assumption | apply State.measureSwap_keeps | apply State.pendImages_keeps | apply State.put1_keeps | apply State.setSpindle_keeps
    | apply State.spinEvt_keeps | apply Keeps.ite

theorem State.swapsAt_keeps {s0 s : State} {x1 x2} (h : Keeps s0 s) : Keeps s0 (State.swapsAt s x1 x2) := by
  unfold State.swapsAt
  dsimp only
  with_reducible repeat' first
    | assumption | apply State.put1_keeps | apply State.spinRefuse_keeps | apply State.swapBank_keeps | apply Keeps.ite | split

theorem State.spinLoad_keeps {s0 s : State} {x1 x2 x3 x4} (h : Keeps s0 s) : Keeps s0 (State.spinLoad s x1 x2 x3 x4) := by
  unfold State.spinLoad
  with_reducible repeat' first | assumption | apply State.put1_keeps | apply State.setSpindle_keeps | split

theorem State.spinJoin_keeps {s0 s : State} {x1 x2 x3} (h : Keeps s0 s) : Keeps s0 (State.spinJoin s x1 x2 x3) := by
  unfold State.spinJoin
  with_reducible repeat' first | assumption | apply State.setSpindle_keeps | apply State.spinLoad_keeps

theorem State.spinRejoin_keeps {s0 s : State} {x1} (h : Keeps s0 s) : Keeps s0 (State.spinRejoin s x1) := by
  unfold State.spinRejoin
  with_reducible repeat' first | assumption | apply State.spinJoin_keeps | apply Keeps.ite | split

theorem State.stallCount_keeps {s0 s : State} {x1} (h : Keeps s0 s) : Keeps s0 (State.stallCount s x1) := by
  unfold State.stallCount
  with_reducible repeat' first | assumption | apply State.bump1_keeps | apply Keeps.ite

theorem State.spinAbort_keeps {s0 s : State} {x1 x2} (h : Keeps s0 s) : Keeps s0 (State.spinAbort s x1 x2) := by
  unfold State.spinAbort
  with_reducible repeat' first
    | assumption | apply State.setSpindle_keeps | apply State.stallCount_keeps | apply State.voidBlock_keeps | apply State.writeBlock_keeps
    | apply Keeps.ite

theorem State.forceSwap_keeps {s0 s : State} {x1} (h : Keeps s0 s) : Keeps s0 (State.forceSwap s x1) := by
  unfold State.forceSwap
  with_reducible repeat' first
    | assumption | apply State.measureSwap_keeps | apply State.put1_keeps | apply State.setSpindle_keeps | apply State.spinAbort_keeps
    | apply State.spinEvt_keeps | apply Keeps.ite

theorem State.mirrorAbort_keeps {s0 s : State} {x1} (h : Keeps s0 s) : Keeps s0 (State.mirrorAbort s x1) := by
  unfold State.mirrorAbort
  dsimp only
  with_reducible repeat' first
    | assumption | apply State.forceSwap_keeps | apply State.setSpindle_keeps | apply State.spinRefuse_keeps | apply Keeps.ite | split

theorem State.spinFault_keeps {s0 s : State} {x1 x2} (h : Keeps s0 s) : Keeps s0 (State.spinFault s x1 x2) := by
  unfold State.spinFault
  with_reducible repeat' first
    | assumption | apply State.bump1_keeps | apply State.mirrorAbort_keeps | apply State.put1_keeps | apply State.spinAbort_keeps
    | apply State.spinEvt_keeps | apply State.spinRejoin_keeps

theorem State.closeBlock_keeps {s0 s : State} {x1} (h : Keeps s0 s) : Keeps s0 (State.closeBlock s x1) := by
  unfold State.closeBlock
  with_reducible repeat' first
    | assumption | apply State.flushTally_keeps | apply State.mirrorAbort_keeps | apply State.put1_keeps | apply State.setSpindle_keeps
    | apply State.spinEvt_keeps | apply State.spinRejoin_keeps | apply State.swapsAt_keeps | apply State.voidBlock_keeps
    | apply State.writeBlock_keeps | apply Keeps.ite | split

theorem State.applySem_keeps {s0 s : State} {x1 x2} (h : Keeps s0 s) : Keeps s0 (State.applySem s x1 x2) := by
  unfold State.applySem
  with_reducible repeat' first
    | assumption | apply State.bump1_keeps | apply State.setSpindle_keeps | apply State.spinEvt_keeps | apply State.spinFault_keeps | apply Keeps.ite
    | simp only [Keeps.upd] | split

theorem State.spinRun_keeps {s0 s : State} {n t op f} (h : Keeps s0 s) (hf : ∀ a c, Keeps s0 a → Keeps s0 (f a c)) :
    Keeps s0 (s.spinRun n t op f) := by
  unfold State.spinRun
  dsimp only
  repeat' (first | with_reducible assumption | with_reducible apply State.upTo_keeps | with_reducible apply State.spinFault_keeps | apply hf | split)

theorem State.spinExec_keeps {s0 s : State} {x1 x2 x3 x4} (h : Keeps s0 s) : Keeps s0 (State.spinExec s x1 x2 x3 x4) := by
  unfold State.spinExec
  with_reducible repeat' first | assumption | intro _ _ _ | intro _ _ | apply State.applySem_keeps | apply State.spinRun_keeps

theorem execNop_keeps {s0 s : State} {x0 x1} (h : Keeps s0 s) : KeepsOut s0 (execNop x0 x1 s) := by
  unfold execNop
  with_reducible repeat' first | assumption | apply State.spinExec_keeps | apply KeepsOut.next

theorem execRpt_keeps {s0 s : State} {x0 x1} (h : Keeps s0 s) : KeepsOut s0 (execRpt x0 x1 s) := by
  unfold execRpt
  with_reducible repeat' first | assumption | apply State.spinExec_keeps | apply KeepsOut.next

theorem execJmp_keeps {s0 s : State} {x0 x1} (h : Keeps s0 s) : KeepsOut s0 (execJmp x0 x1 s) := by
  unfold execJmp
  with_reducible repeat' first | assumption | apply State.spinExec_keeps | apply KeepsOut.next

theorem execBr_keeps {s0 s : State} {x0 x1} (h : Keeps s0 s) : KeepsOut s0 (execBr x0 x1 s) := by
  unfold execBr
  with_reducible repeat' first | assumption | apply State.spinExec_keeps | apply KeepsOut.next

theorem execJal_keeps {s0 s : State} {x0 x1} (h : Keeps s0 s) : KeepsOut s0 (execJal x0 x1 s) := by
  unfold execJal
  with_reducible repeat' first | assumption | apply State.spinExec_keeps | apply KeepsOut.next

theorem execJr_keeps {s0 s : State} {x0 x1} (h : Keeps s0 s) : KeepsOut s0 (execJr x0 x1 s) := by
  unfold execJr
  with_reducible repeat' first | assumption | apply State.spinExec_keeps | apply KeepsOut.next

theorem State.blkStep_keeps {s0 s : State} {x1 x2} (h : Keeps s0 s) : Keeps s0 (State.blkStep s x1 x2) := by
  unfold State.blkStep
  with_reducible repeat' first
    | assumption | intro _ _ _ | intro _ _ | apply State.closeBlock_keeps | apply State.spinFault_keeps | apply State.spinRun_keeps | apply Keeps.ite

theorem execEvt_keeps {s0 s : State} {x0 x1} (h : Keeps s0 s) : KeepsOut s0 (execEvt x0 x1 s) := by
  unfold execEvt
  with_reducible repeat' first
    | assumption | intro _ _ _ | intro _ _ | apply State.applySem_keeps | apply State.put1_keeps | apply State.spinEvt_keeps
    | apply State.spinFault_keeps | apply State.spinRun_keeps | apply Keeps.ite | apply KeepsOut.next

theorem execSalu_keeps {s0 s : State} {x0 x1} (h : Keeps s0 s) : KeepsOut s0 (execSalu x0 x1 s) := by
  unfold execSalu
  with_reducible repeat' first | assumption | apply State.spinExec_keeps | apply KeepsOut.next

theorem execSalui_keeps {s0 s : State} {x0 x1} (h : Keeps s0 s) : KeepsOut s0 (execSalui x0 x1 s) := by
  unfold execSalui
  with_reducible repeat' first | assumption | apply State.spinExec_keeps | apply KeepsOut.next

theorem execSsh_keeps {s0 s : State} {x0 x1} (h : Keeps s0 s) : KeepsOut s0 (execSsh x0 x1 s) := by
  unfold execSsh
  with_reducible repeat' first | assumption | apply State.spinExec_keeps | apply KeepsOut.next

theorem execSmul_keeps {s0 s : State} {x0 x1} (h : Keeps s0 s) : KeepsOut s0 (execSmul x0 x1 s) := by
  unfold execSmul
  with_reducible repeat' first | assumption | apply State.spinExec_keeps | apply KeepsOut.next

theorem execSget_keeps {s0 s : State} {x0 x1} (h : Keeps s0 s) : KeepsOut s0 (execSget x0 x1 s) := by
  unfold execSget
  with_reducible repeat' first | assumption | apply State.spinExec_keeps | apply KeepsOut.next

theorem execAset_keeps {s0 s : State} {x0 x1} (h : Keeps s0 s) : KeepsOut s0 (execAset x0 x1 s) := by
  unfold execAset
  with_reducible repeat' first | assumption | apply State.spinExec_keeps | apply KeepsOut.next

theorem execAget_keeps {s0 s : State} {x0 x1} (h : Keeps s0 s) : KeepsOut s0 (execAget x0 x1 s) := by
  unfold execAget
  with_reducible repeat' first | assumption | apply State.spinExec_keeps | apply KeepsOut.next

theorem execLds_keeps {s0 s : State} {x0 x1} (h : Keeps s0 s) : KeepsOut s0 (execLds x0 x1 s) := by
  unfold execLds
  with_reducible repeat' first | assumption | apply State.spinExec_keeps | apply KeepsOut.next

theorem execSts_keeps {s0 s : State} {x0 x1} (h : Keeps s0 s) : KeepsOut s0 (execSts x0 x1 s) := by
  unfold execSts
  with_reducible repeat' first | assumption | apply State.spinExec_keeps | apply KeepsOut.next

theorem execVld_keeps {s0 s : State} {x0 x1} (h : Keeps s0 s) : KeepsOut s0 (execVld x0 x1 s) := by
  unfold execVld
  with_reducible repeat' first | assumption | apply State.spinExec_keeps | apply KeepsOut.next

theorem execVst_keeps {s0 s : State} {x0 x1} (h : Keeps s0 s) : KeepsOut s0 (execVst x0 x1 s) := by
  unfold execVst
  with_reducible repeat' first | assumption | apply State.spinExec_keeps | apply KeepsOut.next

theorem execVldb_keeps {s0 s : State} {x0 x1} (h : Keeps s0 s) : KeepsOut s0 (execVldb x0 x1 s) := by
  unfold execVldb
  with_reducible repeat' first | assumption | apply State.spinExec_keeps | apply KeepsOut.next

theorem execPin_keeps {s0 s : State} {x0 x1} (h : Keeps s0 s) : KeepsOut s0 (execPin x0 x1 s) := by
  unfold execPin
  with_reducible repeat' first | assumption | apply State.spinExec_keeps | apply KeepsOut.next

theorem execPout_keeps {s0 s : State} {x0 x1} (h : Keeps s0 s) : KeepsOut s0 (execPout x0 x1 s) := by
  unfold execPout
  with_reducible repeat' first | assumption | apply State.spinExec_keeps | apply KeepsOut.next

theorem execPseek_keeps {s0 s : State} {x0 x1} (h : Keeps s0 s) : KeepsOut s0 (execPseek x0 x1 s) := by
  unfold execPseek
  with_reducible repeat' first | assumption | apply State.spinExec_keeps | apply KeepsOut.next

theorem execVadd_keeps {s0 s : State} {x0 x1} (h : Keeps s0 s) : KeepsOut s0 (execVadd x0 x1 s) := by
  unfold execVadd
  with_reducible repeat' first | assumption | apply State.spinExec_keeps | apply KeepsOut.next

theorem execVsub_keeps {s0 s : State} {x0 x1} (h : Keeps s0 s) : KeepsOut s0 (execVsub x0 x1 s) := by
  unfold execVsub
  with_reducible repeat' first | assumption | apply State.spinExec_keeps | apply KeepsOut.next

theorem execVbf_keeps {s0 s : State} {x0 x1} (h : Keeps s0 s) : KeepsOut s0 (execVbf x0 x1 s) := by
  unfold execVbf
  with_reducible repeat' first | assumption | apply State.spinExec_keeps | apply KeepsOut.next

theorem execVmul_keeps {s0 s : State} {x0 x1} (h : Keeps s0 s) : KeepsOut s0 (execVmul x0 x1 s) := by
  unfold execVmul
  with_reducible repeat' first | assumption | apply State.spinExec_keeps | apply KeepsOut.next

theorem execVshr_keeps {s0 s : State} {x0 x1} (h : Keeps s0 s) : KeepsOut s0 (execVshr x0 x1 s) := by
  unfold execVshr
  with_reducible repeat' first | assumption | apply State.spinExec_keeps | apply KeepsOut.next

theorem execVshl_keeps {s0 s : State} {x0 x1} (h : Keeps s0 s) : KeepsOut s0 (execVshl x0 x1 s) := by
  unfold execVshl
  with_reducible repeat' first | assumption | apply State.spinExec_keeps | apply KeepsOut.next

theorem execVperm_keeps {s0 s : State} {x0 x1} (h : Keeps s0 s) : KeepsOut s0 (execVperm x0 x1 s) := by
  unfold execVperm
  with_reducible repeat' first | assumption | apply State.spinExec_keeps | apply KeepsOut.next

theorem execVbcs_keeps {s0 s : State} {x0 x1} (h : Keeps s0 s) : KeepsOut s0 (execVbcs x0 x1 s) := by
  unfold execVbcs
  with_reducible repeat' first | assumption | apply State.spinExec_keeps | apply KeepsOut.next

theorem execVcvt_keeps {s0 s : State} {x0 x1} (h : Keeps s0 s) : KeepsOut s0 (execVcvt x0 x1 s) := by
  unfold execVcvt
  with_reducible repeat' first | assumption | apply State.spinExec_keeps | apply KeepsOut.next

theorem execVlut_keeps {s0 s : State} {x0 x1} (h : Keeps s0 s) : KeepsOut s0 (execVlut x0 x1 s) := by
  unfold execVlut
  with_reducible repeat' first | assumption | apply State.spinExec_keeps | apply KeepsOut.next

theorem execVmac_keeps {s0 s : State} {x0 x1} (h : Keeps s0 s) : KeepsOut s0 (execVmac x0 x1 s) := by
  unfold execVmac
  with_reducible repeat' first | assumption | apply State.spinExec_keeps | apply KeepsOut.next

theorem execVmacp_keeps {s0 s : State} {x0 x1} (h : Keeps s0 s) : KeepsOut s0 (execVmacp x0 x1 s) := by
  unfold execVmacp
  with_reducible repeat' first | assumption | apply State.spinExec_keeps | apply KeepsOut.next

theorem execVacr_keeps {s0 s : State} {x0 x1} (h : Keeps s0 s) : KeepsOut s0 (execVacr x0 x1 s) := by
  unfold execVacr
  with_reducible repeat' first | assumption | apply State.spinExec_keeps | apply KeepsOut.next

theorem execVacl_keeps {s0 s : State} {x0 x1} (h : Keeps s0 s) : KeepsOut s0 (execVacl x0 x1 s) := by
  unfold execVacl
  with_reducible repeat' first | assumption | apply State.spinExec_keeps | apply KeepsOut.next

theorem execVsrch_keeps {s0 s : State} {x0 x1} (h : Keeps s0 s) : KeepsOut s0 (execVsrch x0 x1 s) := by
  unfold execVsrch
  with_reducible repeat' first | assumption | apply State.spinExec_keeps | apply KeepsOut.next

theorem execVstat_keeps {s0 s : State} {x0 x1} (h : Keeps s0 s) : KeepsOut s0 (execVstat x0 x1 s) := by
  unfold execVstat
  with_reducible repeat' first | assumption | apply State.spinExec_keeps | apply KeepsOut.next

theorem execVstatf_keeps {s0 s : State} {x0 x1} (h : Keeps s0 s) : KeepsOut s0 (execVstatf x0 x1 s) := by
  unfold execVstatf
  with_reducible repeat' first | assumption | apply State.spinExec_keeps | apply KeepsOut.next

theorem execVrqs_keeps {s0 s : State} {x0 x1} (h : Keeps s0 s) : KeepsOut s0 (execVrqs x0 x1 s) := by
  unfold execVrqs
  with_reducible repeat' first | assumption | apply State.spinExec_keeps | apply KeepsOut.next

theorem execVnco_keeps {s0 s : State} {x0 x1} (h : Keeps s0 s) : KeepsOut s0 (execVnco x0 x1 s) := by
  unfold execVnco
  with_reducible repeat' first | assumption | apply State.spinExec_keeps | apply KeepsOut.next

theorem execStallResume_keeps {s0 s : State} {x0 x1} (h : Keeps s0 s) : KeepsOut s0 (execStallResume x0 x1 s) := by
  unfold execStallResume
  with_reducible repeat' first
    | assumption | apply State.applySem_keeps | apply State.stallCount_keeps | apply State.upTo_keeps | apply KeepsOut.ite | apply KeepsOut.next
    | split

theorem execFlushLate_keeps {s0 s : State} {x0 x1} (h : Keeps s0 s) : KeepsOut s0 (execFlushLate x0 x1 s) := by
  unfold execFlushLate
  with_reducible repeat' first
    | assumption | intro _ _ _ | intro _ _ | apply State.cause1_keeps | apply State.exclude_keeps | apply State.flushTally_keeps
    | apply State.upTo_keeps | apply KeepsOut.ite | apply KeepsOut.next | apply Keeps.foldl

theorem State.missingCoarse_keeps {s0 s : State} {x1 x2 x3 x4} (h : Keeps s0 s) : Keeps s0 (State.missingCoarse s x1 x2 x3 x4) := by
  unfold State.missingCoarse
  with_reducible repeat' first | assumption | intro _ _ _ | intro _ _ | apply State.exclude_keeps | apply Keeps.foldl | apply Keeps.forN

theorem State.newSlotMissing_keeps {s0 s : State} {x1 x2} (h : Keeps s0 s) : Keeps s0 (State.newSlotMissing s x1 x2) := by
  unfold State.newSlotMissing
  with_reducible repeat' first
    | assumption | intro _ _ _ | intro _ _ | apply State.missingCoarse_keeps | apply Keeps.ite | apply Keeps.foldl | apply Keeps.forN
    | simp only [Keeps.upd]

theorem State.takeLane_keeps {s0 s : State} {x1 x2 x3 x4} (h : Keeps s0 s) : Keeps s0 (State.takeLane s x1 x2 x3 x4) := by
  unfold State.takeLane
  with_reducible repeat' first | assumption | apply Keeps.ite | simp only [Keeps.upd]

theorem State.inTake_keeps {s0 s : State} {x1} (h : Keeps s0 s) : Keeps s0 (State.inTake s x1).2 := by
  unfold State.inTake
  with_reducible repeat' first
    | assumption | intro _ _ _ | intro _ _ | apply State.missingCoarse_keeps | apply State.takeLane_keeps | apply Keeps.ite | apply Keeps.foldl

theorem execInVector_keeps {s0 s : State} {x0 x1} (h : Keeps s0 s) : KeepsOut s0 (execInVector x0 x1 s) := by
  unfold execInVector
  with_reducible repeat' first
    | assumption | apply State.bump1_keeps | apply State.inTake_keeps | apply State.setSpindle_keeps | apply State.spinEvt_keeps
    | apply State.upTo_keeps | apply KeepsOut.ite | apply KeepsOut.next

theorem execSpinSwap_keeps {s0 s : State} {x0} (h : Keeps s0 s) : KeepsOut s0 (execSpinSwap x0 s) := by
  unfold execSpinSwap
  with_reducible repeat' first | assumption | apply State.put1_keeps | apply State.spinRefuse_keeps | apply Keeps.ite | apply KeepsOut.next

theorem execSpinForceSwap_keeps {s0 s : State} {x0 x1} (h : Keeps s0 s) : KeepsOut s0 (execSpinForceSwap x0 x1 s) := by
  unfold execSpinForceSwap
  with_reducible repeat' first
    | assumption | apply State.forceSwap_keeps | apply State.mirror_keeps | apply State.spinRefuse_keeps | apply State.upTo_keeps | apply KeepsOut.ite
    | apply KeepsOut.next

theorem execForcedImageStart_keeps {s0 s : State} {x0 x1} (h : Keeps s0 s) : KeepsOut s0 (execForcedImageStart x0 x1 s) := by
  unfold execForcedImageStart
  dsimp only
  with_reducible repeat' first | assumption | apply State.setSpindle_keeps | apply State.upTo_keeps | apply KeepsOut.ite | apply KeepsOut.next | split

theorem execSpinProgData_keeps {s0 s : State} {x0 x1} (h : Keeps s0 s) : KeepsOut s0 (execSpinProgData x0 x1 s) := by
  unfold execSpinProgData
  with_reducible repeat' first
    | assumption | apply State.put1_keeps | apply State.setSpindle_keeps | apply State.spinRefuse_keeps | apply State.wrap1_keeps | apply KeepsOut.ite
    | apply KeepsOut.next

theorem execProgCommit_keeps {s0 s : State} {x0 x1} (h : Keeps s0 s) : KeepsOut s0 (execProgCommit x0 x1 s) := by
  unfold execProgCommit
  with_reducible repeat' first
    | assumption | apply State.put1_keeps | apply State.setSpindle_keeps | apply State.spinRefuse_keeps | apply KeepsOut.ite | apply KeepsOut.next

theorem State.lmemAccess_keeps {s0 s : State} {x1 x2} (h : Keeps s0 s) : Keeps s0 (State.lmemAccess s x1 x2).2 := by
  unfold State.lmemAccess
  with_reducible repeat' first | assumption | apply State.setSpindle_keeps | apply State.wrap1_keeps | split

theorem execSpinLmemData_keeps {s0 s : State} {x0 x1 x2} (h : Keeps s0 s) : KeepsOut s0 (execSpinLmemData x0 x1 x2 s) := by
  unfold execSpinLmemData
  with_reducible repeat' first | assumption | apply State.emit_keeps | apply State.lmemAccess_keeps | apply Keeps.ite | apply KeepsOut.next

theorem execSpinGainData_keeps {s0 s : State} {x0 x1} (h : Keeps s0 s) : KeepsOut s0 (execSpinGainData x0 x1 s) := by
  unfold execSpinGainData
  with_reducible repeat' first | assumption | apply State.setSpindle_keeps | apply State.wrap1_keeps | apply KeepsOut.next

theorem State.spinsStart_keeps {s0 s : State} (h : Keeps s0 s) : Keeps s0 (State.spinsStart s) := by
  unfold State.spinsStart
  with_reducible repeat' first | assumption | intro _ _ _ | intro _ _ | apply State.spinLoad_keeps | apply Keeps.forN | simp only [Keeps.upd]

theorem State.spinsRun_keeps {s0 s : State} {x1} (h : Keeps s0 s) : Keeps s0 (State.spinsRun s x1) := by
  unfold State.spinsRun
  with_reducible repeat' first | assumption | simp only [Keeps.upd]

theorem State.spinsReset_keeps {s0 s : State} (h : Keeps s0 s) : Keeps s0 (State.spinsReset s) := by
  unfold State.spinsReset
  with_reducible repeat' first | assumption | intro _ _ _ | intro _ _ | apply State.put1_keeps | apply Keeps.forN | simp only [Keeps.upd]

theorem State.spinsAdmit_keeps {s0 s : State} {x1 x2 x3} (h : Keeps s0 s) : Keeps s0 (State.spinsAdmit s x1 x2 x3) := by
  unfold State.spinsAdmit
  with_reducible repeat' first
    | assumption | intro _ _ _ | intro _ _ | apply State.pendImages_keeps | apply State.spinJoin_keeps | apply Keeps.ite | apply Keeps.foldl | split

theorem State.snapLimits_keeps {s0 s : State} {x1} (h : Keeps s0 s) : Keeps s0 (State.snapLimits s x1) := by
  unfold State.snapLimits
  with_reducible repeat' first | assumption | simp only [Keeps.upd]

/-! ## Receive -/

theorem State.putSample_keeps {s0 s : State} {x1 x2 x3 x4} (h : Keeps s0 s) : Keeps s0 (State.putSample s x1 x2 x3 x4) := by
  unfold State.putSample
  with_reducible repeat' first | assumption | simp only [Keeps.upd]

theorem State.decodeSet_keeps {s0 s : State} {x1 x2 x3} (h : Keeps s0 s) : Keeps s0 (State.decodeSet s x1 x2 x3) := by
  unfold State.decodeSet
  with_reducible repeat' first | assumption | intro _ _ _ | intro _ _ | apply State.putSample_keeps | apply Keeps.foldl | apply Keeps.forN

theorem State.decodeArrived_keeps {s0 s : State} {x1} (h : Keeps s0 s) : Keeps s0 (State.decodeArrived s x1) := by
  unfold State.decodeArrived
  with_reducible repeat' first
    | assumption | intro _ _ _ | intro _ _ | apply State.decodeSet_keeps | apply Keeps.ite | apply Keeps.foldl | simp only [Keeps.upd] | split

theorem State.frameBad_keeps {s0 s : State} {x1} (h : Keeps s0 s) : Keeps s0 (State.frameBad s x1) := by
  unfold State.frameBad
  with_reducible repeat' first
    | assumption | intro _ _ _ | intro _ _ | apply State.exclude_keeps | apply State.zoomReach_keeps | apply Keeps.ite | apply Keeps.forN

theorem State.gapLog_keeps {s0 s : State} {x1} (h : Keeps s0 s) : Keeps s0 (State.gapLog s x1) := by
  unfold State.gapLog
  with_reducible repeat' first
    | assumption | apply State.bump_keeps | apply State.frameEvt_keeps | apply State.noteDetail_keeps | apply State.put_keeps | apply Keeps.ite
    | simp only [Keeps.upd]

theorem execFrameGapPop_keeps {s0 s : State} (h : Keeps s0 s) : KeepsOut s0 (execFrameGapPop s) := by
  unfold execFrameGapPop
  with_reducible repeat' first | assumption | apply State.put_keeps | apply KeepsOut.next | simp only [Keeps.upd]

/-! ## Clock -/

theorem State.withTime_keeps {s0 s : State} {x1} (h : Keeps s0 s) : Keeps s0 (State.withTime s x1) := by
  unfold State.withTime
  with_reducible repeat' first | assumption | simp only [Keeps.upd]

theorem State.setTb_keeps {s0 s : State} {x1} (h : Keeps s0 s) : Keeps s0 (State.setTb s x1) := by
  unfold State.setTb
  with_reducible repeat' first | assumption | apply State.put_keeps | apply State.timeEvt_keeps | apply State.withTime_keeps | apply Keeps.ite

theorem State.startPull_keeps {s0 s : State} {x1} (h : Keeps s0 s) : Keeps s0 (State.startPull s x1) := by
  unfold State.startPull
  with_reducible repeat' first | assumption | apply State.put_keeps | apply State.withTime_keeps

theorem State.rebase_keeps {s0 s : State} (h : Keeps s0 s) : Keeps s0 (State.rebase s) := by
  unfold State.rebase
  with_reducible repeat' first | assumption | apply State.startPull_keeps | apply Keeps.ite

theorem State.noteRate_keeps {s0 s : State} (h : Keeps s0 s) : Keeps s0 (State.noteRate s) := by
  unfold State.noteRate
  with_reducible repeat' first | assumption | apply State.withTime_keeps

theorem State.holdover_keeps {s0 s : State} {x1} (h : Keeps s0 s) : Keeps s0 (State.holdover s x1) := by
  unfold State.holdover
  with_reducible repeat' first | assumption | apply State.setTb_keeps | apply State.startPull_keeps | apply State.withTime_keeps

theorem State.tbMove_keeps {s0 s : State} {x1 x2} (h : Keeps s0 s) : Keeps s0 (State.tbMove s x1 x2) := by
  unfold State.tbMove
  with_reducible repeat' first
    | assumption | apply State.holdover_keeps | apply State.setTb_keeps | apply State.startPull_keeps | apply Keeps.ite | split

theorem State.select_keeps {s0 s : State} (h : Keeps s0 s) : Keeps s0 (State.select s) := by
  unfold State.select
  with_reducible repeat' first
    | assumption | intro _ _ _ | intro _ _ | apply State.put_keeps | apply State.put1_keeps | apply State.rebase_keeps | apply State.tbMove_keeps
    | apply State.timeEvt_keeps | apply Keeps.ite | apply Keeps.forN

theorem State.waitBroken_keeps {s0 s : State} {x1} (h : Keeps s0 s) : Keeps s0 (State.waitBroken s x1) := by
  unfold State.waitBroken
  with_reducible repeat' first | assumption | apply State.put1_keeps | apply State.withTime_keeps

theorem State.unqual_keeps {s0 s : State} {x1} (h : Keeps s0 s) : Keeps s0 (State.unqual s x1) := by
  unfold State.unqual
  with_reducible repeat' first
    | assumption | apply State.put1_keeps | apply State.timeEvt_keeps | apply State.waitBroken_keeps | apply State.withTime_keeps | apply Keeps.ite

theorem State.disqualify_keeps {s0 s : State} {x1} (h : Keeps s0 s) : Keeps s0 (State.disqualify s x1) := by
  unfold State.disqualify
  with_reducible repeat' first | assumption | apply State.select_keeps | apply State.unqual_keeps | apply Keeps.ite

theorem State.qual_keeps {s0 s : State} {x1} (h : Keeps s0 s) : Keeps s0 (State.qual s x1) := by
  unfold State.qual
  with_reducible repeat' first | assumption | apply State.put1_keeps | apply State.timeEvt_keeps | apply State.waitBroken_keeps | apply Keeps.ite

theorem State.qualify_keeps {s0 s : State} {x1} (h : Keeps s0 s) : Keeps s0 (State.qualify s x1) := by
  unfold State.qualify
  with_reducible repeat' first | assumption | apply State.qual_keeps | apply State.select_keeps | apply Keeps.ite

theorem State.rcCheck_keeps {s0 s : State} (h : Keeps s0 s) : Keeps s0 (State.rcCheck s) := by
  unfold State.rcCheck
  with_reducible repeat' first
    | assumption | intro _ _ _ | intro _ _ | apply State.disqualify_keeps | apply State.put1_keeps | apply Keeps.ite | apply Keeps.foldl

/-! ## Lanes -/

theorem State.hankShow_keeps {s0 s : State} {x1} (h : Keeps s0 s) : Keeps s0 (State.hankShow s x1) := by
  unfold State.hankShow
  with_reducible repeat' first | assumption | apply State.hankEvt_keeps | apply State.put1_keeps | apply Keeps.ite

theorem State.runBreak_keeps {s0 s : State} {x1} (h : Keeps s0 s) : Keeps s0 (State.runBreak s x1) := by
  unfold State.runBreak
  with_reducible repeat' first | assumption | apply State.newEpoch_keeps | apply State.setLane_keeps | apply Keeps.ite | split

theorem State.lockLost_keeps {s0 s : State} {x1 x2} (h : Keeps s0 s) : Keeps s0 (State.lockLost s x1 x2) := by
  unfold State.lockLost
  with_reducible repeat' first
    | assumption | apply State.bump1_keeps | apply State.laneEvt_keeps | apply State.runBreak_keeps | apply Keeps.ite | simp only [Keeps.upd]

theorem State.laneTo__keeps {s0 s : State} {x1 x2} (h : Keeps s0 s) : Keeps s0 (State.laneTo_ s x1 x2) := by
  unfold State.laneTo_
  with_reducible repeat' first
    | assumption | apply State.hankShow_keeps | apply State.put1_keeps | apply State.rcCheck_keeps | apply State.setLane_keeps | simp only [Keeps.upd]

theorem State.rxPower_keeps {s0 s : State} {x1 x2} (h : Keeps s0 s) : Keeps s0 (State.rxPower s x1 x2) := by
  unfold State.rxPower
  with_reducible repeat' first | assumption | apply State.laneTo__keeps | apply State.lockLost_keeps | apply State.put1_keeps

theorem State.txPower_keeps {s0 s : State} {x1 x2} (h : Keeps s0 s) : Keeps s0 (State.txPower s x1 x2) := by
  unfold State.txPower
  with_reducible repeat' first | assumption | apply State.put1_keeps | apply State.setLane_keeps

theorem State.hankApply_keeps {s0 s : State} {x1 x2 x3 x4} (h : Keeps s0 s) : Keeps s0 (State.hankApply s x1 x2 x3 x4) := by
  unfold State.hankApply
  with_reducible repeat' first
    | assumption | intro _ _ _ | intro _ _ | apply State.hankShow_keeps | apply State.put1_keeps | apply State.rcCheck_keeps
    | apply State.rxPower_keeps | apply State.txPower_keeps | apply Keeps.ite | apply Keeps.forN

theorem execHankCtl_keeps {s0 s : State} {x0 x1 x2} (h : Keeps s0 s) : KeepsOut s0 (execHankCtl x0 x1 x2 s) := by
  unfold execHankCtl
  with_reducible repeat' first
    | assumption | apply State.hankApply_keeps | apply State.hankShow_keeps | apply State.put1_keeps | apply State.upTo_keeps | apply KeepsOut.ite
    | apply KeepsOut.next

theorem State.hanksArm_keeps {s0 s : State} {x1} (h : Keeps s0 s) : Keeps s0 (State.hanksArm s x1) := by
  unfold State.hanksArm
  with_reducible repeat' first | assumption | intro _ _ _ | intro _ _ | apply State.hankApply_keeps | apply State.put1_keeps | apply Keeps.forN

theorem State.lanesOff_keeps {s0 s : State} (h : Keeps s0 s) : Keeps s0 (State.lanesOff s) := by
  unfold State.lanesOff
  with_reducible repeat' first
    | assumption | intro _ _ _ | intro _ _ | apply State.hankShow_keeps | apply State.put1_keeps | apply State.rxPower_keeps
    | apply State.txPower_keeps | apply Keeps.forN

theorem State.lanesWake_keeps {s0 s : State} (h : Keeps s0 s) : Keeps s0 (State.lanesWake s) := by
  unfold State.lanesWake
  with_reducible repeat' first | assumption | intro _ _ _ | intro _ _ | apply State.hankApply_keeps | apply Keeps.forN

theorem execLaneTxFfe_keeps {s0 s : State} {x0 x1 x2} (h : Keeps s0 s) : KeepsOut s0 (execLaneTxFfe x0 x1 x2 s) := by
  unfold execLaneTxFfe
  with_reducible repeat' first | assumption | apply State.put1_keeps | apply KeepsOut.next

theorem execHankPllLock_keeps {s0 s : State} {x0 x1} (h : Keeps s0 s) : KeepsOut s0 (execHankPllLock x0 x1 s) := by
  unfold execHankPllLock
  with_reducible repeat' first
    | assumption | intro _ _ _ | intro _ _ | apply State.put1_keeps | apply State.setLane_keeps | apply State.takeFree_keeps | apply State.upTo_keeps
    | apply KeepsOut.ite | apply KeepsOut.next | apply Keeps.forN

theorem execHankPllTimeout_keeps {s0 s : State} {x0 x1} (h : Keeps s0 s) : KeepsOut s0 (execHankPllTimeout x0 x1 s) := by
  unfold execHankPllTimeout
  with_reducible repeat' first | assumption | apply State.hankEvt_keeps | apply State.upTo_keeps | apply KeepsOut.ite | apply KeepsOut.next

theorem execHankPllLoss_keeps {s0 s : State} {x0 x1} (h : Keeps s0 s) : KeepsOut s0 (execHankPllLoss x0 x1 s) := by
  unfold execHankPllLoss
  with_reducible repeat' first
    | assumption | apply State.hankEvt_keeps | apply State.put1_keeps | apply State.upTo_keeps | apply KeepsOut.ite | apply KeepsOut.next

theorem execSignalPresent_keeps {s0 s : State} {x0 x1} (h : Keeps s0 s) : KeepsOut s0 (execSignalPresent x0 x1 s) := by
  unfold execSignalPresent
  with_reducible repeat' first
    | assumption | apply State.laneTo__keeps | apply State.put1_keeps | apply State.setLane_keeps | apply State.upTo_keeps | apply KeepsOut.ite
    | apply KeepsOut.next

theorem State.adapted_keeps {s0 s : State} {x1 x2 x3 x4} (h : Keeps s0 s) : Keeps s0 (State.adapted s x1 x2 x3 x4) := by
  unfold State.adapted
  with_reducible repeat' first
    | assumption | intro _ _ _ | intro _ _ | apply State.put1_keeps | apply State.put2_keeps | apply Keeps.ite | apply Keeps.forN

theorem execAdaptDone_keeps {s0 s : State} {x0 x1 x2 x3 x4} (h : Keeps s0 s) : KeepsOut s0 (execAdaptDone x0 x1 x2 x3 x4 s) := by
  unfold execAdaptDone
  with_reducible repeat' first
    | assumption | apply State.adapted_keeps | apply State.laneTo__keeps | apply State.upTo_keeps | apply Keeps.ite | apply KeepsOut.ite
    | apply KeepsOut.next

theorem execCommaFound_keeps {s0 s : State} {x0 x1} (h : Keeps s0 s) : KeepsOut s0 (execCommaFound x0 x1 s) := by
  unfold execCommaFound
  with_reducible repeat' first
    | assumption | apply State.laneTo__keeps | apply State.setLane_keeps | apply State.upTo_keeps | apply KeepsOut.ite | apply KeepsOut.next

theorem execSignalLost_keeps {s0 s : State} {x0 x1} (h : Keeps s0 s) : KeepsOut s0 (execSignalLost x0 x1 s) := by
  unfold execSignalLost
  with_reducible repeat' first
    | assumption | apply State.laneTo__keeps | apply State.lockLost_keeps | apply State.put1_keeps | apply State.upTo_keeps | apply KeepsOut.ite
    | apply KeepsOut.next

theorem execLaneRelock_keeps {s0 s : State} {x0} (h : Keeps s0 s) : KeepsOut s0 (execLaneRelock x0 s) := by
  unfold execLaneRelock
  with_reducible repeat' first | assumption | apply State.laneTo__keeps | apply State.lockLost_keeps | apply KeepsOut.ite | apply KeepsOut.next

theorem execHeaderErrorLimit_keeps {s0 s : State} {x0 x1} (h : Keeps s0 s) : KeepsOut s0 (execHeaderErrorLimit x0 x1 s) := by
  unfold execHeaderErrorLimit
  with_reducible repeat' first
    | assumption | apply State.laneTo__keeps | apply State.lockLost_keeps | apply State.upTo_keeps | apply KeepsOut.ite | apply KeepsOut.next

theorem State.deliver_keeps {s0 s : State} {x1 x2} (h : Keeps s0 s) : Keeps s0 (State.deliver s x1 x2) := by
  unfold State.deliver
  with_reducible repeat' first | assumption | apply State.decodeArrived_keeps | apply State.put1_keeps | apply State.setLane_keeps | apply Keeps.ite

theorem State.slip_keeps {s0 s : State} {x1 x2} (h : Keeps s0 s) : Keeps s0 (State.slip s x1 x2) := by
  unfold State.slip
  with_reducible repeat' first
    | assumption | apply State.bump1_keeps | apply State.laneEvt_keeps | apply State.runBreak_keeps | apply State.setLane_keeps

theorem State.ebRead_keeps {s0 s : State} {x1} (h : Keeps s0 s) : Keeps s0 (State.ebRead s x1) := by
  unfold State.ebRead
  dsimp only
  with_reducible repeat' first
    | assumption | apply State.bump1_keeps | apply State.deliver_keeps | apply State.setLane_keeps | apply Keeps.ite | split

theorem State.ebBlock_keeps {s0 s : State} {x1 x2 x3} (h : Keeps s0 s) : Keeps s0 (State.ebBlock s x1 x2 x3) := by
  unfold State.ebBlock
  with_reducible repeat' first
    | assumption | intro _ _ _ | intro _ _ | apply State.ebRead_keeps | apply State.put1_keeps | apply State.setLane_keeps | apply State.slip_keeps
    | apply Keeps.ite | apply Keeps.forN

theorem State.hdrError_keeps {s0 s : State} {x1} (h : Keeps s0 s) : Keeps s0 (State.hdrError s x1) := by
  unfold State.hdrError
  with_reducible repeat' first
    | assumption | apply State.bump1_keeps | apply State.laneEvt_keeps | apply State.setLane_keeps | apply Keeps.ite | simp only [Keeps.upd]

theorem State.takeBlock_keeps {s0 s : State} {x1 x2 x3 x4} (h : Keeps s0 s) : Keeps s0 (State.takeBlock s x1 x2 x3 x4) := by
  unfold State.takeBlock
  with_reducible repeat' first
    | assumption | apply State.bump1_keeps | apply State.ebBlock_keeps | apply State.hdrError_keeps | apply State.setLane_keeps | apply Keeps.ite

theorem execBlockReceive_keeps {s0 s : State} {x0 x1 x2 x3} (h : Keeps s0 s) : KeepsOut s0 (execBlockReceive x0 x1 x2 x3 s) := by
  unfold execBlockReceive
  with_reducible repeat' first
    | assumption | apply State.bump1_keeps | apply State.setLane_keeps | apply State.takeBlock_keeps | apply State.upTo_keeps | apply KeepsOut.ite
    | apply KeepsOut.next

theorem State.lockGained_keeps {s0 s : State} {x1} (h : Keeps s0 s) : Keeps s0 (State.lockGained s x1) := by
  unfold State.lockGained
  with_reducible repeat' first
    | assumption | apply State.bump1_keeps | apply State.hankShow_keeps | apply State.laneEvt_keeps | apply State.newEpoch_keeps
    | apply State.put1_keeps | apply State.setLane_keeps

theorem execCommaInterval_keeps {s0 s : State} {x0 x1 x2 x3} (h : Keeps s0 s) : KeepsOut s0 (execCommaInterval x0 x1 x2 x3 s) := by
  unfold execCommaInterval
  with_reducible repeat' first
    | assumption | apply State.bump1_keeps | apply State.laneTo__keeps | apply State.lockGained_keeps | apply State.lockLost_keeps
    | apply State.setLane_keeps | apply State.takeBlock_keeps | apply State.upTo_keeps | apply Keeps.ite | apply KeepsOut.ite | apply KeepsOut.next

theorem State.sendBlock_keeps {s0 s : State} {x1 x2} (h : Keeps s0 s) : Keeps s0 (State.sendBlock s x1 x2) := by
  unfold State.sendBlock
  with_reducible repeat' first | assumption | apply State.emit_keeps

theorem State.sendScrambled_keeps {s0 s : State} {x1 x2 x3} (h : Keeps s0 s) : Keeps s0 (State.sendScrambled s x1 x2 x3) := by
  unfold State.sendScrambled
  with_reducible repeat' first | assumption | apply State.sendBlock_keeps | apply State.setLane_keeps

theorem State.txPrbsBlock_keeps {s0 s : State} {x1} (h : Keeps s0 s) : Keeps s0 (State.txPrbsBlock s x1) := by
  unfold State.txPrbsBlock
  with_reducible repeat' first
    | assumption | apply State.sendBlock_keeps | apply State.setLane_keeps | apply State.takeFree_keeps | apply Keeps.ite_snd

theorem State.txData_keeps {s0 s : State} {x1} (h : Keeps s0 s) : Keeps s0 (State.txData s x1) := by
  unfold State.txData
  with_reducible repeat' first
    | assumption | apply State.sendScrambled_keeps | apply State.setLane_keeps | apply State.takeFree_keeps | apply Keeps.ite_snd

theorem State.txPayload_keeps {s0 s : State} {x1 x2} (h : Keeps s0 s) : Keeps s0 (State.txPayload s x1 x2) := by
  unfold State.txPayload
  with_reducible repeat' first
    | assumption | apply State.sendBlock_keeps | apply State.sendScrambled_keeps | apply State.setLane_keeps | apply State.txData_keeps
    | apply Keeps.ite | split

theorem execTxBlock_keeps {s0 s : State} {x0 x1} (h : Keeps s0 s) : KeepsOut s0 (execTxBlock x0 x1 s) := by
  unfold execTxBlock
  with_reducible repeat' first
    | assumption | apply State.setLane_keeps | apply State.txPayload_keeps | apply State.txPrbsBlock_keeps | apply State.upTo_keeps
    | apply KeepsOut.ite | apply KeepsOut.next

/-! ## Frames -/

theorem State.discard_keeps {s0 s : State} {x1 x2 x3} (h : Keeps s0 s) : Keeps s0 (State.discard s x1 x2 x3) := by
  unfold State.discard
  with_reducible repeat' first
    | assumption | apply State.bump_keeps | apply State.bump1_keeps | apply State.frameEvt_keeps | apply State.put_keeps | split

theorem State.setRx_keeps {s0 s : State} {x1 x2} (h : Keeps s0 s) : Keeps s0 (State.setRx s x1 x2) := by
  unfold State.setRx
  with_reducible repeat' first | assumption | simp only [Keeps.upd]

theorem State.keepTest_keeps {s0 s : State} {x1 x2} (h : Keeps s0 s) : Keeps s0 (State.keepTest s x1 x2) := by
  unfold State.keepTest
  with_reducible repeat' first | assumption | simp only [Keeps.upd]

theorem State.sampleHeader_keeps {s0 s : State} {x1 x2} (h : Keeps s0 s) : Keeps s0 (State.sampleHeader s x1 x2) := by
  unfold State.sampleHeader
  with_reducible repeat' first
    | assumption | apply State.decodeArrived_keeps | apply State.discard_keeps | apply State.gapLog_keeps | apply State.keepTest_keeps
    | apply State.setRx_keeps | apply State.zoomSource_keeps | apply Keeps.ite | simp only [Keeps.upd] | split

theorem State.noteAlive_keeps {s0 s : State} {x1 x2} (h : Keeps s0 s) : Keeps s0 (State.noteAlive s x1 x2) := by
  unfold State.noteAlive
  with_reducible repeat' first | assumption | apply State.newEpoch_keeps | apply Keeps.ite | simp only [Keeps.upd]

theorem State.linkHeader_keeps {s0 s : State} {x1 x2 x3} (h : Keeps s0 s) : Keeps s0 (State.linkHeader s x1 x2 x3) := by
  unfold State.linkHeader
  with_reducible repeat' first
    | assumption | apply State.bump_keeps | apply State.discard_keeps | apply State.noteAlive_keeps | apply State.rxFree_keeps
    | apply State.rxHold_keeps | apply State.setRx_keeps | apply Keeps.ite

theorem State.setRun_keeps {s0 s : State} {x1 x2} (h : Keeps s0 s) : Keeps s0 (State.setRun s x1 x2) := by
  unfold State.setRun
  with_reducible repeat' first | assumption | apply State.setLane_keeps

theorem State.headerStep_keeps {s0 s : State} {x1 x2 x3} (h : Keeps s0 s) : Keeps s0 (State.headerStep s x1 x2 x3) := by
  unfold State.headerStep
  with_reducible repeat' first
    | assumption | apply State.discard_keeps | apply State.linkHeader_keeps | apply State.newEpoch_keeps | apply State.noteAlive_keeps
    | apply State.sampleHeader_keeps | apply State.setRun_keeps | apply State.setRx_keeps | apply Keeps.ite

theorem State.runLeft_keeps {s0 s : State} {x1 x2 x3} (h : Keeps s0 s) : Keeps s0 (State.runLeft s x1 x2 x3) := by
  unfold State.runLeft
  with_reducible repeat' first | assumption | apply State.bump_keeps | apply State.newEpoch_keeps | apply State.setRun_keeps | apply Keeps.ite

theorem execFrameHeader_keeps {s0 s : State} {x0 x1} (h : Keeps s0 s) : KeepsOut s0 (execFrameHeader x0 x1 s) := by
  unfold execFrameHeader
  dsimp only
  with_reducible repeat' first
    | assumption | apply State.headerStep_keeps | apply State.runLeft_keeps | apply State.upTo_keeps | apply Keeps.ite | apply KeepsOut.ite
    | apply KeepsOut.next | split

theorem State.trailerStep_keeps {s0 s : State} {x1 x2 x3 x4} (h : Keeps s0 s) : Keeps s0 (State.trailerStep s x1 x2 x3 x4) := by
  unfold State.trailerStep
  with_reducible repeat' first
    | assumption | apply State.bump_keeps | apply State.decodeArrived_keeps | apply State.frameBad_keeps | apply State.frameEvt_keeps
    | apply State.rxFree_keeps | apply State.setRun_keeps | apply State.setRx_keeps | apply Keeps.ite | simp only [Keeps.upd]

theorem execFrameTrailer_keeps {s0 s : State} {x0 x1} (h : Keeps s0 s) : KeepsOut s0 (execFrameTrailer x0 x1 s) := by
  unfold execFrameTrailer
  dsimp only
  with_reducible repeat' first
    | assumption | apply State.trailerStep_keeps | apply State.upTo_keeps | apply KeepsOut.ite | apply KeepsOut.next | split

theorem State.frameCut_keeps {s0 s : State} {x1 x2 x3 x4} (h : Keeps s0 s) : Keeps s0 (State.frameCut s x1 x2 x3 x4) := by
  unfold State.frameCut
  with_reducible repeat' first
    | assumption | apply State.bump_keeps | apply State.decodeArrived_keeps | apply State.frameBad_keeps | apply State.gapLog_keeps
    | apply State.newEpoch_keeps | apply State.rxFree_keeps | apply State.setRun_keeps | apply State.setRx_keeps | apply Keeps.ite

theorem execFrameTruncated_keeps {s0 s : State} {x0 x1} (h : Keeps s0 s) : KeepsOut s0 (execFrameTruncated x0 x1 s) := by
  unfold execFrameTruncated
  dsimp only
  with_reducible repeat' first | assumption | apply State.frameCut_keeps | apply State.upTo_keeps | apply KeepsOut.ite | apply KeepsOut.next | split

theorem State.classChange_keeps {s0 s : State} {x1 x2} (h : Keeps s0 s) : Keeps s0 (State.classChange s x1 x2) := by
  unfold State.classChange
  with_reducible repeat' first | assumption | apply State.put_keeps | apply Keeps.ite | simp only [Keeps.upd]

theorem State.classArm_keeps {s0 s : State} (h : Keeps s0 s) : Keeps s0 (State.classArm s) := by
  unfold State.classArm
  with_reducible repeat' first | assumption | apply State.put_keeps | simp only [Keeps.upd]

theorem execClassDrainDone_keeps {s0 s : State} {x0} (h : Keeps s0 s) : KeepsOut s0 (execClassDrainDone x0 s) := by
  unfold execClassDrainDone
  with_reducible repeat' first
    | assumption | apply State.frameEvt_keeps | apply State.put_keeps | apply State.upTo_keeps | apply KeepsOut.ite | apply KeepsOut.next

theorem execCreditReceive_keeps {s0 s : State} {x0 x1} (h : Keeps s0 s) : KeepsOut s0 (execCreditReceive x0 x1 s) := by
  unfold execCreditReceive
  with_reducible repeat' first
    | assumption | apply State.bump1_keeps | apply State.frameEvt_keeps | apply State.setLane_keeps | apply State.upTo_keeps | apply KeepsOut.ite
    | apply KeepsOut.next | simp only [Keeps.upd] | split

theorem execCreditSend_keeps {s0 s : State} {x0 x1} (h : Keeps s0 s) : KeepsOut s0 (execCreditSend x0 x1 s) := by
  unfold execCreditSend
  with_reducible repeat' first
    | assumption | apply State.setLane_keeps | apply State.upTo_keeps | apply KeepsOut.ite | apply KeepsOut.next | simp only [Keeps.upd]

theorem State.putWire_keeps {s0 s : State} {x1 x2 x3 x4} (h : Keeps s0 s) : Keeps s0 (State.putWire s x1 x2 x3 x4) := by
  unfold State.putWire
  with_reducible repeat' first | assumption | apply State.bump1_keeps | apply State.setLane_keeps | apply Keeps.ite | simp only [Keeps.upd]

theorem State.waits_keeps {s0 s : State} {x1} (h : Keeps s0 s) : Keeps s0 (State.waits s x1) := by
  unfold State.waits
  with_reducible repeat' first | assumption | apply Keeps.ite | simp only [Keeps.upd]

theorem State.purgeLane_keeps {s0 s : State} {x1} (h : Keeps s0 s) : Keeps s0 (State.purgeLane s x1) := by
  unfold State.purgeLane
  with_reducible repeat' first
    | assumption | intro _ _ _ | intro _ _ | apply State.endRequest_keeps | apply Keeps.ite | apply Keeps.foldl | simp only [Keeps.upd] | split

theorem State.sendLink_keeps {s0 s : State} {x1 x2 x3} (h : Keeps s0 s) : Keeps s0 (State.sendLink s x1 x2 x3) := by
  unfold State.sendLink
  with_reducible repeat' first | assumption | apply State.putWire_keeps | simp only [Keeps.upd]

theorem State.sendOut_keeps {s0 s : State} {x1 x2 x3} (h : Keeps s0 s) : Keeps s0 (State.sendOut s x1 x2 x3) := by
  unfold State.sendOut
  with_reducible repeat' first
    | assumption | apply State.bump_keeps | apply State.foxEvt_keeps | apply State.itemSent_keeps | apply State.putWire_keeps | apply Keeps.ite
    | simp only [Keeps.upd]

theorem State.mirrorPack_keeps {s0 s : State} {x1} (h : Keeps s0 s) : Keeps s0 (State.mirrorPack s x1) := by
  unfold State.mirrorPack
  with_reducible repeat' first | assumption | apply State.queueLane_keeps | apply Keeps.ite | simp only [Keeps.upd]

theorem execFrameTransmit_keeps {s0 s : State} {x0 x1} (h : Keeps s0 s) : KeepsOut s0 (execFrameTransmit x0 x1 s) := by
  unfold execFrameTransmit
  with_reducible repeat' first
    | assumption | apply State.mirrorPack_keeps | apply State.purgeLane_keeps | apply State.sendLink_keeps | apply State.sendOut_keeps
    | apply State.upTo_keeps | apply State.waits_keeps | apply Keeps.ite | apply KeepsOut.ite | apply KeepsOut.next | split

theorem State.framesReset_keeps {s0 s : State} (h : Keeps s0 s) : Keeps s0 (State.framesReset s) := by
  unfold State.framesReset
  with_reducible repeat' first | assumption | apply State.put_keeps | simp only [Keeps.upd]

/-! ## Mesh -/

theorem State.complete_keeps {s0 s : State} {x1 x2 x3 x4} (h : Keeps s0 s) : Keeps s0 (State.complete s x1 x2 x3 x4) := by
  unfold State.complete
  with_reducible repeat' first | assumption | apply State.queueLane_keeps

theorem State.servePeer_keeps {s0 s : State} {x1 x2} (h : Keeps s0 s) : Keeps s0 (State.servePeer s x1 x2) := by
  unfold State.servePeer
  with_reducible repeat' first
    | assumption | apply State.complete_keeps | apply State.segRead_keeps | apply State.segWrite_keeps | apply Keeps.ite | split

theorem execMeshRequest_keeps {s0 s : State} {x0 x1} (h : Keeps s0 s) : KeepsOut s0 (execMeshRequest x0 x1 s) := by
  unfold execMeshRequest
  dsimp only
  with_reducible repeat' first
    | assumption | refine State.rxTake_keeps ?_ (by assumption) | apply State.servePeer_keeps | apply State.upTo_keeps | apply Keeps.ite
    | apply KeepsOut.next | split

theorem execCompletionReceive_keeps {s0 s : State} {x0 x1} (h : Keeps s0 s) : KeepsOut s0 (execCompletionReceive x0 x1 s) := by
  unfold execCompletionReceive
  dsimp only
  with_reducible repeat' first
    | assumption | refine State.rxTake_keeps ?_ (by assumption) | apply State.bump_keeps | apply State.endRequest_keeps | apply State.frameEvt_keeps
    | apply State.takeFree_keeps | apply State.upTo_keeps | apply KeepsOut.ite | apply KeepsOut.next | split

theorem execNpTimeout_keeps {s0 s : State} {x0} (h : Keeps s0 s) : KeepsOut s0 (execNpTimeout x0 s) := by
  unfold execNpTimeout
  with_reducible repeat' first
    | assumption | intro _ _ _ | intro _ _ | apply State.bump_keeps | apply State.endRequest_keeps | apply State.frameEvt_keeps
    | apply State.upTo_keeps | apply KeepsOut.next | apply Keeps.foldl

theorem execAnnounceSend_keeps {s0 s : State} {x0 x1} (h : Keeps s0 s) : KeepsOut s0 (execAnnounceSend x0 x1 s) := by
  unfold execAnnounceSend
  with_reducible repeat' first
    | assumption | apply State.queueLane_keeps | apply State.upTo_keeps | apply KeepsOut.ite | apply KeepsOut.next | simp only [Keeps.upd]

theorem State.announceTake_keeps {s0 s : State} {x1 x2} (h : Keeps s0 s) : Keeps s0 (State.announceTake s x1 x2) := by
  unfold State.announceTake
  with_reducible repeat' first | assumption | apply State.meshEvt_keeps | apply State.setBit_keeps | apply Keeps.ite | simp only [Keeps.upd]

theorem execAnnounceReceive_keeps {s0 s : State} {x0 x1} (h : Keeps s0 s) : KeepsOut s0 (execAnnounceReceive x0 x1 s) := by
  unfold execAnnounceReceive
  dsimp only
  with_reducible repeat' first
    | assumption | refine State.rxTake_keeps ?_ (by assumption) | apply State.announceTake_keeps | apply State.upTo_keeps | apply KeepsOut.next
    | split

theorem execMeshArm_keeps {s0 s : State} {x0} (h : Keeps s0 s) : KeepsOut s0 (execMeshArm x0 s) := by
  unfold execMeshArm
  with_reducible repeat' first
    | assumption | apply State.meshEvt_keeps | apply State.put_keeps | apply State.upTo_keeps | apply KeepsOut.ite | apply KeepsOut.next
    | simp only [Keeps.upd]

theorem execMeshCancel_keeps {s0 s : State} (h : Keeps s0 s) : KeepsOut s0 (execMeshCancel s) := by
  unfold execMeshCancel
  with_reducible repeat' first | assumption | apply State.put_keeps | apply KeepsOut.next | simp only [Keeps.upd]

theorem State.endNodes_keeps {s0 s : State} {x1} (h : Keeps s0 s) : Keeps s0 (State.endNodes s x1) := by
  unfold State.endNodes
  with_reducible repeat' first
    | assumption | intro _ _ _ | intro _ _ | apply State.emit_keeps | apply State.endRequest_keeps | apply Keeps.foldl | simp only [Keeps.upd]

theorem execLayoutApply_keeps {s0 s : State} {x0} (h : Keeps s0 s) : KeepsOut s0 (execLayoutApply x0 s) := by
  unfold execLayoutApply
  with_reducible repeat' first
    | assumption | apply State.endNodes_keeps | apply State.meshEvt_keeps | apply State.put_keeps | apply State.upTo_keeps | apply KeepsOut.ite
    | apply KeepsOut.next | simp only [Keeps.upd] | split

theorem State.groupFrames_keeps {s0 s : State} {x1 x2 x3 x4 x5 x6} (h : Keeps s0 s) : Keeps s0 (State.groupFrames s x1 x2 x3 x4 x5 x6).2 := by
  unfold State.groupFrames
  with_reducible repeat' first
    | assumption | intro _ _ _ | intro _ _ | apply State.exclude_keeps | apply State.readBlock_keeps | apply Keeps.ite | apply Keeps.ite_snd_snd
    | apply Keeps.foldl_snd_snd

theorem State.operandSend_keeps {s0 s : State} {x1} (h : Keeps s0 s) : Keeps s0 (State.operandSend s x1) := by
  unfold State.operandSend
  with_reducible repeat' first
    | assumption | intro _ _ _ | intro _ _ | apply State.groupFrames_keeps | apply State.queueLane_keeps | apply Keeps.ite | apply Keeps.foldl
    | apply Keeps.forN | simp only [Keeps.upd] | split

theorem State.summarySend_keeps {s0 s : State} {x1} (h : Keeps s0 s) : Keeps s0 (State.summarySend s x1) := by
  unfold State.summarySend
  with_reducible repeat' first
    | assumption | intro _ _ _ | intro _ _ | apply State.queueLane_keeps | apply Keeps.ite | apply Keeps.foldl | apply Keeps.forN
    | simp only [Keeps.upd] | split

theorem State.learnHome_keeps {s0 s : State} {x1 x2} (h : Keeps s0 s) : Keeps s0 (State.learnHome s x1 x2) := by
  unfold State.learnHome
  with_reducible repeat' first | assumption | simp only [Keeps.upd]

theorem State.remoteBytes_keeps {s0 s : State} {x1 x2 x3 x4 x5 x6} (h : Keeps s0 s) : Keeps s0 (State.remoteBytes s x1 x2 x3 x4 x5 x6) := by
  unfold State.remoteBytes
  with_reducible repeat' first | assumption | apply State.spaceWrite_keeps | apply Keeps.ite | simp only [Keeps.upd]

theorem State.operandTake_keeps {s0 s : State} {x1 x2} (h : Keeps s0 s) : Keeps s0 (State.operandTake s x1 x2) := by
  unfold State.operandTake
  with_reducible repeat' first
    | assumption | intro _ _ _ | intro _ _ | apply State.learnHome_keeps | apply State.remoteBytes_keeps | apply Keeps.ite | apply Keeps.foldl_snd

theorem execMeshOperand_keeps {s0 s : State} {x0 x1} (h : Keeps s0 s) : KeepsOut s0 (execMeshOperand x0 x1 s) := by
  unfold execMeshOperand
  dsimp only
  with_reducible repeat' first
    | assumption | refine State.rxTake_keeps ?_ (by assumption) | apply State.operandTake_keeps | apply State.upTo_keeps | apply KeepsOut.next | split

theorem State.summaryTake_keeps {s0 s : State} {x1 x2} (h : Keeps s0 s) : Keeps s0 (State.summaryTake s x1 x2) := by
  unfold State.summaryTake
  with_reducible repeat' first
    | assumption | intro _ _ _ | intro _ _ | apply State.exclude_keeps | apply State.learnHome_keeps | apply State.takeFree_keeps | apply Keeps.foldl
    | simp only [Keeps.upd] | split

theorem execSummaryReceive_keeps {s0 s : State} {x0 x1} (h : Keeps s0 s) : KeepsOut s0 (execSummaryReceive x0 x1 s) := by
  unfold execSummaryReceive
  dsimp only
  with_reducible repeat' first
    | assumption | refine State.rxTake_keeps ?_ (by assumption) | apply State.summaryTake_keeps | apply State.upTo_keeps | apply KeepsOut.next | split

theorem State.summaryMiss_keeps {s0 s : State} {x1 x2 x3} (h : Keeps s0 s) : Keeps s0 (State.summaryMiss s x1 x2 x3) := by
  unfold State.summaryMiss
  with_reducible repeat' first | assumption | intro _ _ _ | intro _ _ | apply State.exclude_keeps | apply Keeps.foldl | split

theorem execSummaryTimeout_keeps {s0 s : State} {x0 x1} (h : Keeps s0 s) : KeepsOut s0 (execSummaryTimeout x0 x1 s) := by
  unfold execSummaryTimeout
  with_reducible repeat' first
    | assumption | intro _ _ _ | intro _ _ | apply State.summaryMiss_keeps | apply State.upTo_keeps | apply KeepsOut.ite | apply KeepsOut.next
    | apply Keeps.forN

theorem State.fillLost_keeps {s0 s : State} {x1 x2} (h : Keeps s0 s) : Keeps s0 (State.fillLost s x1 x2) := by
  unfold State.fillLost
  with_reducible repeat' first
    | assumption | intro _ _ _ | intro _ _ | apply State.exclude_keeps | apply State.spaceWrite_keeps | apply Keeps.ite | apply Keeps.foldl
    | apply Keeps.forN | simp only [Keeps.upd] | split

theorem State.fillAllLost_keeps {s0 s : State} {x1} (h : Keeps s0 s) : Keeps s0 (State.fillAllLost s x1) := by
  unfold State.fillAllLost
  with_reducible repeat' first | assumption | intro _ _ _ | intro _ _ | apply State.fillLost_keeps | apply Keeps.ite | apply Keeps.foldl

theorem State.nodeGone_keeps {s0 s : State} {x1} (h : Keeps s0 s) : Keeps s0 (State.nodeGone s x1) := by
  unfold State.nodeGone
  with_reducible repeat' first
    | assumption | intro _ _ _ | intro _ _ | apply State.endNodes_keeps | apply State.fillLost_keeps | apply State.ledCount_keeps
    | apply State.meshEvt_keeps | apply State.setBit_keeps | apply Keeps.ite | apply Keeps.foldl | simp only [Keeps.upd]

theorem execNodeLost_keeps {s0 s : State} {x0 x1} (h : Keeps s0 s) : KeepsOut s0 (execNodeLost x0 x1 s) := by
  unfold execNodeLost
  with_reducible repeat' first | assumption | apply State.nodeGone_keeps | apply State.upTo_keeps | apply KeepsOut.ite | apply KeepsOut.next

/-! ## Pairing -/

theorem State.sendHeld_keeps {s0 s : State} (h : Keeps s0 s) : Keeps s0 (State.sendHeld s) := by
  unfold State.sendHeld
  with_reducible repeat' first
    | assumption | intro _ _ _ | intro _ _ | apply State.writeHeld_keeps | apply State.writeItem_keeps | apply Keeps.foldl | simp only [Keeps.upd]

theorem State.goActive_keeps {s0 s : State} (h : Keeps s0 s) : Keeps s0 (State.goActive s) := by
  unfold State.goActive
  with_reducible repeat' first
    | assumption | apply State.bump_keeps | apply State.ledCount_keeps | apply State.pairEvt_keeps | apply State.put_keeps
    | apply State.sendHeld_keeps

theorem State.fence_keeps {s0 s : State} (h : Keeps s0 s) : Keeps s0 (State.fence s) := by
  unfold State.fence
  with_reducible repeat' first | assumption | apply State.pairEvt_keeps | apply State.put_keeps

theorem State.sideOff__keeps {s0 s : State} (h : Keeps s0 s) : Keeps s0 (State.sideOff_ s) := by
  unfold State.sideOff_
  with_reducible repeat' first | assumption | apply State.pairEvt_keeps | apply State.put_keeps | apply Keeps.ite | simp only [Keeps.upd]

theorem State.sideRun_keeps {s0 s : State} (h : Keeps s0 s) : Keeps s0 (State.sideRun s) := by
  unfold State.sideRun
  with_reducible repeat' first | assumption | apply State.put_keeps | apply Keeps.ite | simp only [Keeps.upd]

theorem State.sideStop_keeps {s0 s : State} (h : Keeps s0 s) : Keeps s0 (State.sideStop s) := by
  unfold State.sideStop
  with_reducible repeat' first | assumption | apply State.sideOff__keeps | apply Keeps.ite

theorem State.pairReset_keeps {s0 s : State} (h : Keeps s0 s) : Keeps s0 (State.pairReset s) := by
  unfold State.pairReset
  with_reducible repeat' first | assumption | apply State.put_keeps | apply State.sideOff__keeps | simp only [Keeps.upd]

theorem State.stayActive_keeps {s0 s : State} (h : Keeps s0 s) : Keeps s0 (State.stayActive s) := by
  unfold State.stayActive
  with_reducible repeat' first | assumption | apply State.put_keeps

theorem State.grant_keeps {s0 s : State} {x1 x2} (h : Keeps s0 s) : Keeps s0 (State.grant s x1 x2) := by
  unfold State.grant
  with_reducible repeat' first
    | assumption | apply State.fence_keeps | apply State.goActive_keeps | apply State.put_keeps | apply State.stayActive_keeps | apply Keeps.ite
    | simp only [Keeps.upd]

theorem execLeaseEnd_keeps {s0 s : State} {x0} (h : Keeps s0 s) : KeepsOut s0 (execLeaseEnd x0 s) := by
  unfold execLeaseEnd
  with_reducible repeat' first
    | assumption | apply State.fence_keeps | apply State.upTo_keeps | apply KeepsOut.ite | apply KeepsOut.next | simp only [Keeps.upd]

theorem execPairGrantEnd_keeps {s0 s : State} {x0 x1} (h : Keeps s0 s) : KeepsOut s0 (execPairGrantEnd x0 x1 s) := by
  unfold execPairGrantEnd
  with_reducible repeat' first
    | assumption | apply State.grant_keeps | apply State.put_keeps | apply State.upTo_keeps | apply KeepsOut.ite | apply KeepsOut.next

theorem State.mgmtHeartbeat_keeps {s0 s : State} (h : Keeps s0 s) : Keeps s0 (State.mgmtHeartbeat s) := by
  unfold State.mgmtHeartbeat
  with_reducible repeat' first | assumption | apply State.bump_keeps | apply Keeps.ite | simp only [Keeps.upd]

theorem State.heartbeat_keeps {s0 s : State} (h : Keeps s0 s) : Keeps s0 (State.heartbeat s) := by
  unfold State.heartbeat
  with_reducible repeat' first
    | assumption | intro _ _ _ | intro _ _ | apply State.mgmtHeartbeat_keeps | apply State.queueLane_keeps | apply State.wrap_keeps
    | apply Keeps.foldl | simp only [Keeps.upd]

theorem execHeartbeatSend_keeps {s0 s : State} {x0} (h : Keeps s0 s) : KeepsOut s0 (execHeartbeatSend x0 s) := by
  unfold execHeartbeatSend
  with_reducible repeat' first | assumption | apply State.heartbeat_keeps | apply State.upTo_keeps | apply KeepsOut.ite | apply KeepsOut.next

theorem State.arbGrant_keeps {s0 s : State} {x1} (h : Keeps s0 s) : Keeps s0 (State.arbGrant s x1) := by
  unfold State.arbGrant
  with_reducible repeat' first | assumption | apply State.heartbeat_keeps | simp only [Keeps.upd]

theorem State.arbChoose_keeps {s0 s : State} (h : Keeps s0 s) : Keeps s0 (State.arbChoose s) := by
  unfold State.arbChoose
  with_reducible repeat' first | assumption | apply State.arbGrant_keeps | apply Keeps.ite | split

theorem State.arbBeat_keeps {s0 s : State} {x1 x2 x3 x4} (h : Keeps s0 s) : Keeps s0 (State.arbBeat s x1 x2 x3 x4) := by
  unfold State.arbBeat
  with_reducible repeat' first | assumption | apply State.arbChoose_keeps | apply State.heartbeat_keeps | apply Keeps.ite | simp only [Keeps.upd]

theorem State.partnerBeat_keeps {s0 s : State} {x1 x2 x3 x4 x5} (h : Keeps s0 s) : Keeps s0 (State.partnerBeat s x1 x2 x3 x4 x5) := by
  unfold State.partnerBeat
  with_reducible repeat' first
    | assumption | apply State.pairEvt_keeps | apply State.put_keeps | apply State.toSyncing_keeps | apply Keeps.ite | simp only [Keeps.upd]

theorem State.beatTake_keeps {s0 s t : State} {l h p} (k : Keeps s0 s) (e : s.beatTake l = some (h, p, t)) : Keeps s0 t := by
  unfold State.beatTake at e
  split at e
  · split at e <;> cases e
    exact State.rxTake_keeps k (by assumption)
  · split at e <;> cases e
    simp only [Keeps.upd]; exact k

theorem State.beatHeard_keeps {s0 s : State} {x1 x2} (h : Keeps s0 s) : Keeps s0 (State.beatHeard s x1 x2) := by
  unfold State.beatHeard
  with_reducible repeat' first
    | assumption | apply State.arbBeat_keeps | apply State.grant_keeps | apply State.partnerBeat_keeps | apply Keeps.ite | simp only [Keeps.upd]

theorem execHeartbeatReceive_keeps {s0 s : State} {x0 x1} (h : Keeps s0 s) : KeepsOut s0 (execHeartbeatReceive x0 x1 s) := by
  unfold execHeartbeatReceive
  dsimp only
  with_reducible repeat' first
    | assumption | refine State.beatTake_keeps ?_ (by assumption) | apply State.beatHeard_keeps | apply State.upTo_keeps | apply KeepsOut.next | split

theorem execArbiterTimeout_keeps {s0 s : State} {x0} (h : Keeps s0 s) : KeepsOut s0 (execArbiterTimeout x0 s) := by
  unfold execArbiterTimeout
  with_reducible repeat' first
    | assumption | apply State.arbChoose_keeps | apply State.arbGrant_keeps | apply State.upTo_keeps | apply Keeps.ite | apply KeepsOut.ite
    | apply KeepsOut.next | simp only [Keeps.upd] | split

theorem execPartnerLost_keeps {s0 s : State} {x0} (h : Keeps s0 s) : KeepsOut s0 (execPartnerLost x0 s) := by
  unfold execPartnerLost
  with_reducible repeat' first
    | assumption | apply State.pairEvt_keeps | apply State.upTo_keeps | apply KeepsOut.ite | apply KeepsOut.next | simp only [Keeps.upd]

theorem execArbiterLost_keeps {s0 s : State} {x0} (h : Keeps s0 s) : KeepsOut s0 (execArbiterLost x0 s) := by
  unfold execArbiterLost
  with_reducible repeat' first
    | assumption | apply State.pairEvt_keeps | apply State.upTo_keeps | apply KeepsOut.ite | apply KeepsOut.next | simp only [Keeps.upd]

theorem execEmittedSend_keeps {s0 s : State} {x0} (h : Keeps s0 s) : KeepsOut s0 (execEmittedSend x0 s) := by
  unfold execEmittedSend
  with_reducible repeat' first
    | assumption | intro _ _ _ | intro _ _ | apply State.mirrorRec_keeps | apply State.upTo_keeps | apply KeepsOut.ite | apply KeepsOut.next
    | apply Keeps.foldl | simp only [Keeps.upd]

theorem execPairResync_keeps {s0 s : State} (h : Keeps s0 s) : KeepsOut s0 (execPairResync s) := by
  unfold execPairResync
  with_reducible repeat' first | assumption | apply State.toSyncing_keeps | apply Keeps.ite | apply KeepsOut.next

theorem execPairSolo_keeps {s0 s : State} (h : Keeps s0 s) : KeepsOut s0 (execPairSolo s) := by
  unfold execPairSolo
  with_reducible repeat' first
    | assumption | apply State.put_keeps | apply State.sendHeld_keeps | apply State.sideStop_keeps | apply Keeps.ite | apply KeepsOut.next

theorem State.itemsAt_keeps {s0 s : State} {x1} (h : Keeps s0 s) : Keeps s0 (State.itemsAt s x1) := by
  unfold State.itemsAt
  with_reducible repeat' first | assumption | simp only [Keeps.upd]

theorem State.resyncSpan_keeps {s0 s : State} {x1} (h : Keeps s0 s) : Keeps s0 (State.resyncSpan s x1) := by
  unfold State.resyncSpan
  with_reducible repeat' first
    | assumption | apply State.itemsAt_keeps | apply State.pairEvt_keeps | apply State.put_keeps | apply Keeps.ite | simp only [Keeps.upd] | split

theorem execStandbySelfTest_keeps {s0 s : State} {x0} (h : Keeps s0 s) : KeepsOut s0 (execStandbySelfTest x0 s) := by
  unfold execStandbySelfTest
  with_reducible repeat' first
    | assumption | apply State.testBegins_keeps | apply State.upTo_keeps | apply KeepsOut.ite | apply KeepsOut.next | simp only [Keeps.upd] | split

theorem State.mboxRetry_keeps {s0 s : State} (h : Keeps s0 s) : Keeps s0 (State.mboxRetry s) := by
  unfold State.mboxRetry
  with_reducible repeat' first | assumption | apply State.put_keeps | apply State.takeFree_keeps | apply Keeps.ite | simp only [Keeps.upd]

theorem State.takeover_keeps {s0 s : State} (h : Keeps s0 s) : Keeps s0 (State.takeover s) := by
  unfold State.takeover
  with_reducible repeat' first
    | assumption | apply State.bump_keeps | apply State.ledCount_keeps | apply State.mboxRetry_keeps | apply State.put_keeps | apply State.raise_keeps

/-! ## Maps -/

theorem State.mapBuilt_keeps {s0 s : State} {x1} (h : Keeps s0 s) : Keeps s0 (State.mapBuilt s x1) := by
  unfold State.mapBuilt
  with_reducible repeat' first | assumption | apply State.cacheClear_keeps | apply State.put_keeps | apply State.writeRegion_keeps

theorem execMapBuildDone_keeps {s0 s : State} (h : Keeps s0 s) : KeepsOut s0 (execMapBuildDone s) := by
  unfold execMapBuildDone
  with_reducible repeat' first | assumption | apply State.mapBuilt_keeps | apply KeepsOut.ite | apply KeepsOut.next | simp only [Keeps.upd] | split

theorem State.mapReset_keeps {s0 s : State} (h : Keeps s0 s) : Keeps s0 (State.mapReset s) := by
  unfold State.mapReset
  with_reducible repeat' first
    | assumption | apply State.cacheClear_keeps | apply State.defaultPlace_keeps | apply State.put_keeps | simp only [Keeps.upd]

theorem State.invalidate_keeps {s0 s : State} {x1} (h : Keeps s0 s) : Keeps s0 (State.invalidate s x1) := by
  unfold State.invalidate
  with_reducible repeat' first | assumption | apply State.bump_keeps | apply State.put_keeps | apply Keeps.ite | simp only [Keeps.upd]

theorem execInvGo_keeps {s0 s : State} {x0} (h : Keeps s0 s) : KeepsOut s0 (execInvGo x0 s) := by
  unfold execInvGo
  with_reducible repeat' first | assumption | apply State.invalidate_keeps | apply State.put_keeps | apply KeepsOut.next

theorem execInvAll_keeps {s0 s : State} (h : Keeps s0 s) : KeepsOut s0 (execInvAll s) := by
  unfold execInvAll
  with_reducible repeat' first | assumption | apply State.invalidate_keeps | apply KeepsOut.next

theorem execInvDone_keeps {s0 s : State} (h : Keeps s0 s) : KeepsOut s0 (execInvDone s) := by
  unfold execInvDone
  with_reducible repeat' first | assumption | apply State.put_keeps | apply State.storeEvt_keeps | apply KeepsOut.ite | apply KeepsOut.next

theorem execStoreOpen_keeps {s0 s : State} (h : Keeps s0 s) : KeepsOut s0 (execStoreOpen s) := by
  unfold execStoreOpen
  with_reducible repeat' first
    | assumption | apply State.cacheClear_keeps | apply State.put_keeps | apply State.storeEvt_keeps | apply KeepsOut.ite | apply KeepsOut.next

theorem State.walksDead_keeps {s0 s : State} (h : Keeps s0 s) : Keeps s0 (State.walksDead s) := by
  unfold State.walksDead
  with_reducible repeat' first | assumption | simp only [Keeps.upd]

theorem State.storeRemap_keeps {s0 s : State} (h : Keeps s0 s) : Keeps s0 (State.storeRemap s) := by
  unfold State.storeRemap
  with_reducible repeat' first
    | assumption | apply State.cacheClear_keeps | apply State.put_keeps | apply State.storeEvt_keeps | apply State.walksDead_keeps | apply Keeps.ite
    | simp only [Keeps.upd]

theorem State.storeClose_keeps {s0 s : State} {x1} (h : Keeps s0 s) : Keeps s0 (State.storeClose s x1) := by
  unfold State.storeClose
  with_reducible repeat' first
    | assumption | apply State.cacheClear_keeps | apply State.put_keeps | apply State.storeEvt_keeps | apply State.walksDead_keeps | apply Keeps.ite

theorem execStoreFaultPop_keeps {s0 s : State} (h : Keeps s0 s) : KeepsOut s0 (execStoreFaultPop s) := by
  unfold execStoreFaultPop
  with_reducible repeat' first | assumption | apply State.put_keeps | apply KeepsOut.next | simp only [Keeps.upd]

end Sys2Proof.Machine
end

