-- ==== Sys2Proof/Laws/KeepsDraft.lean ====
section
/-!
SUPPORT. `Keeps` for every operation of the timebase, capture, the Draft and the spans.
-/

namespace Sys2Proof.Machine

/-! ## Timebase -/

theorem State.retime_keeps {s0 s : State} {x1} (h : Keeps s0 s) : Keeps s0 (State.retime s x1) := by
  unfold State.retime
  with_reducible repeat' first | assumption | simp only [Keeps.upd]

theorem State.gate_keeps {s0 s : State} {x1 x2} (h : Keeps s0 s) : Keeps s0 (State.gate s x1 x2) := by
  unfold State.gate
  with_reducible repeat' first
    | assumption | apply State.noteRate_keeps | apply State.put1_keeps | apply State.qual_keeps | apply State.unqual_keeps
    | apply State.withTime_keeps | apply Keeps.ite | split

theorem State.edgeLoss_keeps {s0 s : State} {x1} (h : Keeps s0 s) : Keeps s0 (State.edgeLoss s x1) := by
  unfold State.edgeLoss
  with_reducible repeat' first | assumption | apply State.put1_keeps | apply State.unqual_keeps | apply Keeps.ite

theorem State.wtrSecond_keeps {s0 s : State} {x1} (h : Keeps s0 s) : Keeps s0 (State.wtrSecond s x1) := by
  unfold State.wtrSecond
  with_reducible repeat' first | assumption | apply State.put1_keeps | apply State.qual_keeps | apply State.withTime_keeps | apply Keeps.ite

theorem State.refCycle_keeps {s0 s : State} {x1 x2 x3} (h : Keeps s0 s) : Keeps s0 (State.refCycle s x1 x2 x3) := by
  unfold State.refCycle
  with_reducible repeat' first
    | assumption | intro _ _ _ | intro _ _ | apply State.edgeLoss_keeps | apply State.gate_keeps | apply State.select_keeps
    | apply State.wtrSecond_keeps | apply Keeps.ite | apply Keeps.foldl

theorem execRefGate_keeps {s0 s : State} {x0 x1 x2} (h : Keeps s0 s) : KeepsOut s0 (execRefGate x0 x1 x2 s) := by
  unfold execRefGate
  with_reducible repeat' first | assumption | apply State.refCycle_keeps | apply State.upTo_keeps | apply KeepsOut.next

theorem execRefEdgeLoss_keeps {s0 s : State} {x0 x1} (h : Keeps s0 s) : KeepsOut s0 (execRefEdgeLoss x0 x1 s) := by
  unfold execRefEdgeLoss
  with_reducible repeat' first | assumption | apply State.refCycle_keeps | apply State.upTo_keeps | apply KeepsOut.next

theorem execWtrTick_keeps {s0 s : State} {x0 x1} (h : Keeps s0 s) : KeepsOut s0 (execWtrTick x0 x1 s) := by
  unfold execWtrTick
  with_reducible repeat' first | assumption | apply State.refCycle_keeps | apply State.upTo_keeps | apply KeepsOut.next

theorem State.pullTo_keeps {s0 s : State} {x1} (h : Keeps s0 s) : Keeps s0 (State.pullTo s x1) := by
  unfold State.pullTo
  with_reducible repeat' first | assumption | apply State.setTb_keeps | apply State.startPull_keeps | apply Keeps.ite

theorem State.ppsLost_keeps {s0 s : State} {x1} (h : Keeps s0 s) : Keeps s0 (State.ppsLost s x1) := by
  unfold State.ppsLost
  with_reducible repeat' first
    | assumption | apply State.put1_keeps | apply State.select_keeps | apply State.timeEvt_keeps | apply State.withTime_keeps | apply Keeps.ite

theorem State.setNow_keeps {s0 s : State} {x1} (h : Keeps s0 s) : Keeps s0 (State.setNow s x1) := by
  unfold State.setNow
  with_reducible repeat' first | assumption | apply State.retime_keeps | simp only [Keeps.upd]

theorem execPpsEdge_keeps {s0 s : State} {x0 x1 x2} (h : Keeps s0 s) : KeepsOut s0 (execPpsEdge x0 x1 x2 s) := by
  unfold execPpsEdge
  with_reducible repeat' first
    | assumption | apply State.ppsLost_keeps | apply State.pullTo_keeps | apply State.put1_keeps | apply State.select_keeps | apply State.setNow_keeps
    | apply State.startPull_keeps | apply State.upTo_keeps | apply State.withTime_keeps | apply Keeps.ite | apply KeepsOut.ite | apply KeepsOut.next
    | split

theorem execPpsMissing_keeps {s0 s : State} {x0 x1} (h : Keeps s0 s) : KeepsOut s0 (execPpsMissing x0 x1 s) := by
  unfold execPpsMissing
  with_reducible repeat' first
    | assumption | apply State.ppsLost_keeps | apply State.upTo_keeps | apply State.withTime_keeps | apply KeepsOut.ite | apply KeepsOut.next

theorem State.jump_keeps {s0 s : State} {x1} (h : Keeps s0 s) : Keeps s0 (State.jump s x1) := by
  unfold State.jump
  with_reducible repeat' first | assumption | apply State.retime_keeps | simp only [Keeps.upd]

theorem execFreqLock_keeps {s0 s : State} {x0} (h : Keeps s0 s) : KeepsOut s0 (execFreqLock x0 s) := by
  unfold execFreqLock
  with_reducible repeat' first
    | assumption | apply State.jump_keeps | apply State.setTb_keeps | apply State.startPull_keeps | apply State.upTo_keeps | apply KeepsOut.ite
    | apply KeepsOut.next

theorem execPullDone_keeps {s0 s : State} {x0} (h : Keeps s0 s) : KeepsOut s0 (execPullDone x0 s) := by
  unfold execPullDone
  with_reducible repeat' first
    | assumption | apply State.setTb_keeps | apply State.startPull_keeps | apply State.timeEvt_keeps | apply State.upTo_keeps | apply KeepsOut.ite
    | apply KeepsOut.next

theorem execTimeSet_keeps {s0 s : State} {x0 x1} (h : Keeps s0 s) : KeepsOut s0 (execTimeSet x0 x1 s) := by
  unfold execTimeSet
  with_reducible repeat' first
    | assumption | apply State.bump_keeps | apply State.put_keeps | apply State.setNow_keeps | apply State.startPull_keeps | apply State.upTo_keeps
    | apply State.withTime_keeps | apply Keeps.ite | apply KeepsOut.ite | apply KeepsOut.next

theorem execTimeStep_keeps {s0 s : State} {x0 x1} (h : Keeps s0 s) : KeepsOut s0 (execTimeStep x0 x1 s) := by
  unfold execTimeStep
  with_reducible repeat' first
    | assumption | apply State.jump_keeps | apply State.put_keeps | apply State.setTb_keeps | apply State.startPull_keeps | apply State.upTo_keeps
    | apply Keeps.ite | apply KeepsOut.ite | apply KeepsOut.next

theorem State.netDeliver_keeps {s0 s : State} {x1} (h : Keeps s0 s) : Keeps s0 (State.netDeliver s x1) := by
  unfold State.netDeliver
  with_reducible repeat' first
    | assumption | apply State.noteRate_keeps | apply State.put_keeps | apply State.put1_keeps | apply State.qual_keeps | apply State.select_keeps
    | apply State.setTb_keeps | apply State.startPull_keeps | apply State.withTime_keeps | apply Keeps.ite

theorem execTimeNetAdj_keeps {s0 s : State} {x0 x1} (h : Keeps s0 s) : KeepsOut s0 (execTimeNetAdj x0 x1 s) := by
  unfold execTimeNetAdj
  with_reducible repeat' first | assumption | apply State.netDeliver_keeps | apply State.upTo_keeps | apply KeepsOut.ite | apply KeepsOut.next

theorem State.netLost_keeps {s0 s : State} (h : Keeps s0 s) : Keeps s0 (State.netLost s) := by
  unfold State.netLost
  with_reducible repeat' first
    | assumption | apply State.put1_keeps | apply State.select_keeps | apply State.timeEvt_keeps | apply State.unqual_keeps
    | apply State.withTime_keeps

theorem execNetTimeout_keeps {s0 s : State} {x0} (h : Keeps s0 s) : KeepsOut s0 (execNetTimeout x0 s) := by
  unfold execNetTimeout
  with_reducible repeat' first | assumption | apply State.netLost_keeps | apply State.upTo_keeps | apply KeepsOut.ite | apply KeepsOut.next

theorem execXoFault_keeps {s0 s : State} {x0} (h : Keeps s0 s) : KeepsOut s0 (execXoFault x0 s) := by
  unfold execXoFault
  with_reducible repeat' first
    | assumption | apply State.put_keeps | apply State.setTb_keeps | apply State.startPull_keeps | apply State.timeEvt_keeps | apply State.upTo_keeps
    | apply KeepsOut.ite | apply KeepsOut.next

theorem execBeaconSend_keeps {s0 s : State} {x0 x1} (h : Keeps s0 s) : KeepsOut s0 (execBeaconSend x0 x1 s) := by
  unfold execBeaconSend
  with_reducible repeat' first
    | assumption | apply State.queueLane_keeps | apply State.upTo_keeps | apply State.withTime_keeps | apply KeepsOut.ite | apply KeepsOut.next

theorem execBeaconReceive_keeps {s0 s : State} {x0 x1 x2} (h : Keeps s0 s) : KeepsOut s0 (execBeaconReceive x0 x1 x2 s) := by
  unfold execBeaconReceive
  dsimp only
  with_reducible repeat' first
    | assumption | refine State.rxTake_keeps ?_ (by assumption) | apply State.upTo_keeps | apply State.withTime_keeps | apply KeepsOut.ite
    | apply KeepsOut.next | split

theorem execBeaconChoice_keeps {s0 s : State} {x0} (h : Keeps s0 s) : KeepsOut s0 (execBeaconChoice x0 s) := by
  unfold execBeaconChoice
  dsimp only
  with_reducible repeat' first
    | assumption | apply State.netDeliver_keeps | apply State.put_keeps | apply State.upTo_keeps | apply State.withTime_keeps | apply KeepsOut.ite
    | apply KeepsOut.next | split

theorem State.setTrigOut_keeps {s0 s : State} {x1 x2} (h : Keeps s0 s) : Keeps s0 (State.setTrigOut s x1 x2) := by
  unfold State.setTrigOut
  with_reducible repeat' first | assumption | apply State.withTime_keeps

theorem State.firePulse_keeps {s0 s : State} {x1 x2} (h : Keeps s0 s) : Keeps s0 (State.firePulse s x1 x2) := by
  unfold State.firePulse
  with_reducible repeat' first | assumption | apply State.emit_keeps | apply State.put1_keeps | apply State.setTrigOut_keeps | apply Keeps.ite

theorem State.trigLate_keeps {s0 s : State} {x1} (h : Keeps s0 s) : Keeps s0 (State.trigLate s x1) := by
  unfold State.trigLate
  with_reducible repeat' first | assumption | apply State.put1_keeps | apply State.timeEvt_keeps

theorem execTrigoutArm_keeps {s0 s : State} {x0 x1} (h : Keeps s0 s) : KeepsOut s0 (execTrigoutArm x0 x1 s) := by
  unfold execTrigoutArm
  with_reducible repeat' first
    | assumption | apply State.bump1_keeps | apply State.firePulse_keeps | apply State.put1_keeps | apply State.setTrigOut_keeps
    | apply State.trigLate_keeps | apply State.upTo_keeps | apply KeepsOut.ite | apply KeepsOut.next

theorem execTrigoutCancel_keeps {s0 s : State} {x0} (h : Keeps s0 s) : KeepsOut s0 (execTrigoutCancel x0 s) := by
  unfold execTrigoutCancel
  with_reducible repeat' first | assumption | apply State.put1_keeps | apply KeepsOut.next

theorem execTrigoutPulse_keeps {s0 s : State} {x0 x1} (h : Keeps s0 s) : KeepsOut s0 (execTrigoutPulse x0 x1 s) := by
  unfold execTrigoutPulse
  with_reducible repeat' first
    | assumption | apply State.firePulse_keeps | apply State.trigLate_keeps | apply State.upTo_keeps | apply Keeps.ite | apply KeepsOut.ite
    | apply KeepsOut.next

theorem State.triginShow_keeps {s0 s : State} (h : Keeps s0 s) : Keeps s0 (State.triginShow s) := by
  unfold State.triginShow
  with_reducible repeat' first | assumption | apply State.put_keeps

theorem State.tapEdge_keeps {s0 s : State} {x1} (h : Keeps s0 s) : Keeps s0 (State.tapEdge s x1) := by
  unfold State.tapEdge
  with_reducible repeat' first | assumption | apply Keeps.ite | simp only [Keeps.upd]

theorem execTriginEdge_keeps {s0 s : State} {x0 x1} (h : Keeps s0 s) : KeepsOut s0 (execTriginEdge x0 x1 s) := by
  unfold execTriginEdge
  with_reducible repeat' first
    | assumption | apply State.bump_keeps | apply State.tapEdge_keeps | apply State.timeEvt_keeps | apply State.triginShow_keeps
    | apply State.upTo_keeps | apply State.withTime_keeps | apply Keeps.ite | apply KeepsOut.ite | apply KeepsOut.next

theorem execTriginPop_keeps {s0 s : State} (h : Keeps s0 s) : KeepsOut s0 (execTriginPop s) := by
  unfold execTriginPop
  with_reducible repeat' first | assumption | apply State.triginShow_keeps | apply State.withTime_keeps | apply KeepsOut.next

theorem execDenTick_keeps {s0 s : State} (h : Keeps s0 s) : KeepsOut s0 (execDenTick s) := by
  unfold execDenTick
  with_reducible repeat' first | assumption | apply KeepsOut.ite | apply KeepsOut.next | simp only [Keeps.upd]

theorem execDenPpsEdge_keeps {s0 s : State} {x0} (h : Keeps s0 s) : KeepsOut s0 (execDenPpsEdge x0 s) := by
  unfold execDenPpsEdge
  with_reducible repeat' first
    | assumption | apply State.withTime_keeps | apply Keeps.ite | apply KeepsOut.ite | apply KeepsOut.next | simp only [Keeps.upd]

theorem State.enterDen_keeps {s0 s : State} (h : Keeps s0 s) : Keeps s0 (State.enterDen s) := by
  unfold State.enterDen
  with_reducible repeat' first | assumption | apply State.put_keeps | apply State.withTime_keeps

theorem State.timeWarm_keeps {s0 s : State} (h : Keeps s0 s) : Keeps s0 (State.timeWarm s) := by
  unfold State.timeWarm
  with_reducible repeat' first
    | assumption | intro _ _ _ | intro _ _ | apply State.put1_keeps | apply State.triginShow_keeps | apply State.withTime_keeps | apply Keeps.forN

theorem State.timeCold_keeps {s0 s : State} (h : Keeps s0 s) : Keeps s0 (State.timeCold s) := by
  unfold State.timeCold
  with_reducible repeat' first | assumption | apply State.put_keeps | apply State.withTime_keeps

/-! ## Capture -/

theorem State.withCap_keeps {s0 s : State} {x1} (h : Keeps s0 s) : Keeps s0 (State.withCap s x1) := by
  unfold State.withCap
  with_reducible repeat' first | assumption | simp only [Keeps.upd]

theorem State.setUnit_keeps {s0 s : State} {x1 x2} (h : Keeps s0 s) : Keeps s0 (State.setUnit s x1 x2) := by
  unfold State.setUnit
  with_reducible repeat' first | assumption | apply State.withCap_keeps

theorem State.setStream_keeps {s0 s : State} {x1 x2} (h : Keeps s0 s) : Keeps s0 (State.setStream s x1 x2) := by
  unfold State.setStream
  with_reducible repeat' first | assumption | apply State.withCap_keeps

theorem State.trigEvt_keeps {s0 s : State} {x1 x2} (h : Keeps s0 s) : Keeps s0 (State.trigEvt s x1 x2) := by
  unfold State.trigEvt
  with_reducible repeat' first | assumption | apply State.cause1_keeps

theorem State.capApplied_keeps {s0 s : State} {x1 x2 x3} (h : Keeps s0 s) : Keeps s0 (State.capApplied s x1 x2 x3) := by
  unfold State.capApplied
  with_reducible repeat' first | assumption | apply State.withCap_keeps

theorem State.capDiscard_keeps {s0 s : State} {x1 x2 x3 x4} (h : Keeps s0 s) : Keeps s0 (State.capDiscard s x1 x2 x3 x4) := by
  unfold State.capDiscard
  with_reducible repeat' first | assumption | intro _ _ _ | intro _ _ | apply State.put1_keeps | apply Keeps.ite | apply Keeps.foldl

theorem State.unitEnter_keeps {s0 s : State} {x1 x2 x3} (h : Keeps s0 s) : Keeps s0 (State.unitEnter s x1 x2 x3) := by
  unfold State.unitEnter
  with_reducible repeat' first | assumption | apply State.put1_keeps | apply State.setUnit_keeps

theorem State.unitApply_keeps {s0 s : State} {x1 x2} (h : Keeps s0 s) : Keeps s0 (State.unitApply s x1 x2) := by
  unfold State.unitApply
  with_reducible repeat' first | assumption | apply State.put1_keeps | apply State.setUnit_keeps | apply State.unitEnter_keeps | apply Keeps.ite

theorem State.unitSpan_keeps {s0 s : State} {x1 x2} (h : Keeps s0 s) : Keeps s0 (State.unitSpan s x1 x2) := by
  unfold State.unitSpan
  with_reducible repeat' first
    | assumption | apply State.capApplied_keeps | apply State.put1_keeps | apply State.trigEvt_keeps | apply State.unitApply_keeps | apply Keeps.ite

theorem State.gapAdd_keeps {s0 s : State} {x1 x2 x3 x4} (h : Keeps s0 s) : Keeps s0 (State.gapAdd s x1 x2 x3 x4) := by
  unfold State.gapAdd
  with_reducible repeat' first | assumption | apply State.bump1_keeps | apply State.setStream_keeps | apply State.trigEvt_keeps

theorem State.displace_keeps {s0 : State} {x0 x1} : ∀ {s : State}, Keeps s0 s → Keeps s0 (State.displace x0 x1 s) := by
  induction x1 with
  | zero => exact fun h => h
  | succ k ih =>
    intro s h
    unfold State.displace
    dsimp only
    with_reducible repeat' first | apply ih | assumption | apply State.gapAdd_keeps | apply State.setStream_keeps | apply Keeps.ite | split

theorem State.ctlPut_keeps {s0 s : State} {x1 x2} (h : Keeps s0 s) : Keeps s0 (State.ctlPut s x1 x2) := by
  unfold State.ctlPut
  with_reducible repeat' first | assumption | apply State.displace_keeps | apply State.setStream_keeps

theorem State.gapClose_keeps {s0 s : State} {x1} (h : Keeps s0 s) : Keeps s0 (State.gapClose s x1) := by
  unfold State.gapClose
  dsimp only
  with_reducible repeat' first | assumption | apply State.ctlPut_keeps | apply State.setStream_keeps | split

theorem State.dataClose_keeps {s0 s : State} {x1} (h : Keeps s0 s) : Keeps s0 (State.dataClose s x1) := by
  unfold State.dataClose
  dsimp only
  with_reducible repeat' first | assumption | apply State.setStream_keeps | split

theorem State.ringWrite_keeps {s0 s : State} {x1 x2 x3} (h : Keeps s0 s) : Keeps s0 (State.ringWrite s x1 x2 x3).1 := by
  unfold State.ringWrite
  with_reducible repeat' first | assumption | apply State.setStream_keeps | apply State.storeWrite_keeps | apply Keeps.ite_fst

theorem State.ringPad_keeps {s0 : State} {x0 x1 x2} : ∀ {s : State}, Keeps s0 s → Keeps s0 ((State.ringPad x0 x1 x2 s).1) := by
  induction x2 with
  | nil => exact fun h => h
  | cons d l ih =>
    intro s h
    unfold State.ringPad
    dsimp only
    with_reducible repeat' first | apply ih | assumption | apply State.ringWrite_keeps | apply Keeps.ite_fst

theorem State.ringPut_keeps {s0 s : State} {x1 x2 x3} (h : Keeps s0 s) : Keeps s0 (State.ringPut s x1 x2 x3).1 := by
  unfold State.ringPut
  with_reducible repeat' first | assumption | apply State.ringPad_keeps | apply State.ringWrite_keeps | apply Keeps.ite_fst

theorem State.capDrain_keeps {s0 : State} {x0 x1} : ∀ {s : State}, Keeps s0 s → Keeps s0 (State.capDrain x0 x1 s) := by
  induction x1 with
  | zero => exact fun h => h
  | succ k ih =>
    intro s h
    unfold State.capDrain
    dsimp only
    with_reducible repeat' first
    | apply ih | assumption | apply State.bump_keeps | apply State.foxEvt_keeps | apply State.gapAdd_keeps | apply State.noteRetry_keeps
    | apply State.ringPut_keeps | apply State.setStream_keeps | apply Keeps.ite | split

theorem State.drainOnce_keeps {s0 s : State} {x1} (h : Keeps s0 s) : Keeps s0 (State.drainOnce s x1) := by
  unfold State.drainOnce
  with_reducible repeat' first | assumption | apply State.capDrain_keeps

theorem State.drain_keeps {s0 s : State} {x1} (h : Keeps s0 s) : Keeps s0 (State.drain s x1) := by
  unfold State.drain
  dsimp only
  with_reducible repeat' first | assumption | apply State.drainOnce_keeps | apply State.gapClose_keeps | apply Keeps.ite | split

theorem State.capStore_keeps {s0 s : State} {x1 x2 x3} (h : Keeps s0 s) : Keeps s0 (State.capStore s x1 x2 x3) := by
  unfold State.capStore
  with_reducible repeat' first
    | assumption | apply State.dataClose_keeps | apply State.drain_keeps | apply State.gapAdd_keeps | apply State.gapClose_keeps
    | apply State.setStream_keeps | apply Keeps.ite | split

theorem State.capPullK_keeps {s0 : State} {x0 x1} : ∀ {s : State}, Keeps s0 s → Keeps s0 (State.capPullK x0 x1 s) := by
  induction x1 with
  | zero => exact fun h => h
  | succ k ih =>
    intro s h
    unfold State.capPullK
    dsimp only
    with_reducible repeat' first | apply ih | assumption | apply State.capStore_keeps | apply State.setStream_keeps | apply Keeps.ite | split

theorem State.capPrune_keeps {s0 s : State} (h : Keeps s0 s) : Keeps s0 (State.capPrune s) := by
  unfold State.capPrune
  with_reducible repeat' first | assumption | apply State.withCap_keeps

theorem State.capPull_keeps {s0 s : State} (h : Keeps s0 s) : Keeps s0 (State.capPull s) := by
  unfold State.capPull
  with_reducible repeat' first
    | assumption | intro _ _ _ | intro _ _ | apply State.capPrune_keeps | apply State.capPullK_keeps | apply Keeps.ite | apply Keeps.foldl

theorem execBlk_keeps {s0 s : State} {x0 x1} (h : Keeps s0 s) : KeepsOut s0 (execBlk x0 x1 s) := by
  unfold execBlk
  with_reducible repeat' first | assumption | apply State.blkStep_keeps | apply State.capPull_keeps | apply KeepsOut.next

theorem State.streamSpan_keeps {s0 s : State} {x1 x2} (h : Keeps s0 s) : Keeps s0 (State.streamSpan s x1 x2) := by
  unfold State.streamSpan
  with_reducible repeat' first
    | assumption | apply State.capApplied_keeps | apply State.ctlPut_keeps | apply State.drain_keeps | apply State.gapClose_keeps
    | apply State.put1_keeps | apply State.setStream_keeps | apply State.trigEvt_keeps | apply Keeps.ite

theorem State.capSpan_keeps {s0 s : State} {x1} (h : Keeps s0 s) : Keeps s0 (State.capSpan s x1) := by
  unfold State.capSpan
  with_reducible repeat' first
    | assumption | intro _ _ _ | intro _ _ | apply State.capPull_keeps | apply State.streamSpan_keeps | apply State.unitSpan_keeps | apply Keeps.ite
    | apply Keeps.foldl | apply Keeps.forN

theorem State.capStart_keeps {s0 s : State} {x1} (h : Keeps s0 s) : Keeps s0 (State.capStart s x1) := by
  unfold State.capStart
  with_reducible repeat' first
    | assumption | intro _ _ _ | intro _ _ | apply State.capSpan_keeps | apply State.put1_keeps | apply State.setStream_keeps
    | apply State.withCap_keeps | apply Keeps.foldl | apply Keeps.forN

theorem State.capStop_keeps {s0 s : State} (h : Keeps s0 s) : Keeps s0 (State.capStop s) := by
  unfold State.capStop
  with_reducible repeat' first | assumption | intro _ _ _ | intro _ _ | apply State.put1_keeps | apply State.withCap_keeps | apply Keeps.forN

theorem State.capReset_keeps {s0 s : State} (h : Keeps s0 s) : Keeps s0 (State.capReset s) := by
  unfold State.capReset
  with_reducible repeat' first | assumption | intro _ _ _ | intro _ _ | apply State.capDiscard_keeps | apply State.capStop_keeps | apply Keeps.forN

theorem State.placeMark_keeps {s0 s : State} {x1 x2 x3 x4 x5 x6 x7 x8 x9} (h :
    Keeps s0 s) : Keeps s0 (State.placeMark s x1 x2 x3 x4 x5 x6 x7 x8 x9) := by
  unfold State.placeMark
  with_reducible repeat' first
    | assumption | intro _ _ _ | intro _ _ | apply State.bump1_keeps | apply State.drain_keeps | apply State.put1_keeps | apply State.setStream_keeps
    | apply State.trigEvt_keeps | apply State.withCap_keeps | apply Keeps.ite | apply Keeps.foldl

theorem State.tapStep_keeps {s0 s : State} {x1 x2 x3} (h : Keeps s0 s) : Keeps s0 (State.tapStep s x1 x2 x3) := by
  unfold State.tapStep
  with_reducible repeat' first
    | assumption | intro _ _ _ | intro _ _ | apply State.capStore_keeps | apply State.placeMark_keeps | apply State.put1_keeps
    | apply State.setUnit_keeps | apply State.unitEnter_keeps | apply Keeps.ite | apply Keeps.foldl | split

theorem execTapSample_keeps {s0 s : State} {x0 x1} (h : Keeps s0 s) : KeepsOut s0 (execTapSample x0 x1 s) := by
  unfold execTapSample
  dsimp only
  with_reducible repeat' first
    | assumption | apply State.capPrune_keeps | apply State.tapStep_keeps | apply State.upTo_keeps | apply KeepsOut.ite | apply KeepsOut.next | split

theorem execWithdrawalWrite_keeps {s0 s : State} {x0} (h : Keeps s0 s) : KeepsOut s0 (execWithdrawalWrite x0 s) := by
  unfold execWithdrawalWrite
  dsimp only
  with_reducible repeat' first
    | assumption | intro _ _ _ | intro _ _ | apply State.bump1_keeps | apply State.ctlPut_keeps | apply State.drain_keeps | apply State.trigEvt_keeps
    | apply State.upTo_keeps | apply State.withCap_keeps | apply KeepsOut.ite | apply KeepsOut.next | apply Keeps.foldl | split

theorem State.pruneMarks_keeps {s0 s : State} (h : Keeps s0 s) : Keeps s0 (State.pruneMarks s) := by
  unfold State.pruneMarks
  with_reducible repeat' first | assumption | apply State.withCap_keeps

theorem execSettledWrite_keeps {s0 s : State} {x0} (h : Keeps s0 s) : KeepsOut s0 (execSettledWrite x0 s) := by
  unfold execSettledWrite
  with_reducible repeat' first
    | assumption | intro _ _ _ | intro _ _ | apply State.ctlPut_keeps | apply State.drain_keeps | apply State.gapClose_keeps
    | apply State.pruneMarks_keeps | apply State.setStream_keeps | apply State.upTo_keeps | apply Keeps.ite | apply KeepsOut.next | apply Keeps.foldl
    | split

theorem execCapWptrAdvance_keeps {s0 s : State} {x0 x1} (h : Keeps s0 s) : KeepsOut s0 (execCapWptrAdvance x0 x1 s) := by
  unfold execCapWptrAdvance
  with_reducible repeat' first
    | assumption | apply State.drain_keeps | apply State.put1_keeps | apply State.upTo_keeps | apply KeepsOut.ite | apply KeepsOut.next

theorem execCaptureFrameSend_keeps {s0 s : State} {x0 x1} (h : Keeps s0 s) : KeepsOut s0 (execCaptureFrameSend x0 x1 s) := by
  unfold execCaptureFrameSend
  dsimp only
  with_reducible repeat' first
    | assumption | apply State.nextItem_keeps | apply State.queueDest_keeps | apply State.setStream_keeps | apply State.upTo_keeps
    | apply KeepsOut.ite | apply KeepsOut.next | split

theorem execFrameSkip_keeps {s0 s : State} {x0 x1} (h : Keeps s0 s) : KeepsOut s0 (execFrameSkip x0 x1 s) := by
  unfold execFrameSkip
  with_reducible repeat' first
    | assumption | apply State.bump1_keeps | apply State.setStream_keeps | apply State.trigEvt_keeps | apply State.upTo_keeps | apply KeepsOut.ite
    | apply KeepsOut.next | simp only [Keeps.upd]

theorem execRecordRetry_keeps {s0 s : State} {x0 x1} (h : Keeps s0 s) : KeepsOut s0 (execRecordRetry x0 x1 s) := by
  unfold execRecordRetry
  with_reducible repeat' first
    | assumption | apply State.drain_keeps | apply State.setStream_keeps | apply State.upTo_keeps | apply execBeamPageHeader_keeps
    | apply execRetractionSend_keeps | apply KeepsOut.ite | apply KeepsOut.next

/-! ## Draft -/

theorem State.setDraft_keeps {s0 s : State} {x1} (h : Keeps s0 s) : Keeps s0 (State.setDraft s x1) := by
  unfold State.setDraft
  with_reducible repeat' first | assumption | simp only [Keeps.upd]

theorem State.toDraft_keeps {s0 s : State} {x1} (h : Keeps s0 s) : Keeps s0 (State.toDraft s x1) := by
  unfold State.toDraft
  with_reducible repeat' first | assumption | apply State.put_keeps | apply State.withSections_keeps

theorem State.draftIgnored_keeps {s0 s : State} (h : Keeps s0 s) : Keeps s0 (State.draftIgnored s) := by
  unfold State.draftIgnored
  with_reducible repeat' first | assumption | apply State.bump_keeps

theorem State.stageRead_keeps {s0 s : State} {x1 x2} (h : Keeps s0 s) : Keeps s0 (State.stageRead s x1 x2).2 := by
  unfold State.stageRead
  dsimp only
  split <;> exact State.storeRead_keeps h

theorem State.stagedKind_keeps {s0 s : State} (h : Keeps s0 s) : Keeps s0 (State.stagedKind s).2 := by
  unfold State.stagedKind
  with_reducible repeat' first | assumption | apply State.stageRead_keeps

theorem execDraftScpData_keeps {s0 s : State} {x0} (h : Keeps s0 s) : KeepsOut s0 (execDraftScpData x0 s) := by
  unfold execDraftScpData
  with_reducible repeat' first
    | assumption | apply State.draftIgnored_keeps | apply State.raise_keeps | apply State.storeWrite_keeps | apply State.wrap_keeps
    | apply KeepsOut.ite | apply KeepsOut.next

theorem State.checkTo4_keeps {s0 s : State} {x1} (h : Keeps s0 s) : Keeps s0 (State.checkTo4 s x1).2 := by
  unfold State.checkTo4
  with_reducible repeat' first | assumption | split | assumption | apply State.stageRead_keeps | split | refine Keeps.of_snd (by assumption) ?_

theorem State.putFigures_keeps {s0 s : State} {x1} (h : Keeps s0 s) : Keeps s0 (State.putFigures s x1) := by
  unfold State.putFigures
  with_reducible repeat' first | assumption | apply State.put_keeps

theorem State.checkAll_keeps {s0 s : State} {x1} (h : Keeps s0 s) : Keeps s0 (State.checkAll s x1).2 := by
  unfold State.checkAll
  with_reducible repeat' first
    | assumption | split | assumption | apply State.checkTo4_keeps | apply State.putFigures_keeps | split | refine Keeps.of_snd (by assumption) ?_

theorem State.refuseWith_keeps {s0 s : State} {x1} (h : Keeps s0 s) : Keeps s0 (State.refuseWith s x1) := by
  unfold State.refuseWith
  with_reducible repeat' first | assumption | apply State.put_keeps

theorem State.stageRelease_keeps {s0 s : State} (h : Keeps s0 s) : Keeps s0 (State.stageRelease s) := by
  unfold State.stageRelease
  with_reducible repeat' first | assumption | apply State.setDraft_keeps

theorem State.stageProtect_keeps {s0 s : State} (h : Keeps s0 s) : Keeps s0 (State.stageProtect s) := by
  unfold State.stageProtect
  with_reducible repeat' first | assumption | apply State.setDraft_keeps

theorem execDraftAdmit_keeps {s0 s : State} {x0} (h : Keeps s0 s) : KeepsOut s0 (execDraftAdmit x0 s) := by
  unfold execDraftAdmit
  with_reducible repeat' first
    | assumption | apply State.draftIgnored_keeps | apply State.put_keeps | apply State.putFigures_keeps | apply State.raise_keeps
    | apply State.refuseWith_keeps | apply State.setDraft_keeps | apply State.stageProtect_keeps | apply State.stagedKind_keeps
    | apply State.toDraft_keeps | apply State.upTo_keeps | apply KeepsOut.ite | apply KeepsOut.next

theorem execDraftAbort_keeps {s0 s : State} (h : Keeps s0 s) : KeepsOut s0 (execDraftAbort s) := by
  unfold execDraftAbort
  with_reducible repeat' first
    | assumption | apply State.draftIgnored_keeps | apply State.foxStop_keeps | apply State.refuseWith_keeps | apply State.setDraft_keeps
    | apply State.stageRelease_keeps | apply State.toDraft_keeps | apply KeepsOut.ite | apply KeepsOut.next

theorem State.showPatches_keeps {s0 s : State} (h : Keeps s0 s) : Keeps s0 (State.showPatches s) := by
  unfold State.showPatches
  with_reducible repeat' first | assumption | apply State.put_keeps

theorem State.takePatch_keeps {s0 s : State} {x1} (h : Keeps s0 s) : Keeps s0 (State.takePatch s x1) := by
  unfold State.takePatch
  with_reducible repeat' first
    | assumption | apply State.beginBuilds_keeps | apply State.setDraft_keeps | apply State.showPatches_keeps | apply State.spinsAdmit_keeps
    | apply State.withSections_keeps | apply State.zoomAdmit_keeps

theorem State.patchChecked_keeps {s0 s : State} {x1} (h : Keeps s0 s) : Keeps s0 (State.patchChecked s x1) := by
  unfold State.patchChecked
  with_reducible repeat' first
    | assumption | apply State.put_keeps | apply State.raise_keeps | apply State.refuseWith_keeps | apply State.stageRelease_keeps
    | apply State.takePatch_keeps | apply Keeps.ite | split

theorem execCheckComplete_keeps {s0 s : State} {x0} (h : Keeps s0 s) : KeepsOut s0 (execCheckComplete x0 s) := by
  unfold execCheckComplete
  with_reducible repeat' first
    | assumption | apply State.checkAll_keeps | apply State.patchChecked_keeps | apply State.raise_keeps | apply State.refuseWith_keeps
    | apply State.setDraft_keeps | apply State.stageRelease_keeps | apply State.toDraft_keeps | apply State.upTo_keeps | apply KeepsOut.ite
    | apply KeepsOut.next | split | refine Keeps.of_snd (by assumption) ?_

theorem State.patchLate_keeps {s0 s : State} {x1} (h : Keeps s0 s) : Keeps s0 (State.patchLate s x1) := by
  unfold State.patchLate
  split
  · exact h
  · split
    · exact h
    · rename_i e
      split
      · exact State.patchChecked_keeps (Keeps.of_snd e (State.checkTo4_keeps h))
      · exact h

theorem State.placeArm_keeps {s0 s : State} {x1} (h : Keeps s0 s) : Keeps s0 (State.placeArm s x1) := by
  unfold State.placeArm
  with_reducible repeat' first
    | assumption | intro _ _ _ | intro _ _ | apply State.put1_keeps | apply State.stageRelease_keeps | apply State.storeRemap_keeps
    | apply State.sweepBegins_keeps | apply Keeps.ite | apply Keeps.foldl | apply Keeps.forN | simp only [Keeps.upd]

theorem State.structArm_keeps {s0 s : State} {x1} (h : Keeps s0 s) : Keeps s0 (State.structArm s x1) := by
  unfold State.structArm
  with_reducible repeat' first | assumption | apply State.put_keeps | apply State.setDraft_keeps | simp only [Keeps.upd]

theorem execDraftStart_keeps {s0 s : State} {x0} (h : Keeps s0 s) : KeepsOut s0 (execDraftStart x0 s) := by
  unfold execDraftStart
  with_reducible repeat' first
    | assumption | apply State.beginBuilds_keeps | apply State.classArm_keeps | apply State.draftIgnored_keeps | apply State.foxStart_keeps
    | apply State.grantDraft_keeps | apply State.hanksArm_keeps | apply State.ledCount_keeps | apply State.measure_keeps
    | apply State.measureReset235_keeps | apply State.placeArm_keeps | apply State.put_keeps | apply State.refuseWith_keeps
    | apply State.showPatches_keeps | apply State.spinsStart_keeps | apply State.structArm_keeps | apply State.upTo_keeps
    | apply State.withSections_keeps | apply State.zoomStart_keeps | apply KeepsOut.ite | apply KeepsOut.next | simp only [Keeps.upd] | split

theorem execDraftRunning_keeps {s0 s : State} {x0} (h : Keeps s0 s) : KeepsOut s0 (execDraftRunning x0 s) := by
  unfold execDraftRunning
  with_reducible repeat' first
    | assumption | apply State.capStart_keeps | apply State.put_keeps | apply State.raise_keeps | apply State.sideRun_keeps
    | apply State.spinsRun_keeps | apply State.stageRelease_keeps | apply State.toDraft_keeps | apply State.upTo_keeps | apply State.zoomRunning_keeps
    | apply KeepsOut.ite | apply KeepsOut.next

theorem State.discardPatches_keeps {s0 s : State} {x1} (h : Keeps s0 s) : Keeps s0 (State.discardPatches s x1) := by
  unfold State.discardPatches
  with_reducible repeat' first
    | assumption | intro _ _ _ | intro _ _ | apply State.raise_keeps | apply State.setDraft_keeps | apply State.showPatches_keeps | apply Keeps.ite
    | apply Keeps.foldl | simp only [Keeps.upd]

theorem execDraftStop_keeps {s0 s : State} {x0} (h : Keeps s0 s) : KeepsOut s0 (execDraftStop x0 s) := by
  unfold execDraftStop
  with_reducible repeat' first
    | assumption | apply State.discardPatches_keeps | apply State.draftIgnored_keeps | apply State.foxStop_keeps | apply State.put_keeps
    | apply State.setDraft_keeps | apply State.toDraft_keeps | apply State.upTo_keeps | apply State.withSections_keeps | apply KeepsOut.ite
    | apply KeepsOut.next

theorem State.endIntegs_keeps {s0 s : State} (h : Keeps s0 s) : Keeps s0 (State.endIntegs s) := by
  unfold State.endIntegs
  with_reducible repeat' first | assumption | intro _ _ _ | intro _ _ | apply State.dumpCopy_keeps | apply Keeps.ite | apply Keeps.foldl

theorem execStoppingEnd_keeps {s0 s : State} {x0} (h : Keeps s0 s) : KeepsOut s0 (execStoppingEnd x0 s) := by
  unfold execStoppingEnd
  dsimp only
  with_reducible repeat' first
    | assumption | apply State.capStop_keeps | apply State.cutWindows_keeps | apply State.endIntegs_keeps | apply State.foxStop_keeps
    | apply State.put_keeps | apply State.raise_keeps | apply State.setDraft_keeps | apply State.showPatches_keeps | apply State.sideStop_keeps
    | apply State.spinsRun_keeps | apply State.upTo_keeps | apply State.withSections_keeps | apply State.zoomRunning_keeps | apply KeepsOut.ite
    | apply KeepsOut.next | split

theorem State.draftReset_keeps {s0 s : State} (h : Keeps s0 s) : Keeps s0 (State.draftReset s) := by
  unfold State.draftReset
  with_reducible repeat' first
    | assumption | apply State.foxStop_keeps | apply State.put_keeps | apply State.setDraft_keeps | apply State.showPatches_keeps
    | apply State.withSections_keeps

/-! ## Spans -/

theorem State.openPasses_keeps {s0 s : State} {x1} (h : Keeps s0 s) : Keeps s0 (State.openPasses s x1) := by
  unfold State.openPasses
  with_reducible repeat' first | assumption | simp only [Keeps.upd]

theorem State.hostFlags_keeps {s0 s : State} {x1} (h : Keeps s0 s) : Keeps s0 (State.hostFlags s x1) := by
  unfold State.hostFlags
  with_reducible repeat' first | assumption | intro _ _ _ | intro _ _ | apply State.exclude_keeps | apply Keeps.foldl | apply Keeps.forN

theorem State.endZooms_keeps {s0 s : State} {x1 x2 x3} (h : Keeps s0 s) : Keeps s0 (State.endZooms s x1 x2 x3) := by
  unfold State.endZooms
  with_reducible repeat' first | assumption | intro _ _ _ | intro _ _ | apply State.dumpCopy_keeps | apply Keeps.ite | apply Keeps.foldl

theorem State.applyOne_keeps {s0 s : State} {x1 x2 x3} (h : Keeps s0 s) : Keeps s0 (State.applyOne s x1 x2 x3) := by
  unfold State.applyOne
  with_reducible repeat' first
    | assumption | apply State.classChange_keeps | apply State.endZooms_keeps | apply State.foxPatch_keeps | apply State.measure_keeps
    | apply State.put_keeps | apply State.raise_keeps | apply State.setDraft_keeps | apply State.zoomPatch_keeps | simp only [Keeps.upd]

theorem State.applyPatches_keeps {s0 s : State} {x1} (h : Keeps s0 s) : Keeps s0 (State.applyPatches s x1) := by
  unfold State.applyPatches
  with_reducible repeat' first
    | assumption | intro _ _ _ | intro _ _ | apply State.applyOne_keeps | apply State.grantDraft_keeps | apply State.showPatches_keeps
    | apply State.withSections_keeps | apply Keeps.ite | apply Keeps.foldl

theorem execSpanStart_keeps {s0 s : State} {x0 x1} (h : Keeps s0 s) : KeepsOut s0 (execSpanStart x0 x1 s) := by
  unfold execSpanStart
  with_reducible repeat' first
    | assumption | apply State.applyPatches_keeps | apply State.capSpan_keeps | apply State.fillAllLost_keeps | apply State.hostFlags_keeps
    | apply State.measureSpanEnd_keeps | apply State.openPasses_keeps | apply State.operandSend_keeps | apply State.patchLate_keeps
    | apply State.put_keeps | apply State.resyncSpan_keeps | apply State.snapLimits_keeps | apply State.upTo_keeps | apply Keeps.ite
    | apply KeepsOut.ite | apply KeepsOut.next

theorem execSpanFinal_keeps {s0 s : State} {x0 x1} (h : Keeps s0 s) : KeepsOut s0 (execSpanFinal x0 x1 s) := by
  unfold execSpanFinal
  with_reducible repeat' first
    | assumption | intro _ _ _ | intro _ _ | apply State.beamFinal_keeps | apply State.decide__keeps | apply State.exclude_keeps
    | apply State.meshEvt_keeps | apply State.newSlotMissing_keeps | apply State.put_keeps | apply State.summarySend_keeps | apply State.upTo_keeps
    | apply Keeps.ite | apply KeepsOut.ite | apply KeepsOut.next | apply Keeps.foldl

theorem execSpanDeadline_keeps {s0 s : State} {x0 x1} (h : Keeps s0 s) : KeepsOut s0 (execSpanDeadline x0 x1 s) := by
  unfold execSpanDeadline
  with_reducible repeat' first
    | assumption | intro _ _ _ | intro _ _ | apply State.abandon_keeps | apply State.beamAbandon_keeps | apply State.cancelPrefetch_keeps
    | apply State.dumpOwed_keeps | apply State.recordSlack_keeps | apply State.sectionsMove_keeps | apply State.upTo_keeps | apply KeepsOut.next
    | apply Keeps.foldl

/-! ## Check -/

theorem State.checkPut_keeps {s0 s : State} {x1 x2} (h : Keeps s0 s) : Keeps s0 (State.checkPut s x1 x2) := by
  unfold State.checkPut
  with_reducible repeat' first | assumption | apply State.put1_keeps

theorem execCheckInit_keeps {s0 s : State} {x0} (h : Keeps s0 s) : KeepsOut s0 (execCheckInit x0 s) := by
  unfold execCheckInit
  with_reducible repeat' first | assumption | apply State.checkPut_keeps | apply State.put1_keeps | apply KeepsOut.next | simp only [Keeps.upd]

theorem execCheckData_keeps {s0 s : State} {x0 x1} (h : Keeps s0 s) : KeepsOut s0 (execCheckData x0 x1 s) := by
  unfold execCheckData
  with_reducible repeat' first | assumption | apply State.checkPut_keeps | apply State.put1_keeps | apply KeepsOut.next

theorem State.checkCause_keeps {s0 s : State} {x1 x2} (h : Keeps s0 s) : Keeps s0 (State.checkCause s x1 x2) := by
  unfold State.checkCause
  with_reducible repeat' first | assumption | apply State.cause1_keeps

theorem execCheckAliveIn_keeps {s0 s : State} {x0 x1} (h : Keeps s0 s) : KeepsOut s0 (execCheckAliveIn x0 x1 s) := by
  unfold execCheckAliveIn
  with_reducible repeat' first
    | assumption | apply State.bump1_keeps | apply State.checkCause_keeps | apply State.put1_keeps | apply KeepsOut.ite | apply KeepsOut.next

theorem execCheckState_keeps {s0 s : State} {x0 x1 x2} (h : Keeps s0 s) : KeepsOut s0 (execCheckState x0 x1 x2 s) := by
  unfold execCheckState
  with_reducible repeat' first | assumption | apply State.checkPut_keeps | apply KeepsOut.next

end Sys2Proof.Machine
end

