-- ==== Sys2Proof/Laws/KeepsHost.lean ====
section
/-!
SUPPORT. `Keeps` for every operation of DMA, the ports, the monitor, the ledger, trust, power, the register block.
-/

namespace Sys2Proof.Machine

/-! ## Dma -/

theorem State.setDma_keeps {s0 s : State} {x1 x2} (h : Keeps s0 s) : Keeps s0 (State.setDma s x1 x2) := by
  unfold State.setDma
  with_reducible repeat' first | assumption | simp only [Keeps.upd]

theorem State.dmaEvt_keeps {s0 s : State} {x1 x2} (h : Keeps s0 s) : Keeps s0 (State.dmaEvt s x1 x2) := by
  unfold State.dmaEvt
  with_reducible repeat' first | assumption | apply State.cause1_keeps

theorem State.dmaNext_keeps {s0 s : State} {x1 x2} (h : Keeps s0 s) : Keeps s0 (State.dmaNext s x1 x2) := by
  unfold State.dmaNext
  with_reducible repeat' first | assumption | apply State.put1_keeps | apply State.setDma_keeps

theorem execDmaArm_keeps {s0 s : State} {x0} (h : Keeps s0 s) : KeepsOut s0 (execDmaArm x0 s) := by
  unfold execDmaArm
  with_reducible repeat' first
    | assumption | apply State.bump1_keeps | apply State.dmaNext_keeps | apply State.put1_keeps | apply KeepsOut.ite | apply KeepsOut.next

theorem State.dmaReadSeg_keeps {s0 s : State} {rd a n ext bad} (h : Keeps s0 s) (hr : ∀ a x, Keeps s0 a → Keeps s0 (rd a x).2) :
    Keeps s0 (s.dmaReadSeg rd a n ext bad).st := by
  unfold State.dmaReadSeg
  split
  · dsimp only
    exact State.refusedUnits_keeps h
  · have ht := State.translate_keeps (x1 := dmaPort) (x2 := false) (x3 := a) h
    split
    · rename_i off s1 e
      have h1 : Keeps s0 s1 := Keeps.of_snd e ht
      have H : ∀ (l : List Nat) (r : DmaData), Keeps s0 r.st → Keeps s0 (l.foldl (fun (acc : DmaData) k =>
          let (v, b) := rd acc.st (off + 4 * k)
          (⟨acc.data ++ (leBytes 4 (v.getD 0)).map (fun x => (x, false)), if v.isNone then stOffline else acc.status, b⟩ : DmaData)) r).st := by
        intro l
        induction l with
        | nil => exact fun _ h => h
        | cons g l ih => exact fun r h => ih _ (hr _ _ h)
      dsimp only
      split <;> exact H _ _ h1
    · rename_i rg o s1 e
      have h1 : Keeps s0 s1 := Keeps.of_snd e ht
      split
      · exact h1
      · dsimp only
        split
        · exact State.ask_keeps h1
        · exact State.refusedUnits_keeps h1
    · dsimp only
      split
      · dsimp only
        split
        · exact State.pcieEvt_keeps (State.bump_keeps (State.segRead_keeps h))
        · exact State.segRead_keeps h
      · exact State.segRead_keeps h

theorem State.dmaRead_keeps {s0 s : State} {rd a n ext bad} (h : Keeps s0 s) (hr : ∀ a x, Keeps s0 a → Keeps s0 (rd a x).2) :
    Keeps s0 (s.dmaRead rd a n ext bad).st := by
  unfold State.dmaRead
  generalize segments a n = l
  have H : ∀ (l : List (Nat × Nat)) (r : DmaData), Keeps s0 r.st → Keeps s0 (l.foldl (fun (acc : DmaData) sg =>
    if acc.status ≠ stOk then acc
    else
      let x := acc.st.dmaReadSeg rd sg.1 sg.2 (ext.drop (sg.1 - a)) bad
      (⟨acc.data ++ x.data, x.status, x.st⟩ : DmaData)) r).st := by
    intro l
    induction l with
    | nil => exact fun _ h => h
    | cons g l ih =>
      intro r h
      refine ih _ ?_
      beta_reduce
      split
      · exact h
      · exact State.dmaReadSeg_keeps h hr
  exact H l _ h

theorem State.mirrorStore_keeps {s0 s : State} {x1 x2 x3 x4} (h : Keeps s0 s) : Keeps s0 (State.mirrorStore s x1 x2 x3 x4) := by
  unfold State.mirrorStore
  with_reducible repeat' first | assumption | apply State.mirrorWords_keeps | apply State.noteStore_keeps | apply Keeps.ite

theorem State.dmaWriteSeg_keeps {s0 s : State} {wr a d} (h : Keeps s0 s) (hw : ∀ a x v, Keeps s0 a → Keeps s0 (wr a x v).2) :
    Keeps s0 (s.dmaWriteSeg wr a d).1 := by
  unfold State.dmaWriteSeg
  split
  · dsimp only
    exact State.refusedUnits_keeps h
  · have ht := State.translate_keeps (x1 := dmaPort) (x2 := true) (x3 := a) h
    split
    · rename_i off s1 e
      refine Keeps.foldl_fst (Keeps.of_snd e ht) fun acc x k => ?_
      dsimp only
      split
      · exact k
      · exact hw _ _ _ k
    · have hf := Keeps.foldl_fst (l := poisonRuns 0 d) (f := fun (acc : State × Nat) x =>
        let y := acc.1.segWriteP dmaPort (a + x.1) x.2.1 x.2.2
        (y.1, if acc.2 = stOk then y.2 else acc.2)) (s := (s, stOk)) h (fun _ _ k => State.segWriteP_keeps k)
      dsimp only
      split
      · split
        · exact hf
        · dsimp only
          split
          · exact State.mirrorStore_keeps hf
          · exact hf
      · exact hf

theorem State.dmaWrite_keeps {s0 s : State} {wr a d} (h : Keeps s0 s) (hw : ∀ a x v, Keeps s0 a → Keeps s0 (wr a x v).2) :
    Keeps s0 ((s.dmaWrite wr a d).1) := by
  unfold State.dmaWrite
  (try dsimp only)
  with_reducible repeat' first
    | apply hw | assumption | intro _ _ _ | intro _ _ | apply State.dmaWriteSeg_keeps | apply Keeps.ite_fst | apply Keeps.foldl_fst

theorem State.dmaFetch_keeps {s0 s sx : State} {rd d a n ext bad} (h : Keeps s0 s) (hr : ∀ a x, Keeps s0 a → Keeps s0 (rd a x).2) :
    Keeps s0 (State.dmaFetch rd sx s d a n ext bad).st := by
  unfold State.dmaFetch
  dsimp only
  split
  · exact State.dmaRead_keeps h hr
  · split <;> exact State.takeFree_keeps (State.dmaRead_keeps h hr)

theorem State.dmaMove_keeps {s0 s : State} {rd wr d n ext bad} (h : Keeps s0 s) (hr : ∀ a x, Keeps s0 a → Keeps s0 (rd a x).2)
    (hw : ∀ a x v, Keeps s0 a → Keeps s0 (wr a x v).2) : Keeps s0 (State.dmaMove rd wr s d n ext bad).st := by
  unfold State.dmaMove
  generalize dmaPieces d n = l
  refine List.foldlRecOn (motive := fun (x : DmaRun) => Keeps s0 x.st) l _ h ?_
  intro x hx p _
  dsimp only
  split
  · exact hx
  · split
    · exact State.dmaFetch_keeps hx hr
    · split <;> exact State.dmaWrite_keeps (State.dmaFetch_keeps hx hr) hw

theorem State.dmaFail_keeps {s0 s : State} {x1 x2 x3 x4} (h : Keeps s0 s) : Keeps s0 (State.dmaFail s x1 x2 x3 x4) := by
  unfold State.dmaFail
  with_reducible repeat' first
    | assumption | apply State.dmaEvt_keeps | apply State.put1_keeps | apply State.setDma_keeps | apply State.storePut_keeps | apply Keeps.ite

theorem State.dmaPoison_keeps {s0 s : State} {x1 x2} (h : Keeps s0 s) : Keeps s0 (State.dmaPoison s x1 x2) := by
  unfold State.dmaPoison
  with_reducible repeat' first | assumption | apply State.put1_keeps | apply State.setDma_keeps | apply Keeps.ite

theorem State.dmaBody_keeps {s0 s : State} {rd wr n ext bad} (h : Keeps s0 s) (hr : ∀ a x, Keeps s0 a → Keeps s0 (rd a x).2)
    (hw : ∀ a x v, Keeps s0 a → Keeps s0 (wr a x v).2) : Keeps s0 (State.dmaBody rd wr s n ext bad).1.st := by
  have hm := State.dmaPoison_keeps (x1 := n) (x2 := (State.dmaMove rd wr s (s.dmaChan n).desc (dmaLen (s.dmaChan n).desc) ext bad).poison)
    (State.dmaMove_keeps (d := (s.dmaChan n).desc) (n := dmaLen (s.dmaChan n).desc) (ext := ext) (bad := bad) h hr hw)
  unfold State.dmaBody
  dsimp only
  repeat' (first | exact hm | exact State.dmaWrite_keeps hm hw | split)

theorem State.dmaVisible_keeps {s0 s sx : State} (h : Keeps s0 s) : Keeps s0 (s.dmaVisible sx) := by
  unfold State.dmaVisible
  dsimp only
  split
  · exact State.emit_keeps (State.flushLanes_keeps h)
  · exact State.flushLanes_keeps h

theorem State.dmaFinish_keeps {s0 s : State} {x1 x2 x3} (h : Keeps s0 s) : Keeps s0 (State.dmaFinish s x1 x2 x3) := by
  unfold State.dmaFinish
  with_reducible repeat' first
    | assumption | apply State.dmaEvt_keeps | apply State.dmaFail_keeps | apply State.dmaNext_keeps | apply State.put1_keeps
    | apply State.setDma_keeps | apply State.storePut_keeps | apply Keeps.ite

theorem State.dmaComplete_keeps {s0 s : State} {rd wr n ext bad} (h : Keeps s0 s) (hr : ∀ a x, Keeps s0 a → Keeps s0 (rd a x).2)
    (hw : ∀ a x v, Keeps s0 a → Keeps s0 (wr a x v).2) : Keeps s0 (State.dmaComplete rd wr s n ext bad) := by
  have hb := State.dmaBody_keeps (n := n) (ext := ext) (bad := bad) h hr hw
  unfold State.dmaComplete
  dsimp only
  with_reducible repeat' first
    | apply State.dmaVisible_keeps | assumption | intro _ _ _ | intro _ _ | apply State.dmaBody_keeps | apply State.dmaFail_keeps
    | apply State.dmaFinish_keeps | apply State.dmaVisible_keeps | apply State.setDma_keeps | apply Keeps.ite

theorem State.dmaIssued_keeps {s0 s : State} {rd wr n ext bad} (h : Keeps s0 s) (hr : ∀ a x, Keeps s0 a → Keeps s0 (rd a x).2)
    (hw : ∀ a x v, Keeps s0 a → Keeps s0 (wr a x v).2) : Keeps s0 (State.dmaIssued rd wr s n ext bad) := by
  unfold State.dmaIssued
  dsimp only
  split
  · exact h
  · exact State.dmaMove_keeps (State.takeFree_keeps h) hr hw

theorem State.dmaDrop_keeps {s0 s : State} {x1 x2} (h : Keeps s0 s) : Keeps s0 (State.dmaDrop s x1 x2) := by
  unfold State.dmaDrop
  with_reducible repeat' first | assumption | apply State.put1_keeps | apply State.setDma_keeps | apply State.takeFree_keeps

theorem State.dmaAbandon_keeps {s0 s : State} {n st} (h : Keeps s0 s) : Keeps s0 (s.dmaAbandon n st) := by
  unfold State.dmaAbandon
  dsimp only
  split
  · exact State.dmaDrop_keeps h
  · exact State.dmaDrop_keeps (State.dmaIssued_keeps (State.takeFree_keeps h) (fun _ _ k => k) (fun _ _ _ k => k))

theorem State.dmaDisable_keeps {s0 s : State} {x1} (h : Keeps s0 s) : Keeps s0 (State.dmaDisable s x1) := by
  unfold State.dmaDisable
  with_reducible repeat' first | assumption | apply State.dmaAbandon_keeps | apply State.put1_keeps | apply Keeps.ite

theorem State.dmaReset_keeps {s0 s : State} (h : Keeps s0 s) : Keeps s0 (State.dmaReset s) := by
  unfold State.dmaReset
  with_reducible repeat' first
    | assumption | intro _ _ _ | intro _ _ | apply State.dmaAbandon_keeps | apply State.put1_keeps | apply Keeps.ite | apply Keeps.forN

/-! ## Ports -/

theorem execCompletionTimeout_keeps {s0 s : State} {x0 x1} (h : Keeps s0 s) : KeepsOut s0 (execCompletionTimeout x0 x1 s) := by
  unfold execCompletionTimeout
  with_reducible repeat' first
    | assumption | apply State.emit_keeps | apply State.pcieCto_keeps | apply State.upTo_keeps | apply KeepsOut.ite | apply KeepsOut.next
    | simp only [Keeps.upd] | split

theorem execLinkDown_keeps {s0 s : State} (h : Keeps s0 s) : KeepsOut s0 (execLinkDown s) := by
  unfold execLinkDown
  with_reducible repeat' first
    | assumption | apply State.bump_keeps | apply State.hostReadsEnd_keeps | apply State.pcieEvt_keeps | apply State.put_keeps | apply KeepsOut.ite
    | apply KeepsOut.next

theorem execLinkUp_keeps {s0 s : State} {x0 x1} (h : Keeps s0 s) : KeepsOut s0 (execLinkUp x0 x1 s) := by
  unfold execLinkUp
  with_reducible repeat' first
    | assumption | apply State.pcieEvt_keeps | apply State.put_keeps | apply State.vecFlush_keeps | apply KeepsOut.ite | apply KeepsOut.next

theorem State.fnReset_keeps {s0 s : State} (h : Keeps s0 s) : Keeps s0 (State.fnReset s) := by
  unfold State.fnReset
  with_reducible repeat' first | assumption | apply State.put_keeps | simp only [Keeps.upd]

theorem execFnReset_keeps {s0 s : State} (h : Keeps s0 s) : KeepsOut s0 (execFnReset s) := by
  unfold execFnReset
  with_reducible repeat' first
    | assumption | apply State.fnReset_keeps | apply State.hostReadsEnd_keeps | apply State.pcieEvt_keeps | apply Keeps.ite | apply KeepsOut.next

theorem execD3hot_keeps {s0 s : State} {x0} (h : Keeps s0 s) : KeepsOut s0 (execD3hot x0 s) := by
  unfold execD3hot
  with_reducible repeat' first | assumption | apply State.hostReadsEnd_keeps | apply Keeps.ite | apply KeepsOut.next | simp only [Keeps.upd]

theorem State.tsShow_keeps {s0 s : State} (h : Keeps s0 s) : Keeps s0 (State.tsShow s) := by
  unfold State.tsShow
  with_reducible repeat' first | assumption | apply State.put_keeps

theorem State.stamp_keeps {s0 s : State} {x1 x2 x3} (h : Keeps s0 s) : Keeps s0 (State.stamp s x1 x2 x3) := by
  unfold State.stamp
  with_reducible repeat' first
    | assumption | apply State.bump_keeps | apply State.mgmtEvt_keeps | apply State.tsShow_keeps | apply Keeps.ite | simp only [Keeps.upd]

theorem State.respond_keeps {s0 s : State} {x1 x2} (h : Keeps s0 s) : Keeps s0 (State.respond s x1 x2) := by
  unfold State.respond
  with_reducible repeat' first | assumption | simp only [Keeps.upd]

theorem State.mctpControl_keeps {s0 s t : State} {p r} (h : Keeps s0 s) (e : s.mctpControl p = some (r, t)) : Keeps s0 t := by
  unfold State.mctpControl at e
  dsimp only at e
  split at e <;> cases e <;> first | exact h | exact State.put_keeps h | exact State.takeFree_keeps h

theorem State.mctpAnswer_keeps {s0 s : State} {x1 x2} (h : Keeps s0 s) : Keeps s0 (State.mctpAnswer s x1 x2) := by
  unfold State.mctpAnswer
  with_reducible repeat' first | assumption | refine State.mctpControl_keeps ?_ (by assumption) | apply State.respond_keeps | split

theorem State.mctpReceive_keeps {s0 s : State} {x1 x2} (h : Keeps s0 s) : Keeps s0 (State.mctpReceive s x1 x2) := by
  unfold State.mctpReceive
  with_reducible repeat' first | assumption | apply State.mctpAnswer_keeps | apply State.mgmtEvt_keeps | apply Keeps.ite | simp only [Keeps.upd]

theorem mctpTurnF_keeps {s0 s : State} {x0} (h : Keeps s0 s) : Keeps s0 (mctpTurnF x0 s) := by
  induction x0 generalizing s with
  | zero => exact h
  | succ k ih =>
    unfold mctpTurnF
    split
    · exact h
    · split
      · exact ih (State.mctpAnswer_keeps (Keeps.upd.mpr h))
      · exact h

theorem State.mctpTurn_keeps {s0 s : State} (h : Keeps s0 s) : Keeps s0 (State.mctpTurn s) := by
  unfold State.mctpTurn
  with_reducible repeat' first | assumption | apply mctpTurnF_keeps

theorem State.mgmtDispatch_keeps {s0 s : State} {x1} (h : Keeps s0 s) : Keeps s0 (State.mgmtDispatch s x1) := by
  unfold State.mgmtDispatch
  with_reducible repeat' first
    | assumption | apply State.bump_keeps | apply State.emit_keeps | apply State.mctpReceive_keeps | apply State.stamp_keeps | apply Keeps.ite
    | simp only [Keeps.upd] | split

theorem State.carrierTo_keeps {s0 s : State} {x1} (h : Keeps s0 s) : Keeps s0 (State.carrierTo s x1) := by
  unfold State.carrierTo
  with_reducible repeat' first | assumption | simp only [Keeps.upd]

theorem execMgmtReceive_keeps {s0 s : State} {x0 x1 x2 x3} (h : Keeps s0 s) : KeepsOut s0 (execMgmtReceive x0 x1 x2 x3 s) := by
  unfold execMgmtReceive
  with_reducible repeat' first
    | assumption | apply State.bump_keeps | apply State.carrierTo_keeps | apply State.mgmtDispatch_keeps | apply State.mgmtEvt_keeps
    | apply State.upTo_keeps | apply KeepsOut.ite | apply KeepsOut.next | split

theorem State.attempt_keeps {s0 s : State} {x1} (h : Keeps s0 s) : Keeps s0 (State.attempt s x1) := by
  unfold State.attempt
  with_reducible repeat' first
    | assumption | apply State.carrierTo_keeps | apply State.emit_keeps | apply State.stamp_keeps | apply Keeps.ite | simp only [Keeps.upd]

theorem State.nextMgmt_keeps {s0 s t : State} {p q f b} (h : Keeps s0 s) (e : s.nextMgmt p q = some (f, b, t)) : Keeps s0 t := by
  unfold State.nextMgmt at e
  dsimp only at e
  repeat' split at e
  all_goals cases e
  all_goals first
    | exact h
    | (simp only [Keeps.upd]; first | exact h | exact State.takeFree_keeps h)
    | (refine State.put_keeps ?_; simp only [Keeps.upd]; exact State.takeFree_keeps h)

theorem execMgmtTransmit_keeps {s0 s : State} {x0 x1 x2} (h : Keeps s0 s) : KeepsOut s0 (execMgmtTransmit x0 x1 x2 s) := by
  unfold execMgmtTransmit
  with_reducible repeat' first
    | assumption | refine State.nextMgmt_keeps ?_ (by assumption) | apply State.attempt_keeps | apply State.upTo_keeps | apply KeepsOut.ite
    | apply KeepsOut.next | split

theorem execCollision_keeps {s0 s : State} {x0} (h : Keeps s0 s) : KeepsOut s0 (execCollision x0 s) := by
  unfold execCollision
  with_reducible repeat' first
    | assumption | apply State.bump_keeps | apply State.mgmtEvt_keeps | apply State.takeFree_keeps | apply State.tsShow_keeps | apply State.upTo_keeps
    | apply KeepsOut.ite | apply KeepsOut.next | simp only [Keeps.upd] | split

theorem execBackoffExpiry_keeps {s0 s : State} {x0} (h : Keeps s0 s) : KeepsOut s0 (execBackoffExpiry x0 s) := by
  unfold execBackoffExpiry
  dsimp only
  with_reducible repeat' first | assumption | apply State.attempt_keeps | apply State.upTo_keeps | apply KeepsOut.ite | apply KeepsOut.next | split

theorem execMgmtTsPop_keeps {s0 s : State} {x0} (h : Keeps s0 s) : KeepsOut s0 (execMgmtTsPop x0 s) := by
  unfold execMgmtTsPop
  with_reducible repeat' first | assumption | apply State.put_keeps | apply State.tsShow_keeps | apply KeepsOut.next | simp only [Keeps.upd]

theorem State.mgmtReset_keeps {s0 s : State} (h : Keeps s0 s) : Keeps s0 (State.mgmtReset s) := by
  unfold State.mgmtReset
  with_reducible repeat' first | assumption | apply State.put_keeps | apply State.tsShow_keeps | simp only [Keeps.upd]

theorem State.flashStart_keeps {s0 s : State} (h : Keeps s0 s) : Keeps s0 (State.flashStart s) := by
  unfold State.flashStart
  with_reducible repeat' first | assumption | apply State.emit_keeps | apply State.put_keeps | simp only [Keeps.upd]

theorem execFlashGo_keeps {s0 s : State} {x0} (h : Keeps s0 s) : KeepsOut s0 (execFlashGo x0 s) := by
  unfold execFlashGo
  with_reducible repeat' first
    | assumption | apply State.bump_keeps | apply State.flashStart_keeps | apply State.upTo_keeps | apply KeepsOut.ite | apply KeepsOut.next
    | simp only [Keeps.upd]

theorem State.flashFree_keeps {s0 s : State} (h : Keeps s0 s) : Keeps s0 (State.flashFree s) := by
  unfold State.flashFree
  with_reducible repeat' first | assumption | apply State.flashStart_keeps | apply Keeps.ite

theorem execFlashDone_keeps {s0 s : State} {x0} (h : Keeps s0 s) : KeepsOut s0 (execFlashDone x0 s) := by
  unfold execFlashDone
  with_reducible repeat' first
    | assumption | intro _ _ _ | intro _ _ | apply State.put_keeps | apply State.put1_keeps | apply KeepsOut.ite | apply KeepsOut.next
    | apply Keeps.forN

theorem execFlashTimeout_keeps {s0 s : State} {x0} (h : Keeps s0 s) : KeepsOut s0 (execFlashTimeout x0 s) := by
  unfold execFlashTimeout
  with_reducible repeat' first
    | assumption | apply State.bump_keeps | apply State.put_keeps | apply State.scpEvt_keeps | apply State.upTo_keeps | apply KeepsOut.ite
    | apply KeepsOut.next

/-! ## Monitor -/

theorem State.setMon_keeps {s0 s : State} {x1 x2} (h : Keeps s0 s) : Keeps s0 (State.setMon s x1 x2) := by
  unfold State.setMon
  with_reducible repeat' first | assumption | simp only [Keeps.upd]

theorem State.monEvt_keeps {s0 s : State} {x1 x2} (h : Keeps s0 s) : Keeps s0 (State.monEvt s x1 x2) := by
  unfold State.monEvt
  with_reducible repeat' first | assumption | apply State.cause1_keeps

theorem State.monValue_keeps {s0 s : State} {x1 x2 x3 x4} (h : Keeps s0 s) : Keeps s0 (State.monValue s x1 x2 x3 x4).2 := by
  unfold State.monValue
  with_reducible repeat' first
    | assumption | apply State.bump1_keeps | apply State.monEvt_keeps | apply State.put2_keeps | apply State.takeFree_keeps | apply Keeps.ite
    | apply Keeps.ite_snd

theorem State.monForm_keeps {s0 s : State} {x1 x2 x3} (h : Keeps s0 s) : Keeps s0 (State.monForm s x1 x2 x3).2 := by
  unfold State.monForm
  with_reducible repeat' first | assumption | intro _ _ _ | intro _ _ | apply State.monValue_keeps | apply Keeps.foldl_snd

theorem State.monFill_keeps {s0 s : State} {x1} (h : Keeps s0 s) : Keeps s0 (State.monFill s x1) := by
  unfold State.monFill
  with_reducible repeat' first
    | assumption | intro _ _ _ | intro _ _ | apply State.bump1_keeps | apply State.monEvt_keeps | apply State.monForm_keeps | apply State.setMon_keeps
    | apply Keeps.ite | apply Keeps.foldl

theorem State.monSend_keeps {s0 s : State} {x1} (h : Keeps s0 s) : Keeps s0 (State.monSend s x1) := by
  unfold State.monSend
  dsimp only
  with_reducible repeat' first
    | assumption | apply State.bump1_keeps | apply State.emit_keeps | apply State.monEvt_keeps | apply State.monFill_keeps | apply State.monForm_keeps
    | apply State.setMon_keeps | apply Keeps.ite | split

theorem execMonFrame_keeps {s0 s : State} {x0 x1} (h : Keeps s0 s) : KeepsOut s0 (execMonFrame x0 x1 s) := by
  unfold execMonFrame
  with_reducible repeat' first
    | assumption | intro _ _ _ | intro _ _ | apply State.monSend_keeps | apply State.upTo_keeps | apply Keeps.ite | apply KeepsOut.ite
    | apply KeepsOut.next | apply Keeps.forN

theorem State.monStart_keeps {s0 s : State} {x1 x2} (h : Keeps s0 s) : Keeps s0 (State.monStart s x1 x2) := by
  unfold State.monStart
  with_reducible repeat' first | assumption | apply State.setMon_keeps

theorem State.monEdge_keeps {s0 s : State} {x1 x2} (h : Keeps s0 s) : Keeps s0 (State.monEdge s x1 x2) := by
  unfold State.monEdge
  with_reducible repeat' first | assumption | apply State.monStart_keeps | apply State.put1_keeps | apply State.setMon_keeps | apply Keeps.ite

theorem execMonBlock_keeps {s0 s : State} {x0 x1} (h : Keeps s0 s) : KeepsOut s0 (execMonBlock x0 x1 s) := by
  unfold execMonBlock
  with_reducible repeat' first
    | assumption | intro _ _ _ | intro _ _ | apply State.monEdge_keeps | apply State.setMon_keeps | apply State.upTo_keeps | apply KeepsOut.ite
    | apply KeepsOut.next | apply Keeps.forN

theorem State.monReset_keeps {s0 s : State} (h : Keeps s0 s) : Keeps s0 (State.monReset s) := by
  unfold State.monReset
  with_reducible repeat' first | assumption | simp only [Keeps.upd]

/-! ## Ledger -/

theorem execLedgerCommit_keeps {s0 s : State} {x0} (h : Keeps s0 s) : KeepsOut s0 (execLedgerCommit x0 s) := by
  unfold execLedgerCommit
  with_reducible repeat' first
    | assumption | apply State.put_keeps | apply State.upTo_keeps | apply KeepsOut.ite | apply KeepsOut.next | simp only [Keeps.upd]

theorem execCommitDone_keeps {s0 s : State} {x0} (h : Keeps s0 s) : KeepsOut s0 (execCommitDone x0 s) := by
  unfold execCommitDone
  with_reducible repeat' first
    | assumption | apply State.bump_keeps | apply State.ledgerEvt_keeps | apply State.put_keeps | apply KeepsOut.ite | apply KeepsOut.next
    | simp only [Keeps.upd] | split

theorem State.emergency_keeps {s0 s : State} {x1 x2} (h : Keeps s0 s) : Keeps s0 (State.emergency s x1 x2) := by
  unfold State.emergency
  with_reducible repeat' first | assumption | simp only [Keeps.upd]

theorem State.foldRecord_keeps {s0 s : State} {x1} (h : Keeps s0 s) : Keeps s0 (State.foldRecord s x1) := by
  unfold State.foldRecord
  with_reducible repeat' first | assumption | apply State.ledCount_keeps

theorem State.ledgerLoad_keeps {s0 s : State} (h : Keeps s0 s) : Keeps s0 (State.ledgerLoad s) := by
  unfold State.ledgerLoad
  with_reducible repeat' first
    | assumption | intro _ _ _ | intro _ _ | apply State.foldRecord_keeps | apply State.ledgerEvt_keeps | apply State.put_keeps | apply Keeps.ite
    | apply Keeps.foldl | simp only [Keeps.upd] | split

theorem State.ledgerWord_keeps {s0 s : State} {x1 x2} (h : Keeps s0 s) : Keeps s0 (State.ledgerWord s x1 x2) := by
  unfold State.ledgerWord
  with_reducible repeat' first | assumption | simp only [Keeps.upd]

theorem State.ledgerAccess_keeps {s0 s : State} {x1} (h : Keeps s0 s) : Keeps s0 (State.ledgerAccess s x1).2 := by
  unfold State.ledgerAccess
  with_reducible repeat' first
    | assumption | apply State.bump_keeps | apply State.ledgerEvt_keeps | apply State.ledgerWord_keeps | apply State.put_keeps | apply Keeps.ite
    | split

theorem execLedgerData_keeps {s0 s : State} {x0 x1 x2} (h : Keeps s0 s) : KeepsOut s0 (execLedgerData x0 x1 x2 s) := by
  unfold execLedgerData
  with_reducible repeat' first | assumption | apply State.emit_keeps | apply State.ledgerAccess_keeps | apply Keeps.ite | apply KeepsOut.next

theorem execLedgerSample_keeps {s0 s : State} {x0 x1} (h : Keeps s0 s) : KeepsOut s0 (execLedgerSample x0 x1 s) := by
  unfold execLedgerSample
  with_reducible repeat' first
    | assumption | intro _ _ _ | intro _ _ | apply State.ledBump_keeps | apply State.ledCount_keeps | apply State.upTo_keeps | apply KeepsOut.ite
    | apply KeepsOut.next | apply Keeps.foldl | apply Keeps.forN | simp only [Keeps.upd]

/-! ## Trust -/

theorem State.withTrust_keeps {s0 s : State} {x1} (h : Keeps s0 s) : Keeps s0 (State.withTrust s x1) := by
  unfold State.withTrust
  with_reducible repeat' first | assumption | simp only [Keeps.upd]

theorem State.freeBytes_keeps {s0 s : State} {x1} (h : Keeps s0 s) : Keeps s0 (State.freeBytes s x1).2 := by
  unfold State.freeBytes
  with_reducible repeat' first | assumption | apply State.takeFree_keeps

theorem State.measResponse_keeps {s0 s : State} {x1} (h : Keeps s0 s) : Keeps s0 (State.measResponse s x1).2.2 := by
  unfold State.measResponse
  with_reducible repeat' first | assumption | apply State.freeBytes_keeps | apply Keeps.ite_snd_snd

theorem State.spdmAnswer_keeps {s0 s : State} {x1} (h : Keeps s0 s) : Keeps s0 (State.spdmAnswer s x1).2.2.2 := by
  unfold State.spdmAnswer
  with_reducible repeat' first | assumption | apply State.freeBytes_keeps | apply State.measResponse_keeps | apply Keeps.ite_snd_snd_snd

theorem execSpdmRequest_keeps {s0 s : State} {x0 x1} (h : Keeps s0 s) : KeepsOut s0 (execSpdmRequest x0 x1 s) := by
  unfold execSpdmRequest
  with_reducible repeat' first | assumption | apply State.withTrust_keeps | apply Keeps.ite | apply KeepsOut.ite | apply KeepsOut.next | split

theorem State.mctpSend_keeps {s0 s : State} {x1 x2} (h : Keeps s0 s) : Keeps s0 (State.mctpSend s x1 x2) := by
  unfold State.mctpSend
  with_reducible repeat' first | assumption | intro _ _ _ | intro _ _ | apply State.respond_keeps | apply Keeps.foldl

theorem execSpdmResponse_keeps {s0 s : State} (h : Keeps s0 s) : KeepsOut s0 (execSpdmResponse s) := by
  unfold execSpdmResponse
  dsimp only
  with_reducible repeat' first
    | assumption | apply State.bump_keeps | apply State.emit_keeps | apply State.mctpSend_keeps | apply State.put_keeps | apply State.spdmAnswer_keeps
    | apply State.trustEvt_keeps | apply State.withTrust_keeps | apply Keeps.ite | apply KeepsOut.next | split

theorem execMboxGo_keeps {s0 s : State} {x0} (h : Keeps s0 s) : KeepsOut s0 (execMboxGo x0 s) := by
  unfold execMboxGo
  with_reducible repeat' first | assumption | apply State.put_keeps | apply State.withTrust_keeps | apply KeepsOut.ite | apply KeepsOut.next

theorem State.mboxAccess_keeps {s0 s : State} {x1} (h : Keeps s0 s) : Keeps s0 (State.mboxAccess s x1).2 := by
  unfold State.mboxAccess
  with_reducible repeat' first | assumption | apply State.withTrust_keeps | apply Keeps.ite_snd | split

theorem execTrustMboxData_keeps {s0 s : State} {x0 x1 x2} (h : Keeps s0 s) : KeepsOut s0 (execTrustMboxData x0 x1 x2 s) := by
  unfold execTrustMboxData
  with_reducible repeat' first | assumption | apply State.emit_keeps | apply State.mboxAccess_keeps | apply Keeps.ite | apply KeepsOut.next

theorem State.imageEnter_keeps {s0 s : State} {x1 x2} (h : Keeps s0 s) : Keeps s0 (State.imageEnter s x1 x2) := by
  unfold State.imageEnter
  with_reducible repeat' first | assumption | apply State.ledCount_keeps | apply State.measure_keeps | simp only [Keeps.upd]

theorem State.fwTo_keeps {s0 s : State} {x1} (h : Keeps s0 s) : Keeps s0 (State.fwTo s x1) := by
  unfold State.fwTo
  with_reducible repeat' first | assumption | apply State.put_keeps | apply State.withTrust_keeps

theorem State.fwFail_keeps {s0 s : State} {x1} (h : Keeps s0 s) : Keeps s0 (State.fwFail s x1) := by
  unfold State.fwFail
  with_reducible repeat' first | assumption | apply State.fwTo_keeps | apply State.put_keeps | apply State.trustEvt_keeps

theorem execFwUpdate_keeps {s0 s : State} {x0} (h : Keeps s0 s) : KeepsOut s0 (execFwUpdate x0 s) := by
  unfold execFwUpdate
  with_reducible repeat' first
    | assumption | apply State.bump_keeps | apply State.fwTo_keeps | apply State.put_keeps | apply State.upTo_keeps | apply KeepsOut.ite
    | apply KeepsOut.next

theorem execImageLoaded_keeps {s0 s : State} {x0 x1} (h : Keeps s0 s) : KeepsOut s0 (execImageLoaded x0 x1 s) := by
  unfold execImageLoaded
  with_reducible repeat' first
    | assumption | apply State.fwFail_keeps | apply State.fwTo_keeps | apply State.imageEnter_keeps | apply State.storeRead_keeps
    | apply State.upTo_keeps | apply State.withTrust_keeps | apply KeepsOut.ite | apply KeepsOut.next

theorem State.handover_keeps {s0 s : State} (h : Keeps s0 s) : Keeps s0 (State.handover s) := by
  unfold State.handover
  with_reducible repeat' first | assumption | apply State.fwTo_keeps | apply State.put_keeps

theorem execFwReadyCore_keeps {s0 s : State} {x0} (h : Keeps s0 s) : KeepsOut s0 (execFwReadyCore x0 s) := by
  unfold execFwReadyCore
  with_reducible repeat' first
    | assumption | apply State.fwTo_keeps | apply State.ledCount_keeps | apply State.put_keeps | apply State.trustEvt_keeps | apply State.upTo_keeps
    | apply State.withTrust_keeps | apply KeepsOut.ite | apply KeepsOut.next

theorem execFwYield_keeps {s0 s : State} {x0} (h : Keeps s0 s) : KeepsOut s0 (execFwYield x0 s) := by
  unfold execFwYield
  with_reducible repeat' first | assumption | apply State.handover_keeps | apply State.upTo_keeps | apply Keeps.ite | apply KeepsOut.next

theorem execHandoverTimeout_keeps {s0 s : State} {x0} (h : Keeps s0 s) : KeepsOut s0 (execHandoverTimeout x0 s) := by
  unfold execHandoverTimeout
  with_reducible repeat' first | assumption | apply State.handover_keeps | apply State.upTo_keeps | apply Keeps.ite | apply KeepsOut.next

theorem execFwStartTimeout_keeps {s0 s : State} {x0} (h : Keeps s0 s) : KeepsOut s0 (execFwStartTimeout x0 s) := by
  unfold execFwStartTimeout
  with_reducible repeat' first | assumption | apply State.fwFail_keeps | apply State.upTo_keeps | apply KeepsOut.ite | apply KeepsOut.next

theorem execBadgerWatchdog_keeps {s0 s : State} {x0} (h : Keeps s0 s) : KeepsOut s0 (execBadgerWatchdog x0 s) := by
  unfold execBadgerWatchdog
  with_reducible repeat' first
    | assumption | apply State.fwTo_keeps | apply State.handover_keeps | apply State.put_keeps | apply State.takeover_keeps
    | apply State.trustEvt_keeps | apply State.upTo_keeps | apply State.withTrust_keeps | apply KeepsOut.ite | apply KeepsOut.next

theorem execBadgerRestart_keeps {s0 s : State} (h : Keeps s0 s) : KeepsOut s0 (execBadgerRestart s) := by
  unfold execBadgerRestart
  with_reducible repeat' first | assumption | apply State.put_keeps | apply State.withTrust_keeps | apply KeepsOut.ite | apply KeepsOut.next

theorem State.spdmReset_keeps {s0 s : State} (h : Keeps s0 s) : Keeps s0 (State.spdmReset s) := by
  unfold State.spdmReset
  with_reducible repeat' first | assumption | apply State.put_keeps | apply State.withTrust_keeps

/-! ## Power -/

theorem State.withPower_keeps {s0 s : State} {x1} (h : Keeps s0 s) : Keeps s0 (State.withPower s x1) := by
  unfold State.withPower
  with_reducible repeat' first | assumption | simp only [Keeps.upd]

theorem State.setPw_keeps {s0 s : State} {x1} (h : Keeps s0 s) : Keeps s0 (State.setPw s x1) := by
  unfold State.setPw
  with_reducible repeat' first | assumption | apply State.put_keeps

theorem State.sectionOff_keeps {s0 s : State} {x1} (h : Keeps s0 s) : Keeps s0 (State.sectionOff s x1) := by
  unfold State.sectionOff
  with_reducible repeat' first | assumption | apply State.abortTests_keeps | apply State.put1_keeps | apply Keeps.ite

theorem State.memQueuesEnd_keeps {s0 s : State} (h : Keeps s0 s) : Keeps s0 (State.memQueuesEnd s) := by
  unfold State.memQueuesEnd
  with_reducible repeat' first | assumption | intro _ _ _ | intro _ _ | apply State.refusedUnits_keeps | apply Keeps.foldl | simp only [Keeps.upd]

theorem State.dropRegs_keeps {s0 s : State} {p} (h : Keeps s0 s) : Keeps s0 (s.dropRegs p) :=
  ⟨h.part, h.pending, h.sent, h.mem, h.poison, fun y => Tab.sorted_filter _ _ _ (h.regs y)⟩

theorem State.draftOff_keeps {s0 s : State} (h : Keeps s0 s) : Keeps s0 (State.draftOff s) := by
  unfold State.draftOff
  with_reducible repeat' first
    | assumption | intro _ _ _ | intro _ _ | apply State.cancelPrefetch_keeps | apply State.capReset_keeps | apply State.draftReset_keeps
    | apply State.foxReset_keeps | apply State.put_keeps | apply State.spinsReset_keeps | apply State.zoomReset_keeps | simp only [Keeps.upd]

theorem State.unitsReset_keeps {s0 s : State} (h : Keeps s0 s) : Keeps s0 (State.unitsReset s) := by
  unfold State.unitsReset
  with_reducible repeat' first
    | assumption | intro _ _ _ | intro _ _ | apply State.draftOff_keeps | apply State.dmaReset_keeps
    | apply State.dropRegs_keeps | apply State.framesReset_keeps
    | apply State.lanesOff_keeps | apply State.memQueuesEnd_keeps | apply State.mgmtReset_keeps | apply State.monReset_keeps
    | apply State.pairReset_keeps | apply State.sectionOff_keeps | apply State.storeClose_keeps
    | apply State.timeWarm_keeps | apply Keeps.forN | simp only [Keeps.upd]

theorem State.sitesSleep_keeps {s0 s : State} (h : Keeps s0 s) : Keeps s0 (State.sitesSleep s) := by
  unfold State.sitesSleep
  with_reducible repeat' first
    | assumption | intro _ _ _ | intro _ _ | apply State.migrateTo_keeps | apply State.put1_keeps | apply State.updSite_keeps | apply Keeps.ite
    | apply Keeps.foldl | apply Keeps.forN

theorem State.sitesWake_keeps {s0 s : State} (h : Keeps s0 s) : Keeps s0 (State.sitesWake s) := by
  unfold State.sitesWake
  with_reducible repeat' first
    | assumption | intro _ _ _ | intro _ _ | apply State.migrateResume_keeps | apply State.put1_keeps | apply State.trackersRestart_keeps
    | apply Keeps.ite | apply Keeps.foldl

theorem State.enterD1_keeps {s0 s : State} (h : Keeps s0 s) : Keeps s0 (State.enterD1 s) := by
  unfold State.enterD1
  with_reducible repeat' first
    | assumption | apply State.powerEvt_keeps | apply State.setPw_keeps | apply State.sitesSleep_keeps | apply State.unitsReset_keeps
    | apply State.withPower_keeps

theorem State.wakeD1_keeps {s0 s : State} {x1} (h : Keeps s0 s) : Keeps s0 (State.wakeD1 s x1) := by
  unfold State.wakeD1
  with_reducible repeat' first
    | assumption | apply State.lanesWake_keeps | apply State.powerEvt_keeps | apply State.put_keeps | apply State.sectionsMove_keeps
    | apply State.setPw_keeps | apply State.sitesWake_keeps | apply State.withPower_keeps

theorem State.powerRefuse_keeps {s0 s : State} (h : Keeps s0 s) : Keeps s0 (State.powerRefuse s) := by
  unfold State.powerRefuse
  with_reducible repeat' first | assumption | apply State.bump_keeps | apply State.powerEvt_keeps

theorem State.powerCtl_keeps {s0 s : State} {x1 x2 x3} (h : Keeps s0 s) : Keeps s0 (State.powerCtl s x1 x2 x3) := by
  unfold State.powerCtl
  with_reducible repeat' first | assumption | apply State.put_keeps

theorem execEnterD1_keeps {s0 s : State} {x0 x1 x2} (h : Keeps s0 s) : KeepsOut s0 (execEnterD1 x0 x1 x2 s) := by
  unfold execEnterD1
  with_reducible repeat' first
    | assumption | apply State.enterD1_keeps | apply State.powerCtl_keeps | apply State.powerRefuse_keeps | apply State.upTo_keeps | apply Keeps.ite
    | apply KeepsOut.next

theorem State.dark_keeps {s0 s : State} {x1} (h : Keeps s0 s) : Keeps s0 (s.dark x1) :=
  ⟨h.part, h.pending, h.sent, fun _ => rfl, fun _ => rfl, fun _ => rfl⟩

theorem State.enterD2_keeps {s0 s : State} (h : Keeps s0 s) : Keeps s0 (State.enterD2 s) := by
  unfold State.enterD2
  with_reducible repeat' first
    | assumption | intro _ _ _ | intro _ _ | apply State.dark_keeps | apply State.put_keeps | apply Keeps.foldl | simp only [Keeps.upd]

theorem State.powerDown_keeps {s0 s : State} {x1 x2 x3} (h : Keeps s0 s) : Keeps s0 (State.powerDown s x1 x2 x3) := by
  unfold State.powerDown
  with_reducible repeat' first | assumption | apply State.enterD2_keeps | apply State.put_keeps

theorem execEnterD2_keeps {s0 s : State} {x0 x1 x2} (h : Keeps s0 s) : KeepsOut s0 (execEnterD2 x0 x1 x2 s) := by
  unfold execEnterD2
  with_reducible repeat' first
    | assumption | apply State.ledCount_keeps | apply State.powerCtl_keeps | apply State.powerEvt_keeps | apply State.powerRefuse_keeps
    | apply State.setPw_keeps | apply State.upTo_keeps | apply State.withPower_keeps | apply State.draftOff_keeps | apply State.sectionsMove_keeps
    | apply Keeps.ite | apply KeepsOut.ite | apply KeepsOut.next

theorem execLedgerDone_keeps {s0 s : State} {x0} (h : Keeps s0 s) : KeepsOut s0 (execLedgerDone x0 s) := by
  unfold execLedgerDone
  with_reducible repeat' first | assumption | apply State.powerDown_keeps | apply State.upTo_keeps | apply Keeps.ite | apply KeepsOut.next

theorem execLedgerWaitTimeout_keeps {s0 s : State} {x0} (h : Keeps s0 s) : KeepsOut s0 (execLedgerWaitTimeout x0 s) := by
  unfold execLedgerWaitTimeout
  with_reducible repeat' first | assumption | apply State.powerDown_keeps | apply State.upTo_keeps | apply Keeps.ite | apply KeepsOut.next

theorem State.weaveUp_keeps {s0 s : State} {x1} (h : Keeps s0 s) : Keeps s0 (State.weaveUp s x1) := by
  unfold State.weaveUp
  with_reducible repeat' first
    | assumption | apply State.defaultPlace_keeps | apply State.ledBump_keeps | apply State.ledgerLoad_keeps | apply State.measure_keeps
    | apply State.put_keeps | apply State.setPw_keeps | apply State.timeCold_keeps | apply State.withPower_keeps | apply Keeps.ite

theorem execPorNRelease_keeps {s0 s : State} {x0} (h : Keeps s0 s) : KeepsOut s0 (execPorNRelease x0 s) := by
  unfold execPorNRelease
  with_reducible repeat' first | assumption | apply State.upTo_keeps | apply State.weaveUp_keeps | apply KeepsOut.ite | apply KeepsOut.next

theorem Keeps.put_regs {s0 s : State} {l : Tab Nat} (h : Keeps s0 s) :
    Keeps s0 { s with regs := l.foldl (fun m e => Tab.put m e.1 e.2) s.regs } := by
  induction l generalizing s with
  | nil => exact h
  | cons e l ih =>
    exact ih (s := { s with regs := Tab.put s.regs e.1 e.2 })
      ⟨h.part, h.pending, h.sent, h.mem, h.poison, fun y => Tab.sorted_put _ _ _ _ (Nat.zero_le _) (h.regs y)⟩

theorem execRailsGood_keeps {s0 s : State} {x0} (h : Keeps s0 s) : KeepsOut s0 (execRailsGood x0 s) := by
  unfold execRailsGood
  dsimp only
  with_reducible repeat' first
    | apply Keeps.put_regs | assumption | intro _ _ _ | intro _ _ | apply State.lanesWake_keeps | apply State.put_keeps | apply State.put1_keeps
    | apply State.upTo_keeps | apply State.withPower_keeps | apply Keeps.ite | apply KeepsOut.ite | apply KeepsOut.next | apply Keeps.foldl

theorem execCreelSweepDone_keeps {s0 s : State} (h : Keeps s0 s) : KeepsOut s0 (execCreelSweepDone s) := by
  unfold execCreelSweepDone
  with_reducible repeat' first | assumption | apply Keeps.ite | apply KeepsOut.next | simp only [Keeps.upd]

theorem execImageFetched_keeps {s0 s : State} {x0 x1} (h : Keeps s0 s) : KeepsOut s0 (execImageFetched x0 x1 s) := by
  unfold execImageFetched
  with_reducible repeat' first
    | assumption | apply State.cause1_keeps | apply State.flashFree_keeps | apply State.imageEnter_keeps | apply State.put_keeps
    | apply State.upTo_keeps | apply State.withPower_keeps | apply Keeps.ite | apply KeepsOut.ite | apply KeepsOut.next

theorem execBootRetry_keeps {s0 s : State} (h : Keeps s0 s) : KeepsOut s0 (execBootRetry s) := by
  unfold execBootRetry
  with_reducible repeat' first | assumption | apply State.put_keeps | apply State.withPower_keeps | apply Keeps.ite | apply KeepsOut.next

theorem execFwReady_keeps {s0 s : State} {x0} (h : Keeps s0 s) : KeepsOut s0 (execFwReady x0 s) := by
  unfold execFwReady
  with_reducible repeat' first
    | assumption | apply State.powerEvt_keeps | apply State.put_keeps | apply State.setPw_keeps | apply State.upTo_keeps | apply State.withPower_keeps
    | apply Keeps.ite | apply KeepsOut.ite | apply KeepsOut.next

theorem State.wakeUp_keeps {s0 s : State} {x1} (h : Keeps s0 s) : Keeps s0 (State.wakeUp s x1) := by
  unfold State.wakeUp
  with_reducible repeat' first
    | assumption | apply State.bump_keeps | apply State.setPw_keeps | apply State.wakeD1_keeps | apply State.weaveUp_keeps
    | apply State.withPower_keeps | apply Keeps.ite

theorem execWakeFromD1_keeps {s0 s : State} {x0 x1 x2 x3} (h : Keeps s0 s) : KeepsOut s0 (execWakeFromD1 x0 x1 x2 x3 s) := by
  unfold execWakeFromD1
  with_reducible repeat' first
    | assumption | apply State.powerCtl_keeps | apply State.takeFree_keeps | apply State.upTo_keeps | apply State.wakeUp_keeps | apply Keeps.ite
    | apply KeepsOut.ite | apply KeepsOut.next

theorem execWakeTime_keeps {s0 s : State} {x0} (h : Keeps s0 s) : KeepsOut s0 (execWakeTime x0 s) := by
  unfold execWakeTime
  with_reducible repeat' first
    | assumption | apply State.upTo_keeps | apply State.wakeUp_keeps | apply State.withPower_keeps | apply Keeps.ite | apply KeepsOut.ite
    | apply KeepsOut.next

theorem execDenWakeN_keeps {s0 s : State} {x0} (h : Keeps s0 s) : KeepsOut s0 (execDenWakeN x0 s) := by
  unfold execDenWakeN
  with_reducible repeat' first | assumption | apply State.upTo_keeps | apply State.wakeUp_keeps | apply Keeps.ite | apply KeepsOut.next

theorem execWakeFrame_keeps {s0 s : State} {x0 x1 x2} (h : Keeps s0 s) : KeepsOut s0 (execWakeFrame x0 x1 x2 s) := by
  unfold execWakeFrame
  with_reducible repeat' first | assumption | apply State.upTo_keeps | apply State.wakeUp_keeps | apply Keeps.ite | apply KeepsOut.next

theorem execScpSelFall_keeps {s0 s : State} {x0} (h : Keeps s0 s) : KeepsOut s0 (execScpSelFall x0 s) := by
  unfold execScpSelFall
  with_reducible repeat' first | assumption | apply State.upTo_keeps | apply State.wakeUp_keeps | apply Keeps.ite | apply KeepsOut.next

theorem execPerstRise_keeps {s0 s : State} {x0} (h : Keeps s0 s) : KeepsOut s0 (execPerstRise x0 s) := by
  unfold execPerstRise
  with_reducible repeat' first | assumption | apply State.upTo_keeps | apply State.wakeUp_keeps | apply Keeps.ite | apply KeepsOut.next

theorem State.enterD3_keeps {s0 s : State} (h : Keeps s0 s) : Keeps s0 (State.enterD3 s) := by
  unfold State.enterD3
  with_reducible repeat' first | assumption | apply State.dark_keeps

theorem State.emergencyDown_keeps {s0 s : State} {x1 x2} (h : Keeps s0 s) : Keeps s0 (State.emergencyDown s x1 x2) := by
  unfold State.emergencyDown
  with_reducible repeat' first | assumption | apply State.emergency_keeps | apply State.powerDown_keeps | apply State.withPower_keeps

theorem execSupplyFault_keeps {s0 s : State} {x0 x1} (h : Keeps s0 s) : KeepsOut s0 (execSupplyFault x0 x1 s) := by
  unfold execSupplyFault
  with_reducible repeat' first
    | assumption | apply State.emergencyDown_keeps | apply State.enterD3_keeps | apply State.upTo_keeps | apply KeepsOut.ite | apply KeepsOut.next

theorem execCauseClear_keeps {s0 s : State} (h : Keeps s0 s) : KeepsOut s0 (execCauseClear s) := by
  unfold execCauseClear
  with_reducible repeat' first | assumption | apply State.put_keeps | apply State.withPower_keeps | apply KeepsOut.next

theorem execHpEnFall_keeps {s0 s : State} {x0} (h : Keeps s0 s) : KeepsOut s0 (execHpEnFall x0 s) := by
  unfold execHpEnFall
  with_reducible repeat' first
    | assumption | apply State.ledCount_keeps | apply State.powerEvt_keeps | apply State.upTo_keeps | apply State.withPower_keeps | apply Keeps.ite
    | apply KeepsOut.ite | apply KeepsOut.next

theorem execHpEnRise_keeps {s0 s : State} {x0} (h : Keeps s0 s) : KeepsOut s0 (execHpEnRise x0 s) := by
  unfold execHpEnRise
  with_reducible repeat' first | assumption | apply State.upTo_keeps | apply State.withPower_keeps | apply KeepsOut.ite | apply KeepsOut.next

theorem execTempSample_keeps {s0 s : State} {x0 x1 x2 x3} (h : Keeps s0 s) : KeepsOut s0 (execTempSample x0 x1 x2 x3 s) := by
  unfold execTempSample
  with_reducible repeat' first
    | assumption | apply State.emergencyDown_keeps | apply State.powerEvt_keeps | apply State.put_keeps | apply State.upTo_keeps
    | apply State.withPower_keeps | apply Keeps.ite | apply KeepsOut.ite | apply KeepsOut.next

theorem execPorNAssert_keeps {s0 s : State} (h : Keeps s0 s) : KeepsOut s0 (execPorNAssert s) := by
  unfold execPorNAssert
  with_reducible repeat' first | assumption | apply State.enterD3_keeps | apply KeepsOut.next

theorem State.warmReset_keeps {s0 s : State} (h : Keeps s0 s) : Keeps s0 (State.warmReset s) := by
  unfold State.warmReset
  with_reducible repeat' first
    | assumption | intro _ _ _ | intro _ _ | apply State.dropRegs_keeps | apply State.emit_keeps | apply State.setMigRate_keeps
    | apply State.spdmReset_keeps | apply State.unitsReset_keeps | apply Keeps.ite | apply Keeps.foldl | apply Keeps.forN | simp only [Keeps.upd]

theorem execWarmReset_keeps {s0 s : State} {x0} (h : Keeps s0 s) : KeepsOut s0 (execWarmReset x0 s) := by
  unfold execWarmReset
  with_reducible repeat' first | assumption | apply State.memTime_keeps | apply State.warmReset_keeps | apply KeepsOut.next

/-! ## View -/

theorem State.noteOffline_keeps {s0 s : State} {x1 x2} (h : Keeps s0 s) : Keeps s0 (State.noteOffline s x1 x2) := by
  unfold State.noteOffline
  with_reducible repeat' first | assumption | apply State.knotOffline_keeps | apply Keeps.ite

theorem State.clearRc_keeps {s0 s : State} {x1 x2 x3} (h : Keeps s0 s) : Keeps s0 (State.clearRc s x1 x2 x3) := by
  unfold State.clearRc
  with_reducible repeat' first
    | assumption | intro _ _ _ | intro _ _ | apply State.put2_keeps | apply Keeps.ite | apply Keeps.foldl | simp only [Keeps.upd]

theorem State.advance_keeps {s0 s : State} {x1 x2} (h : Keeps s0 s) : Keeps s0 (State.advance s x1 x2) := by
  unfold State.advance
  with_reducible repeat' first
    | assumption | apply State.ledgerAccess_keeps | apply State.mboxAccess_keeps | apply State.wrap1_keeps | apply Keeps.ite

theorem State.readReg_keeps {s0 s : State} {x1 x2} (h : Keeps s0 s) : Keeps s0 (State.readReg s x1 x2).2 := by
  unfold State.readReg
  with_reducible repeat' first
    | assumption | apply State.advance_keeps | apply State.clearRc_keeps | apply State.noteOffline_keeps | apply Keeps.ite_snd | simp only [Keeps.upd]
    | split

/-! ## Control -/

theorem took_keeps {s0 s : State} {o : Out} (h : KeepsOut s0 o) : Keeps s0 (took s o) := by
  obtain ⟨t, rfl, ht⟩ := h
  exact ht

theorem State.writePart_keeps {s0 s : State} {x1 x2 x3 x4} (h : Keeps s0 s) : Keeps s0 (State.writePart s x1 x2 x3 x4) := by
  unfold State.writePart
  with_reducible repeat' first | assumption | apply State.put2_keeps | apply Keeps.ite | split

theorem State.writePlain_keeps {s0 s : State} {x1 x2 x3 x4} (h : Keeps s0 s) : Keeps s0 (State.writePlain s x1 x2 x3 x4) := by
  unfold State.writePlain
  with_reducible repeat' first | assumption | intro _ _ _ | intro _ _ | apply State.writePart_keeps | apply Keeps.foldl

theorem State.writeLevel_keeps {s0 s : State} {x1 x2 x3 x4 x5} (h : Keeps s0 s) : Keeps s0 (State.writeLevel s x1 x2 x3 x4 x5) := by
  unfold State.writeLevel
  with_reducible repeat' first | assumption | apply State.withLevels_keeps | apply State.writePlain_keeps

theorem onBit_keeps {s0 s : State} {v k f} (h : Keeps s0 s) (hf : KeepsOut s0 (f s)) : Keeps s0 (onBit v k f s) := by
  unfold onBit
  split
  · exact took_keeps hf
  · exact h

theorem State.putWord_keeps {s0 s : State} {x1 x2 x3 x4} (h : Keeps s0 s) : Keeps s0 (State.putWord s x1 x2 x3 x4) := by
  unfold State.putWord
  with_reducible repeat' first | assumption | apply State.put1_keeps

theorem State.writeEvt_keeps {s0 s : State} {x1 x2 x3} (h : Keeps s0 s) : Keeps s0 (State.writeEvt s x1 x2 x3) := by
  unfold State.writeEvt
  with_reducible repeat' first | assumption | apply State.routeGain_keeps | apply State.writePlain_keeps | apply clearPend_keeps | apply Keeps.ite

theorem State.msixPut_keeps {s0 s : State} {x1 x2} (h : Keeps s0 s) : Keeps s0 (State.msixPut s x1 x2) := by
  unfold State.msixPut
  with_reducible repeat' first | assumption | apply State.vecFlush_keeps | simp only [Keeps.upd]

theorem State.writeMsix_keeps {s0 s : State} {x1 x2} (h : Keeps s0 s) : Keeps s0 (State.writeMsix s x1 x2) := by
  unfold State.writeMsix
  with_reducible repeat' first | assumption | apply State.msixPut_keeps | apply Keeps.ite

theorem State.writeTime_keeps {s0 s : State} {x1 x2 x3 x4} (h : Keeps s0 s) : Keeps s0 (State.writeTime s x1 x2 x3 x4) := by
  unfold State.writeTime
  with_reducible repeat' first
    | assumption | apply State.netLost_keeps | apply State.put_keeps | apply State.putWord_keeps | apply State.rebase_keeps | apply State.select_keeps
    | apply State.waitBroken_keeps | apply State.withTime_keeps | apply State.writePlain_keeps | apply execTimeNetAdj_keeps | apply execTimeSet_keeps
    | apply execTimeStep_keeps | apply execTriginPop_keeps | apply execTrigoutArm_keeps | apply execTrigoutCancel_keeps | apply onBit_keeps
    | apply took_keeps | apply Keeps.ite

theorem State.writeDraftCtl_keeps {s0 s : State} {x1 x2} (h : Keeps s0 s) : Keeps s0 (State.writeDraftCtl s x1 x2) := by
  unfold State.writeDraftCtl
  dsimp only
  with_reducible repeat' first
    | assumption | intro _ _ _ | intro _ _ | apply State.draftIgnored_keeps | apply execDraftAbort_keeps | apply execDraftAdmit_keeps
    | apply execDraftStart_keeps | apply execDraftStop_keeps | apply took_keeps | apply Keeps.foldl | split

theorem State.writeDraft_keeps {s0 s : State} {x1 x2 x3 x4} (h : Keeps s0 s) : Keeps s0 (State.writeDraft s x1 x2 x3 x4) := by
  unfold State.writeDraft
  with_reducible repeat' first
    | assumption | apply State.draftIgnored_keeps | apply State.writeDraftCtl_keeps | apply State.writePlain_keeps | apply execDraftScpData_keeps
    | apply took_keeps | apply Keeps.ite

theorem State.writePass_keeps {s0 s : State} {x1 x2 x3} (h : Keeps s0 s) : Keeps s0 (State.writePass s x1 x2 x3) := by
  unfold State.writePass
  with_reducible repeat' first
    | assumption | intro _ _ _ | intro _ _ | apply State.put1_keeps | apply State.withLevels_keeps | apply State.writePlain_keeps | apply Keeps.ite
    | apply Keeps.forN

theorem State.writeFox_keeps {s0 s : State} {x1 x2 x3} (h : Keeps s0 s) : Keeps s0 (State.writeFox s x1 x2 x3) := by
  unfold State.writeFox
  with_reducible repeat' first
    | assumption | apply State.writePlain_keeps | apply execFoxClear_keeps | apply execFoxStalePop_keeps | apply execFoxSubmit_keeps
    | apply onBit_keeps | apply Keeps.ite

theorem State.writeLoom_keeps {s0 s : State} {x1 x2 x3} (h : Keeps s0 s) : Keeps s0 (State.writeLoom s x1 x2 x3) := by
  unfold State.writeLoom
  with_reducible repeat' first
    | assumption | apply State.put1_keeps | apply State.sectionMove_keeps | apply State.withLevels_keeps | apply State.writePlain_keeps
    | apply execTestAbort_keeps | apply execTestPower_keeps | apply execTestStart_keeps | apply onBit_keeps | apply took_keeps | apply Keeps.ite

theorem State.writeSpin_keeps {s0 s : State} {x1 x2 x3 x4} (h : Keeps s0 s) : Keeps s0 (State.writeSpin s x1 x2 x3 x4) := by
  unfold State.writeSpin
  with_reducible repeat' first
    | assumption | apply State.lmemAccess_keeps | apply State.writeLevel_keeps | apply State.writePlain_keeps | apply execProgCommit_keeps
    | apply execSpinForceSwap_keeps | apply execSpinGainData_keeps | apply execSpinProgData_keeps | apply execSpinSwap_keeps | apply onBit_keeps
    | apply took_keeps | apply Keeps.ite

theorem State.writeZoom_keeps {s0 s : State} {x1 x2 x3 x4 x5} (h : Keeps s0 s) : Keeps s0 (State.writeZoom s x1 x2 x3 x4 x5) := by
  unfold State.writeZoom
  with_reducible repeat' first
    | assumption | apply State.writePlain_keeps | apply execSwapArm_keeps | apply execSwapCancel_keeps | apply execZoomCoefData_keeps
    | apply onBit_keeps | apply took_keeps | apply Keeps.ite

theorem State.writeLane_keeps {s0 s : State} {x1 x2 x3 x4} (h : Keeps s0 s) : Keeps s0 (State.writeLane s x1 x2 x3 x4) := by
  unfold State.writeLane
  with_reducible repeat' first
    | assumption | apply State.writeLevel_keeps | apply State.writePlain_keeps | apply execHankCtl_keeps | apply execLaneRelock_keeps
    | apply execLaneTxFfe_keeps | apply onBit_keeps | apply took_keeps | apply Keeps.ite

theorem State.writeFrame_keeps {s0 s : State} {x1 x2 x3} (h : Keeps s0 s) : Keeps s0 (State.writeFrame s x1 x2 x3) := by
  unfold State.writeFrame
  with_reducible repeat' first | assumption | apply State.writePlain_keeps | apply execFrameGapPop_keeps | apply onBit_keeps | apply Keeps.ite

theorem State.writeMesh_keeps {s0 s : State} {x1 x2 x3 x4} (h : Keeps s0 s) : Keeps s0 (State.writeMesh s x1 x2 x3 x4) := by
  unfold State.writeMesh
  with_reducible repeat' first
    | assumption | apply State.writePlain_keeps | apply execMeshArm_keeps | apply execMeshCancel_keeps | apply onBit_keeps | apply Keeps.ite

theorem State.writeMem_keeps {s0 s : State} {x1 x2 x3 x4} (h : Keeps s0 s) : Keeps s0 (State.writeMem s x1 x2 x3 x4) := by
  unfold State.writeMem
  with_reducible repeat' first
    | assumption | apply State.memTime_keeps | apply State.put1_keeps | apply State.setMigRate_keeps | apply State.trainRefused_keeps
    | apply State.writePlain_keeps | apply execMemProbe_keeps | apply execMemRetire_keeps | apply execMemTrainDly_keeps | apply execTrainCommit_keeps
    | apply execTrainFail_keeps | apply onBit_keeps | apply took_keeps | apply Keeps.ite

theorem State.writeStore_keeps {s0 s : State} {x1 x2 x3} (h : Keeps s0 s) : Keeps s0 (State.writeStore s x1 x2 x3) := by
  unfold State.writeStore
  with_reducible repeat' first
    | assumption | apply State.writePlain_keeps | apply execInvAll_keeps | apply execInvGo_keeps | apply execStoreFaultPop_keeps | apply onBit_keeps
    | apply took_keeps | apply Keeps.ite

theorem State.writeCapture_keeps {s0 s : State} {x1 x2 x3} (h : Keeps s0 s) : Keeps s0 (State.writeCapture s x1 x2 x3) := by
  unfold State.writeCapture
  with_reducible repeat' first | assumption | apply State.put1_keeps | apply State.writePlain_keeps | apply Keeps.ite

theorem State.writeDma_keeps {s0 s : State} {x1 x2 x3} (h : Keeps s0 s) : Keeps s0 (State.writeDma s x1 x2 x3) := by
  unfold State.writeDma
  with_reducible repeat' first
    | assumption | apply State.bump1_keeps | apply State.dmaDisable_keeps | apply State.writePlain_keeps | apply execDmaArm_keeps | apply onBit_keeps
    | apply Keeps.ite

theorem State.writeCheck_keeps {s0 s : State} {x1 x2 x3} (h : Keeps s0 s) : Keeps s0 (State.writeCheck s x1 x2 x3) := by
  unfold State.writeCheck
  with_reducible repeat' first
    | assumption | apply State.writeLevel_keeps | apply State.writePlain_keeps | apply execCheckAliveIn_keeps | apply execCheckData_keeps
    | apply execCheckInit_keeps | apply execCheckState_keeps | apply onBit_keeps | apply took_keeps | apply Keeps.ite

theorem State.writeHostif_keeps {s0 s : State} {x1 x2 x3 x4 x5} (h : Keeps s0 s) : Keeps s0 (State.writeHostif s x1 x2 x3 x4 x5) := by
  unfold State.writeHostif
  with_reducible repeat' first
    | assumption | apply State.tsShow_keeps | apply State.writePlain_keeps | apply execFlashGo_keeps | apply execMgmtTsPop_keeps | apply onBit_keeps
    | apply took_keeps | apply Keeps.ite

theorem State.writeTrust_keeps {s0 s : State} {x1 x2 x3 x4} (h : Keeps s0 s) : Keeps s0 (State.writeTrust s x1 x2 x3 x4) := by
  unfold State.writeTrust
  with_reducible repeat' first
    | assumption | apply State.mboxAccess_keeps | apply State.writePlain_keeps | apply execFwReadyCore_keeps | apply execFwUpdate_keeps
    | apply execFwYield_keeps | apply execMboxGo_keeps | apply onBit_keeps | apply took_keeps | apply Keeps.ite

theorem State.writeLedger_keeps {s0 s : State} {x1 x2 x3 x4} (h : Keeps s0 s) : Keeps s0 (State.writeLedger s x1 x2 x3 x4) := by
  unfold State.writeLedger
  with_reducible repeat' first
    | assumption | apply State.ledgerAccess_keeps | apply State.writePlain_keeps | apply execLedgerCommit_keeps | apply onBit_keeps | apply Keeps.ite

theorem State.writePair_keeps {s0 s : State} {x1 x2 x3 x4} (h : Keeps s0 s) : Keeps s0 (State.writePair s x1 x2 x3 x4) := by
  unfold State.writePair
  with_reducible repeat' first
    | assumption | apply State.put_keeps | apply State.putWord_keeps | apply State.writePlain_keeps | apply execBadgerRestart_keeps
    | apply execPairGrantEnd_keeps | apply execPairResync_keeps | apply execPairSolo_keeps | apply onBit_keeps | apply took_keeps | apply Keeps.ite

theorem State.writePowerCtl_keeps {s0 s : State} {x1 x2 x3} (h : Keeps s0 s) : Keeps s0 (State.writePowerCtl s x1 x2 x3) := by
  unfold State.writePowerCtl
  with_reducible repeat' first
    | assumption | apply State.powerCtl_keeps | apply execEnterD1_keeps | apply execEnterD2_keeps | apply execFwReady_keeps
    | apply execLedgerDone_keeps | apply execWakeFromD1_keeps | apply execWarmReset_keeps | apply onBit_keeps | apply took_keeps | apply Keeps.ite

theorem State.writePower_keeps {s0 s : State} {x1 x2 x3 x4 x5} (h : Keeps s0 s) : Keeps s0 (State.writePower s x1 x2 x3 x4 x5) := by
  unfold State.writePower
  with_reducible repeat' first
    | assumption | apply State.withPower_keeps | apply State.writePlain_keeps | apply State.writePowerCtl_keeps | apply execCauseClear_keeps
    | apply onBit_keeps | apply Keeps.ite

theorem State.writeGroup_keeps {s0 s : State} {x1 x2} (h : Keeps s0 s) : Keeps s0 (State.writeGroup s x1 x2) := by
  unfold State.writeGroup
  with_reducible repeat' first | assumption | apply State.put1_keeps | apply Keeps.ite

theorem State.writeLock_keeps {s0 s : State} {x1 x2} (h : Keeps s0 s) : Keeps s0 (State.writeLock s x1 x2) := by
  unfold State.writeLock
  with_reducible repeat' first | assumption | apply State.bump_keeps | apply Keeps.ite | simp only [Keeps.upd]

theorem State.writeXbar_keeps {s0 s : State} {x1 x2 x3 x4} (h : Keeps s0 s) : Keeps s0 (State.writeXbar s x1 x2 x3 x4) := by
  unfold State.writeXbar
  with_reducible repeat' first
    | assumption | apply State.put_keeps | apply State.writeGroup_keeps | apply State.writeLock_keeps | apply State.writePlain_keeps | apply Keeps.ite

theorem State.writeUnit_keeps {s0 s : State} {x1 x2 x3 x4 x5 x6} (h : Keeps s0 s) : Keeps s0 (State.writeUnit s x1 x2 x3 x4 x5 x6) := by
  unfold State.writeUnit
  with_reducible repeat' first
    | assumption | apply State.writeCapture_keeps | apply State.writeCheck_keeps | apply State.writeDma_keeps | apply State.writeDraft_keeps
    | apply State.writeEvt_keeps | apply State.writeFox_keeps | apply State.writeFrame_keeps | apply State.writeHostif_keeps
    | apply State.writeLane_keeps | apply State.writeLedger_keeps | apply State.writeLoom_keeps | apply State.writeMem_keeps
    | apply State.writeMesh_keeps | apply State.writePair_keeps | apply State.writePass_keeps | apply State.writePlain_keeps
    | apply State.writePower_keeps | apply State.writeSpin_keeps | apply State.writeStore_keeps | apply State.writeTime_keeps
    | apply State.writeTrust_keeps | apply State.writeXbar_keeps | apply State.writeZoom_keeps | apply execBootRetry_keeps | apply onBit_keeps
    | apply Keeps.ite

theorem State.writeReg_keeps {s0 s : State} {x1 x2 x3 x4} (h : Keeps s0 s) : Keeps s0 (State.writeReg s x1 x2 x3 x4) := by
  unfold State.writeReg
  with_reducible repeat' first
    | assumption | apply State.noteOffline_keeps | apply State.upTo_keeps | apply State.writeMsix_keeps | apply State.writeUnit_keeps
    | apply Keeps.ite | split

/-! ## Xbar -/

theorem State.groupWrite_keeps {s0 s : State} {x1 x2 x3 x4 x5} (h : Keeps s0 s) : Keeps s0 (State.groupWrite s x1 x2 x3 x4 x5) := by
  unfold State.groupWrite
  with_reducible repeat' first
    | assumption | intro _ _ _ | intro _ _ | apply State.bump_keeps | apply State.writeReg_keeps | apply Keeps.ite | apply Keeps.foldl | split

theorem State.groupRead_keeps {s0 s : State} {x1 x2 x3} (h : Keeps s0 s) : Keeps s0 (State.groupRead s x1 x2 x3).2 := by
  unfold State.groupRead
  with_reducible repeat' first | assumption | apply State.bump_keeps | split

theorem State.granted_keeps {s0 s : State} {x1 x2} (h : Keeps s0 s) : Keeps s0 (State.granted s x1 x2) := by
  unfold State.granted
  with_reducible repeat' first | assumption | apply State.grantedTo_keeps | split

theorem State.memShown_keeps {s0 s : State} {x1} (h : Keeps s0 s) : Keeps s0 (State.memShown s x1) := by
  unfold State.memShown
  with_reducible repeat' first
    | assumption | intro _ _ _ | intro _ _ | apply State.migrateTo_keeps | apply State.shedTime_keeps | apply State.throttleCount_keeps
    | apply Keeps.ite | apply Keeps.forN

theorem State.perform_keeps {s0 s : State} {x1 x2 x3 x4 x5} (h : Keeps s0 s) : Keeps s0 (State.perform s x1 x2 x3 x4 x5).2 := by
  unfold State.perform
  with_reducible repeat' first
    | assumption | apply State.granted_keeps | apply State.groupRead_keeps | apply State.groupWrite_keeps | apply State.memShown_keeps
    | apply State.readReg_keeps | apply State.writeReg_keeps | apply Keeps.ite_snd | split

theorem State.answerRead_keeps {s0 s : State} {x1 x2 x3} (h : Keeps s0 s) : Keeps s0 (State.answerRead s x1 x2 x3) := by
  unfold State.answerRead
  with_reducible repeat' first | assumption | apply State.emit_keeps | apply Keeps.ite | simp only [Keeps.upd]

theorem State.tellOffline_keeps {s0 s : State} {x1 x2 x3} (h : Keeps s0 s) : Keeps s0 (State.tellOffline s x1 x2 x3) := by
  unfold State.tellOffline
  with_reducible repeat' first | assumption | apply State.emit_keeps | apply Keeps.ite | simp only [Keeps.upd]

theorem State.serve_keeps {s0 s : State} {x1 x2 x3 x4 x5} (h : Keeps s0 s) : Keeps s0 (State.serve s x1 x2 x3 x4 x5) := by
  unfold State.serve
  with_reducible repeat' first
    | assumption | apply State.answerRead_keeps | apply State.perform_keeps | apply State.tellOffline_keeps | apply Keeps.ite

theorem drainF_keeps {s0 : State} {x0 x1} : ∀ {s : State}, Keeps s0 s → Keeps s0 (drainF x0 x1 s) := by
  induction x0 with
  | zero => exact fun h => h
  | succ k ih =>
    intro s h
    unfold drainF
    split
    · exact h
    · exact ih (State.serve_keeps (Keeps.upd.mpr h))

theorem State.armResume_keeps {s0 s : State} {x1} (h : Keeps s0 s) : Keeps s0 (State.armResume s x1) := by
  unfold State.armResume
  with_reducible repeat' first | assumption | apply execDraftStart_keeps | apply took_keeps | apply Keeps.ite | simp only [Keeps.upd]

theorem State.drainQueue_keeps {s0 s : State} {x1} (h : Keeps s0 s) : Keeps s0 (State.drainQueue s x1) := by
  unfold State.drainQueue
  with_reducible repeat' first | assumption | apply State.armResume_keeps | apply drainF_keeps

theorem State.lockWritten_keeps {s0 s : State} {x1 x2 x3} (h : Keeps s0 s) : Keeps s0 (State.lockWritten s x1 x2 x3) := by
  unfold State.lockWritten
  with_reducible repeat' first | assumption | apply State.drainQueue_keeps | apply Keeps.ite

theorem State.request_keeps {s0 s : State} {x1 x2 x3 x4} (h : Keeps s0 s) : Keeps s0 (State.request s x1 x2 x3 x4) := by
  unfold State.request
  with_reducible repeat' first | assumption | apply State.lockWritten_keeps | apply State.serve_keeps | apply Keeps.ite | simp only [Keeps.upd]

theorem State.hostWrite_keeps {s0 s : State} {x1 x2 x3} (h : Keeps s0 s) : Keeps s0 (State.hostWrite s x1 x2 x3).2 := by
  unfold State.hostWrite
  with_reducible repeat' first | assumption | apply State.bump_keeps | apply State.mirror_keeps | apply Keeps.ite_snd

theorem State.accessNow_keeps {s0 s : State} {x1 x2 x3 x4} (h : Keeps s0 s) : Keeps s0 (State.accessNow s x1 x2 x3 x4).2 := by
  unfold State.accessNow
  with_reducible repeat' first
    | assumption | apply State.hostWrite_keeps | apply State.lockWritten_keeps | apply State.perform_keeps | apply Keeps.ite_snd | split

theorem State.access_keeps {s0 s : State} {x1 x2 x3 x4} (h : Keeps s0 s) : Keeps s0 (State.access s x1 x2 x3 x4) := by
  unfold State.access
  with_reducible repeat' first
    | assumption | apply State.answerRead_keeps | apply State.emit_keeps | apply State.hostWrite_keeps | apply State.request_keeps
    | apply State.upTo_keeps | apply Keeps.ite | split

theorem execRegisterWrite_keeps {s0 s : State} {x0 x1 x2 x3} (h : Keeps s0 s) : KeepsOut s0 (execRegisterWrite x0 x1 x2 x3 s) := by
  unfold execRegisterWrite
  with_reducible repeat' first | assumption | apply State.access_keeps | apply State.upTo_keeps | apply KeepsOut.ite | apply KeepsOut.next

theorem execRcRead_keeps {s0 s : State} {x0 x1 x2} (h : Keeps s0 s) : KeepsOut s0 (execRcRead x0 x1 x2 s) := by
  unfold execRcRead
  with_reducible repeat' first | assumption | apply State.access_keeps | apply KeepsOut.next

theorem execLatchedLowRead_keeps {s0 s : State} {x0 x1 x2} (h : Keeps s0 s) : KeepsOut s0 (execLatchedLowRead x0 x1 x2 s) := by
  unfold execLatchedLowRead
  with_reducible repeat' first | assumption | apply State.access_keeps | apply KeepsOut.next

theorem execGroupWrite_keeps {s0 s : State} {x0 x1 x2 x3} (h : Keeps s0 s) : KeepsOut s0 (execGroupWrite x0 x1 x2 x3 s) := by
  unfold execGroupWrite
  with_reducible repeat' first | assumption | apply State.access_keeps | apply State.upTo_keeps | apply KeepsOut.ite | apply KeepsOut.next

theorem execGroupRead_keeps {s0 s : State} {x0 x1 x2} (h : Keeps s0 s) : KeepsOut s0 (execGroupRead x0 x1 x2 s) := by
  unfold execGroupRead
  with_reducible repeat' first | assumption | apply State.access_keeps | apply KeepsOut.next

theorem execLockAcquire_keeps {s0 s : State} {x0 x1 x2} (h : Keeps s0 s) : KeepsOut s0 (execLockAcquire x0 x1 x2 s) := by
  unfold execLockAcquire
  with_reducible repeat' first | assumption | apply State.upTo_keeps | apply State.writeLock_keeps | apply KeepsOut.next

theorem execLockGrant_keeps {s0 s : State} {x0 x1} (h : Keeps s0 s) : KeepsOut s0 (execLockGrant x0 x1 s) := by
  unfold execLockGrant
  with_reducible repeat' first | assumption | apply State.upTo_keeps | apply KeepsOut.ite | apply KeepsOut.next | simp only [Keeps.upd]

theorem execLockRelease_keeps {s0 s : State} {x0 x1} (h : Keeps s0 s) : KeepsOut s0 (execLockRelease x0 x1 s) := by
  unfold execLockRelease
  with_reducible repeat' first
    | assumption | apply State.drainQueue_keeps | apply State.upTo_keeps | apply State.writeLock_keeps | apply KeepsOut.next

theorem execLockExpiry_keeps {s0 s : State} {x0 x1} (h : Keeps s0 s) : KeepsOut s0 (execLockExpiry x0 x1 s) := by
  unfold execLockExpiry
  with_reducible repeat' first
    | assumption | apply State.bump_keeps | apply State.drainQueue_keeps | apply State.raise_keeps | apply State.upTo_keeps | apply KeepsOut.ite
    | apply KeepsOut.next | simp only [Keeps.upd]

theorem execXbarTimeout_keeps {s0 s : State} {x0 x1 x2 x3} (h : Keeps s0 s) : KeepsOut s0 (execXbarTimeout x0 x1 x2 x3 s) := by
  unfold execXbarTimeout
  with_reducible repeat' first
    | assumption | apply State.answerRead_keeps | apply State.bump_keeps | apply State.emit_keeps | apply State.raise_keeps | apply State.upTo_keeps
    | apply KeepsOut.ite | apply KeepsOut.next | simp only [Keeps.upd]

theorem execEvtPend_keeps {s0 s : State} {x0 x1} (h : Keeps s0 s) : KeepsOut s0 (execEvtPend x0 x1 s) := by
  unfold execEvtPend
  with_reducible repeat' first | assumption | apply clearPend_keeps | apply KeepsOut.next

theorem execMsixUnmask_keeps {s0 s : State} {x0 x1} (h : Keeps s0 s) : KeepsOut s0 (execMsixUnmask x0 x1 s) := by
  unfold execMsixUnmask
  with_reducible repeat' first | assumption | apply State.vecFlush_keeps | apply KeepsOut.next | simp only [Keeps.upd]

/-! ## DmaMove -/

theorem aperRead_keeps {s0 s : State} {x0 x2} (h : Keeps s0 s) : Keeps s0 (aperRead x0 s x2).2 := by
  unfold aperRead
  with_reducible repeat' first | assumption | apply State.perform_keeps

theorem aperWrite_keeps {s0 s : State} {x0 x2 x3} (h : Keeps s0 s) : Keeps s0 (aperWrite x0 s x2 x3).2 := by
  unfold aperWrite
  with_reducible repeat' first | assumption | apply State.lockWritten_keeps | apply State.perform_keeps

theorem execDescriptorFetch_keeps {s0 s : State} {x0 x1 x2 x3} (h : Keeps s0 s) : KeepsOut s0 (execDescriptorFetch x0 x1 x2 x3 s) := by
  unfold execDescriptorFetch
  with_reducible repeat' first
    | assumption | apply State.dmaFail_keeps | apply State.pciePoison_keeps | apply State.put1_keeps | apply State.setDma_keeps
    | apply State.storeRead_keeps | apply State.upTo_keeps | apply KeepsOut.ite | apply KeepsOut.next

theorem execDescriptorComplete_keeps {s0 s : State} {x0 x1 x2 x3} (h : Keeps s0 s) : KeepsOut s0 (execDescriptorComplete x0 x1 x2 x3 s) := by
  unfold execDescriptorComplete
  with_reducible repeat' first
    | assumption | intro _ _ _ | intro _ _ | apply State.dmaComplete_keeps | apply State.dmaFinish_keeps | apply State.upTo_keeps
    | apply aperRead_keeps | apply aperWrite_keeps | apply Keeps.ite | apply KeepsOut.ite | apply KeepsOut.next | split

theorem execDmaFailure_keeps {s0 s : State} {x0 x1 x2 x3 x4 x5} (h : Keeps s0 s) : KeepsOut s0 (execDmaFailure x0 x1 x2 x3 x4 x5 s) := by
  unfold execDmaFailure
  with_reducible repeat' first
    | assumption | intro _ _ _ | intro _ _ | apply State.dmaBody_keeps | apply State.dmaFail_keeps | apply State.dmaMove_keeps
    | apply State.dmaPoison_keeps | apply State.upTo_keeps | apply aperRead_keeps | apply aperWrite_keeps | apply Keeps.ite | apply KeepsOut.ite
    | apply KeepsOut.next

theorem execDmaDisable_keeps {s0 s : State} {x0 x1 x2 x3} (h : Keeps s0 s) : KeepsOut s0 (execDmaDisable x0 x1 x2 x3 s) := by
  unfold execDmaDisable
  with_reducible repeat' first
    | assumption | intro _ _ _ | intro _ _ | apply State.dmaDrop_keeps | apply State.dmaIssued_keeps | apply State.put1_keeps | apply State.upTo_keeps
    | apply aperRead_keeps | apply aperWrite_keeps | apply KeepsOut.ite | apply KeepsOut.next

/-! ## Access -/

theorem State.serveAper_keeps {s0 s : State} {x1 x2 x3 x4 x5 x6 x7} (h : Keeps s0 s) : Keeps s0 (State.serveAper s x1 x2 x3 x4 x5 x6 x7) := by
  unfold State.serveAper
  with_reducible repeat' first
    | assumption | intro _ _ _ | intro _ _ | apply State.emit_keeps | apply aperRead_keeps | apply aperWrite_keeps | apply Keeps.ite
    | apply Keeps.foldl_snd | apply Keeps.foldl_snd_snd

theorem State.serveWrite_keeps {s0 s : State} {x1 x2 x3 x4} (h : Keeps s0 s) : Keeps s0 (State.serveWrite s x1 x2 x3 x4).1 := by
  unfold State.serveWrite
  with_reducible repeat' first | assumption | apply State.bump_keeps | apply State.segWriteP_keeps | apply Keeps.ite

theorem State.serveRead_keeps {s0 s : State} {x1 x2 x3 x4 x5} (h : Keeps s0 s) : Keeps s0 (State.serveRead s x1 x2 x3 x4 x5) := by
  unfold State.serveRead
  with_reducible repeat' first
    | assumption | apply State.emit_keeps | apply State.pciePoison_keeps | apply State.segRead_keeps | apply State.translate_keeps | apply Keeps.ite
    | simp only [Keeps.upd] | split

theorem State.serveSegment_keeps {s0 s : State} {x1 x2 x3 x4 x5 x6 x7 x8} (h :
    Keeps s0 s) : Keeps s0 (State.serveSegment s x1 x2 x3 x4 x5 x6 x7 x8) := by
  unfold State.serveSegment
  with_reducible repeat' first
    | assumption | apply State.emit_keeps | apply State.flushLanes_keeps | apply State.serveAper_keeps | apply State.serveRead_keeps
    | apply State.serveWrite_keeps | apply State.translate_keeps | apply Keeps.ite | split

theorem State.closedSegment_keeps {s0 s : State} {x1 x2 x3 x4} (h : Keeps s0 s) : Keeps s0 (State.closedSegment s x1 x2 x3 x4) := by
  unfold State.closedSegment
  with_reducible repeat' first | assumption | apply State.bump_keeps | apply State.emit_keeps | apply State.refusedUnits_keeps | apply Keeps.ite

theorem execStoreAccess_keeps {s0 s : State} {x0 x1 x2 x3 x4 x5 x6 x7} (h :
    Keeps s0 s) : KeepsOut s0 (execStoreAccess x0 x1 x2 x3 x4 x5 x6 x7 s) := by
  unfold execStoreAccess
  with_reducible repeat' first
    | assumption | apply State.closedSegment_keeps | apply State.serveSegment_keeps | apply State.upTo_keeps | apply KeepsOut.ite
    | apply KeepsOut.next | simp only [Keeps.upd]

theorem execWalkDone_keeps {s0 s : State} {x0 x1 x2 x3} (h : Keeps s0 s) : KeepsOut s0 (execWalkDone x0 x1 x2 x3 s) := by
  unfold execWalkDone
  with_reducible repeat' first
    | assumption | apply State.closedSegment_keeps | apply State.serveSegment_keeps | apply State.upTo_keeps | apply Keeps.ite | apply KeepsOut.ite
    | apply KeepsOut.next | simp only [Keeps.upd] | split

theorem State.mirrorBar2_keeps {s0 s : State} {x1 x2} (h : Keeps s0 s) : Keeps s0 (State.mirrorBar2 s x1 x2) := by
  unfold State.mirrorBar2
  with_reducible repeat' first
    | assumption | apply State.mirrorStore_keeps | apply State.mirrorWords_keeps | apply State.noteStore_keeps | apply State.takeFree_keeps
    | apply Keeps.ite | apply Keeps.ite_snd | split

theorem execBar2Request_keeps {s0 s : State} {x0 x1 x2 x3 x4 x5 x6} (h : Keeps s0 s) : KeepsOut s0 (execBar2Request x0 x1 x2 x3 x4 x5 x6 s) := by
  unfold execBar2Request
  with_reducible repeat' first
    | assumption | intro _ _ _ | intro _ _ | apply State.bump_keeps | apply State.flushLanes_keeps | apply State.mirrorBar2_keeps
    | apply State.pciePoison_keeps | apply State.serveRead_keeps | apply State.serveWrite_keeps | apply State.upTo_keeps | apply Keeps.ite
    | apply KeepsOut.ite | apply KeepsOut.next | apply Keeps.foldl

/-! ## HostPorts -/

theorem State.bar0Refuse_keeps {s0 s : State} (h : Keeps s0 s) : Keeps s0 (State.bar0Refuse s) := by
  unfold State.bar0Refuse
  with_reducible repeat' first | assumption | apply State.bump_keeps | apply State.pcieEvt_keeps

theorem execBar0Request_keeps {s0 s : State} {x0 x1 x2 x3 x4 x5} (h : Keeps s0 s) : KeepsOut s0 (execBar0Request x0 x1 x2 x3 x4 x5 s) := by
  unfold execBar0Request
  with_reducible repeat' first
    | assumption | apply State.access_keeps | apply State.bar0Refuse_keeps | apply State.emit_keeps | apply State.upTo_keeps | apply KeepsOut.ite
    | apply KeepsOut.next

theorem State.reqWords_keeps {s0 s : State} {x1 x2 x3} (h : Keeps s0 s) : Keeps s0 (State.reqWords s x1 x2 x3).2 := by
  unfold State.reqWords
  with_reducible repeat' first
    | assumption | intro _ _ _ | intro _ _ | apply State.accessNow_keeps | apply State.bump_keeps | apply State.raise_keeps | apply Keeps.ite_snd
    | apply Keeps.foldl_snd

theorem execRegisterRequest_keeps {s0 s : State} {x0 x1} (h : Keeps s0 s) : KeepsOut s0 (execRegisterRequest x0 x1 s) := by
  unfold execRegisterRequest
  with_reducible repeat' first
    | assumption | apply State.mctpTurn_keeps | apply State.mgmtEvt_keeps | apply State.reqWords_keeps | apply State.respond_keeps
    | apply State.upTo_keeps | apply KeepsOut.ite | apply KeepsOut.next | simp only [Keeps.upd] | split

theorem State.scpMode_keeps {s0 s : State} {x1} (h : Keeps s0 s) : Keeps s0 (State.scpMode s x1) := by
  unfold State.scpMode
  with_reducible repeat' first | assumption | simp only [Keeps.upd]

theorem State.scpRefuse_keeps {s0 s : State} (h : Keeps s0 s) : Keeps s0 (State.scpRefuse s) := by
  unfold State.scpRefuse
  with_reducible repeat' first | assumption | apply State.bump_keeps | apply State.scpEvt_keeps | apply State.scpMode_keeps

theorem execScpWrite_keeps {s0 s : State} {x0 x1 x2} (h : Keeps s0 s) : KeepsOut s0 (execScpWrite x0 x1 x2 s) := by
  unfold execScpWrite
  with_reducible repeat' first
    | assumption | intro _ _ _ | intro _ _ | apply State.access_keeps | apply State.scpMode_keeps | apply State.scpRefuse_keeps
    | apply State.upTo_keeps | apply KeepsOut.ite | apply KeepsOut.next | apply Keeps.foldl

theorem execScpRead_keeps {s0 s : State} {x0 x1 x2} (h : Keeps s0 s) : KeepsOut s0 (execScpRead x0 x1 x2 s) := by
  unfold execScpRead
  with_reducible repeat' first
    | assumption | intro _ _ _ | intro _ _ | apply State.access_keeps | apply State.scpMode_keeps | apply State.scpRefuse_keeps
    | apply State.upTo_keeps | apply KeepsOut.ite | apply KeepsOut.next | apply Keeps.forN | simp only [Keeps.upd] | split

theorem execScpFetch_keeps {s0 s : State} {x0 x1 x2} (h : Keeps s0 s) : KeepsOut s0 (execScpFetch x0 x1 x2 s) := by
  unfold execScpFetch
  with_reducible repeat' first
    | assumption | apply State.emit_keeps | apply State.scpMode_keeps | apply State.scpRefuse_keeps | apply State.upTo_keeps | apply KeepsOut.ite
    | apply KeepsOut.next | simp only [Keeps.upd]

theorem execScpSelRise_keeps {s0 s : State} {x0} (h : Keeps s0 s) : KeepsOut s0 (execScpSelRise x0 s) := by
  unfold execScpSelRise
  with_reducible repeat' first
    | assumption | apply State.bump_keeps | apply State.scpEvt_keeps | apply State.scpMode_keeps | apply Keeps.ite | apply KeepsOut.ite
    | apply KeepsOut.next | simp only [Keeps.upd]

/-! ## MirrorApply -/

theorem State.mirrorPull_keeps {s0 s : State} {x1} (h : Keeps s0 s) : Keeps s0 (State.mirrorPull s x1) := by
  unfold State.mirrorPull
  with_reducible repeat' first | assumption | refine State.rxTake_keeps ?_ (by assumption) | apply Keeps.ite | simp only [Keeps.upd] | split

theorem State.mirrorGap_keeps {s0 s : State} (h : Keeps s0 s) : Keeps s0 (State.mirrorGap s) := by
  unfold State.mirrorGap
  with_reducible repeat' first | assumption | apply State.pairEvt_keeps | apply State.toSyncing_keeps | apply Keeps.ite | simp only [Keeps.upd]

theorem State.mirrorSeq_keeps {s0 s : State} {x1} (h : Keeps s0 s) : Keeps s0 (State.mirrorSeq s x1) := by
  unfold State.mirrorSeq
  with_reducible repeat' first | assumption | apply State.mirrorGap_keeps | apply State.put_keeps | apply Keeps.ite

theorem State.snapCoef_keeps {s0 s : State} {x1 x2 d} (h : Keeps s0 s) (hd : Keeps s0 d) : Keeps s0 ((s.snapCoef x1 x2).getD d) := by
  unfold State.snapCoef
  dsimp only
  split
  · exact hd
  · exact State.wrap1_keeps (Keeps.upd.mpr h)

theorem State.applyRegWrite_keeps {s0 s : State} {x1 x2} (h : Keeps s0 s) : Keeps s0 (s.applyRegWrite x1 x2) := by
  unfold State.applyRegWrite
  extract_lets off a
  have ha : Keeps s0 a := Keeps.ite (State.mirrorGap_keeps h) h
  clear_value a
  split
  · exact ha
  · exact State.snapCoef_keeps ha (State.request_keeps ha)

theorem State.applyStoreWrite_keeps {s0 s : State} {x1} (h : Keeps s0 s) : Keeps s0 (State.applyStoreWrite s x1) := by
  unfold State.applyStoreWrite
  with_reducible repeat' first | assumption | apply State.noteStore_keeps | apply State.storeWrite_keeps

theorem State.applyFoxBatch_keeps {s0 s : State} {x1} (h : Keeps s0 s) : Keeps s0 (State.applyFoxBatch s x1) := by
  unfold State.applyFoxBatch
  with_reducible repeat' first | assumption | apply State.foxAccept_keeps | apply Keeps.ite | simp only [Keeps.upd] | split

theorem State.applyEmitted_keeps {s0 s : State} {x1} (h : Keeps s0 s) : Keeps s0 (State.applyEmitted s x1) := by
  unfold State.applyEmitted
  with_reducible repeat' first | assumption | apply State.itemSent_keeps | apply Keeps.ite | simp only [Keeps.upd]

theorem State.applyRecord_keeps {s0 s : State} {x1 x2} (h : Keeps s0 s) : Keeps s0 (State.applyRecord s x1 x2) := by
  unfold State.applyRecord
  with_reducible repeat' first
    | assumption | apply State.applyEmitted_keeps | apply State.applyFoxBatch_keeps | apply State.applyRegWrite_keeps
    | apply State.applyStoreWrite_keeps | apply State.mirrorAbort_keeps | apply State.peerDigest_keeps | apply State.setSpindle_keeps
    | apply Keeps.ite

theorem execMirrorRecord_keeps {s0 s : State} {x0 x1} (h : Keeps s0 s) : KeepsOut s0 (execMirrorRecord x0 x1 s) := by
  unfold execMirrorRecord
  with_reducible repeat' first
    | assumption | apply State.applyRecord_keeps | apply State.mirrorPull_keeps | apply State.mirrorSeq_keeps | apply State.upTo_keeps
    | apply KeepsOut.ite | apply KeepsOut.next | simp only [Keeps.upd] | split

theorem State.snapStores_keeps {s0 s : State} (h : Keeps s0 s) : Keeps s0 (State.snapStores s) := by
  unfold State.snapStores
  with_reducible repeat' first | assumption | intro _ _ _ | intro _ _ | apply State.mirrorWords_keeps | apply Keeps.foldl

theorem State.sendSnapshot_keeps {s0 s : State} {x1} (h : Keeps s0 s) : Keeps s0 (State.sendSnapshot s x1) := by
  unfold State.sendSnapshot
  with_reducible repeat' first | assumption | intro _ _ _ | intro _ _ | apply State.mirrorRec_keeps | apply State.snapStores_keeps | apply Keeps.foldl

theorem State.resyncAsked_keeps {s0 s : State} {x1} (h : Keeps s0 s) : Keeps s0 (State.resyncAsked s x1) := by
  unfold State.resyncAsked
  with_reducible repeat' first
    | assumption | apply State.mirrorRec_keeps | apply State.pairEvt_keeps | apply State.sendSnapshot_keeps | apply Keeps.ite | simp only [Keeps.upd]

theorem execResyncRecord_keeps {s0 s : State} {x0 x1 x2} (h : Keeps s0 s) : KeepsOut s0 (execResyncRecord x0 x1 x2 s) := by
  unfold execResyncRecord
  with_reducible repeat' first
    | assumption | apply State.mirrorPull_keeps | apply State.mirrorSeq_keeps | apply State.resyncAsked_keeps | apply State.upTo_keeps
    | apply KeepsOut.ite | apply KeepsOut.next | simp only [Keeps.upd] | split

end Sys2Proof.Machine
end

