-- ==== Sys2Proof/Laws/State.lean ====
section
/-!
SUPPORT. Each update of the state, read back: the fields it leaves, the register field it writes, the byte it writes.
-/

namespace Sys2Proof.Machine

/-! ## The fields of State that an update leaves -/

@[simp] theorem State.put2_fields (s : State) (f : Field) (i j v : Nat) :
    (s.put2 f i j v).part = s.part ∧ (s.put2 f i j v).now = s.now ∧ (s.put2 f i j v).mem = s.mem ∧ (s.put2 f i j v).poison = s.poison ∧
    (s.put2 f i j v).place = s.place ∧ (s.put2 f i j v).stk = s.stk ∧ (s.put2 f i j v).store = s.store ∧ (s.put2 f i j v).draft = s.draft ∧
    (s.put2 f i j v).evt = s.evt ∧ (s.put2 f i j v).trust = s.trust ∧ (s.put2 f i j v).ledger = s.ledger ∧ (s.put2 f i j v).pass = s.pass ∧
    (s.put2 f i j v).loom = s.loom ∧ (s.put2 f i j v).frames = s.frames ∧ (s.put2 f i j v).beam = s.beam ∧ (s.put2 f i j v).fox = s.fox ∧
    (s.put2 f i j v).pair = s.pair ∧ (s.put2 f i j v).spin = s.spin ∧ (s.put2 f i j v).zoom = s.zoom ∧ (s.put2 f i j v).mesh = s.mesh ∧
    (s.put2 f i j v).time = s.time ∧ (s.put2 f i j v).cap = s.cap ∧ (s.put2 f i j v).xbar = s.xbar ∧ (s.put2 f i j v).dma = s.dma ∧
    (s.put2 f i j v).mgmt = s.mgmt ∧ (s.put2 f i j v).scp = s.scp ∧ (s.put2 f i j v).mon = s.mon ∧ (s.put2 f i j v).power = s.power ∧
    (s.put2 f i j v).checkPoly = s.checkPoly ∧ (s.put2 f i j v).monTest = s.monTest ∧ (s.put2 f i j v).monBad = s.monBad ∧
    (s.put2 f i j v).sent = s.sent ∧ (s.put2 f i j v).free = s.free ∧ (s.put2 f i j v).pending = s.pending :=
  ⟨rfl, rfl, rfl, rfl, rfl, rfl, rfl, rfl, rfl, rfl, rfl, rfl, rfl, rfl, rfl, rfl, rfl, rfl, rfl, rfl, rfl, rfl, rfl, rfl, rfl, rfl, rfl, rfl, rfl, rfl, rfl, rfl, rfl, rfl⟩

@[simp] theorem State.put1_fields (s : State) (f : Field) (i v : Nat) :
    (s.put1 f i v).part = s.part ∧ (s.put1 f i v).now = s.now ∧ (s.put1 f i v).mem = s.mem ∧ (s.put1 f i v).poison = s.poison ∧
    (s.put1 f i v).place = s.place ∧ (s.put1 f i v).stk = s.stk ∧ (s.put1 f i v).store = s.store ∧ (s.put1 f i v).draft = s.draft ∧
    (s.put1 f i v).evt = s.evt ∧ (s.put1 f i v).trust = s.trust ∧ (s.put1 f i v).ledger = s.ledger ∧ (s.put1 f i v).pass = s.pass ∧
    (s.put1 f i v).loom = s.loom ∧ (s.put1 f i v).frames = s.frames ∧ (s.put1 f i v).beam = s.beam ∧ (s.put1 f i v).fox = s.fox ∧
    (s.put1 f i v).pair = s.pair ∧ (s.put1 f i v).spin = s.spin ∧ (s.put1 f i v).zoom = s.zoom ∧ (s.put1 f i v).mesh = s.mesh ∧
    (s.put1 f i v).time = s.time ∧ (s.put1 f i v).cap = s.cap ∧ (s.put1 f i v).xbar = s.xbar ∧ (s.put1 f i v).dma = s.dma ∧
    (s.put1 f i v).mgmt = s.mgmt ∧ (s.put1 f i v).scp = s.scp ∧ (s.put1 f i v).mon = s.mon ∧ (s.put1 f i v).power = s.power ∧
    (s.put1 f i v).checkPoly = s.checkPoly ∧ (s.put1 f i v).monTest = s.monTest ∧ (s.put1 f i v).monBad = s.monBad ∧ (s.put1 f i v).sent = s.sent ∧
    (s.put1 f i v).free = s.free ∧ (s.put1 f i v).pending = s.pending :=
  ⟨rfl, rfl, rfl, rfl, rfl, rfl, rfl, rfl, rfl, rfl, rfl, rfl, rfl, rfl, rfl, rfl, rfl, rfl, rfl, rfl, rfl, rfl, rfl, rfl, rfl, rfl, rfl, rfl, rfl, rfl, rfl, rfl, rfl, rfl⟩

@[simp] theorem State.put_fields (s : State) (f : Field) (v : Nat) :
    (s.put f v).part = s.part ∧ (s.put f v).now = s.now ∧ (s.put f v).mem = s.mem ∧ (s.put f v).poison = s.poison ∧ (s.put f v).place = s.place ∧
    (s.put f v).stk = s.stk ∧ (s.put f v).store = s.store ∧ (s.put f v).draft = s.draft ∧ (s.put f v).evt = s.evt ∧ (s.put f v).trust = s.trust ∧
    (s.put f v).ledger = s.ledger ∧ (s.put f v).pass = s.pass ∧ (s.put f v).loom = s.loom ∧ (s.put f v).frames = s.frames ∧
    (s.put f v).beam = s.beam ∧ (s.put f v).fox = s.fox ∧ (s.put f v).pair = s.pair ∧ (s.put f v).spin = s.spin ∧ (s.put f v).zoom = s.zoom ∧
    (s.put f v).mesh = s.mesh ∧ (s.put f v).time = s.time ∧ (s.put f v).cap = s.cap ∧ (s.put f v).xbar = s.xbar ∧ (s.put f v).dma = s.dma ∧
    (s.put f v).mgmt = s.mgmt ∧ (s.put f v).scp = s.scp ∧ (s.put f v).mon = s.mon ∧ (s.put f v).power = s.power ∧
    (s.put f v).checkPoly = s.checkPoly ∧ (s.put f v).monTest = s.monTest ∧ (s.put f v).monBad = s.monBad ∧ (s.put f v).sent = s.sent ∧
    (s.put f v).free = s.free ∧ (s.put f v).pending = s.pending :=
  ⟨rfl, rfl, rfl, rfl, rfl, rfl, rfl, rfl, rfl, rfl, rfl, rfl, rfl, rfl, rfl, rfl, rfl, rfl, rfl, rfl, rfl, rfl, rfl, rfl, rfl, rfl, rfl, rfl, rfl, rfl, rfl, rfl, rfl, rfl⟩

@[simp] theorem State.bump2_fields (s : State) (f : Field) (i j n : Nat) :
    (s.bump2 f i j n).part = s.part ∧ (s.bump2 f i j n).now = s.now ∧ (s.bump2 f i j n).mem = s.mem ∧ (s.bump2 f i j n).poison = s.poison ∧
    (s.bump2 f i j n).place = s.place ∧ (s.bump2 f i j n).stk = s.stk ∧ (s.bump2 f i j n).store = s.store ∧ (s.bump2 f i j n).draft = s.draft ∧
    (s.bump2 f i j n).evt = s.evt ∧ (s.bump2 f i j n).trust = s.trust ∧ (s.bump2 f i j n).ledger = s.ledger ∧ (s.bump2 f i j n).pass = s.pass ∧
    (s.bump2 f i j n).loom = s.loom ∧ (s.bump2 f i j n).frames = s.frames ∧ (s.bump2 f i j n).beam = s.beam ∧ (s.bump2 f i j n).fox = s.fox ∧
    (s.bump2 f i j n).pair = s.pair ∧ (s.bump2 f i j n).spin = s.spin ∧ (s.bump2 f i j n).zoom = s.zoom ∧ (s.bump2 f i j n).mesh = s.mesh ∧
    (s.bump2 f i j n).time = s.time ∧ (s.bump2 f i j n).cap = s.cap ∧ (s.bump2 f i j n).xbar = s.xbar ∧ (s.bump2 f i j n).dma = s.dma ∧
    (s.bump2 f i j n).mgmt = s.mgmt ∧ (s.bump2 f i j n).scp = s.scp ∧ (s.bump2 f i j n).mon = s.mon ∧ (s.bump2 f i j n).power = s.power ∧
    (s.bump2 f i j n).checkPoly = s.checkPoly ∧ (s.bump2 f i j n).monTest = s.monTest ∧ (s.bump2 f i j n).monBad = s.monBad ∧
    (s.bump2 f i j n).sent = s.sent ∧ (s.bump2 f i j n).free = s.free ∧ (s.bump2 f i j n).pending = s.pending :=
  ⟨rfl, rfl, rfl, rfl, rfl, rfl, rfl, rfl, rfl, rfl, rfl, rfl, rfl, rfl, rfl, rfl, rfl, rfl, rfl, rfl, rfl, rfl, rfl, rfl, rfl, rfl, rfl, rfl, rfl, rfl, rfl, rfl, rfl, rfl⟩

@[simp] theorem State.bump1_fields (s : State) (f : Field) (i n : Nat) :
    (s.bump1 f i n).part = s.part ∧ (s.bump1 f i n).now = s.now ∧ (s.bump1 f i n).mem = s.mem ∧ (s.bump1 f i n).poison = s.poison ∧
    (s.bump1 f i n).place = s.place ∧ (s.bump1 f i n).stk = s.stk ∧ (s.bump1 f i n).store = s.store ∧ (s.bump1 f i n).draft = s.draft ∧
    (s.bump1 f i n).evt = s.evt ∧ (s.bump1 f i n).trust = s.trust ∧ (s.bump1 f i n).ledger = s.ledger ∧ (s.bump1 f i n).pass = s.pass ∧
    (s.bump1 f i n).loom = s.loom ∧ (s.bump1 f i n).frames = s.frames ∧ (s.bump1 f i n).beam = s.beam ∧ (s.bump1 f i n).fox = s.fox ∧
    (s.bump1 f i n).pair = s.pair ∧ (s.bump1 f i n).spin = s.spin ∧ (s.bump1 f i n).zoom = s.zoom ∧ (s.bump1 f i n).mesh = s.mesh ∧
    (s.bump1 f i n).time = s.time ∧ (s.bump1 f i n).cap = s.cap ∧ (s.bump1 f i n).xbar = s.xbar ∧ (s.bump1 f i n).dma = s.dma ∧
    (s.bump1 f i n).mgmt = s.mgmt ∧ (s.bump1 f i n).scp = s.scp ∧ (s.bump1 f i n).mon = s.mon ∧ (s.bump1 f i n).power = s.power ∧
    (s.bump1 f i n).checkPoly = s.checkPoly ∧ (s.bump1 f i n).monTest = s.monTest ∧ (s.bump1 f i n).monBad = s.monBad ∧
    (s.bump1 f i n).sent = s.sent ∧ (s.bump1 f i n).free = s.free ∧ (s.bump1 f i n).pending = s.pending :=
  ⟨rfl, rfl, rfl, rfl, rfl, rfl, rfl, rfl, rfl, rfl, rfl, rfl, rfl, rfl, rfl, rfl, rfl, rfl, rfl, rfl, rfl, rfl, rfl, rfl, rfl, rfl, rfl, rfl, rfl, rfl, rfl, rfl, rfl, rfl⟩

@[simp] theorem State.bump_fields (s : State) (f : Field) (n : Nat) :
    (s.bump f n).part = s.part ∧ (s.bump f n).now = s.now ∧ (s.bump f n).mem = s.mem ∧ (s.bump f n).poison = s.poison ∧
    (s.bump f n).place = s.place ∧ (s.bump f n).stk = s.stk ∧ (s.bump f n).store = s.store ∧ (s.bump f n).draft = s.draft ∧
    (s.bump f n).evt = s.evt ∧ (s.bump f n).trust = s.trust ∧ (s.bump f n).ledger = s.ledger ∧ (s.bump f n).pass = s.pass ∧
    (s.bump f n).loom = s.loom ∧ (s.bump f n).frames = s.frames ∧ (s.bump f n).beam = s.beam ∧ (s.bump f n).fox = s.fox ∧
    (s.bump f n).pair = s.pair ∧ (s.bump f n).spin = s.spin ∧ (s.bump f n).zoom = s.zoom ∧ (s.bump f n).mesh = s.mesh ∧ (s.bump f n).time = s.time ∧
    (s.bump f n).cap = s.cap ∧ (s.bump f n).xbar = s.xbar ∧ (s.bump f n).dma = s.dma ∧ (s.bump f n).mgmt = s.mgmt ∧ (s.bump f n).scp = s.scp ∧
    (s.bump f n).mon = s.mon ∧ (s.bump f n).power = s.power ∧ (s.bump f n).checkPoly = s.checkPoly ∧ (s.bump f n).monTest = s.monTest ∧
    (s.bump f n).monBad = s.monBad ∧ (s.bump f n).sent = s.sent ∧ (s.bump f n).free = s.free ∧ (s.bump f n).pending = s.pending :=
  ⟨rfl, rfl, rfl, rfl, rfl, rfl, rfl, rfl, rfl, rfl, rfl, rfl, rfl, rfl, rfl, rfl, rfl, rfl, rfl, rfl, rfl, rfl, rfl, rfl, rfl, rfl, rfl, rfl, rfl, rfl, rfl, rfl, rfl, rfl⟩

@[simp] theorem State.wrap1_fields (s : State) (f : Field) (i n : Nat) :
    (s.wrap1 f i n).part = s.part ∧ (s.wrap1 f i n).now = s.now ∧ (s.wrap1 f i n).mem = s.mem ∧ (s.wrap1 f i n).poison = s.poison ∧
    (s.wrap1 f i n).place = s.place ∧ (s.wrap1 f i n).stk = s.stk ∧ (s.wrap1 f i n).store = s.store ∧ (s.wrap1 f i n).draft = s.draft ∧
    (s.wrap1 f i n).evt = s.evt ∧ (s.wrap1 f i n).trust = s.trust ∧ (s.wrap1 f i n).ledger = s.ledger ∧ (s.wrap1 f i n).pass = s.pass ∧
    (s.wrap1 f i n).loom = s.loom ∧ (s.wrap1 f i n).frames = s.frames ∧ (s.wrap1 f i n).beam = s.beam ∧ (s.wrap1 f i n).fox = s.fox ∧
    (s.wrap1 f i n).pair = s.pair ∧ (s.wrap1 f i n).spin = s.spin ∧ (s.wrap1 f i n).zoom = s.zoom ∧ (s.wrap1 f i n).mesh = s.mesh ∧
    (s.wrap1 f i n).time = s.time ∧ (s.wrap1 f i n).cap = s.cap ∧ (s.wrap1 f i n).xbar = s.xbar ∧ (s.wrap1 f i n).dma = s.dma ∧
    (s.wrap1 f i n).mgmt = s.mgmt ∧ (s.wrap1 f i n).scp = s.scp ∧ (s.wrap1 f i n).mon = s.mon ∧ (s.wrap1 f i n).power = s.power ∧
    (s.wrap1 f i n).checkPoly = s.checkPoly ∧ (s.wrap1 f i n).monTest = s.monTest ∧ (s.wrap1 f i n).monBad = s.monBad ∧
    (s.wrap1 f i n).sent = s.sent ∧ (s.wrap1 f i n).free = s.free ∧ (s.wrap1 f i n).pending = s.pending :=
  ⟨rfl, rfl, rfl, rfl, rfl, rfl, rfl, rfl, rfl, rfl, rfl, rfl, rfl, rfl, rfl, rfl, rfl, rfl, rfl, rfl, rfl, rfl, rfl, rfl, rfl, rfl, rfl, rfl, rfl, rfl, rfl, rfl, rfl, rfl⟩

@[simp] theorem State.wrap_fields (s : State) (f : Field) (n : Nat) :
    (s.wrap f n).part = s.part ∧ (s.wrap f n).now = s.now ∧ (s.wrap f n).mem = s.mem ∧ (s.wrap f n).poison = s.poison ∧
    (s.wrap f n).place = s.place ∧ (s.wrap f n).stk = s.stk ∧ (s.wrap f n).store = s.store ∧ (s.wrap f n).draft = s.draft ∧
    (s.wrap f n).evt = s.evt ∧ (s.wrap f n).trust = s.trust ∧ (s.wrap f n).ledger = s.ledger ∧ (s.wrap f n).pass = s.pass ∧
    (s.wrap f n).loom = s.loom ∧ (s.wrap f n).frames = s.frames ∧ (s.wrap f n).beam = s.beam ∧ (s.wrap f n).fox = s.fox ∧
    (s.wrap f n).pair = s.pair ∧ (s.wrap f n).spin = s.spin ∧ (s.wrap f n).zoom = s.zoom ∧ (s.wrap f n).mesh = s.mesh ∧ (s.wrap f n).time = s.time ∧
    (s.wrap f n).cap = s.cap ∧ (s.wrap f n).xbar = s.xbar ∧ (s.wrap f n).dma = s.dma ∧ (s.wrap f n).mgmt = s.mgmt ∧ (s.wrap f n).scp = s.scp ∧
    (s.wrap f n).mon = s.mon ∧ (s.wrap f n).power = s.power ∧ (s.wrap f n).checkPoly = s.checkPoly ∧ (s.wrap f n).monTest = s.monTest ∧
    (s.wrap f n).monBad = s.monBad ∧ (s.wrap f n).sent = s.sent ∧ (s.wrap f n).free = s.free ∧ (s.wrap f n).pending = s.pending :=
  ⟨rfl, rfl, rfl, rfl, rfl, rfl, rfl, rfl, rfl, rfl, rfl, rfl, rfl, rfl, rfl, rfl, rfl, rfl, rfl, rfl, rfl, rfl, rfl, rfl, rfl, rfl, rfl, rfl, rfl, rfl, rfl, rfl, rfl, rfl⟩

@[simp] theorem State.setBit1_fields (s : State) (f : Field) (i k : Nat) :
    (s.setBit1 f i k).part = s.part ∧ (s.setBit1 f i k).now = s.now ∧ (s.setBit1 f i k).mem = s.mem ∧ (s.setBit1 f i k).poison = s.poison ∧
    (s.setBit1 f i k).place = s.place ∧ (s.setBit1 f i k).stk = s.stk ∧ (s.setBit1 f i k).store = s.store ∧ (s.setBit1 f i k).draft = s.draft ∧
    (s.setBit1 f i k).evt = s.evt ∧ (s.setBit1 f i k).trust = s.trust ∧ (s.setBit1 f i k).ledger = s.ledger ∧ (s.setBit1 f i k).pass = s.pass ∧
    (s.setBit1 f i k).loom = s.loom ∧ (s.setBit1 f i k).frames = s.frames ∧ (s.setBit1 f i k).beam = s.beam ∧ (s.setBit1 f i k).fox = s.fox ∧
    (s.setBit1 f i k).pair = s.pair ∧ (s.setBit1 f i k).spin = s.spin ∧ (s.setBit1 f i k).zoom = s.zoom ∧ (s.setBit1 f i k).mesh = s.mesh ∧
    (s.setBit1 f i k).time = s.time ∧ (s.setBit1 f i k).cap = s.cap ∧ (s.setBit1 f i k).xbar = s.xbar ∧ (s.setBit1 f i k).dma = s.dma ∧
    (s.setBit1 f i k).mgmt = s.mgmt ∧ (s.setBit1 f i k).scp = s.scp ∧ (s.setBit1 f i k).mon = s.mon ∧ (s.setBit1 f i k).power = s.power ∧
    (s.setBit1 f i k).checkPoly = s.checkPoly ∧ (s.setBit1 f i k).monTest = s.monTest ∧ (s.setBit1 f i k).monBad = s.monBad ∧
    (s.setBit1 f i k).sent = s.sent ∧ (s.setBit1 f i k).free = s.free ∧ (s.setBit1 f i k).pending = s.pending :=
  ⟨rfl, rfl, rfl, rfl, rfl, rfl, rfl, rfl, rfl, rfl, rfl, rfl, rfl, rfl, rfl, rfl, rfl, rfl, rfl, rfl, rfl, rfl, rfl, rfl, rfl, rfl, rfl, rfl, rfl, rfl, rfl, rfl, rfl, rfl⟩

@[simp] theorem State.setBit_fields (s : State) (f : Field) (k : Nat) :
    (s.setBit f k).part = s.part ∧ (s.setBit f k).now = s.now ∧ (s.setBit f k).mem = s.mem ∧ (s.setBit f k).poison = s.poison ∧
    (s.setBit f k).place = s.place ∧ (s.setBit f k).stk = s.stk ∧ (s.setBit f k).store = s.store ∧ (s.setBit f k).draft = s.draft ∧
    (s.setBit f k).evt = s.evt ∧ (s.setBit f k).trust = s.trust ∧ (s.setBit f k).ledger = s.ledger ∧ (s.setBit f k).pass = s.pass ∧
    (s.setBit f k).loom = s.loom ∧ (s.setBit f k).frames = s.frames ∧ (s.setBit f k).beam = s.beam ∧ (s.setBit f k).fox = s.fox ∧
    (s.setBit f k).pair = s.pair ∧ (s.setBit f k).spin = s.spin ∧ (s.setBit f k).zoom = s.zoom ∧ (s.setBit f k).mesh = s.mesh ∧
    (s.setBit f k).time = s.time ∧ (s.setBit f k).cap = s.cap ∧ (s.setBit f k).xbar = s.xbar ∧ (s.setBit f k).dma = s.dma ∧
    (s.setBit f k).mgmt = s.mgmt ∧ (s.setBit f k).scp = s.scp ∧ (s.setBit f k).mon = s.mon ∧ (s.setBit f k).power = s.power ∧
    (s.setBit f k).checkPoly = s.checkPoly ∧ (s.setBit f k).monTest = s.monTest ∧ (s.setBit f k).monBad = s.monBad ∧ (s.setBit f k).sent = s.sent ∧
    (s.setBit f k).free = s.free ∧ (s.setBit f k).pending = s.pending :=
  ⟨rfl, rfl, rfl, rfl, rfl, rfl, rfl, rfl, rfl, rfl, rfl, rfl, rfl, rfl, rfl, rfl, rfl, rfl, rfl, rfl, rfl, rfl, rfl, rfl, rfl, rfl, rfl, rfl, rfl, rfl, rfl, rfl, rfl, rfl⟩

@[simp] theorem State.upTo_fields (s : State) (t : Nat) :
    (s.upTo t).part = s.part ∧ (s.upTo t).now = max s.now t ∧ (s.upTo t).regs = s.regs ∧ (s.upTo t).mem = s.mem ∧ (s.upTo t).poison = s.poison ∧
    (s.upTo t).place = s.place ∧ (s.upTo t).stk = s.stk ∧ (s.upTo t).store = s.store ∧ (s.upTo t).draft = s.draft ∧ (s.upTo t).evt = s.evt ∧
    (s.upTo t).trust = s.trust ∧ (s.upTo t).ledger = s.ledger ∧ (s.upTo t).pass = s.pass ∧ (s.upTo t).loom = s.loom ∧ (s.upTo t).frames = s.frames ∧
    (s.upTo t).beam = s.beam ∧ (s.upTo t).fox = s.fox ∧ (s.upTo t).pair = s.pair ∧ (s.upTo t).spin = s.spin ∧ (s.upTo t).zoom = s.zoom ∧
    (s.upTo t).mesh = s.mesh ∧ (s.upTo t).time = s.time ∧ (s.upTo t).cap = s.cap ∧ (s.upTo t).xbar = s.xbar ∧ (s.upTo t).dma = s.dma ∧
    (s.upTo t).mgmt = s.mgmt ∧ (s.upTo t).scp = s.scp ∧ (s.upTo t).mon = s.mon ∧ (s.upTo t).power = s.power ∧ (s.upTo t).checkPoly = s.checkPoly ∧
    (s.upTo t).monTest = s.monTest ∧ (s.upTo t).monBad = s.monBad ∧ (s.upTo t).sent = s.sent ∧ (s.upTo t).free = s.free ∧
    (s.upTo t).pending = s.pending :=
  ⟨rfl, rfl, rfl, rfl, rfl, rfl, rfl, rfl, rfl, rfl, rfl, rfl, rfl, rfl, rfl, rfl, rfl, rfl, rfl, rfl, rfl, rfl, rfl, rfl, rfl, rfl, rfl, rfl, rfl, rfl, rfl, rfl, rfl, rfl, rfl⟩

@[simp] theorem State.takeFree_fields (s : State) :
    (s.takeFree.2).part = s.part ∧ (s.takeFree.2).now = s.now ∧ (s.takeFree.2).regs = s.regs ∧ (s.takeFree.2).mem = s.mem ∧
    (s.takeFree.2).poison = s.poison ∧ (s.takeFree.2).place = s.place ∧ (s.takeFree.2).stk = s.stk ∧ (s.takeFree.2).store = s.store ∧
    (s.takeFree.2).draft = s.draft ∧ (s.takeFree.2).evt = s.evt ∧ (s.takeFree.2).trust = s.trust ∧ (s.takeFree.2).ledger = s.ledger ∧
    (s.takeFree.2).pass = s.pass ∧ (s.takeFree.2).loom = s.loom ∧ (s.takeFree.2).frames = s.frames ∧ (s.takeFree.2).beam = s.beam ∧
    (s.takeFree.2).fox = s.fox ∧ (s.takeFree.2).pair = s.pair ∧ (s.takeFree.2).spin = s.spin ∧ (s.takeFree.2).zoom = s.zoom ∧
    (s.takeFree.2).mesh = s.mesh ∧ (s.takeFree.2).time = s.time ∧ (s.takeFree.2).cap = s.cap ∧ (s.takeFree.2).xbar = s.xbar ∧
    (s.takeFree.2).dma = s.dma ∧ (s.takeFree.2).mgmt = s.mgmt ∧ (s.takeFree.2).scp = s.scp ∧ (s.takeFree.2).mon = s.mon ∧
    (s.takeFree.2).power = s.power ∧ (s.takeFree.2).checkPoly = s.checkPoly ∧ (s.takeFree.2).monTest = s.monTest ∧ (s.takeFree.2).monBad = s.monBad ∧
    (s.takeFree.2).sent = s.sent ∧ (s.takeFree.2).free = s.free + 1 ∧ (s.takeFree.2).pending = s.pending :=
  ⟨rfl, rfl, rfl, rfl, rfl, rfl, rfl, rfl, rfl, rfl, rfl, rfl, rfl, rfl, rfl, rfl, rfl, rfl, rfl, rfl, rfl, rfl, rfl, rfl, rfl, rfl, rfl, rfl, rfl, rfl, rfl, rfl, rfl, rfl, rfl⟩

@[simp] theorem State.wr_fields (s : State) (k : Nat) (b : Byte) :
    (s.wr k b).part = s.part ∧ (s.wr k b).now = s.now ∧ (s.wr k b).regs = s.regs ∧ (s.wr k b).mem = Tab.set 0#8 s.mem k b ∧
    (s.wr k b).poison = s.poison ∧ (s.wr k b).place = s.place ∧ (s.wr k b).stk = s.stk ∧ (s.wr k b).store = s.store ∧ (s.wr k b).draft = s.draft ∧
    (s.wr k b).evt = s.evt ∧ (s.wr k b).trust = s.trust ∧ (s.wr k b).ledger = s.ledger ∧ (s.wr k b).pass = s.pass ∧ (s.wr k b).loom = s.loom ∧
    (s.wr k b).frames = s.frames ∧ (s.wr k b).beam = s.beam ∧ (s.wr k b).fox = s.fox ∧ (s.wr k b).pair = s.pair ∧ (s.wr k b).spin = s.spin ∧
    (s.wr k b).zoom = s.zoom ∧ (s.wr k b).mesh = s.mesh ∧ (s.wr k b).time = s.time ∧ (s.wr k b).cap = s.cap ∧ (s.wr k b).xbar = s.xbar ∧
    (s.wr k b).dma = s.dma ∧ (s.wr k b).mgmt = s.mgmt ∧ (s.wr k b).scp = s.scp ∧ (s.wr k b).mon = s.mon ∧ (s.wr k b).power = s.power ∧
    (s.wr k b).checkPoly = s.checkPoly ∧ (s.wr k b).monTest = s.monTest ∧ (s.wr k b).monBad = s.monBad ∧ (s.wr k b).sent = s.sent ∧
    (s.wr k b).free = s.free ∧ (s.wr k b).pending = s.pending :=
  ⟨rfl, rfl, rfl, rfl, rfl, rfl, rfl, rfl, rfl, rfl, rfl, rfl, rfl, rfl, rfl, rfl, rfl, rfl, rfl, rfl, rfl, rfl, rfl, rfl, rfl, rfl, rfl, rfl, rfl, rfl, rfl, rfl, rfl, rfl, rfl⟩

@[simp] theorem State.setPoison_fields (s : State) (u : Nat) (b : Bool) :
    (s.setPoison u b).part = s.part ∧ (s.setPoison u b).now = s.now ∧ (s.setPoison u b).regs = s.regs ∧ (s.setPoison u b).mem = s.mem ∧
    (s.setPoison u b).poison = Tab.set false s.poison u b ∧ (s.setPoison u b).place = s.place ∧ (s.setPoison u b).store = s.store ∧
    (s.setPoison u b).draft = s.draft ∧ (s.setPoison u b).evt = s.evt ∧ (s.setPoison u b).trust = s.trust ∧ (s.setPoison u b).ledger = s.ledger ∧
    (s.setPoison u b).pass = s.pass ∧ (s.setPoison u b).loom = s.loom ∧ (s.setPoison u b).frames = s.frames ∧ (s.setPoison u b).beam = s.beam ∧
    (s.setPoison u b).fox = s.fox ∧ (s.setPoison u b).pair = s.pair ∧ (s.setPoison u b).spin = s.spin ∧ (s.setPoison u b).zoom = s.zoom ∧
    (s.setPoison u b).mesh = s.mesh ∧ (s.setPoison u b).time = s.time ∧ (s.setPoison u b).cap = s.cap ∧ (s.setPoison u b).xbar = s.xbar ∧
    (s.setPoison u b).dma = s.dma ∧ (s.setPoison u b).mgmt = s.mgmt ∧ (s.setPoison u b).scp = s.scp ∧ (s.setPoison u b).mon = s.mon ∧
    (s.setPoison u b).power = s.power ∧ (s.setPoison u b).checkPoly = s.checkPoly ∧ (s.setPoison u b).monTest = s.monTest ∧
    (s.setPoison u b).monBad = s.monBad ∧ (s.setPoison u b).sent = s.sent ∧ (s.setPoison u b).free = s.free ∧ (s.setPoison u b).pending = s.pending :=
  ⟨rfl, rfl, rfl, rfl, rfl, rfl, rfl, rfl, rfl, rfl, rfl, rfl, rfl, rfl, rfl, rfl, rfl, rfl, rfl, rfl, rfl, rfl, rfl, rfl, rfl, rfl, rfl, rfl, rfl, rfl, rfl, rfl, rfl, rfl⟩

@[simp] theorem State.loseSite_fields (s : State) (site : Nat) :
    (s.loseSite site).part = s.part ∧ (s.loseSite site).now = s.now ∧ (s.loseSite site).regs = s.regs ∧ (s.loseSite site).place = s.place ∧
    (s.loseSite site).store = s.store ∧ (s.loseSite site).draft = s.draft ∧ (s.loseSite site).evt = s.evt ∧ (s.loseSite site).trust = s.trust ∧
    (s.loseSite site).ledger = s.ledger ∧ (s.loseSite site).pass = s.pass ∧ (s.loseSite site).loom = s.loom ∧ (s.loseSite site).frames = s.frames ∧
    (s.loseSite site).beam = s.beam ∧ (s.loseSite site).fox = s.fox ∧ (s.loseSite site).pair = s.pair ∧ (s.loseSite site).spin = s.spin ∧
    (s.loseSite site).zoom = s.zoom ∧ (s.loseSite site).mesh = s.mesh ∧ (s.loseSite site).time = s.time ∧ (s.loseSite site).cap = s.cap ∧
    (s.loseSite site).xbar = s.xbar ∧ (s.loseSite site).dma = s.dma ∧ (s.loseSite site).mgmt = s.mgmt ∧ (s.loseSite site).scp = s.scp ∧
    (s.loseSite site).mon = s.mon ∧ (s.loseSite site).power = s.power ∧ (s.loseSite site).checkPoly = s.checkPoly ∧
    (s.loseSite site).monTest = s.monTest ∧ (s.loseSite site).monBad = s.monBad ∧ (s.loseSite site).sent = s.sent ∧ (s.loseSite site).free = s.free ∧
    (s.loseSite site).pending = s.pending :=
  ⟨rfl, rfl, rfl, rfl, rfl, rfl, rfl, rfl, rfl, rfl, rfl, rfl, rfl, rfl, rfl, rfl, rfl, rfl, rfl, rfl, rfl, rfl, rfl, rfl, rfl, rfl, rfl, rfl, rfl, rfl, rfl, rfl⟩

@[simp] theorem State.updSite_fields (s : State) (site : Nat) (f : Site → Site) :
    (s.updSite site f).part = s.part ∧ (s.updSite site f).now = s.now ∧ (s.updSite site f).regs = s.regs ∧ (s.updSite site f).mem = s.mem ∧
    (s.updSite site f).poison = s.poison ∧ (s.updSite site f).place = s.place ∧ (s.updSite site f).store = s.store ∧
    (s.updSite site f).draft = s.draft ∧ (s.updSite site f).evt = s.evt ∧ (s.updSite site f).trust = s.trust ∧ (s.updSite site f).ledger = s.ledger ∧
    (s.updSite site f).pass = s.pass ∧ (s.updSite site f).loom = s.loom ∧ (s.updSite site f).frames = s.frames ∧ (s.updSite site f).beam = s.beam ∧
    (s.updSite site f).fox = s.fox ∧ (s.updSite site f).pair = s.pair ∧ (s.updSite site f).spin = s.spin ∧ (s.updSite site f).zoom = s.zoom ∧
    (s.updSite site f).mesh = s.mesh ∧ (s.updSite site f).time = s.time ∧ (s.updSite site f).cap = s.cap ∧ (s.updSite site f).xbar = s.xbar ∧
    (s.updSite site f).dma = s.dma ∧ (s.updSite site f).mgmt = s.mgmt ∧ (s.updSite site f).scp = s.scp ∧ (s.updSite site f).mon = s.mon ∧
    (s.updSite site f).power = s.power ∧ (s.updSite site f).checkPoly = s.checkPoly ∧ (s.updSite site f).monTest = s.monTest ∧
    (s.updSite site f).monBad = s.monBad ∧ (s.updSite site f).sent = s.sent ∧ (s.updSite site f).free = s.free ∧
    (s.updSite site f).pending = s.pending :=
  ⟨rfl, rfl, rfl, rfl, rfl, rfl, rfl, rfl, rfl, rfl, rfl, rfl, rfl, rfl, rfl, rfl, rfl, rfl, rfl, rfl, rfl, rfl, rfl, rfl, rfl, rfl, rfl, rfl, rfl, rfl, rfl, rfl, rfl, rfl⟩

@[simp] theorem State.emit_fields (s : State) (o : Sent) :
    (s.emit o).part = s.part ∧ (s.emit o).now = s.now ∧ (s.emit o).regs = s.regs ∧ (s.emit o).mem = s.mem ∧ (s.emit o).poison = s.poison ∧
    (s.emit o).place = s.place ∧ (s.emit o).stk = s.stk ∧ (s.emit o).store = s.store ∧ (s.emit o).draft = s.draft ∧ (s.emit o).evt = s.evt ∧
    (s.emit o).trust = s.trust ∧ (s.emit o).ledger = s.ledger ∧ (s.emit o).pass = s.pass ∧ (s.emit o).loom = s.loom ∧ (s.emit o).frames = s.frames ∧
    (s.emit o).beam = s.beam ∧ (s.emit o).fox = s.fox ∧ (s.emit o).pair = s.pair ∧ (s.emit o).spin = s.spin ∧ (s.emit o).zoom = s.zoom ∧
    (s.emit o).mesh = s.mesh ∧ (s.emit o).time = s.time ∧ (s.emit o).cap = s.cap ∧ (s.emit o).xbar = s.xbar ∧ (s.emit o).dma = s.dma ∧
    (s.emit o).mgmt = s.mgmt ∧ (s.emit o).scp = s.scp ∧ (s.emit o).mon = s.mon ∧ (s.emit o).power = s.power ∧ (s.emit o).checkPoly = s.checkPoly ∧
    (s.emit o).monTest = s.monTest ∧ (s.emit o).monBad = s.monBad ∧ (s.emit o).free = s.free ∧ (s.emit o).pending = s.pending :=
  by unfold State.emit; split <;> exact ⟨rfl, rfl, rfl, rfl, rfl, rfl, rfl, rfl, rfl, rfl, rfl, rfl, rfl, rfl, rfl, rfl, rfl, rfl, rfl, rfl, rfl, rfl, rfl, rfl, rfl, rfl, rfl, rfl, rfl, rfl, rfl, rfl, rfl, rfl⟩

/-- Two states whose fields agree are equal. -/
theorem State.ext_fields {a b : State} (h : a.part = b.part ∧ a.now = b.now ∧ a.regs = b.regs ∧ a.mem = b.mem ∧ a.poison = b.poison ∧
    a.place = b.place ∧ a.stk = b.stk ∧ a.store = b.store ∧ a.draft = b.draft ∧ a.evt = b.evt ∧ a.trust = b.trust ∧ a.ledger = b.ledger ∧
    a.pass = b.pass ∧ a.loom = b.loom ∧ a.frames = b.frames ∧ a.beam = b.beam ∧ a.fox = b.fox ∧ a.pair = b.pair ∧ a.spin = b.spin ∧ a.zoom =
    b.zoom ∧ a.mesh = b.mesh ∧ a.time = b.time ∧ a.cap = b.cap ∧ a.xbar = b.xbar ∧ a.dma = b.dma ∧ a.mgmt = b.mgmt ∧ a.scp = b.scp ∧ a.mon =
    b.mon ∧ a.power = b.power ∧ a.checkPoly = b.checkPoly ∧ a.monTest = b.monTest ∧ a.monBad = b.monBad ∧ a.sent = b.sent ∧ a.free = b.free
    ∧ a.pending = b.pending) :
    a = b := by
  cases a; cases b; simp_all

/-! ## Register fields -/

theorem State.get2_put2 (s : State) (f : Field) (i j i' j' v : Nat) :
    (s.put2 f i j v).get2 f i' j' = if f.key i' j' = f.key i j then f.trunc v else s.get2 f i' j' := by
  unfold State.get2 State.put2
  split
  · rename_i h
    rw [h]
    exact Tab.get_set_same _ _ _ _
  · rename_i h
    exact Tab.get_set_other _ _ _ _ _ h

@[simp] theorem State.get2_put2_same (s : State) (f : Field) (i j v : Nat) : (s.put2 f i j v).get2 f i j = f.trunc v :=
  Tab.get_set_same _ _ _ _

/-- A write leaves every other field, and every other instance, as it is. -/
theorem State.get2_put2_other (s : State) (f g : Field) (i j i' j' v : Nat) (h : g.key i' j' ≠ f.key i j) :
    (s.put2 f i j v).get2 g i' j' = s.get2 g i' j' :=
  Tab.get_set_other' _ _ _ _ _ _ h

@[simp] theorem State.get2_upTo (s : State) (t : Nat) (f : Field) (i j : Nat) : (s.upTo t).get2 f i j = s.get2 f i j := (rfl)
@[simp] theorem State.get1_upTo (s : State) (t : Nat) (f : Field) (i : Nat) : (s.upTo t).get1 f i = s.get1 f i := (rfl)
@[simp] theorem State.get_upTo (s : State) (t : Nat) (f : Field) : (s.upTo t).get f = s.get f := (rfl)
@[simp] theorem State.is1_upTo (s : State) (t : Nat) (f : Field) (i : Nat) : (s.upTo t).is1 f i = s.is1 f i := (rfl)
@[simp] theorem State.is_upTo (s : State) (t : Nat) (f : Field) : (s.upTo t).is f = s.is f := (rfl)

@[simp] theorem State.get2_emit (s : State) (o : Sent) (f : Field) (i j : Nat) : (s.emit o).get2 f i j = s.get2 f i j := by
  unfold State.get2
  rw [(State.emit_fields s o).2.2.1]

/-- Fields of one stride at one instance: their places differ if those of instance 0 do. -/
theorem Field.key_ne (f g : Field) (i j : Nat) (h : f.addr * 8 + f.lo ≠ g.addr * 8 + g.lo ∧ f.s1 = g.s1 ∧ f.s2 = g.s2) : f.key i j ≠ g.key i j := by
  obtain ⟨h, e, e2⟩ := h
  unfold Field.key
  rw [e, e2]
  omega

/-- An instance of a field lies above a field that instance 0 lies above. -/
theorem Field.key_above (f g : Field) (i : Nat) (h : g.addr * 8 + g.lo < f.addr * 8 + f.lo) : f.key i 0 ≠ g.key 0 0 := by
  unfold Field.key
  omega

theorem Field.key_below (f g : Field) (i : Nat) (h : f.addr * 8 + f.lo < g.addr * 8 + g.lo) : f.key 0 0 ≠ g.key i 0 := by
  unfold Field.key
  omega

/-- Two instances of a field. -/
theorem Field.key_inst (f : Field) (i j : Nat) (h : i ≠ j) (hs : f.s1 ≠ 0) : f.key i 0 ≠ f.key j 0 := by
  unfold Field.key
  intro e
  have : i * f.s1 = j * f.s1 := by omega
  exact h (Nat.eq_of_mul_eq_mul_right (Nat.pos_of_ne_zero hs) this)

/-- The instances of a field below another field's place. -/
theorem Field.key_apart (f g : Field) (i j n : Nat) (hi : i < n)
    (h : f.addr * 8 + f.lo + (n - 1) * f.s1 * 8 < g.addr * 8 + g.lo) : f.key i 0 ≠ g.key j 0 := by
  unfold Field.key
  have : i * f.s1 ≤ (n - 1) * f.s1 := Nat.mul_le_mul_right _ (by omega)
  omega

/-- The same in the forms for no instance and one instance: of the field written, and of a field elsewhere. -/
@[simp] theorem State.get_put_same (s : State) (f : Field) (v : Nat) : (s.put f v).get f = f.trunc v := Tab.get_set_same _ _ _ _
@[simp] theorem State.get1_put1_same (s : State) (f : Field) (i v : Nat) : (s.put1 f i v).get1 f i = f.trunc v := Tab.get_set_same _ _ _ _
theorem State.get_put_ne (s : State) (f g : Field) (v : Nat) (h : g.key 0 0 ≠ f.key 0 0) : (s.put f v).get g = s.get g :=
  Tab.get_set_other' _ _ _ _ _ _ h
theorem State.get_put1_ne (s : State) (f g : Field) (i v : Nat) (h : g.key 0 0 ≠ f.key i 0) : (s.put1 f i v).get g = s.get g :=
  Tab.get_set_other' _ _ _ _ _ _ h
theorem State.get1_put_ne (s : State) (f g : Field) (i v : Nat) (h : g.key i 0 ≠ f.key 0 0) : (s.put f v).get1 g i = s.get1 g i :=
  Tab.get_set_other' _ _ _ _ _ _ h
theorem State.get1_put1_ne (s : State) (f g : Field) (i j v : Nat) (h : g.key j 0 ≠ f.key i 0) : (s.put1 f i v).get1 g j = s.get1 g j :=
  Tab.get_set_other' _ _ _ _ _ _ h
@[simp] theorem State.get_bump_same (s : State) (f : Field) (n : Nat) :
    (s.bump f n).get f = f.trunc (min (2 ^ f.w - 1) (s.get f + n)) := Tab.get_set_same _ _ _ _
@[simp] theorem State.get1_bump1_same (s : State) (f : Field) (i n : Nat) :
    (s.bump1 f i n).get1 f i = f.trunc (min (2 ^ f.w - 1) (s.get1 f i + n)) := Tab.get_set_same _ _ _ _
theorem State.get_bump_ne (s : State) (f g : Field) (n : Nat) (h : g.key 0 0 ≠ f.key 0 0) : (s.bump f n).get g = s.get g :=
  Tab.get_set_other' _ _ _ _ _ _ h
theorem State.get1_bump1_ne (s : State) (f g : Field) (i j n : Nat) (h : g.key j 0 ≠ f.key i 0) : (s.bump1 f i n).get1 g j = s.get1 g j :=
  Tab.get_set_other' _ _ _ _ _ _ h
@[simp] theorem State.get_emit (s : State) (o : Sent) (f : Field) : (s.emit o).get f = s.get f := State.get2_emit s o f 0 0
@[simp] theorem State.get1_emit (s : State) (o : Sent) (f : Field) (i : Nat) : (s.emit o).get1 f i = s.get1 f i := State.get2_emit s o f i 0

/-! ## Bytes of the stacks -/

@[simp] theorem State.rd_wr_same (s : State) (k : Nat) (b : Byte) : (s.wr k b).rd k = b := Tab.get_set_same _ _ _ _

theorem State.rd_wr_other (s : State) (k j : Nat) (b : Byte) (h : j ≠ k) : (s.wr k b).rd j = s.rd j :=
  Tab.get_set_other _ _ _ _ _ h

/-- Bytes written at distinct keys leave every other byte as it is. -/
theorem State.rd_wrKeys_other (ks : List Nat) (bs : List Byte) (j : Nat) (h : j ∉ ks) : ∀ s : State, (s.wrKeys ks bs).rd j = s.rd j := by
  induction ks generalizing bs with
  | nil => intro s; simp [State.wrKeys]
  | cons k ks ih =>
    intro s
    cases bs with
    | nil => simp [State.wrKeys]
    | cons b bs =>
      have hk : j ≠ k := fun e => h (by simp [e])
      rw [State.wrKeys, ih _ (fun m => h (List.mem_cons_of_mem _ m)), State.rd_wr_other _ _ _ _ hk]

end Sys2Proof.Machine
end

