-- ==== Sys2Proof/Laws/Events.lean ====
section
/-!
SUPPORT. What a raise and a cause bit leave (R429): the event registers, the event router's own state and what leaves the part are all
that they change.
-/

namespace Sys2Proof.Machine

/-- `t` is `s` but for the register fields, the event router's own state and what has left the part. -/
def EvtOnly (s t : State) : Prop := t = { s with regs := t.regs, evt := t.evt, sent := t.sent }

theorem EvtOnly.refl (s : State) : EvtOnly s s := rfl

theorem EvtOnly.trans {r s t : State} (h : EvtOnly r s) (k : EvtOnly s t) : EvtOnly r t := by
  unfold EvtOnly at *
  rw [k, h]

theorem EvtOnly.put2 (s : State) (f : Field) (i j v : Nat) : EvtOnly s (s.put2 f i j v) := rfl

theorem EvtOnly.emit (s : State) (o : Sent) : EvtOnly s (s.emit o) := by
  unfold State.emit
  split <;> rfl

theorem EvtOnly.vecRise (s : State) (v : Nat) : EvtOnly s (s.vecRise v) := by
  unfold State.vecRise
  split
  · rfl
  · dsimp only
    split
    · exact EvtOnly.trans (t := _) (show EvtOnly s { s with evt := _ } from rfl) (EvtOnly.emit _ _)
    · rfl

theorem EvtOnly.ite {s a b : State} {c : Prop} [Decidable c] (ha : EvtOnly s a) (hb : EvtOnly s b) : EvtOnly s (if c then a else b) := by
  split <;> assumption

theorem EvtOnly.raiseWith (s : State) (n : Nat) (d : List Byte) : EvtOnly s (s.raiseWith n d) := by
  unfold State.raiseWith
  extract_lets s1 s2 e s3
  have h2 : EvtOnly s s2 := EvtOnly.ite (EvtOnly.trans (EvtOnly.put2 s _ _ _ _) (EvtOnly.vecRise s1 _)) (EvtOnly.put2 s _ _ _ _)
  clear_value s2
  have h3 : EvtOnly s s3 := h2.trans rfl
  split
  · split
    · exact h3.trans rfl
    · refine EvtOnly.ite (EvtOnly.trans ?_ (EvtOnly.vecRise _ _)) ?_ <;> exact h3.trans rfl
  · exact h2

theorem EvtOnly.raise (s : State) (n : Nat) : EvtOnly s (s.raise n) := EvtOnly.raiseWith s n _

theorem EvtOnly.cause1 (s : State) (f : Field) (i k n : Nat) : EvtOnly s (s.cause1 f i k n) := by
  unfold State.cause1 State.withLevels
  dsimp only [List.foldl_cons, List.foldl_nil]
  exact EvtOnly.ite ((EvtOnly.put2 s _ _ _ _).trans (EvtOnly.raise _ _)) (EvtOnly.put2 s _ _ _ _)

theorem EvtOnly.causeBase (s : State) (f : Field) (b k : Nat) : EvtOnly s (s.causeBase f b k) := EvtOnly.cause1 s f 0 k (b + k)

@[simp] theorem State.vecRise_fields (s : State) (v : Nat) :
    (s.vecRise v).part = s.part ∧ (s.vecRise v).now = s.now ∧ (s.vecRise v).mem = s.mem ∧ (s.vecRise v).poison = s.poison ∧
    (s.vecRise v).place = s.place ∧ (s.vecRise v).stk = s.stk ∧ (s.vecRise v).store = s.store ∧ (s.vecRise v).draft = s.draft ∧
    (s.vecRise v).trust = s.trust ∧ (s.vecRise v).ledger = s.ledger ∧ (s.vecRise v).pass = s.pass ∧ (s.vecRise v).loom = s.loom ∧
    (s.vecRise v).frames = s.frames ∧ (s.vecRise v).beam = s.beam ∧ (s.vecRise v).fox = s.fox ∧ (s.vecRise v).pair = s.pair ∧
    (s.vecRise v).spin = s.spin ∧ (s.vecRise v).zoom = s.zoom ∧ (s.vecRise v).mesh = s.mesh ∧ (s.vecRise v).time = s.time ∧
    (s.vecRise v).cap = s.cap ∧ (s.vecRise v).xbar = s.xbar ∧ (s.vecRise v).dma = s.dma ∧ (s.vecRise v).mgmt = s.mgmt ∧ (s.vecRise v).scp = s.scp ∧
    (s.vecRise v).mon = s.mon ∧ (s.vecRise v).power = s.power ∧ (s.vecRise v).checkPoly = s.checkPoly ∧ (s.vecRise v).monTest = s.monTest ∧
    (s.vecRise v).monBad = s.monBad ∧ (s.vecRise v).free = s.free ∧ (s.vecRise v).pending = s.pending :=
  by rw [show s.vecRise v = _ from EvtOnly.vecRise s v]; exact ⟨rfl, rfl, rfl, rfl, rfl, rfl, rfl, rfl, rfl, rfl, rfl, rfl, rfl, rfl, rfl, rfl, rfl, rfl, rfl, rfl, rfl, rfl, rfl, rfl, rfl, rfl, rfl, rfl, rfl, rfl, rfl, rfl⟩

@[simp] theorem State.raiseWith_fields (s : State) (n : Nat) (d : List Byte) :
    (s.raiseWith n d).part = s.part ∧ (s.raiseWith n d).now = s.now ∧ (s.raiseWith n d).mem = s.mem ∧ (s.raiseWith n d).poison = s.poison ∧
    (s.raiseWith n d).place = s.place ∧ (s.raiseWith n d).stk = s.stk ∧ (s.raiseWith n d).store = s.store ∧ (s.raiseWith n d).draft = s.draft ∧
    (s.raiseWith n d).trust = s.trust ∧ (s.raiseWith n d).ledger = s.ledger ∧ (s.raiseWith n d).pass = s.pass ∧ (s.raiseWith n d).loom = s.loom ∧
    (s.raiseWith n d).frames = s.frames ∧ (s.raiseWith n d).beam = s.beam ∧ (s.raiseWith n d).fox = s.fox ∧ (s.raiseWith n d).pair = s.pair ∧
    (s.raiseWith n d).spin = s.spin ∧ (s.raiseWith n d).zoom = s.zoom ∧ (s.raiseWith n d).mesh = s.mesh ∧ (s.raiseWith n d).time = s.time ∧
    (s.raiseWith n d).cap = s.cap ∧ (s.raiseWith n d).xbar = s.xbar ∧ (s.raiseWith n d).dma = s.dma ∧ (s.raiseWith n d).mgmt = s.mgmt ∧
    (s.raiseWith n d).scp = s.scp ∧ (s.raiseWith n d).mon = s.mon ∧ (s.raiseWith n d).power = s.power ∧ (s.raiseWith n d).checkPoly = s.checkPoly ∧
    (s.raiseWith n d).monTest = s.monTest ∧ (s.raiseWith n d).monBad = s.monBad ∧ (s.raiseWith n d).free = s.free ∧
    (s.raiseWith n d).pending = s.pending :=
  by rw [show s.raiseWith n d = _ from EvtOnly.raiseWith s n d]; exact ⟨rfl, rfl, rfl, rfl, rfl, rfl, rfl, rfl, rfl, rfl, rfl, rfl, rfl, rfl, rfl, rfl, rfl, rfl, rfl, rfl, rfl, rfl, rfl, rfl, rfl, rfl, rfl, rfl, rfl, rfl, rfl, rfl⟩

@[simp] theorem State.raise_fields (s : State) (n : Nat) :
    (s.raise n).part = s.part ∧ (s.raise n).now = s.now ∧ (s.raise n).mem = s.mem ∧ (s.raise n).poison = s.poison ∧ (s.raise n).place = s.place ∧
    (s.raise n).stk = s.stk ∧ (s.raise n).store = s.store ∧ (s.raise n).draft = s.draft ∧ (s.raise n).trust = s.trust ∧
    (s.raise n).ledger = s.ledger ∧ (s.raise n).pass = s.pass ∧ (s.raise n).loom = s.loom ∧ (s.raise n).frames = s.frames ∧
    (s.raise n).beam = s.beam ∧ (s.raise n).fox = s.fox ∧ (s.raise n).pair = s.pair ∧ (s.raise n).spin = s.spin ∧ (s.raise n).zoom = s.zoom ∧
    (s.raise n).mesh = s.mesh ∧ (s.raise n).time = s.time ∧ (s.raise n).cap = s.cap ∧ (s.raise n).xbar = s.xbar ∧ (s.raise n).dma = s.dma ∧
    (s.raise n).mgmt = s.mgmt ∧ (s.raise n).scp = s.scp ∧ (s.raise n).mon = s.mon ∧ (s.raise n).power = s.power ∧
    (s.raise n).checkPoly = s.checkPoly ∧ (s.raise n).monTest = s.monTest ∧ (s.raise n).monBad = s.monBad ∧ (s.raise n).free = s.free ∧
    (s.raise n).pending = s.pending :=
  by rw [show s.raise n = _ from EvtOnly.raise s n]; exact ⟨rfl, rfl, rfl, rfl, rfl, rfl, rfl, rfl, rfl, rfl, rfl, rfl, rfl, rfl, rfl, rfl, rfl, rfl, rfl, rfl, rfl, rfl, rfl, rfl, rfl, rfl, rfl, rfl, rfl, rfl, rfl, rfl⟩

@[simp] theorem State.cause1_fields (s : State) (f : Field) (i k n : Nat) :
    (s.cause1 f i k n).part = s.part ∧ (s.cause1 f i k n).now = s.now ∧ (s.cause1 f i k n).mem = s.mem ∧ (s.cause1 f i k n).poison = s.poison ∧
    (s.cause1 f i k n).place = s.place ∧ (s.cause1 f i k n).stk = s.stk ∧ (s.cause1 f i k n).store = s.store ∧ (s.cause1 f i k n).draft = s.draft ∧
    (s.cause1 f i k n).trust = s.trust ∧ (s.cause1 f i k n).ledger = s.ledger ∧ (s.cause1 f i k n).pass = s.pass ∧ (s.cause1 f i k n).loom = s.loom ∧
    (s.cause1 f i k n).frames = s.frames ∧ (s.cause1 f i k n).beam = s.beam ∧ (s.cause1 f i k n).fox = s.fox ∧ (s.cause1 f i k n).pair = s.pair ∧
    (s.cause1 f i k n).spin = s.spin ∧ (s.cause1 f i k n).zoom = s.zoom ∧ (s.cause1 f i k n).mesh = s.mesh ∧ (s.cause1 f i k n).time = s.time ∧
    (s.cause1 f i k n).cap = s.cap ∧ (s.cause1 f i k n).xbar = s.xbar ∧ (s.cause1 f i k n).dma = s.dma ∧ (s.cause1 f i k n).mgmt = s.mgmt ∧
    (s.cause1 f i k n).scp = s.scp ∧ (s.cause1 f i k n).mon = s.mon ∧ (s.cause1 f i k n).power = s.power ∧
    (s.cause1 f i k n).checkPoly = s.checkPoly ∧ (s.cause1 f i k n).monTest = s.monTest ∧ (s.cause1 f i k n).monBad = s.monBad ∧
    (s.cause1 f i k n).free = s.free ∧ (s.cause1 f i k n).pending = s.pending :=
  by rw [show s.cause1 f i k n = _ from EvtOnly.cause1 s f i k n]; exact ⟨rfl, rfl, rfl, rfl, rfl, rfl, rfl, rfl, rfl, rfl, rfl, rfl, rfl, rfl, rfl, rfl, rfl, rfl, rfl, rfl, rfl, rfl, rfl, rfl, rfl, rfl, rfl, rfl, rfl, rfl, rfl, rfl⟩

@[simp] theorem State.causeBase_fields (s : State) (f : Field) (b k : Nat) :
    (s.causeBase f b k).part = s.part ∧ (s.causeBase f b k).now = s.now ∧ (s.causeBase f b k).mem = s.mem ∧ (s.causeBase f b k).poison = s.poison ∧
    (s.causeBase f b k).place = s.place ∧ (s.causeBase f b k).stk = s.stk ∧ (s.causeBase f b k).store = s.store ∧
    (s.causeBase f b k).draft = s.draft ∧ (s.causeBase f b k).trust = s.trust ∧ (s.causeBase f b k).ledger = s.ledger ∧
    (s.causeBase f b k).pass = s.pass ∧ (s.causeBase f b k).loom = s.loom ∧ (s.causeBase f b k).frames = s.frames ∧
    (s.causeBase f b k).beam = s.beam ∧ (s.causeBase f b k).fox = s.fox ∧ (s.causeBase f b k).pair = s.pair ∧ (s.causeBase f b k).spin = s.spin ∧
    (s.causeBase f b k).zoom = s.zoom ∧ (s.causeBase f b k).mesh = s.mesh ∧ (s.causeBase f b k).time = s.time ∧ (s.causeBase f b k).cap = s.cap ∧
    (s.causeBase f b k).xbar = s.xbar ∧ (s.causeBase f b k).dma = s.dma ∧ (s.causeBase f b k).mgmt = s.mgmt ∧ (s.causeBase f b k).scp = s.scp ∧
    (s.causeBase f b k).mon = s.mon ∧ (s.causeBase f b k).power = s.power ∧ (s.causeBase f b k).checkPoly = s.checkPoly ∧
    (s.causeBase f b k).monTest = s.monTest ∧ (s.causeBase f b k).monBad = s.monBad ∧ (s.causeBase f b k).free = s.free ∧
    (s.causeBase f b k).pending = s.pending :=
  by rw [show s.causeBase f b k = _ from EvtOnly.causeBase s f b k]; exact ⟨rfl, rfl, rfl, rfl, rfl, rfl, rfl, rfl, rfl, rfl, rfl, rfl, rfl, rfl, rfl, rfl, rfl, rfl, rfl, rfl, rfl, rfl, rfl, rfl, rfl, rfl, rfl, rfl, rfl, rfl, rfl, rfl⟩

/-! ## Register fields -/

@[simp] theorem State.get2_vecRise (s : State) (v : Nat) (g : Field) (i j : Nat) : (s.vecRise v).get2 g i j = s.get2 g i j := by
  unfold State.get2
  have h : (s.vecRise v).regs = s.regs := by
    unfold State.vecRise
    split
    · rfl
    · dsimp only
      split
      · exact (State.emit_fields _ _).2.2.1
      · rfl
  rw [h]

/-- A field that no raise of source `n` writes. -/
abbrev Field.free (g : Field) (i j n : Nat) : Prop :=
  g.key i j ≠ R.EVT_PEND_PEND.key (n / 32) 0 ∧ g.key i j ≠ R.EVT_PEND_PEND.key 11 0 ∧ g.key i j ≠ R.EVT_MGMT_QUEUED.key 0 0 ∧
    g.key i j ≠ R.EVT_MGMT_DROPPED.key 0 0

/-- A field above the event router's registers is none that a raise writes. -/
theorem Field.free_high (g : Field) (i j n : Nat) (hg : 0x200000 ≤ g.addr) (hn : n < 1024) : g.free i j n := by
  unfold Field.free Field.key
  refine ⟨?_, ?_, ?_, ?_⟩ <;> simp only [R.EVT_PEND_PEND, R.EVT_MGMT_QUEUED, R.EVT_MGMT_DROPPED] <;> omega

theorem State.get2_raiseWith (s : State) (n : Nat) (d : List Byte) (g : Field) (i j : Nat) (h : g.free i j n) :
    (s.raiseWith n d).get2 g i j = s.get2 g i j := by
  have e : ∀ (a b : State), b.regs = a.regs → b.get2 g i j = a.get2 g i j := fun a b h => by unfold State.get2; rw [h]
  have h1 : ∀ (a : State) (v : Nat), (a.put2 R.EVT_PEND_PEND (n / 32) 0 v).get2 g i j = a.get2 g i j :=
    fun a v => State.get2_put2_other _ _ _ _ _ _ _ _ h.1
  have h2 : ∀ (a : State) (v : Nat), (a.put2 R.EVT_PEND_PEND (0x17F / 32) 0 v).get2 g i j = a.get2 g i j :=
    fun a v => State.get2_put2_other _ _ _ _ _ _ _ _ h.2.1
  have h3 : ∀ (a : State) (v : Nat), (a.put2 R.EVT_MGMT_QUEUED 0 0 v).get2 g i j = a.get2 g i j :=
    fun a v => State.get2_put2_other _ _ _ _ _ _ _ _ h.2.2.1
  have h4 : ∀ (a : State) (v : Nat), (a.put2 R.EVT_MGMT_DROPPED 0 0 v).get2 g i j = a.get2 g i j :=
    fun a v => State.get2_put2_other _ _ _ _ _ _ _ _ h.2.2.2
  have pend : ∀ a : State, (a.setBit1 R.EVT_PEND_PEND (n / 32) (n % 32)).get2 g i j = a.get2 g i j := fun a => h1 a _
  have vec : ∀ (a : State) (c : Prop) [Decidable c] (v : Nat), (if c then a.vecRise v else a).get2 g i j = a.get2 g i j := by
    intro a c _ v
    split
    · exact State.get2_vecRise a v g i j
    · rfl
  unfold State.raiseWith
  extract_lets s1 s2 s3
  have hs2 : s2.get2 g i j = s.get2 g i j := (vec _ _ _).trans (pend s)
  split
  · split
    · exact (h3 _ _).trans ((e s2 _ rfl).trans hs2)
    · exact (vec _ _ _).trans ((h2 _ _).trans ((h4 _ _).trans ((e s2 _ rfl).trans hs2)))
  · exact hs2

theorem State.get2_raise (s : State) (n : Nat) (g : Field) (i j : Nat) (h : g.free i j n) : (s.raise n).get2 g i j = s.get2 g i j :=
  State.get2_raiseWith s n _ g i j h

theorem State.get_raise (s : State) (n : Nat) (g : Field) (h : g.free 0 0 n) : (s.raise n).get g = s.get g := State.get2_raise s n g 0 0 h
theorem State.get1_raise (s : State) (n : Nat) (g : Field) (i : Nat) (h : g.free i 0 n) : (s.raise n).get1 g i = s.get1 g i :=
  State.get2_raise s n g i 0 h

/-- A cause bit set: that bit apart, no field changes but the event router's. -/
theorem State.get2_cause1 (s : State) (f : Field) (i k n : Nat) (g : Field) (i' j' : Nat) (h : g.free i' j' n) :
    (s.cause1 f i k n).get2 g i' j' = (s.setBit1 f i k).get2 g i' j' := by
  unfold State.cause1 State.withLevels
  dsimp only [List.foldl_cons, List.foldl_nil]
  split
  · exact State.get2_raise _ _ _ _ _ h
  · rfl

theorem State.get_cause1 (s : State) (f : Field) (i k n : Nat) (g : Field) (h : g.free 0 0 n) :
    (s.cause1 f i k n).get g = (s.setBit1 f i k).get g := State.get2_cause1 s f i k n g 0 0 h
theorem State.get1_cause1 (s : State) (f : Field) (i k n : Nat) (g : Field) (j : Nat) (h : g.free j 0 n) :
    (s.cause1 f i k n).get1 g j = (s.setBit1 f i k).get1 g j := State.get2_cause1 s f i k n g j 0 h

end Sys2Proof.Machine
end

