-- ==== Sys2Proof/Laws/Loom.lean ====
section
/-!
SUPPORT. What the power states of the sections change (R121 to R124): register fields of sections and knots, and the cycles a stopped
self-test is busy for (R127).
-/

namespace Sys2Proof.Machine

/-- `t` is `s` but for register fields from byte offset 0x800000 up and the busy cycles counted. -/
def HighRegs (s t : State) : Prop :=
  t = { s with regs := t.regs, loom := { s.loom with busy := t.loom.busy } } ∧ ∀ (g : Field) (i j : Nat), g.key i j < 0x4000000 → t.get2 g i j = s.get2 g i j

theorem HighRegs.refl (s : State) : HighRegs s s := ⟨rfl, fun _ _ _ _ => rfl⟩

theorem HighRegs.trans {r s t : State} (h : HighRegs r s) (k : HighRegs s t) : HighRegs r t := by
  refine ⟨?_, fun g i j hg => (k.2 g i j hg).trans (h.2 g i j hg)⟩
  rw [k.1]
  exact congrArg (fun x : State => { x with regs := t.regs, loom := { x.loom with busy := t.loom.busy } }) h.1

theorem HighRegs.put1 (s : State) (f : Field) (i v : Nat) (h : 0x800000 ≤ f.addr) : HighRegs s (s.put1 f i v) :=
  ⟨rfl, fun g i' j' hg => State.get2_put2_other _ _ _ _ _ _ _ _ (by unfold Field.key at *; omega)⟩

theorem HighRegs.ite {s a b : State} {c : Prop} [Decidable c] (ha : HighRegs s a) (hb : HighRegs s b) : HighRegs s (if c then a else b) := by
  split <;> assumption

theorem HighRegs.forN {n : Nat} {f : Nat → State → State} (hf : ∀ k a, HighRegs a (f k a)) (s : State) : HighRegs s (forN n f s) := by
  unfold Sys2Proof.Machine.forN
  generalize List.range n = l
  induction l generalizing s with
  | nil => exact .refl s
  | cons x l ih => exact (hf x s).trans (ih _)

theorem HighRegs.busyCount (s : State) (S a n : Nat) : HighRegs s (s.busyCount S a n) := by
  unfold State.busyCount
  refine HighRegs.ite (.refl s) ?_
  dsimp only
  exact HighRegs.trans (s := { s with loom := _ }) ⟨rfl, fun _ _ _ _ => rfl⟩ (HighRegs.put1 _ _ _ _ (by decide))

theorem HighRegs.testAborted (s : State) (K : Nat) : HighRegs s (s.testAborted K) :=
  (((HighRegs.put1 s _ _ _ (by decide)).trans (HighRegs.put1 _ _ _ _ (by decide))).trans (HighRegs.busyCount _ _ _ _)).trans
    (HighRegs.put1 _ _ _ _ (by decide))

theorem HighRegs.abortTests (s : State) (S : Nat) : HighRegs s (s.abortTests S) :=
  HighRegs.forN (fun _ a => HighRegs.ite (HighRegs.testAborted a _) (.refl a)) s

theorem HighRegs.sectionMove (s : State) (S : Nat) : HighRegs s (s.sectionMove S) := by
  unfold State.sectionMove
  dsimp only
  split
  · exact HighRegs.ite (HighRegs.put1 _ _ _ _ (by decide)) (.refl s)
  · exact HighRegs.ite (.refl s) ((HighRegs.abortTests s S).trans (HighRegs.put1 _ _ _ _ (by decide)))
  · exact HighRegs.ite (.refl s) (HighRegs.put1 _ _ _ _ (by decide))
  · exact .refl s

theorem HighRegs.sectionsMove (s : State) : HighRegs s s.sectionsMove := HighRegs.forN (fun S a => HighRegs.sectionMove a S) s

/-- A change of which sections are used: beyond the change itself, registers of sections and knots alone change. -/
theorem HighRegs.withSections (s : State) (f : State → State) : HighRegs (f s) (s.withSections f) := by
  unfold State.withSections
  exact HighRegs.trans (HighRegs.forN (fun S a => HighRegs.ite (HighRegs.abortTests a S) (.refl a)) (f s)) (HighRegs.sectionsMove _)

theorem State.get_withSections (s : State) (f : State → State) (g : Field) (h : g.key 0 0 < 0x4000000) :
    (s.withSections f).get g = (f s).get g := (HighRegs.withSections s f).2 g 0 0 h

@[simp] theorem State.draft_withSections (s : State) (f : State → State) : (s.withSections f).draft = (f s).draft := by
  rw [(HighRegs.withSections s f).1]

/-- The Draft controller's state after it changes. -/
@[simp] theorem State.dState_toDraft (s : State) (st : Nat) : (s.toDraft st).dState = st % 16 :=
  (State.get_withSections _ _ _ (by decide)).trans (State.get2_put2_same _ _ _ _ _)

@[simp] theorem State.draft_toDraft (s : State) (st : Nat) : (s.toDraft st).draft = s.draft := State.draft_withSections _ _

theorem State.get_toDraft (s : State) (st : Nat) (g : Field) (h : g.key 0 0 < 0x4000000)
    (hk : g.key 0 0 ≠ R.DRAFT_STATUS_STATE.key 0 0) : (s.toDraft st).get g = s.get g :=
  ((HighRegs.withSections _ _).2 g 0 0 h).trans (State.get2_put2_other _ _ _ _ _ _ _ _ hk)

/-- No other register below the sections' changes with it. -/
theorem State.get2_toDraft (s : State) (st : Nat) (g : Field) (i j : Nat) (h : g.key i j < 0x4000000)
    (hk : g.key i j ≠ R.DRAFT_STATUS_STATE.key 0 0) : (s.toDraft st).get2 g i j = s.get2 g i j :=
  ((HighRegs.withSections _ _).2 g i j h).trans (State.get2_put2_other _ _ _ _ _ _ _ _ hk)

end Sys2Proof.Machine
end

