-- ==== Sys2Proof/Laws/Passes.lean ====
section
/-!
SUPPORT. The operations that leave the list of correlating passes as it is.
-/

namespace Sys2Proof.Machine

theorem State.put2_passes {l : List Pass} {s : State} {x1 x2 x3 x4} (h : s.pass.passes = l) : (State.put2 s x1 x2 x3 x4).pass.passes = l := h
theorem State.put1_passes {l : List Pass} {s : State} {x1 x2 x3} (h : s.pass.passes = l) : (State.put1 s x1 x2 x3).pass.passes = l := h
theorem State.put_passes {l : List Pass} {s : State} {x1 x2} (h : s.pass.passes = l) : (State.put s x1 x2).pass.passes = l := h
theorem State.bump2_passes {l : List Pass} {s : State} {x1 x2 x3 x4} (h : s.pass.passes = l) : (State.bump2 s x1 x2 x3 x4).pass.passes = l := h
theorem State.bump1_passes {l : List Pass} {s : State} {x1 x2 x3} (h : s.pass.passes = l) : (State.bump1 s x1 x2 x3).pass.passes = l := h
theorem State.bump_passes {l : List Pass} {s : State} {x1 x2} (h : s.pass.passes = l) : (State.bump s x1 x2).pass.passes = l := h
theorem State.wrap1_passes {l : List Pass} {s : State} {x1 x2 x3} (h : s.pass.passes = l) : (State.wrap1 s x1 x2 x3).pass.passes = l := h
theorem State.wrap_passes {l : List Pass} {s : State} {x1 x2} (h : s.pass.passes = l) : (State.wrap s x1 x2).pass.passes = l := h
theorem State.setBit1_passes {l : List Pass} {s : State} {x1 x2 x3} (h : s.pass.passes = l) : (State.setBit1 s x1 x2 x3).pass.passes = l := h
theorem State.setBit_passes {l : List Pass} {s : State} {x1 x2} (h : s.pass.passes = l) : (State.setBit s x1 x2).pass.passes = l := h
theorem State.upTo_passes {l : List Pass} {s : State} {x1} (h : s.pass.passes = l) : (State.upTo s x1).pass.passes = l := h
theorem State.wr_passes {l : List Pass} {s : State} {x1 x2} (h : s.pass.passes = l) : (State.wr s x1 x2).pass.passes = l := h
theorem State.setPoison_passes {l : List Pass} {s : State} {x1 x2} (h : s.pass.passes = l) : (State.setPoison s x1 x2).pass.passes = l := h
theorem State.loseSite_passes {l : List Pass} {s : State} {x1} (h : s.pass.passes = l) : (State.loseSite s x1).pass.passes = l := h
theorem State.updSite_passes {l : List Pass} {s : State} {x1 x2} (h : s.pass.passes = l) : (State.updSite s x1 x2).pass.passes = l := h
theorem State.emit_passes {l : List Pass} {s : State} {x1} (h : s.pass.passes = l) : (State.emit s x1).pass.passes = l := by
  unfold State.emit; split <;> exact h
theorem State.takeFree_passes {l : List Pass} {s : State} (h : s.pass.passes = l) : (State.takeFree s).2.pass.passes = l := h
theorem State.raise_passes {l : List Pass} {s : State} {x1} (h : s.pass.passes = l) : (State.raise s x1).pass.passes = l := by
  rw [show State.raise s x1 = _ from EvtOnly.raise s x1]; exact h
theorem State.raiseWith_passes {l : List Pass} {s : State} {x1 x2} (h : s.pass.passes = l) : (State.raiseWith s x1 x2).pass.passes = l := by
  rw [show State.raiseWith s x1 x2 = _ from EvtOnly.raiseWith s x1 x2]; exact h
theorem State.cause1_passes {l : List Pass} {s : State} {x1 x2 x3 x4} (h : s.pass.passes = l) : (State.cause1 s x1 x2 x3 x4).pass.passes = l := by
  rw [show State.cause1 s x1 x2 x3 x4 = _ from EvtOnly.cause1 s x1 x2 x3 x4]; exact h
theorem State.causeBase_passes {l : List Pass} {s : State} {x1 x2 x3} (h : s.pass.passes = l) : (State.causeBase s x1 x2 x3).pass.passes = l := by
  rw [show State.causeBase s x1 x2 x3 = _ from EvtOnly.causeBase s x1 x2 x3]; exact h
theorem State.vecRise_passes {l : List Pass} {s : State} {x1} (h : s.pass.passes = l) : (State.vecRise s x1).pass.passes = l := by
  rw [show State.vecRise s x1 = _ from EvtOnly.vecRise s x1]; exact h
theorem State.wrKeys_passes {l : List Pass} {ks bs} : ∀ {s : State}, s.pass.passes = l → (s.wrKeys ks bs).pass.passes = l := by
  induction ks generalizing bs with
  | nil => intro s h; simpa [State.wrKeys] using h
  | cons k ks ih =>
    intro s h
    cases bs with
    | nil => simpa [State.wrKeys] using h
    | cons b bs => exact ih (State.wr_passes h)
theorem foldl_passes {α : Type} {l : List Pass} {f : State → α → State} {xs : List α} {s : State} (h : s.pass.passes = l)
    (hf : ∀ a x, a.pass.passes = l → (f a x).pass.passes = l) : (xs.foldl f s).pass.passes = l := by
  induction xs generalizing s with
  | nil => exact h
  | cons x r ih => exact ih (hf _ _ h)
theorem foldl_fst_passes {α β : Type} {l : List Pass} {f : State × β → α → State × β} {xs : List α} {s : State × β} (h : s.1.pass.passes = l)
    (hf : ∀ a x, a.1.pass.passes = l → (f a x).1.pass.passes = l) : (xs.foldl f s).1.pass.passes = l := by
  induction xs generalizing s with
  | nil => exact h
  | cons x r ih => exact ih (hf _ _ h)
theorem foldl_snd_passes {α β : Type} {l : List Pass} {f : β × State → α → β × State} {xs : List α} {s : β × State} (h : s.2.pass.passes = l)
    (hf : ∀ a x, a.2.pass.passes = l → (f a x).2.pass.passes = l) : (xs.foldl f s).2.pass.passes = l := by
  induction xs generalizing s with
  | nil => exact h
  | cons x r ih => exact ih (hf _ _ h)
theorem foldl_22_passes {α β γ : Type} {l : List Pass} {f : β × γ × State → α → β × γ × State} {xs : List α} {s : β × γ × State} (h : s.2.2.pass.passes = l)
    (hf : ∀ a x, a.2.2.pass.passes = l → (f a x).2.2.pass.passes = l) : (xs.foldl f s).2.2.pass.passes = l := by
  induction xs generalizing s with
  | nil => exact h
  | cons x r ih => exact ih (hf _ _ h)
theorem forN_passes {l : List Pass} {n : Nat} {f : Nat → State → State} {s : State} (h : s.pass.passes = l)
    (hf : ∀ k a, a.pass.passes = l → (f k a).pass.passes = l) : (forN n f s).pass.passes = l := foldl_passes h (fun a x ha => hf x a ha)
theorem forL_passes {α : Type} {l : List Pass} {xs : List α} {f : α → State → State} {s : State} (h : s.pass.passes = l)
    (hf : ∀ k a, a.pass.passes = l → (f k a).pass.passes = l) : (forL xs f s).pass.passes = l := foldl_passes h (fun a x ha => hf x a ha)
theorem of_snd_passes {α : Type} {l : List Pass} {t : State} {x : α × State} {a : α} (e : x = (a, t)) (h : x.2.pass.passes = l) : t.pass.passes = l := by
  subst e; exact h
theorem of_fst_passes {α : Type} {l : List Pass} {t : State} {x : State × α} {a : α} (e : x = (t, a)) (h : x.1.pass.passes = l) : t.pass.passes = l := by
  subst e; exact h
theorem of_22_passes {α β : Type} {l : List Pass} {t : State} {x : α × β × State} {a : α} {b : β} (e : x = (a, b, t)) (h : x.2.2.pass.passes = l) : t.pass.passes = l := by
  subst e; exact h
theorem of_222_passes {α β γ : Type} {l : List Pass} {t : State} {x : α × β × γ × State} {a : α} {b : β} {c : γ} (e : x = (a, b, c, t)) (h : x.2.2.2.pass.passes = l) : t.pass.passes = l := by
  subst e; exact h
theorem State.withLevels_passes {l : List Pass} {s : State} {srcs f} (h : (f s).pass.passes = l) : (s.withLevels srcs f).pass.passes = l :=
  foldl_passes h (fun a n ha => by split; exacts [State.raise_passes ha, ha])
theorem State.withSections_passes {l : List Pass} {s : State} {f} (h : (f s).pass.passes = l) : (s.withSections f).pass.passes = l := by
  rw [(HighRegs.withSections s f).1]; exact h
theorem State.sectionMove_passes {l : List Pass} {s : State} {x1} (h : s.pass.passes = l) : (s.sectionMove x1).pass.passes = l := by
  rw [(HighRegs.sectionMove s x1).1]; exact h
theorem State.sectionsMove_passes {l : List Pass} {s : State} (h : s.pass.passes = l) : (s.sectionsMove).pass.passes = l := by
  rw [(HighRegs.sectionsMove s).1]; exact h
theorem State.abortTests_passes {l : List Pass} {s : State} {x1} (h : s.pass.passes = l) : (s.abortTests x1).pass.passes = l := by
  rw [(HighRegs.abortTests s x1).1]; exact h

theorem State.writeRegion_passes {l : List Pass} {s : State} {x1 x2 x3} (h : s.pass.passes = l) : (State.writeRegion s x1 x2 x3).pass.passes = l := by
  unfold State.writeRegion
  with_reducible repeat' first | assumption | intro _ _ _ | intro _ _ | apply State.setPoison_passes | apply State.wrKeys_passes | apply foldl_passes

theorem State.enqueue_passes {l : List Pass} {s : State} {x1} (h : s.pass.passes = l) : (State.enqueue s x1).pass.passes = l := by
  unfold State.enqueue
  with_reducible repeat' first | assumption | dsimp only | split

theorem State.noteDetail_passes {l : List Pass} {s : State} {x1 x2} (h : s.pass.passes = l) : (State.noteDetail s x1 x2).pass.passes = l := by
  unfold State.noteDetail
  with_reducible repeat' first | assumption | dsimp only | split

theorem State.passEvt_passes {l : List Pass} {s : State} {x1} (h : s.pass.passes = l) : (State.passEvt s x1).pass.passes = l := by
  unfold State.passEvt
  with_reducible repeat' first | assumption | apply State.causeBase_passes

theorem State.meshEvt_passes {l : List Pass} {s : State} {x1} (h : s.pass.passes = l) : (State.meshEvt s x1).pass.passes = l := by
  unfold State.meshEvt
  with_reducible repeat' first | assumption | apply State.causeBase_passes

theorem State.pairEvt_passes {l : List Pass} {s : State} {x1} (h : s.pass.passes = l) : (State.pairEvt s x1).pass.passes = l := by
  unfold State.pairEvt
  with_reducible repeat' first | assumption | apply State.causeBase_passes

theorem State.storeEvt_passes {l : List Pass} {s : State} {x1} (h : s.pass.passes = l) : (State.storeEvt s x1).pass.passes = l := by
  unfold State.storeEvt
  with_reducible repeat' first | assumption | apply State.causeBase_passes

theorem State.memEvt_passes {l : List Pass} {s : State} {x1 x2 x3} (h : s.pass.passes = l) : (State.memEvt s x1 x2 x3).pass.passes = l := by
  unfold State.memEvt
  with_reducible repeat' first | assumption | apply State.raise_passes | apply State.setBit1_passes | dsimp only | split

theorem State.sectionEvt_passes {l : List Pass} {s : State} {x1 x2} (h : s.pass.passes = l) : (State.sectionEvt s x1 x2).pass.passes = l := by
  unfold State.sectionEvt
  with_reducible repeat' first | assumption | apply State.cause1_passes

theorem State.queueLane_passes {l : List Pass} {s : State} {x1 x2} (h : s.pass.passes = l) : (State.queueLane s x1 x2).pass.passes = l := by
  unfold State.queueLane
  with_reducible repeat' first | assumption

theorem State.sendWrite_passes {l : List Pass} {s : State} {x1 x2 x3 x4 x5} (h : s.pass.passes = l) :
    (State.sendWrite s x1 x2 x3 x4 x5).pass.passes = l := by
  unfold State.sendWrite
  with_reducible repeat' first
    | assumption | intro _ _ _ | intro _ _ | apply State.queueLane_passes | apply State.takeFree_passes | apply foldl_passes | dsimp only | split

theorem State.sendRequest_passes {l : List Pass} {s : State} {x1} (h : s.pass.passes = l) : (State.sendRequest s x1).pass.passes = l := by
  unfold State.sendRequest
  with_reducible repeat' first | assumption | apply State.queueLane_passes | dsimp only | split

theorem State.ledSet_passes {l : List Pass} {s : State} {x1 x2 x3} (h : s.pass.passes = l) : (State.ledSet s x1 x2 x3).pass.passes = l := by
  unfold State.ledSet
  with_reducible repeat' first | assumption

theorem State.ledBump_passes {l : List Pass} {s : State} {x1 x2 x3} (h : s.pass.passes = l) : (State.ledBump s x1 x2 x3).pass.passes = l := by
  unfold State.ledBump
  with_reducible repeat' first | assumption | apply State.ledSet_passes

theorem State.ledCount_passes {l : List Pass} {s : State} {x1} (h : s.pass.passes = l) : (State.ledCount s x1).pass.passes = l := by
  unfold State.ledCount
  with_reducible repeat' first | assumption | apply State.ledBump_passes

theorem State.ledStackErr_passes {l : List Pass} {s : State} {x1 x2 x3} (h : s.pass.passes = l) : (State.ledStackErr s x1 x2 x3).pass.passes = l := by
  unfold State.ledStackErr
  with_reducible repeat' first | assumption | apply State.ledBump_passes

theorem State.retireRank_passes {l : List Pass} {s : State} {x1 x2} (h : s.pass.passes = l) : (State.retireRank s x1 x2).pass.passes = l := by
  unfold State.retireRank
  with_reducible repeat' first
    | assumption | apply State.ledCount_passes | apply State.ledSet_passes | apply State.memEvt_passes | apply State.put1_passes
    | apply State.updSite_passes | dsimp only | split

theorem State.rankFails_passes {l : List Pass} {s : State} {x1 x2} (h : s.pass.passes = l) : (State.rankFails s x1 x2).pass.passes = l := by
  unfold State.rankFails
  with_reducible repeat' first | assumption | apply State.retireRank_passes | dsimp only | split

theorem State.errWhere_passes {l : List Pass} {s : State} {x1 x2 x3} (h : s.pass.passes = l) : (State.errWhere s x1 x2 x3).pass.passes = l := by
  unfold State.errWhere
  with_reducible repeat' first | assumption | apply State.put1_passes

theorem State.readUe_passes {l : List Pass} {s : State} {x1} (h : s.pass.passes = l) : (State.readUe s x1).pass.passes = l := by
  unfold State.readUe
  with_reducible repeat' first
    | assumption | apply State.bump1_passes | apply State.errWhere_passes | apply State.ledStackErr_passes | apply State.memEvt_passes
    | apply State.rankFails_passes | apply State.setPoison_passes

theorem State.parityFail_passes {l : List Pass} {s : State} {x1 x2 x3} (h : s.pass.passes = l) : (State.parityFail s x1 x2 x3).pass.passes = l := by
  unfold State.parityFail
  with_reducible repeat' first
    | assumption | apply State.bump1_passes | apply State.errWhere_passes | apply State.memEvt_passes | apply State.rankFails_passes
    | apply State.readUe_passes | dsimp only | split

theorem State.meet_passes {l : List Pass} {s : State} {x1 x2} (h : s.pass.passes = l) : (State.meet s x1 x2).pass.passes = l := by
  unfold State.meet
  with_reducible repeat' first | assumption | apply State.parityFail_passes | apply State.readUe_passes | dsimp only | split

theorem State.ask_passes {l : List Pass} {s : State} {x1 x2 x3} (h : s.pass.passes = l) : (State.ask s x1 x2 x3).pass.passes = l := by
  unfold State.ask
  with_reducible repeat' first | assumption | intro _ _ _ | intro _ _ | apply State.enqueue_passes | apply State.meet_passes | apply foldl_passes

theorem State.askWrite_passes {l : List Pass} {s sx : State} {port r o n keep} (h : s.pass.passes = l) :
    (s.askWrite sx port r o n keep).pass.passes = l :=
  foldl_passes h (fun a k ha => by
    dsimp only
    split
    · exact State.enqueue_passes ha
    · exact State.enqueue_passes (State.meet_passes ha))

theorem State.walkFault_passes {l : List Pass} {s : State} {x1 x2 x3 x4 x5 x6} (h : s.pass.passes = l) :
    (State.walkFault s x1 x2 x3 x4 x5 x6).pass.passes = l := by
  unfold State.walkFault
  with_reducible repeat' first
    | assumption | apply State.bump_passes | apply State.noteDetail_passes | apply State.put_passes | apply State.storeEvt_passes | dsimp only | split

theorem State.cachePut_passes {l : List Pass} {s : State} {x1 x2 x3 x4} (h : s.pass.passes = l) : (State.cachePut s x1 x2 x3 x4).pass.passes = l := by
  unfold State.cachePut
  with_reducible repeat' first | assumption

theorem State.cacheUse_passes {l : List Pass} {s : State} {x1} (h : s.pass.passes = l) : (State.cacheUse s x1).pass.passes = l := by
  unfold State.cacheUse
  with_reducible repeat' first | assumption

theorem State.askWalk_passes {l : List Pass} {s : State} {x1 x2 x3} (h : s.pass.passes = l) : (State.askWalk s x1 x2 x3).pass.passes = l := by
  unfold State.askWalk
  with_reducible repeat' first | assumption | apply State.ask_passes | dsimp only | split

theorem State.translate_passes {l : List Pass} {s : State} {x1 x2 x3} (h : s.pass.passes = l) : (State.translate s x1 x2 x3).2.pass.passes = l := by
  unfold State.translate
  with_reducible repeat' first
    | assumption | apply State.askWalk_passes | apply State.bump_passes | apply State.cachePut_passes | apply State.cacheUse_passes | dsimp only
    | split

theorem State.refusedUnits_passes {l : List Pass} {s : State} {x1 x2 x3} (h : s.pass.passes = l) :
    (State.refusedUnits s x1 x2 x3).pass.passes = l := by
  unfold State.refusedUnits
  with_reducible repeat' first | assumption | apply State.bump1_passes | dsimp only | split

theorem State.portWrite_passes {l : List Pass} {s : State} {x1 x2 x3 x4} (h : s.pass.passes = l) : (s.portWrite x1 x2 x3 x4).1.pass.passes = l := by
  unfold State.portWrite
  dsimp only
  split
  · exact State.askWrite_passes (State.writeRegion_passes h)
  · split
    · dsimp only
      refine State.refusedUnits_passes (State.askWrite_passes (foldl_passes h ?_))
      exact fun a x ha => State.writeRegion_passes ha
    · exact State.refusedUnits_passes h

theorem State.poisonRange_passes {l : List Pass} {s : State} {x1 x2 x3} (h : s.pass.passes = l) : (State.poisonRange s x1 x2 x3).pass.passes = l := by
  unfold State.poisonRange
  with_reducible repeat' first | assumption | intro _ _ _ | intro _ _ | apply State.setPoison_passes | apply foldl_passes

theorem State.faultUnits_passes {l : List Pass} {s : State} {x1 x2 x3} (h : s.pass.passes = l) : (State.faultUnits s x1 x2 x3).pass.passes = l := by
  unfold State.faultUnits
  with_reducible repeat' first | assumption | apply State.refusedUnits_passes | dsimp only | split

theorem State.segWriteP_passes {l : List Pass} {s : State} {x1 x2 x3 x4} (h : s.pass.passes = l) :
    (State.segWriteP s x1 x2 x3 x4).1.pass.passes = l := by
  unfold State.segWriteP
  with_reducible repeat' first
    | assumption | apply State.emit_passes | apply State.faultUnits_passes | apply State.poisonRange_passes | apply State.portWrite_passes
    | apply State.raise_passes | apply State.refusedUnits_passes | apply State.sendWrite_passes | apply State.translate_passes
    | apply State.walkFault_passes | dsimp only | split

theorem State.segWrite_passes {l : List Pass} {s : State} {x1 x2 x3} (h : s.pass.passes = l) : (State.segWrite s x1 x2 x3).1.pass.passes = l := by
  unfold State.segWrite
  with_reducible repeat' first | assumption | apply State.segWriteP_passes

theorem State.flushLanes_passes {l : List Pass} {s : State} {x1} (h : s.pass.passes = l) : (State.flushLanes s x1).pass.passes = l := by
  unfold State.flushLanes
  with_reducible repeat' first | assumption | intro _ _ _ | intro _ _ | apply State.sendRequest_passes | apply foldl_passes

theorem State.storePut_passes {l : List Pass} {s : State} {x1 x2 x3 x4} (h : s.pass.passes = l) :
    (State.storePut s x1 x2 x3 x4).1.pass.passes = l := by
  unfold State.storePut
  with_reducible repeat' first | assumption | intro _ _ _ | intro _ _ | apply State.segWriteP_passes | apply foldl_fst_passes

theorem State.storeWrite_passes {l : List Pass} {s : State} {x1 x2 x3} (h : s.pass.passes = l) : (State.storeWrite s x1 x2 x3).1.pass.passes = l := by
  unfold State.storeWrite
  with_reducible repeat' first | assumption | apply State.flushLanes_passes | apply State.storePut_passes

theorem State.ledSlack_passes {l : List Pass} {s : State} {x1} (h : s.pass.passes = l) : (State.ledSlack s x1).pass.passes = l := by
  unfold State.ledSlack
  with_reducible repeat' first | assumption | apply State.ledBump_passes

theorem State.busyCount_passes {l : List Pass} {s : State} {x1 x2 x3} (h : s.pass.passes = l) : (State.busyCount s x1 x2 x3).pass.passes = l := by
  unfold State.busyCount
  with_reducible repeat' first | assumption | apply State.wrap1_passes | dsimp only | split

theorem State.countRun_passes {l : List Pass} {s : State} {x1 x2 x3 x4 x5} (h : s.pass.passes = l) :
    (State.countRun s x1 x2 x3 x4 x5).pass.passes = l := by
  unfold State.countRun
  with_reducible repeat' first
    | assumption | intro _ _ _ | intro _ _ | apply State.busyCount_passes | apply State.wrap1_passes | apply foldl_passes | dsimp only | split

theorem State.countRuns_passes {L : List Pass} {s : State} {cyc steps n l} (h : s.pass.passes = L) : (s.countRuns cyc steps n l).pass.passes = L := by
  induction l generalizing s n with
  | nil => exact h
  | cons r rs ih => exact ih (State.countRun_passes h)

theorem State.exchange_passes {l : List Pass} {s : State} {x1 x2} (h : s.pass.passes = l) : (State.exchange s x1 x2).pass.passes = l := by
  unfold State.exchange
  with_reducible repeat' first | assumption

theorem State.intoQueues_passes {l : List Pass} {s : State} {x1 x2} (h : s.pass.passes = l) : (State.intoQueues s x1 x2).pass.passes = l := by
  unfold State.intoQueues
  with_reducible repeat' first | assumption

theorem State.fromQueues_passes {l : List Pass} {s : State} {x1} (h : s.pass.passes = l) : (State.fromQueues s x1).2.pass.passes = l := by
  unfold State.fromQueues
  with_reducible repeat' first | assumption

theorem State.boundary_passes {l : List Pass} {s : State} {x1 x2 x3 x4} (h : s.pass.passes = l) :
    (State.boundary s x1 x2 x3 x4).2.pass.passes = l := by
  unfold State.boundary
  with_reducible repeat' first | assumption | apply State.exchange_passes | apply State.fromQueues_passes | apply State.intoQueues_passes

theorem State.nextItem_passes {l : List Pass} {s : State} {x1} (h : s.pass.passes = l) : (State.nextItem s x1).2.pass.passes = l := by
  unfold State.nextItem
  with_reducible repeat' first | assumption

theorem State.mirrorRec_passes {l : List Pass} {s : State} {x1 x2} (h : s.pass.passes = l) : (State.mirrorRec s x1 x2).pass.passes = l := by
  unfold State.mirrorRec
  with_reducible repeat' first | assumption | apply State.put_passes

theorem State.toSyncing_passes {l : List Pass} {s : State} (h : s.pass.passes = l) : (State.toSyncing s).pass.passes = l := by
  unfold State.toSyncing
  with_reducible repeat' first | assumption | apply State.mirrorRec_passes | apply State.put_passes

theorem State.diverge_passes {l : List Pass} {s : State} {x1 x2} (h : s.pass.passes = l) : (State.diverge s x1 x2).pass.passes = l := by
  unfold State.diverge
  with_reducible repeat' first
    | assumption | apply State.bump_passes | apply State.pairEvt_passes | apply State.put_passes | apply State.toSyncing_passes | dsimp only | split

theorem State.digest_passes {l : List Pass} {s : State} {x1 x2 x3 x4 x5} (h : s.pass.passes = l) :
    (State.digest s x1 x2 x3 x4 x5).pass.passes = l := by
  unfold State.digest
  with_reducible repeat' first | assumption | apply State.diverge_passes | apply State.mirrorRec_passes | dsimp only | split

theorem State.exclude_passes {l : List Pass} {s : State} {x1 x2 x3 x4} (h : s.pass.passes = l) : (State.exclude s x1 x2 x3 x4).pass.passes = l := by
  unfold State.exclude
  with_reducible repeat' first | assumption

theorem State.spaceRead_passes {l : List Pass} {s : State} {x1 x2 x3 x4} (h : s.pass.passes = l) :
    (State.spaceRead s x1 x2 x3 x4).2.pass.passes = l := by
  unfold State.spaceRead
  with_reducible repeat' first | assumption | apply State.ask_passes | apply State.refusedUnits_passes | dsimp only | split

theorem State.spaceWrite_passes {l : List Pass} {s : State} {x1 x2 x3 x4} (h : s.pass.passes = l) :
    (State.spaceWrite s x1 x2 x3 x4).pass.passes = l := by
  unfold State.spaceWrite
  with_reducible repeat' first | assumption | apply State.portWrite_passes | dsimp only | split

theorem State.setInteg_passes {l : List Pass} {s : State} {x1 x2 x3} (h : s.pass.passes = l) : (State.setInteg s x1 x2 x3).pass.passes = l := by
  unfold State.setInteg
  with_reducible repeat' first | assumption

theorem State.fetchWork_passes {l : List Pass} {s : State} {x1 x2 x3 x4} (h : s.pass.passes = l) :
    (State.fetchWork s x1 x2 x3 x4).2.2.pass.passes = l := by
  unfold State.fetchWork
  with_reducible repeat' first | assumption | apply State.spaceRead_passes | dsimp only | split

theorem State.readBlock_passes {l : List Pass} {s : State} {x1 x2 x3 x4 x5} (h : s.pass.passes = l) :
    (State.readBlock s x1 x2 x3 x4 x5).2.2.pass.passes = l := by
  unfold State.readBlock
  with_reducible repeat' first | assumption | apply State.spaceRead_passes

theorem State.fetchPass_passes {l : List Pass} {s : State} {x1 x2} (h : s.pass.passes = l) : (State.fetchPass s x1 x2).2.pass.passes = l := by
  unfold State.fetchPass
  with_reducible repeat' first
    | assumption | intro _ _ _ | intro _ _ | apply State.exclude_passes | apply State.fetchWork_passes | apply State.readBlock_passes
    | apply foldl_snd_passes | dsimp only | split

theorem State.fillPass_passes {l : List Pass} {s : State} {x1 x2} (h : s.pass.passes = l) : (State.fillPass s x1 x2).2.pass.passes = l := by
  unfold State.fillPass
  with_reducible repeat' first | assumption | apply State.fetchPass_passes

theorem State.countInjection_passes {l : List Pass} {s : State} {x1 x2 x3 x4} (h : s.pass.passes = l) :
    (State.countInjection s x1 x2 x3 x4).pass.passes = l := by
  unfold State.countInjection
  with_reducible repeat' first | assumption | apply State.countRuns_passes

theorem State.countOverflows_passes {l : List Pass} {s : State} {x1} (h : s.pass.passes = l) : (State.countOverflows s x1).pass.passes = l := by
  unfold State.countOverflows
  with_reducible repeat' first
    | assumption | intro _ _ _ | intro _ _ | apply State.bump1_passes | apply State.put1_passes | apply State.sectionEvt_passes | apply foldl_passes

theorem State.inject_passes {l : List Pass} {s : State} {x1 x2 x3} (h : s.pass.passes = l) : (State.inject s x1 x2 x3).2.pass.passes = l := by
  unfold State.inject
  with_reducible repeat' first
    | assumption | intro _ _ _ | intro _ _ | apply State.boundary_passes | apply State.countInjection_passes | apply State.countOverflows_passes
    | apply foldl_snd_passes

theorem State.countMarks_passes {l : List Pass} {s : State} {x1 x2 x3} (h : s.pass.passes = l) : (State.countMarks s x1 x2 x3).1.pass.passes = l := by
  unfold State.countMarks
  with_reducible repeat' first | assumption | apply State.bump_passes | apply State.passEvt_passes | dsimp only | split

theorem State.queueDest_passes {l : List Pass} {s : State} {x1 x2} (h : s.pass.passes = l) : (State.queueDest s x1 x2).pass.passes = l := by
  unfold State.queueDest
  with_reducible repeat' first | assumption

theorem State.writeItem_passes {l : List Pass} {s : State} {x1} (h : s.pass.passes = l) : (State.writeItem s x1).pass.passes = l := by
  unfold State.writeItem
  with_reducible repeat' first
    | assumption | intro _ _ _ | intro _ _ | apply State.flushLanes_passes | apply State.passEvt_passes | apply State.segWrite_passes
    | apply State.storeWrite_passes | apply foldl_fst_passes | dsimp only | split

theorem State.dump_passes {l : List Pass} {s : State} {x1 x2 x3 x4 x5 x6} (h : s.pass.passes = l) :
    (State.dump s x1 x2 x3 x4 x5 x6).pass.passes = l := by
  unfold State.dump
  with_reducible repeat' first
    | assumption | intro _ _ _ | intro _ _ | apply State.nextItem_passes | apply State.queueDest_passes | apply State.setInteg_passes
    | apply State.writeItem_passes | apply foldl_passes | dsimp only | split

theorem State.useTag_passes {l : List Pass} {s : State} {x1 x2} (h : s.pass.passes = l) : (State.useTag s x1 x2).pass.passes = l := by
  unfold State.useTag
  with_reducible repeat' first | assumption

theorem State.recordSlack_passes {l : List Pass} {s : State} {x1 x2} (h : s.pass.passes = l) : (State.recordSlack s x1 x2).pass.passes = l := by
  unfold State.recordSlack
  with_reducible repeat' first | assumption | apply State.ledSlack_passes | apply State.passEvt_passes | dsimp only | split

theorem State.releaseHeld_passes {l : List Pass} {s : State} {x1} (h : s.pass.passes = l) : (State.releaseHeld s x1).pass.passes = l := by
  unfold State.releaseHeld
  with_reducible repeat' first | assumption | apply State.bump_passes | dsimp only | split

end Sys2Proof.Machine
end

