-- ==== Sys2Proof/Laws/Effects.lean ====
section
/-!
SUPPORT. What operations that several commands share leave of the state, and the bits of the bitwise operations.
-/

namespace Sys2Proof.Machine

theorem State.dState_put (s : State) (f : Field) (v : Nat) (h : R.DRAFT_STATUS_STATE.key 0 0 ≠ f.key 0 0) : (s.put f v).dState = s.dState :=
  State.get_put_ne s f _ v h
@[simp] theorem dState_put_self (s : State) (v : Nat) : (s.put R.DRAFT_STATUS_STATE v).dState = v % 16 := State.get_put_same s _ v
theorem State.dState_raise (s : State) (n) (h : R.DRAFT_STATUS_STATE.free 0 0 n) : (s.raise n).dState = s.dState := State.get_raise s n _ h
@[simp] theorem dState_setDraft (s : State) (f) : (s.setDraft f).dState = s.dState := (rfl)
@[simp] theorem dState_upTo (s : State) (f) : (s.upTo f).dState = s.dState := (rfl)
@[simp] theorem get_setDraft (s : State) (f) (g) : (s.setDraft f).get g = s.get g := (rfl)
@[simp] theorem draft_setDraft (s : State) (f) : (s.setDraft f).draft = f s.draft := (rfl)
@[simp] theorem dState_withSections (s : State) (f : State → State) : (s.withSections f).dState = (f s).dState :=
  State.get_withSections s f _ (by decide)
theorem foldl_raise (gone : List Stream) (a : State) : (gone.foldl (fun a _ => a.raise 0x1C8) a).draft = a.draft ∧ (gone.foldl (fun a _ => a.raise 0x1C8) a).dState = a.dState := by
  induction gone generalizing a with
  | nil => exact ⟨rfl, rfl⟩
  | cons x l ih => 
    obtain ⟨h1, h2⟩ := ih (a.raise 0x1C8)
    exact ⟨h1.trans (State.raise_fields a 0x1C8).2.2.2.2.2.2.2.1 |>.trans rfl, h2.trans (State.dState_raise a _ (by decide))⟩
theorem discardPatches_leaves (s : State) (S : Nat) : (s.discardPatches S).draft = { s.draft with patches := s.draft.patches.filter (fun p => decide (p.effSpan ≤ S)) } ∧
   (s.discardPatches S).dState = s.dState := by
  unfold State.discardPatches
  dsimp only
  split
  · rename_i h
    refine ⟨?_, rfl⟩
    have : s.draft.patches.filter (fun p => decide (p.effSpan ≤ S)) = s.draft.patches := by
      rw [List.filter_eq_self]
      simp [List.isEmpty_iff, List.filter_eq_nil_iff] at h
      simpa using h
    rw [this]
  · refine ⟨(foldl_raise _ _).1.trans rfl, (foldl_raise _ _).2.trans ?_⟩
    refine Eq.trans (b := (((s.setDraft _).put R.DRAFT_STATUS_PENDING _).put R.DRAFT_NEXT_PATCH_E _).dState) rfl ?_
    rw [State.dState_put _ _ _ (by decide), State.dState_put _ _ _ (by decide), dState_setDraft]

@[simp] theorem putFigures_draft (s : State) (f : Figures) : (s.putFigures f).draft = s.draft := (rfl)
theorem putFigures_dState (s : State) (f : Figures) : (s.putFigures f).dState = s.dState := by
  unfold State.putFigures
  simp (disch := decide) only [State.dState_put]

@[simp] theorem State.structAt_upTo (s : State) (t n : Nat) : (s.upTo t).structAt n = s.structAt n := (rfl)
@[simp] theorem State.node_upTo (s : State) (t : Nat) : (s.upTo t).node = s.node := (rfl)
theorem State.passes_setPass (s : State) (p q : Pass) : (s.setPass p q).pass.passes = updPass (· == p) (fun _ => q) s.pass.passes := (rfl)
/-- A pass as it starts keeps its place in the queue. -/
theorem State.fillPass_fields (s : State) (l : List Item) (p : Pass) :
    (s.fillPass l p).1.state = 1 ∧ (s.fillPass l p).1.ply = p.ply ∧ (s.fillPass l p).1.chan = p.chan ∧
      (s.fillPass l p).1.span = p.span ∧ (s.fillPass l p).1.ord = p.ord := by
  have h : (s.fetchPass l p).1.ply = p.ply ∧ (s.fetchPass l p).1.chan = p.chan ∧ (s.fetchPass l p).1.span = p.span ∧
      (s.fetchPass l p).1.ord = p.ord := by
    unfold State.fetchPass
    split <;> exact ⟨rfl, rfl, rfl, rfl⟩
  exact ⟨rfl, h⟩
theorem State.get_passEvt (s : State) (k : Nat) (g : Field) (h : g.free 0 0 (0x0B0 + k)) (hk : g.key 0 0 ≠ R.PASS_EVT_CAUSE.key 0 0) :
    (s.passEvt k).get g = s.get g :=
  (State.get_cause1 _ _ _ _ _ _ h).trans (State.get2_put2_other _ _ _ _ _ _ _ _ hk)
/-- New marks change no span's finality. -/
theorem State.isFinal_countMarks (s : State) (w : Nat) (a b : Tab (Int × Int)) (n : Nat) : (s.countMarks w a b).1.isFinal n = s.isFinal n := by
  have e : (s.countMarks w a b).1.get R.PASS_FINAL_SPAN_SPAN = s.get R.PASS_FINAL_SPAN_SPAN := by
    unfold State.countMarks
    dsimp only
    split <;> split <;> simp (disch := decide) only [State.get_passEvt, State.get_bump_ne]
  unfold State.isFinal
  rw [e]

@[simp] theorem State.get1_noteTest (s : State) (b : Bool) (f : Field) (i : Nat) : (s.noteTest b).get1 f i = s.get1 f i := (rfl)
@[simp] theorem State.noteTest_regs (s : State) (b : Bool) : (s.noteTest b).regs = s.regs ∧ (s.noteTest b).evt = s.evt := ⟨rfl, rfl⟩
/-- Counting busy cycles changes the counter of the section and the runs counted, nothing else. -/
theorem State.busyCount_only (s : State) (S a n : Nat) :
    s.busyCount S a n = { s with regs := (s.busyCount S a n).regs, loom := { s.loom with busy := (s.busyCount S a n).loom.busy } } := by
  unfold State.busyCount
  split <;> rfl
theorem State.get1_busyCount (s : State) (S a n : Nat) (g : Field) (j : Nat) (h : g.key j 0 ≠ R.SECTION_BUSY_CYCLES.key S 0) :
    (s.busyCount S a n).get1 g j = s.get1 g j := by
  unfold State.busyCount
  split
  · rfl
  · exact State.get2_put2_other _ _ _ _ _ _ _ _ h
theorem State.testStops_only (s : State) (K n : Nat) :
    s.testStops K n = { s with regs := (s.testStops K n).regs, loom := { s.loom with busy := (s.testStops K n).loom.busy } } := by
  unfold State.testStops
  exact State.busyCount_only _ _ _ _
/-- A self-test that stops: the other registers of the knot stay. -/
theorem State.get1_testStops (s : State) (K n : Nat) (hK : K < 1024) (g : Field)
    (h : g.addr * 8 + g.lo + 1023 * g.s1 * 8 < R.SECTION_BUSY_CYCLES.addr * 8 + R.SECTION_BUSY_CYCLES.lo)
    (h1 : R.KNOT_STATUS_TEST_BUSY.key K 0 ≠ g.key K 0) (h2 : R.KNOT_ACTIVE_CYCLES.key K 0 ≠ g.key K 0) :
    (s.testStops K n).get1 g K = s.get1 g K := by
  unfold State.testStops
  rw [State.get1_busyCount _ _ _ _ _ _ (Field.key_apart g _ K _ 1024 hK h)]
  exact (State.get2_put2_other _ _ _ _ _ _ _ _ h2.symm).trans (State.get2_put2_other _ _ _ _ _ _ _ _ h1.symm)
theorem State.testStops_busy (s : State) (K n : Nat) (hK : K < 1024) : (s.testStops K n).get1 R.KNOT_STATUS_TEST_BUSY K = 0 := by
  unfold State.testStops
  rw [State.get1_busyCount _ _ _ _ _ _ (Field.key_apart _ _ K _ 1024 hK (by decide))]
  exact (State.get2_put2_other _ _ _ _ _ _ _ _ (Field.key_ne _ _ _ _ (by decide))).trans (State.get2_put2_same _ _ _ _ _)
theorem State.testStops_active (s : State) (K n : Nat) (hK : K < 1024) :
    (s.testStops K n).get1 R.KNOT_ACTIVE_CYCLES K = (s.get1 R.KNOT_ACTIVE_CYCLES K + n) % 2 ^ 32 := by
  unfold State.testStops
  rw [State.get1_busyCount _ _ _ _ _ _ (Field.key_apart _ _ K _ 1024 hK (by decide))]
  refine (State.get2_put2_same _ _ _ _ _).trans ?_
  rw [State.get1_put1_ne _ _ _ _ _ _ (Field.key_ne _ _ _ _ (by decide))]
  rfl
theorem State.now_holdCount (s : State) (b : List Byte) (n : Nat) : (s.holdCount b n).now = s.now := by
  unfold State.holdCount
  split
  · rfl
  · generalize s.plySections b = l
    induction l generalizing s with
    | nil => rfl
    | cons x l ih => exact (ih (s.bump1 _ _ _)).trans rfl
theorem State.put1_only {s a : State} (h : a = { s with regs := a.regs, loom := { s.loom with busy := a.loom.busy } }) (f : Field) (i v : Nat) :
    a.put1 f i v = { s with regs := (a.put1 f i v).regs, loom := { s.loom with busy := (a.put1 f i v).loom.busy } } :=
  congrArg (fun x : State => { x with regs := (a.put1 f i v).regs }) h
/-- What the result of a self-test changes, after the test has stopped. -/
theorem State.noteTest_only (a : State) (x y : Nat) {w z n : Nat} {f : Bool} {F : Field} :
    ((((a.put1 R.KNOT_TEST_RESULT_FAILS n x).put1 R.KNOT_TEST_RESULT_FIRST n y).put1 R.KNOT_STATUS_TEST_ABORTED n 0).noteTest f).put1 F w z =
      { a with
        regs := (((((a.put1 R.KNOT_TEST_RESULT_FAILS n x).put1 R.KNOT_TEST_RESULT_FIRST n y).put1 R.KNOT_STATUS_TEST_ABORTED n 0).noteTest
          f).put1 F w z).regs
        pair := (((((a.put1 R.KNOT_TEST_RESULT_FAILS n x).put1 R.KNOT_TEST_RESULT_FIRST n y).put1 R.KNOT_STATUS_TEST_ABORTED n 0).noteTest
          f).put1 F w z).pair } := rfl
theorem State.testOnly {s a b u : State} (hu : EvtOnly b u) (hb : b = { a with regs := b.regs, pair := b.pair })
    (ha : a = { s with regs := a.regs, loom := { s.loom with busy := a.loom.busy } }) :
    u = { s with regs := u.regs, evt := u.evt, sent := u.sent, pair := u.pair, loom := { s.loom with busy := u.loom.busy } } := by
  unfold EvtOnly at hu
  have e : u.pair = b.pair ∧ u.loom.busy = a.loom.busy := by rw [hu]; exact ⟨rfl, by rw [hb]⟩
  rw [e.1, e.2]
  exact hu.trans (congrArg (fun x : State => { x with regs := u.regs, evt := u.evt, sent := u.sent })
    (hb.trans (congrArg (fun x : State => { x with regs := b.regs, pair := b.pair }) ha)))
theorem State.get1_testBegins (s : State) (K : Nat) (g : Field) (j : Nat) :
    (s.testBegins K).get1 g j = ((s.put1 R.KNOT_STATUS_TEST_BUSY K 1).put1 R.KNOT_STATUS_TEST_PASS K 0).get1 g j := rfl

/-- With no retraction page of the destination held, or on a silent side, nothing is tried again. -/
theorem State.retryHeld_none (s : State) (dest : Nat)
    (h : s.silent = true ∨ s.beam.held.any (fun h => h.dest == dest && h.ptype == 2) = false) : s.retryHeld dest = s := by
  unfold State.retryHeld
  dsimp only
  rw [if_pos]
  rcases h with h | h
  · simp [h]
  · have e : s.beam.held.filter (fun h => h.dest == dest && h.ptype == 2) = [] := by
      rw [List.filter_eq_nil_iff]
      rw [List.any_eq_false] at h
      exact h
    simp [e]

theorem weightHold_beam (s : State) (b : List Byte) (c : Nat) : (s.weightHold b c).beam = s.beam := by
  unfold State.weightHold State.holdCount
  split
  · rfl
  · have h : ∀ (l : List Nat) (a : State), (l.foldl (fun a S => a.bump1 R.SECTION_HOLD_CYCLES S c) a).beam = a.beam := by
      intro l
      induction l with
      | nil => exact fun _ => rfl
      | cons x l ih => exact fun a => (ih _).trans rfl
    exact (h _ _).trans rfl

/-- An issued instruction runs. -/
theorem State.spinRun_issues (s : State) (n t op : Nat) (f : State → SCtx → State) (h : s.issues n t op) (hd : spinDefined op = true) :
    s.spinRun n t op f = f (s.upTo t) ((s.upTo t).spinCtx n) := by
  obtain ⟨h1, h2, h3, h4, h5, h6⟩ := h
  unfold State.spinRun
  simp only [h1, h2, h3, h5, hd]
  have h4' : ((s.upTo t).spinCtx n).slots.isEmpty = false := by
    rw [Bool.eq_false_iff]; simpa [List.isEmpty_iff] using h4
  simp only [h4', if_neg h6]
  simp
theorem State.spinExec_issues (s : State) (n t op : Nat) (sem : SCtx → SRes) (h : s.issues n t op) (hd : spinDefined op = true) :
    s.spinExec n t op sem = (s.upTo t).applySem ((s.upTo t).spinCtx n) (sem ((s.upTo t).spinCtx n)) :=
  State.spinRun_issues s n t op _ h hd
theorem State.applySem_ok (s : State) (c : SCtx) (sp : Spindle) (next : Option Nat) :
    s.applySem c (.done sp 0 next false) = s.setSpindle c.n (c.goOn sp next) := rfl

@[simp] theorem State.spindle_setSpindle (s : State) (n : Nat) (sp : Spindle) : (s.setSpindle n sp).spindle n = sp := Tab.get_set_same _ _ _ _
@[simp] theorem Spindle.bankNo_setBank (sp : Spindle) (b : Nat) (x : ProgBank) : (sp.setBank b x).bankNo b = x := by
  unfold Spindle.setBank Spindle.bankNo
  split <;> rfl

theorem State.get1_wrap1_ne (s : State) (f g : Field) (i j n : Nat) (h : g.key j 0 ≠ f.key i 0) : (s.wrap1 f i n).get1 g j = s.get1 g j :=
  State.get2_put2_other _ _ _ _ _ _ _ _ h
theorem State.get1_wrap1_same (s : State) (f : Field) (i n : Nat) : (s.wrap1 f i n).get1 f i = f.trunc (s.get1 f i + n) :=
  State.get2_put2_same _ _ _ _ _
@[simp] theorem State.laneState_upTo (s : State) (t l : Nat) : (s.upTo t).laneState l = s.laneState l := (rfl)
@[simp] theorem State.lane_upTo (s : State) (t l : Nat) : (s.upTo t).lane l = s.lane l := (rfl)
@[simp] theorem State.rxBits_upTo (s : State) (t l b : Nat) : (s.upTo t).rxBits l b = s.rxBits l b := (rfl)
@[simp] theorem State.locked_upTo (s : State) (t l : Nat) : (s.upTo t).locked l = s.locked l := (rfl)
theorem State.zoomTake_next (s : State) (l : List Item) (e n : Nat) : Tab.get 0 (s.zoomTake l e n).zoom.next e = n + 1 := by
  unfold State.zoomTake
  dsimp only
  simp only [Tab.get_set_same]

@[simp] theorem State.lane_setLane (s : State) (l : Nat) (x : Lane) : (s.setLane l x).lane l = x := Tab.get_set_same _ _ _ _

theorem State.winStart_trackersRestart (s : State) (x t : Nat) : Tab.get 0 (s.trackersRestart x t).stk.winStart x = t :=
  Tab.get_set_same _ s.stk.winStart _ _
/-- The result of a patrol scrub's read, by its kind. -/
theorem State.scrubbed_eq (s1 : State) (x k n err : Nat) :
    (if n + 1 < siteUnits then
      (match err with | 0 => s1.meet 37 k | 1 => s1.readCe k | 2 => s1.readUe k | 3 => s1.readCe k | _ => s1.parityFail k 37 false).updSite x
        (fun y => { y with scrubPos := n + 1 })
      else ((match err with | 0 => s1.meet 37 k | 1 => s1.readCe k | 2 => s1.readUe k | 3 => s1.readCe k | _ => s1.parityFail k 37 false).updSite x (fun y => { y with scrubPos := 0 })).wrap1 R.MEM_SCRUB_PASSES x 1) =
    (if n + 1 < siteUnits then
      (if err = 0 then s1.meet 37 k else if err = 1 ∨ err = 3 then s1.readCe k
        else if err = 2 then s1.readUe k else s1.parityFail k 37 false).updSite x (fun y => { y with scrubPos := n + 1 })
      else ((if err = 0 then s1.meet 37 k else if err = 1 ∨ err = 3 then s1.readCe k
        else if err = 2 then s1.readUe k else s1.parityFail k 37 false).updSite x (fun y => { y with scrubPos := 0 })).wrap1
          R.MEM_SCRUB_PASSES x 1) := by
  match err with
  | 0 => rfl
  | 1 => rfl
  | 2 => rfl
  | 3 => rfl
  | n + 4 => rfl
theorem State.get1_updSite (s : State) (x : Nat) (f : Site → Site) (g : Field) (i : Nat) : (s.updSite x f).get1 g i = s.get1 g i := rfl
/-- A site whose sweep begins is SWEEPING. -/
theorem State.siteState_sweepBegins (s : State) (x : Nat) : (s.sweepBegins x).siteState x = siteSweeping := by
  unfold State.sweepBegins State.rankMap
  dsimp only
  split <;> exact (State.get1_put1_ne _ _ _ _ _ _ (Field.key_ne _ _ _ _ (by decide))).trans
    ((State.get1_put1_ne _ _ _ _ _ _ (Field.key_ne _ _ _ _ (by decide))).trans
      ((State.get1_put1_ne _ _ _ _ _ _ (Field.key_ne _ _ _ _ (by decide))).trans
        ((State.get1_updSite _ _ _ _ _).trans (State.get1_put1_same _ _ _ _))))

/-- R375: what a gate inside or outside the window does to its input. -/
theorem gate_ifs (s1 : State) (code i n : Nat) :
    (if (!decide (n ≤ 100 * max 1 (s1.get1 R.TIME_REF_WIN_WINDOW i))) = true then s1.unqual code
      else if s1.refQual code = true then (if s1.get R.TIME_STATUS_REF = code then s1.noteRate else s1)
      else if (!Tab.get false s1.time.lost code) = true ∨ s1.get1 R.TIME_REF_CTL_WTR i = 0 then s1.qual code
      else if Tab.get 0 s1.time.wtrAt code ≠ 0 then s1
      else (s1.withTime (fun x => { x with wtrAt := Tab.set 0 x.wtrAt code (s1.now + 1) })).put1 R.TIME_REF_STATUS_WTR_LEFT i
        (s1.get1 R.TIME_REF_CTL_WTR i)) =
    (if 100 * max 1 (s1.get1 R.TIME_REF_WIN_WINDOW i) < n then s1.unqual code
      else if s1.refQual code = true then (if s1.get R.TIME_STATUS_REF = code then s1.noteRate else s1)
      else if Tab.get false s1.time.lost code = false ∨ s1.get1 R.TIME_REF_CTL_WTR i = 0 then s1.qual code
      else if Tab.get 0 s1.time.wtrAt code ≠ 0 then s1
      else (s1.withTime (fun x => { x with wtrAt := Tab.set 0 x.wtrAt code (s1.now + 1) })).put1 R.TIME_REF_STATUS_WTR_LEFT i
        (s1.get1 R.TIME_REF_CTL_WTR i)) := by
  simp only [Bool.not_eq_true', decide_eq_false_iff_not, Nat.not_le]
/-- The selection of the cycle, once the inputs' qualification is known. -/
theorem refSelect_eq (a b s : State) (h : a = b) :
    (if (List.range 5).any (fun i => a.refQual (i + 1) != s.refQual (i + 1)) then a.select else a) =
      if (List.range 5).any (fun i => b.refQual (i + 1) != s.refQual (i + 1)) then b.select else b := by
  rw [h]

@[simp] theorem State.get1_setDma (s : State) (n : Nat) (x : DmaChan) (f : Field) (k : Nat) : (s.setDma n x).get1 f k = s.get1 f k := rfl
@[simp] theorem State.get_setDma (s : State) (n : Nat) (x : DmaChan) (f : Field) : (s.setDma n x).get f = s.get f := rfl
@[simp] theorem State.dmaChan_setDma (s : State) (n : Nat) (x : DmaChan) : (s.setDma n x).dmaChan n = x := Tab.get_set_same _ _ _ _
@[simp] theorem State.dmaChan_put1 (s : State) (f : Field) (k v n : Nat) : (s.put1 f k v).dmaChan n = s.dmaChan n := rfl
@[simp] theorem State.get1_takeFree (s : State) (f : Field) (k : Nat) : (State.takeFree s).2.get1 f k = s.get1 f k := rfl
@[simp] theorem State.dmaChan_takeFree (s : State) (n : Nat) : (State.takeFree s).2.dmaChan n = s.dmaChan n := rfl

theorem State.hostReadsEnd_fold (l : List (Nat × Nat × Nat)) (s : State) :
    l.foldl (fun a e => a.emit (.storeDone e.1 e.2.1 stOffline [] false)) s =
      { s with sent := s.sent ++ l.map (fun e => .storeDone e.1 e.2.1 stOffline [] false) } := by
  induction l generalizing s with
  | nil => simp
  | cons e r ih => 
    rw [List.foldl_cons, ih, show s.emit (.storeDone e.1 e.2.1 stOffline [] false) = { s with sent := s.sent ++ [.storeDone e.1 e.2.1 stOffline [] false] }
      from if_neg (fun a => by cases a)]
    simp
/-- The reads to host memory under way end with status 1, one storeDone each, in their order. -/
theorem State.hostReadsEnd_eq (s : State) : s.hostReadsEnd = { s with
    store := { s.store with hostReads := [] }
    sent := s.sent ++ s.store.hostReads.map (fun e => .storeDone e.1 e.2.1 stOffline [] false) } := State.hostReadsEnd_fold _ _
theorem State.get_hostReadsEnd (s : State) (f : Field) : s.hostReadsEnd.get f = s.get f := by rw [State.hostReadsEnd_eq]; rfl

theorem bit_succ (v k : Nat) : bit v (k + 1) = bit (v / 2) k := by
  unfold bit
  rw [Nat.pow_succ', Nat.div_div_eq_div_mul]

theorem bit_b2n_add (x : Bool) (v k : Nat) : bit (b2n x + 2 * v) k = if k = 0 then x else bit v (k - 1) := by
  cases k with
  | zero => cases x <;> simp [bit, b2n] <;> omega
  | succ k =>
    rw [bit_succ]
    have : (b2n x + 2 * v) / 2 = v := by cases x <;> simp [b2n] <;> omega
    rw [this]; simp

theorem bit_bitOp (f : Bool → Bool → Bool) (w a b k : Nat) (h : k < w) : bit (bitOp f w a b) k = f (bit a k) (bit b k) := by
  induction w generalizing a b k with
  | zero => omega
  | succ w ih =>
    rw [bitOp, bit_b2n_add]
    cases k with
    | zero => simp [bit]
    | succ k => rw [if_neg (by omega), Nat.add_sub_cancel, ih _ _ _ (by omega), bit_succ, bit_succ]

theorem bit_foldl_or {α : Type} (l : List α) (g : α → Nat) (v k : Nat) (h : k < 32) :
    bit (l.foldl (fun a x => orN 32 a (g x)) v) k = (bit v k || l.any (fun x => bit (g x) k)) := by
  induction l generalizing v with
  | nil => simp
  | cons x r ih => rw [List.foldl_cons, ih, orN, bit_bitOp _ _ _ _ _ h, List.any_cons, Bool.or_assoc]

end Sys2Proof.Machine
end

