-- ==== Sys2Proof/Tests/Slice0.lean ====
section
/-!
SUPPORT. Tests: an ill-formed command for each check of Instr.wf, worked examples of the spec, and for each statement with hypotheses a
state and operands that meet them.
-/

open Sys2Proof Sys2Proof.Machine

/-! ## Well-formedness: each check refuses -/

theorem test_wf_word : Instr.wf (.draftScpData (4294967296)) = false ∧ Instr.wf (.draftScpData 0) = true := by decide
theorem test_wf_ply : Instr.wf (.passStart (1024) 0) = false ∧ Instr.wf (.passStart 0 0) = true := by decide
theorem test_wf_knot : Instr.wf (.testStart (1024) 0) = false ∧ Instr.wf (.testStart 0 0) = true := by decide
theorem test_wf_byte : Instr.wf (.testStart 0 (256)) = false ∧ Instr.wf (.testStart 0 0) = true := by decide
theorem test_wf_section : Instr.wf (.testPower (16) false) = false ∧ Instr.wf (.testPower 0 false) = true := by decide
theorem test_wf_dest : Instr.wf (.retractionSend (256) 1 0) = false ∧ Instr.wf (.retractionSend 0 1 0) = true := by decide
theorem test_wf_retr : Instr.wf (.retractionSend 0 (129) 0) = false ∧ Instr.wf (.retractionSend 0 1 0) = true := by decide
theorem test_wf_beam : Instr.wf (.beamComplete 0 (4096) 0) = false ∧ Instr.wf (.beamComplete 0 0 0) = true := by decide
theorem test_wf_spin : Instr.wf (.nop (512) 0) = false ∧ Instr.wf (.nop 0 0) = true := by decide
theorem test_wf_prog : Instr.wf (.progCommit 0 (4096)) = false ∧ Instr.wf (.progCommit 0 0) = true := by decide
theorem test_wf_engine : Instr.wf (.zoomSample (64) 0) = false ∧ Instr.wf (.zoomSample 0 0) = true := by decide
theorem test_wf_lane : Instr.wf (.signalPresent (96) 0) = false ∧ Instr.wf (.signalPresent 0 0) = true := by decide
theorem test_wf_block : Instr.wf (.commaInterval 0 (2 ^ 130) 0 0) = false ∧ Instr.wf (.commaInterval 0 0 0 0) = true := by decide
theorem test_wf_tap : Instr.wf (.laneTxFfe 0 (64) 0) = false ∧ Instr.wf (.laneTxFfe 0 0 0) = true := by decide
theorem test_wf_hank : Instr.wf (.hankCtl (12) 0 0) = false ∧ Instr.wf (.hankCtl 0 0 0) = true := by decide
theorem test_wf_node : Instr.wf (.nodeLost (64) 0) = false ∧ Instr.wf (.nodeLost 0 0) = true := by decide
theorem test_wf_beat : Instr.wf (.heartbeatReceive (97) 0) = false ∧ Instr.wf (.heartbeatReceive 0 0) = true := by decide
theorem test_wf_site : Instr.wf (.memCommandCycle (6) 0 0 0 0 0 false) = false ∧ Instr.wf (.memCommandCycle 0 0 0 0 0 0 false) = true := by decide
theorem test_wf_pch : Instr.wf (.memCommandCycle 0 (32) 0 0 0 0 false) = false ∧ Instr.wf (.memCommandCycle 0 0 0 0 0 0 false) = true := by decide
theorem test_wf_banks : Instr.wf (.memCommandCycle 0 0 0 0 (2 ^ 64) 0 false) = false ∧ Instr.wf (.memCommandCycle 0 0 0 0 0 0 false) = true := by decide
theorem test_wf_err : Instr.wf (.memCommandCycle 0 0 0 0 0 (5) false) = false ∧ Instr.wf (.memCommandCycle 0 0 0 0 0 0 false) = true := by decide
theorem test_wf_port : Instr.wf (.throttleEnd (64)) = false ∧ Instr.wf (.throttleEnd 0) = true := by decide
theorem test_wf_pass : Instr.wf (.probeDone 0 (2 ^ 40)) = false ∧ Instr.wf (.probeDone 0 0) = true := by decide
theorem test_wf_dly : Instr.wf (.memTrainDly 0 (128) false) = false ∧ Instr.wf (.memTrainDly 0 0 false) = true := by decide
theorem test_wf_temp : Instr.wf (.tempReport 0 0 (128)) = false ∧ Instr.wf (.tempReport 0 0 0) = true := by decide
theorem test_wf_sid : Instr.wf (.memRetire 0 (3) 0) = false ∧ Instr.wf (.memRetire 0 0 0) = true := by decide
theorem test_wf_row : Instr.wf (.shedLevelChange 0 (7) 0) = false ∧ Instr.wf (.shedLevelChange 0 0 0) = true := by decide
theorem test_wf_addr : Instr.wf (.storeAccess 0 (2 ^ 48) 1 false [] false [] 0) = false ∧ Instr.wf (.storeAccess 0 0 1 false [] false [] 0) = true := by decide
theorem test_wf_len : Instr.wf (.storeAccess 0 0 0 false [] false [] 0) = false ∧ Instr.wf (.storeAccess 0 0 1 false [] false [] 0) = true := by decide
theorem test_wf_bar2 : Instr.wf (.bar2Request false (2 ^ 36) 1 [] false [] 0) = false ∧ Instr.wf (.bar2Request false 0 1 [] false [] 0) = true := by decide
theorem test_wf_ref : Instr.wf (.refGate [(5, 0)] [] 0) = false ∧ Instr.wf (.refGate [] [6] 0) = false ∧ Instr.wf (.refGate [(1, 0)] [2] 0) = true := by decide
theorem test_wf_pps : Instr.wf (.ppsEdge (2) 0 0) = false ∧ Instr.wf (.ppsEdge 0 0 0) = true := by decide
theorem test_wf_unit4 : Instr.wf (.trigoutArm (4) 0) = false ∧ Instr.wf (.trigoutArm 0 0) = true := by decide
theorem test_wf_pin : Instr.wf (.triginEdge (4) 0) = false ∧ Instr.wf (.triginEdge 0 0) = true := by decide
theorem test_wf_unit16 : Instr.wf (.tapSample (16) 0) = false ∧ Instr.wf (.tapSample 0 0) = true := by decide
theorem test_wf_stream : Instr.wf (.capWptrAdvance (16) 0) = false ∧ Instr.wf (.capWptrAdvance 0 0) = true := by decide
theorem test_wf_master : Instr.wf (.registerWrite (12) 0 ⟨0, 0⟩ 0) = false ∧ Instr.wf (.registerWrite 0 0 ⟨0, 0⟩ 0) = true := by decide
theorem test_wf_off : Instr.wf (.registerWrite 0 (2 ^ 26) ⟨0, 0⟩ 0) = false ∧ Instr.wf (.registerWrite 0 0 ⟨0, 0⟩ 0) = true := by decide
theorem test_wf_enables : Instr.wf (.registerWrite 0 0 ⟨0, (16)⟩ 0) = false ∧ Instr.wf (.registerWrite 0 0 ⟨0, 0⟩ 0) = true := by decide
theorem test_wf_target : Instr.wf (.lockAcquire 0 (24) 0) = false ∧ Instr.wf (.lockAcquire 0 0 0) = true := by decide
theorem test_wf_bar0 : Instr.wf (.xbarTimeout 0 (2 ^ 27) 0 false) = false ∧ Instr.wf (.xbarTimeout 0 0 0 false) = true := by decide
theorem test_wf_chan : Instr.wf (.dmaArm (32)) = false ∧ Instr.wf (.dmaArm 0) = true := by decide
theorem test_wf_dmaerr : Instr.wf (.dmaFailure 0 (5) 0 [] [] 0) = false ∧ Instr.wf (.dmaFailure 0 2 0 [] [] 0) = true := by decide
theorem test_wf_half : Instr.wf (.checkAliveIn 0 (65536)) = false ∧ Instr.wf (.checkAliveIn 0 0) = true := by decide
theorem test_wf_pendword : Instr.wf (.evtPend (32) 0) = false ∧ Instr.wf (.evtPend 0 0) = true := by decide
theorem test_wf_vector : Instr.wf (.msixUnmask (66) false) = false ∧ Instr.wf (.msixUnmask 0 false) = true := by decide
theorem test_wf_speed : Instr.wf (.linkUp (6) 1) = false ∧ Instr.wf (.linkUp 1 1) = true := by decide
theorem test_wf_width : Instr.wf (.linkUp 1 (17)) = false ∧ Instr.wf (.linkUp 1 1) = true := by decide
theorem test_wf_dir : Instr.wf (.mgmtTsPop (2)) = false ∧ Instr.wf (.mgmtTsPop 0) = true := by decide
theorem test_wf_words : Instr.wf (.scpWrite 0 [7, 4294967296] 0) = false ∧ Instr.wf (.scpWrite 0 [7] 0) = true := by decide
theorem test_wf_bits : Instr.wf (.scpSelRise (32)) = false ∧ Instr.wf (.scpSelRise 0) = true := by decide
theorem test_wf_mon : Instr.wf (.monFrame (4) 0) = false ∧ Instr.wf (.monFrame 0 0) = true := by decide
theorem test_wf_rail : Instr.wf (.supplyFault (32) 0) = false ∧ Instr.wf (.supplyFault 0 0) = true := by decide
theorem test_wf_transport : Instr.wf (.spdmRequest (3) []) = false ∧ Instr.wf (.spdmRequest 0 []) = true := by decide
theorem test_wf_mbox : Instr.wf (.mboxGo (8192)) = false ∧ Instr.wf (.mboxGo 0) = true := by decide
theorem test_wf_retry : Instr.wf (.recordRetry (273) 0) = false ∧ Instr.wf (.recordRetry 0 0) = true := by decide

/-! ## Worked examples of the spec -/

/-- Worked example of R325: input 1,234, channel 299, span 3 of the reference configuration, in its corner-turn region. -/
theorem test_locate_reference :
    let r : Region := ⟨0, 0, 131072 * 1048576, 0, 63⟩
    let l := locate ⟨12, false, [r]⟩ r 88805244928
    (l.site, l.pch, l.a, l.a / 1024 % 16, l.a / 16384 % 24576, l.a / sidBytes) = (4, 8, 462524416, 4, 3654, 1) := by decide +kernel

/-- Worked example of R426: "123456789" into a check-value unit. -/
theorem test_check_value :
    let d := [0x31#8, 0x32#8, 0x33#8, 0x34#8, 0x35#8, 0x36#8, 0x37#8, 0x38#8, 0x39#8]
    crc32c d = 0xE3069283 ∧ crc16 d = 0x29B1 ∧ crc64 d = 0x6C40DF5F0B497347 := by decide +kernel

/-- The same through the commands of unit 4: its result register reads 0xE306_9283. -/
theorem test_check_unit :
    (match exec (.checkInit 4) State.reset with
      | .next a => match exec (.checkData 4 0x34333231) a with
        | .next b => match exec (.checkData 4 0x38373635) b with
          | .next c => match exec (.checkData 4 0x39) (c.put1 R.CHECK_CTL_BYTES 4 1) with
            | .next d => d.get1 R.CHECK_RESULT_RESULT 4
            | _ => 0
          | _ => 0
        | _ => 0
      | _ => 0) = 0xE3069283 := by decide +kernel

/-- Array time of R6: 3,600.5 s after the epoch. -/
theorem test_array_time : 3600 * 4294967296 + nsToT 500000000 = 0xE1080000000 := by decide

/-- A step on an empty queue changes nothing; with a command in front it runs it. -/
theorem test_step : step State.reset = .next State.reset := rfl

/-! ## Witnesses of the statements' hypotheses -/

/-- A machine whose Draft controller is in a state. -/
def draftIn (st : Nat) (d : DraftState → DraftState) : State :=
  let s := State.reset.put R.DRAFT_STATUS_STATE st
  { s with draft := d s.draft }
theorem witness_DraftStartAndStop :
    (∃ d : Stream, let s := draftIn 2 (fun x => { x with admitted := some d });
      s.dState = 2 ∧ s.draft.admitted = some d ∧ s.get R.DRAFT_START_START < max s.now 0 + nsToT 100000000 ∧
      max s.now 0 + nsToT 100000000 ≤ (s.put R.DRAFT_START_START (2 ^ 40)).get R.DRAFT_START_START ∧
      (s.upTo 0).armLocked = false ∧ ({ s with xbar := { s.xbar with held := [(5, 14, 100)] } }.upTo 0).armLocked = true) ∧
    ((draftIn 3 id).dState = 3 ∧ (draftIn 3 id).draft.t0 ≤ max (draftIn 3 id).now 0) ∧
    (draftIn 4 id).dState = 4 ∧
    (let s := ((draftIn 5 (fun x => { x with stopSpan := some 0 })).put R.DRAFT_SPAN_SPAN 1).put R.PASS_FINAL_SPAN_SPAN 0;
      s.dState = 5 ∧ s.draft.stopSpan = some 0 ∧ (s.upTo 0).stopped 0 = true) :=
  ⟨⟨⟨[], 0, 0, 0, [], []⟩, by decide⟩, by decide, by decide, by decide⟩

/-- Every clause of DraftControllerCommands has a state that meets what it asks. -/
theorem witness_DraftControllerCommands :
    (State.reset.dState = 0 ∧ kindIs (State.reset.upTo 0).stagedKind.1 1 = false) ∧
    (let s := State.reset.put R.DRAFT_STATUS_STATE 4;
    s.dState = 4 ∧ s.get R.DRAFT_STATUS_PCHECK = 0 ∧ kindIs (s.upTo 0).stagedKind.1 0 = false) ∧
    (State.reset.put R.DRAFT_STATUS_STATE 1).dState = 1 ∧ (State.reset.put R.DRAFT_STATUS_STATE 2).dState = 2 ∧
    (State.reset.put R.DRAFT_STATUS_STATE 3).dState = 3 ∧
    (let s := State.reset.put R.DRAFT_STAGE_LEN_LEN 4096;
    s.draft.prot = none ∧ 4 * s.get R.DRAFT_SCP_PTR_PTR < s.stageLen) := by
  decide

/-- A pass of ply 0 in a state of R134, and a machine that holds it. -/
def aPass (st : Nat) : Pass := ⟨0, 0, 0, 0, 0, st, false, false, false, false, [], [], [], [], 0, 0, [], 0, 0, false, [], none, false⟩
def withPass (st : Nat) : State := 
  forN 16 (fun S a => a.put1 R.SECTION_STATUS_PSTATE S 2) { State.reset with pass := { State.reset.pass with passes := [aPass st] } }
theorem witness_SpanCommands :
    let s := ((State.reset.put R.DRAFT_STATUS_STATE 4).put R.DRAFT_SPAN_SPAN 7).put R.PASS_FINAL_SPAN_SPAN 5
    s.spanning = true ∧ 8 = s.get R.DRAFT_SPAN_SPAN + 1 ∧ s.spanTime 8 ≤ max s.now (s.spanTime 8) ∧
        6 = (if s.get R.PASS_FINAL_SPAN_SPAN = 2 ^ 64 - 1 then s.draft.base else s.get R.PASS_FINAL_SPAN_SPAN + 1) ∧
        6 < s.get R.DRAFT_SPAN_SPAN ∧ (s.upTo 0).verdictsIn 6 = true :=
  ⟨by decide, by decide, le_max_right _ _, by decide, by decide, by decide⟩
theorem witness_PassStages :
    ((withPass 0).pass.passes.find? (fun p => p.ply == 0 && p.state == 0) = some (aPass 0) ∧
      ((withPass 0).upTo 0).mayStart ((withPass 0).structAt 0) (aPass 0) = true ∧
      ((withPass 0).upTo 0).remoteReady ((withPass 0).structAt 0) (aPass 0) = true ∧ (aPass 0).held = false ∧
      ((withPass 0).upTo 0).plyOn (plyBody ((withPass 0).structAt 0) 0) = true) ∧
    ((withPass 1).pass.passes.find? (fun p => p.ply == 0 && p.state == 1) = some (aPass 1) ∧ (aPass 1).held = false) ∧
    ((withPass 2).pass.passes.find? (fun p => p.ply == 0 && p.state == 2) = some (aPass 2) ∧ ((withPass 2).put R.PASS_FINAL_SPAN_SPAN (2 ^ 64 - 1)).isFinal 0 = false) ∧
    ((withPass 4).pass.passes.find? (fun p => p.ply == 0 && p.state == 4) = some (aPass 4) ∧ (aPass 4).held = false ∧
      (withPass 4).plyOn (plyBody ((withPass 4).structAt 0) 0) = true) ∧
    ((withPass 5).pass.passes.find? (fun p => p.ply == 0 && decide (p.state < 6)) = some (aPass 5) ∧ (aPass 5).state = 5) ∧
    (withPass 6).pass.passes.find? (fun p => p.ply == 0 && p.state == 6 && ((withPass 6).silent || !(withPass 6).dumpWaits p)) =
      some (aPass 6) ∧
    ((withPass 2).put R.PASS_FINAL_SPAN_SPAN 0).isFinal 0 = true ∧
    ({ State.reset.pass with dumps := [⟨0, 0, 0, [], 0, 0, 0⟩] } : PassState).dumps = [⟨0, 0, 0, [], 0, 0, 0⟩] := by
  decide

/-- A machine with section 0 in a power state. -/
def sectionIn (st : Nat) : State := State.reset.put1 R.SECTION_STATUS_PSTATE 0 st
/-- The item of a ply whose pass knots take in knot 0. -/
def aPly : Item := ⟨secTieup, 1, 0, List.replicate 12 0#8 ++ [1#8]⟩
theorem witness_KnotSelfTests :
    ((sectionIn 2).pstate (0 / 64) = 2 ∧ (sectionIn 2).draftRuns = false ∧ knotPly (sectionIn 2).draft.struct (sectionIn 2).node 0 = none ∧
      (sectionIn 2).get1 R.KNOT_STATUS_TEST_BUSY 0 = 0) ∧
    (let s := ({ sectionIn 2 with draft := { (sectionIn 2).draft with struct := [aPly] } } : State).put R.DRAFT_STATUS_STATE 4;
      s.draftRuns = true ∧ s.pstate (0 / 64) = 2 ∧ (knotPly s.draft.struct s.node 0).isSome = true) ∧
    (let s := (sectionIn 2).put1 R.KNOT_STATUS_TEST_BUSY 0 1;
      s.pstate (0 / 64) = 2 ∧ s.get1 R.KNOT_STATUS_TEST_BUSY 0 = 1) ∧
    (sectionIn 0).pstate (0 / 64) ≠ 2 ∧ (0 : Nat) < 1024 ∧ 3 ≤ 1024 := by
  decide
theorem witness_SectionPower :
    (sectionIn 1).pstate 0 = 1 ∧ (sectionIn 2).pstate 0 = 2 ∧ (sectionIn 3).pstate 0 = 3 ∧ (0 : Nat) < 16 ∧ (15 : Nat) < 16 ∧
    (let p := { aPass 1 with held := true };
      let s := { withPass 1 with pass := { (withPass 1).pass with passes := [p] } };
      s.pass.passes.find? (fun p => p.ply == 0 && p.held) = some p ∧ s.plyOn (plyBody (s.structAt 0) 0) = true) ∧
    (let p : BeamPass := ⟨0, 0, 0, 0, 0, 1, false, false, [], [], [], [], 0, 0, true, [], false, false, []⟩;
      let s := { withPass 1 with beam := { (withPass 1).beam with passes := [p] } };
      s.pass.passes.find? (fun p => p.ply == 0 && p.held) = none ∧ s.beam.passes.find? (fun p => p.ply == 0 && p.held) = some p ∧
        s.plyOn (plyBody (s.structAt 0) 0) = true) := by
  decide

/-- A retraction owed to destination 0, and a machine that owes it. -/
def anOwed (kind : Byte) : Owed := ⟨0, List.replicate 8 0#8 ++ [kind], 0, 1, 0, 0, 1, 1, [0], 0, 0⟩
def owing (kind : Byte) : State :=
  let s := State.reset.put R.DRAFT_STATUS_STATE 4
  { s with
    beam := { s.beam with owed := [anOwed kind] }
    draft := { s.draft with struct := [⟨secRoutes, 2, 0, List.replicate 8 0#8 ++ [kind]⟩] } }
/-- A mark of unit 0 whose window takes in an excluded slot. -/
def aMark : Mark := ⟨0, 0, 0, 0, 0, 1, 0, 0, 1, [], false⟩
def marked : State :=
  let s := State.reset
  { s with
    cap := { s.cap with marks := [aMark] }
    pass := { s.pass with excl := Tab.set 0 [] (exKey 0 0 0) 4 } }
theorem witness_FoxCommands :
    State.reset.is R.FOX_STATUS_PENDING = false ∧ ((State.reset.put R.FOX_STATUS_PENDING 1).upTo 0).is R.FOX_STATUS_PENDING = true ∧
    State.reset.draftRuns = false ∧ (draftIn 4 id).dState = 4 ∧ (draftIn 5 id).dState = 5 ∧
    (let s := { State.reset with fox := { State.reset.fox with tables := [FoxTable.empty 3] } };
      s.fox.tables.find? (fun d => d.n == 3) = some (FoxTable.empty 3) ∧
      s.fox.tables.any (fun x => x.n + 1 == 3 && !(s.foxTodo x).isEmpty) = false) := by
  decide
theorem witness_RetractionRecords :
    ((owedTake 0 ((owing 0).owedDb 0) (clampN 1 128 1) (owing 0).beam.owed).1 ≠ [] ∧ destKind ((owing 0).owedDb 0) = 0) ∧
    ((owedTake 0 ((owing 1).owedDb 0) (clampN 1 128 1) (owing 1).beam.owed).1 ≠ [] ∧ destKind ((owing 1).owedDb 0) ≠ 0 ∧
      (owing 1).silent = false ∧ (owing 1).beam.held.any (fun h => h.dest == 0 && h.ptype == 2) = false) ∧
    (let s := { owing 1 with beam := { (owing 1).beam with held := [⟨0, List.replicate 8 0#8 ++ [1#8] ++ List.replicate 8 255#8, 0, 0, 2, 1, [], none⟩] } };
      let v := (s.upTo 0).retryHeld 0;
      s.silent = false ∧ s.beam.held.any (fun h => h.dest == 0 && h.ptype == 2) = true ∧ v.silent = false ∧
        v.beam.held.any (fun h => h.dest == 0 && h.ptype == 2) = true) ∧
    (let s := (owing 1).put R.PAIR_CTL_MODE 1;
      s.silent = true ∧ (owedTake 0 (s.owedDb 0) (clampN 1 128 1) s.beam.owed).1 ≠ [] ∧ destKind (s.owedDb 0) ≠ 0) ∧
    (marked.upTo 0).cap.marks.findSome? (fun m => if m.gone then none else ((marked.upTo 0).markCause m).map (fun c => (m, c))) =
      some (aMark, 0, 4, 0, false) := by
  decide

/-- A beam pass of ply 0 in a state of R182, and a machine that holds it and beam 0 of ply 0. -/
def aBeamPass (st : Nat) : BeamPass := ⟨0, 0, 0, 0, 0, st, false, false, [], [], [], [], 0, 0, false, [], false, false, []⟩
def withBeam (st : Nat) (builds : List SteerMatrix) : State :=
  let s := withPass 7
  { s with
    beam := { s.beam with passes := [aBeamPass st], builds := builds, pages := [⟨1, 0, 0, 0, [], none⟩] }
    draft := { s.draft with struct := [⟨secBeams, 1, 0, []⟩] } }
/-- A build of ply 0 from span 0 on. -/
def aMatrix : SteerMatrix := ⟨0, 0, []⟩
theorem witness_BeamCommands :
    (let s := withBeam 0 [];
      s.beam.passes.find? (fun p => p.ply == 0 && p.state == 0) = some (aBeamPass 0) ∧
      (s.upTo 0).beamMayStart (s.structAt 0) (aBeamPass 0) = true ∧ (aBeamPass 0).waited = false ∧ (aBeamPass 0).held = false ∧
      s.buildLate 0 0 = false ∧ s.plyOn (plyBody (s.structAt 0) 0) = true) ∧
    (let s := withBeam 0 [aMatrix];
      s.beam.passes.find? (fun p => p.ply == 0 && p.state == 0) = some (aBeamPass 0) ∧
      (s.upTo 0).beamMayStart (s.structAt 0) (aBeamPass 0) = true ∧ s.buildLate 0 0 = true ∧
      s.beam.builds.find? (fun b => b.ply == 0) = some aMatrix) ∧
    (let s := withBeam 1 [];
      let todo := ((plyBeams (s.structAt 0) 0).map (·.idx)).filter (fun b => !(aBeamPass 1).sums.any (fun x => x.1 == b));
      s.beam.passes.find? (fun p => p.ply == 0 && p.state == 1) = some (aBeamPass 1) ∧ todo.contains 0 = true ∧
      todo.any (fun b => decide (b < 0)) = false ∧ (aBeamPass 1).held = false ∧
      ((s.upTo 0).lateOperands (s.structAt 0) 4 0 0 0 (plySlots (s.structAt 0) 0)).plyOn (plyBody (s.structAt 0) 0) = true) ∧
    (let s := withBeam 2 [];
      s.beam.passes.find? (fun p => p.ply == 0 && p.state == 2) = some (aBeamPass 2) ∧
      (!s.silent && s.beamWaits (s.structAt 0) (aBeamPass 2)) = false) ∧
    (withBeam 0 []).beam.pages = [⟨1, 0, 0, 0, [], none⟩] := by
  decide

/-- A Draft with slot 0 alone, enabled, on spindle 0, with one coarse channel. -/
def oneSlot : List Item := [⟨secThreading, 2, 0, zeros 8 ++ [0#8, 0x80#8, 0#8, 0#8, 1#8, 0#8, 0#8, 0#8]⟩]
/-- A machine whose spindle 0 runs and has a word at its PC. -/
def spinAt (w : Nat) (f : Spindle → Spindle) : State :=
  let s := State.reset
  { s with
    draft := { s.draft with struct := oneSlot }
    spin := { s.spin with sp := [(0, f { Spindle.init with run := true, bank0 := ⟨[(0, w)], 0, 0, [], 0⟩ })] } }
/-- What a spindle's context must be for it to issue a word. -/
theorem issues_at (op w : Nat) (h : w / 67108864 % 64 = op) : (spinAt w id).issues 0 0 op := by
  have hw : (((spinAt w id).upTo 0).spinCtx 0).w = w := rfl
  refine ⟨rfl, rfl, rfl, ?_, ?_, ?_⟩
  · exact (by decide +kernel : (((spinAt 0 id).upTo 0).spinCtx 0).slots ≠ [])
  · rw [hw]; exact h
  · exact fun x => x.1 rfl
/-- Every opcode that R209 defines can issue. -/
theorem witness_SpindleInstructions : ∀ op < 64, (spinAt (op * 67108864) id).issues 0 0 op :=
  fun op h => issues_at op _ (by omega)
/-- The forms of SpindleScalarResults: opcode, SUB and the code of a branch. -/
theorem witness_SpindleScalarResults :
    (∀ op sub cc k, op < 64 → sub < 4 → cc < 8 → k < 4096 → 
      let s := spinAt (op * 67108864 + cc * 524288 + sub * 65536) id
      s.issues 0 0 op ∧ ((s.upTo 0).spinCtx 0).sub = sub ∧ ((s.upTo 0).spinCtx 0).b 12 4 = 0 ∧ ((s.upTo 0).spinCtx 0).b 0 12 = 0 ∧
        ((s.upTo 0).spinCtx 0).b 19 3 = cc) ∧
    ((((spinAt 0x50000000 id).upTo 0).spinCtx 0).addr 0 0 4 = some 0) ∧
    ((((spinAt 0x58000000 id).upTo 0).spinCtx 0).addr 0 0 64 = some 0) := by
  refine ⟨?_, by decide, by decide⟩
  intro op sub cc k h1 h2 h3 h4 s
  have hw : ((s.upTo 0).spinCtx 0).w = op * 67108864 + cc * 524288 + sub * 65536 := rfl
  refine ⟨issues_at op _ (by omega), ?_, ?_, ?_, ?_⟩ <;> simp only [SCtx.sub, SCtx.b, hw, bits] <;> omega
theorem witness_SpindleFaults :
    spinDefined ((((spinAt 0xFC000000 id).upTo 0).spinCtx 0).w / 67108864 % 64) = false ∧
    (((spinAt 0x18000000 (fun sp => { sp with left := 2 })).upTo 0).spinCtx 0).sp.left ≠ 0 ∧
    (((spinAt 0x50000000 (fun sp => { sp with areg := [(0, 2)] })).upTo 0).spinCtx 0).addr 0 0 4 = none := by
  decide

theorem witness_SpindleFlow :
    (let s := spinAt 0 (fun sp => { sp with stall := 1 });
      let c := (s.upTo 0).spinCtx 0;
      c.sp.stall ≠ 0 ∧ c.sp.restart = none ∧ semOf (c.w / 67108864 % 64) = some semNop ∧ semNop c = .done c.sp 0 none false) ∧
    (let s := spinAt 0 id;
      (s.spindle 0).run = true ∧ spinSlots (s.structAt (s.flushNext (s.spindle 0))) 0 ≠ [] ∧
        s.spanTime (s.flushNext (s.spindle 0) + 1) + nsToT 900000 ≤ max s.now (s.spanTime (s.flushNext (s.spindle 0) + 1) + nsToT 900000)) ∧
    (∃ t, let s := { spinAt 0 id with draft := { (spinAt 0 id).draft with struct := oneSlot } }; (s.upTo t).inComes 0 = true) ∧
    (let s := spinAt 0 (fun sp => { sp with restart := some 3, inIdx := 1 });
      (s.spindle 0).restart = some 3 ∧ 3 ≤ max s.now 3 ∧ (s.spindle 0).inBlk = (s.spindle 0).blk ∧ 0 < (s.spindle 0).inIdx) := by
  refine ⟨⟨by decide +kernel, rfl, rfl, rfl⟩, ⟨rfl, by decide +kernel, le_max_right _ _⟩, ?_, by decide +kernel⟩
  let s : State := { spinAt 0 id with draft := { (spinAt 0 id).draft with struct := oneSlot } }
  refine ⟨s.fineTime s.draft.struct 0, ?_⟩
  have h1 : spinSlots oneSlot 0 = [0] := by decide +kernel
  have h2 : inGroups oneSlot ≠ 0 := by decide +kernel
  have h3 : decide (s.fineTime s.draft.struct 0 ≤ max s.now (s.fineTime s.draft.struct 0)) = true := decide_eq_true (le_max_right _ _)
  show (s.upTo (s.fineTime s.draft.struct 0)).inComes 0 = true
  have h4 : (s.upTo (s.fineTime s.draft.struct 0)).inComes 0 = (true && !(spinSlots oneSlot 0).isEmpty && inGroups oneSlot != 0 &&
    decide (s.fineTime s.draft.struct 0 ≤ max s.now (s.fineTime s.draft.struct 0))) := rfl
  rw [h4, h3, h1]
  simpa using h2
theorem witness_SpindlePrograms :
    State.reset.forceOk 0 = false ∧ (State.reset.put1 R.SPIN_PROG_STATUS_VALID1 0 1).forceOk 0 = true ∧
    (State.reset.put1 R.SPIN_PROG_ADDR_BANK 0 1).get1 R.SPIN_PROG_ADDR_BANK 0 ≠ (State.reset.put1 R.SPIN_PROG_ADDR_BANK 0 1).activeBank 0 ∧
    State.reset.get1 R.SPIN_PROG_ADDR_BANK 0 = State.reset.activeBank 0 ∧ (State.reset.spindle 0).swapSpan = none := by
  decide

/-- A machine whose Draft runs with slot 0 on zoom engine 0. -/
def zooming : State :=
  let s := State.reset.put R.DRAFT_STATUS_STATE 4
  { s with draft := { s.draft with struct := oneSlot ++ [⟨secZoom, 1, 0, []⟩] } }
/-- A machine with a lane in a state of R260. -/
def laneAt (st : Nat) (x : Lane) : State := (State.reset.put1 R.LANE_STATUS_STATE 0 st).setLane 0 x
theorem witness_ZoomCommands :
    (zooming.zoomRuns (zooming.structAt (zooming.coarseSpan 0)) 0 = true ∧ zooming.coarseTime 0 ≤ max zooming.now (zooming.coarseTime 0)) ∧
    (let s := State.reset.put1 R.ZOOM_COEF_ADDR_BANK 0 1;
      s.get1 R.ZOOM_COEF_ADDR_BANK 0 ≠ s.get1 R.ZOOM_STATUS_ACTIVE_BANK 0 ∧ s.zoomPatched 0 = false) ∧
    State.reset.get1 R.ZOOM_COEF_ADDR_BANK 0 = State.reset.get1 R.ZOOM_STATUS_ACTIVE_BANK 0 :=
  ⟨⟨by decide +kernel, le_max_right _ _⟩, by decide, by decide⟩
theorem witness_LaneReceivers :
    ((laneAt 1 Lane.init).laneState 0 = 1 ∧ (laneAt 1 Lane.init).is1 R.LANE_STATUS_SIGNAL 0 = false ∧
      ((laneAt 1 Lane.init).put1 R.LANE_STATUS_SIGNAL 0 1).laneState 0 = 1 ∧
      ((laneAt 1 Lane.init).put1 R.LANE_STATUS_SIGNAL 0 1).is1 R.LANE_STATUS_SIGNAL 0 = true ∧
      (((laneAt 1 Lane.init).put1 R.LANE_STATUS_SIGNAL 0 1).lane 0).sigAt + nsToT 10000 ≤ max 0 (2 ^ 32)) ∧
    ((laneAt 2 Lane.init).laneState 0 = 2 ∧ 
      ((laneAt 2 Lane.init).put1 R.LANE_CTL_RX_PRBS 0 1).is1 R.LANE_CTL_RX_PRBS 0 = true ∧ 2 ≤ (laneAt 2 Lane.init).laneState 0) ∧
    (laneAt 3 Lane.init).laneState 0 = 3 ∧
    (∀ st : Nat, st < 8 → 4 ≤ st → (laneAt st { Lane.init with pos := 1023 }).laneState 0 = st ∧
      ((laneAt st { Lane.init with pos := 1023 }).lane 0).pos = 1023 ∧ ((laneAt st Lane.init).lane 0).pos < 1023) ∧
    ((laneAt 5 { Lane.init with hdrErr := 64 }).locked 0 = true ∧ 64 ≤ ((laneAt 5 { Lane.init with hdrErr := 64 }).lane 0).hdrErr) := by
  decide
theorem witness_HankCommands :
    (let s := (State.reset.put1 R.LANE_STATUS_TX_ON 0 1).put1 R.HANK_STATUS_PLL_LOCK 0 1;
      s.txMay 0 = true ∧ s.is1 R.LANE_CTL_TX_PRBS 0 = false ∧ (s.put1 R.LANE_CTL_TX_PRBS 0 1).txMay 0 = true ∧
      (s.put1 R.LANE_CTL_TX_PRBS 0 1).is1 R.LANE_CTL_TX_PRBS 0 = true ∧ s.is1 R.HANK_STATUS_PLL_LOCK 0 = true) ∧
    bits 0x101 4 2 ≠ 3 ∧ bits 0x101 0 4 ≤ 5 ∧ State.reset.draftRuns = false ∧ (draftIn 4 id).draftRuns = true ∧
    (State.reset.put1 R.HANK_STATUS_ROLE 0 1).get1 R.HANK_STATUS_ROLE 0 ≠ 0 ∧
    (State.reset.put1 R.HANK_STATUS_ROLE 0 1).is1 R.HANK_STATUS_PLL_LOCK 0 = false := by
  decide

/-- A machine whose lane 0 holds a run and perhaps a frame in reception. -/
def receiving (n : Nat) (ended : Bool) (f : Option RxFrame) : State :=
  let s := laneAt 5 { Lane.init with runs := [⟨zeros n, ended, false, false⟩] }
  { s with frames := { s.frames with rx := [(0, f)] } }
def aFrame : RxFrame := ⟨zeros 32, 0, false, 0, [], [], 0, 0, 0, 0, 0⟩
/-- A CREDIT block whose check is good. -/
def aCredit : List Byte := zeros 13 ++ leBytes 2 (crc16 (zeros 13))
/-- A machine whose hank 0 has a ROLE, lane 0 locked and transmitting. -/
def linked (role : Nat) (x : Lane) : State :=
  (((laneAt 5 x).put1 R.HANK_STATUS_ROLE 0 role).put1 R.LANE_STATUS_TX_ON 0 1).put1 R.HANK_STATUS_PLL_LOCK 0 1
def anOut : OutFrame := ⟨0, 6, 0, false, 0, 0, 0, [], 0, 0, 1⟩
theorem witness_FrameReception :
    (Tab.get none (laneAt 5 { Lane.init with runs := [⟨zeros 32, false, false, false⟩] }).frames.rx 0 = none ∧
      ((laneAt 5 { Lane.init with runs := [⟨zeros 32, false, false, false⟩] }).lane 0).runs = [⟨zeros 32, false, false, false⟩] ∧ 32 ≤ (zeros 32).length) ∧
    (Tab.get none (receiving 8 false (some aFrame)).frames.rx 0 = some aFrame ∧
      ((receiving 8 false (some aFrame)).lane 0).runs = [⟨zeros 8, false, false, false⟩] ∧ hdrLen aFrame.hdr + 8 ≤ (zeros 8).length) ∧
    (((receiving 7 true (some aFrame)).lane 0).runs = [⟨zeros 7, true, false, false⟩] ∧ (zeros 7).length < hdrLen aFrame.hdr + 8 ∧
      aFrame.t + nsToT 900000 ≤ max (receiving 8 false (some aFrame)).now (nsToT 900000)) ∧
    (State.reset.put R.CLASS_STATUS_DRAIN 1).is R.CLASS_STATUS_DRAIN = true ∧
    State.reset.frames.rx.any (fun e =>
      match e.2 with
      | none => false
      | some f => f.accepted && !f.entry.isEmpty && f.gen != Tab.get 0 State.reset.frames.gens f.idx) = false ∧
    (List.range 12).any (fun h => ((State.reset.upTo 0).inWaiting h).any (fun f => f.gen != Tab.get 0 State.reset.frames.gens f.idx)) = false ∧
    ((receiving 7 true none).lane 0).runs = [⟨zeros 7, true, false, false⟩] ∧ (zeros 7).length < 32 := by
  decide +kernel
theorem witness_FrameTransmission :
    (((laneAt 5 { Lane.init with credits := [aCredit] }).lane 0).credits = [aCredit] ∧ crc16 (aCredit.take 13) = fld aCredit 13 2 ∧
      crc16 ((zeros 15).take 13) ≠ fld (zeros 15) 13 2) ∧
    (3 ≤ (linked 3 Lane.init).laneRole 0 ∧ (linked 3 Lane.init).locked 0 = true) ∧
    (let s := { linked 2 Lane.init with frames := { (linked 2 Lane.init).frames with destQ := [(0, [anOut])] } };
      let s0 := (s.upTo 0).mirrorPack 0;
      s0.frameMay 0 = true ∧ s0.laneRole 0 = 2 ∧ s0.silent = false ∧ s0.nextOut 0 = some (0, anOut)) ∧
    (let s := { linked 3 Lane.init with frames := { (linked 3 Lane.init).frames with laneQ := [(0, [anOut])] } };
      let s0 := (s.upTo 0).mirrorPack 0;
      s0.frameMay 0 = true ∧ s0.laneRole 0 ≠ 2 ∧ s0.nextLink 0 = some (0, anOut)) ∧
    (let f : RxDone := ⟨0, List.replicate 2 0#8 ++ [9#8], [], 0⟩;
      let s := { linked 3 Lane.init with frames := { (linked 3 Lane.init).frames with rxQ := [(0, [f])] } };
      ((s.upTo 0).rxTake 0 (fun f => hdrType f.hdr == 0x09 || (hdrType f.hdr == 0x0B && hdrFirst f.hdr != 8))).isSome = true) ∧
    (let f : RxDone := ⟨0, List.replicate 2 0#8 ++ [10#8], [], 0⟩;
      let s := { linked 3 Lane.init with frames := { (linked 3 Lane.init).frames with rxQ := [(0, [f])] } };
      ((s.upTo 0).rxTake 0 (fun f => hdrType f.hdr == 0x0A || (hdrType f.hdr == 0x0B && hdrFirst f.hdr == 8))).isSome = true) := by
  decide +kernel

/-- A machine whose lane 0 holds a received frame of a TYPE. -/
def received (role type : Nat) (aux : List Byte) : State :=
  let f : RxDone := ⟨0, [0#8, 0#8] ++ leBytes 1 type ++ zeros 5 ++ aux, [], 0⟩
  { linked role Lane.init with frames := { (linked role Lane.init).frames with rxQ := [(0, [f])] } }
/-- A machine with a layout armed. -/
def armedMesh (st : Nat) : State := { draftIn st id with mesh := { State.reset.mesh with armed := some 0 } }
theorem witness_MeshCommands :
    (3 ≤ (linked 3 Lane.init).laneRole 0 ∧ (linked 3 Lane.init).laneRole 0 ≤ 5 ∧ (linked 3 Lane.init).locked 0 = true ∧
      Tab.get 0 (linked 3 Lane.init).mesh.annSent 0 = 0) ∧
    (((received 3 0x0D []).upTo 0).rxTake 0 (fun f => hdrType f.hdr == 0x0D)).isSome = true ∧
    (((received 3 8 (zeros 24)).upTo 0).rxTake 0 (fun f => hdrType f.hdr == 0x08 && bits (hdrAux f.hdr) 32 16 != 0xFFFF)).isSome = true ∧
    (((received 3 8 (List.replicate 24 0xFF#8)).upTo 0).rxTake 0
      (fun f => hdrType f.hdr == 0x08 && bits (hdrAux f.hdr) 32 16 == 0xFFFF)).isSome = true ∧
    (let s := State.reset.put R.MESH_NEXT_TIME_TIME (2 ^ 40);
      max s.now 0 + nsToT 10000000 ≤ s.get R.MESH_NEXT_TIME_TIME ∧
      State.reset.get R.MESH_NEXT_TIME_TIME < max State.reset.now 0 + nsToT 10000000) ∧
    ((armedMesh 4).mesh.armed = some 0 ∧ (armedMesh 4).dState = 4 ∧ ¬((armedMesh 0).dState = 4 ∨ (armedMesh 0).dState = 5)) ∧
    (let s := { State.reset with mesh := { State.reset.mesh with ann := [(0, ⟨5, 0, 0, 0, 0⟩)] } };
      s.mesh.ann.any (fun e => decide (e.2.node < 128) && e.2.node % 64 == 5) = true ∧ (s.upTo 0).reached 5 = false ∧ 5 ≠ s.node) := by
  decide +kernel
/-- A machine whose Draft has a ply of level 6, with the span of a summary ended. -/
theorem witness_SummaryTimeout :
    let s := { State.reset.put R.DRAFT_SPAN_SPAN 7 with draft := { State.reset.draft with
      struct := [⟨secTieup, 1, 0, zeros 11 ++ [0x60#8]⟩] } };
    hasWide (s.structAt 3) = true ∧ s.spanTime (3 + 1) + nsToT 1000000 ≤ max s.now (s.spanTime (3 + 1) + nsToT 1000000) ∧
      3 < s.get R.DRAFT_SPAN_SPAN ∧ 0 ≤ max (armedMesh 4).now ((armedMesh 4).spanTime ((armedMesh 4).get R.DRAFT_SPAN_SPAN)) :=
  ⟨by decide +kernel, le_max_right _ _, by decide +kernel, Nat.zero_le _⟩

/-- A side of a pair in a state of R306, with records received. -/
def pairSide (mode st : Nat) (recs : List (List Byte)) : State :=
  let s := (State.reset.put R.PAIR_CTL_MODE mode).put R.PAIR_STATUS_STATE st
  { s with pair := { s.pair with rxRecs := recs, holder := some 5, decided := some 6, beats := [(6, (0, true))] } }
theorem witness_PairLease :
    ((pairSide 1 1 []).get R.PAIR_CTL_MODE = 1 ∧ (pairSide 1 1 []).side ≠ sideOff ∧ (pairSide 2 0 []).get R.PAIR_CTL_MODE = 2 ∧
      (pairSide 1 1 []).pair.hbAt = 0) ∧
    (((received 3 0x0E []).upTo 0).beatTake 0).isSome = true ∧
    ((pairSide 2 0 []).pair.holder = some 5 ∧ ((pairSide 2 0 []).upTo 0).arbOther 5 = some 6 ∧
      max (pairSide 2 0 []).now 0 < (pairSide 2 0 []).pair.lease + guardT ∧
      (pairSide 2 0 []).pair.lease + guardT ≤ max (pairSide 2 0 []).now guardT ∧ (pairSide 2 0 []).sideReady 6 = true) ∧
    ((pairSide 1 sideActive []).side = sideActive ∧
      (pairSide 1 sideActive []).get R.PAIR_LEASE_END_TIME ≤ max (pairSide 1 sideActive []).now 0 + guardT) ∧
    (State.reset.put R.PAIR_CTL_ARB 0x80).get R.PAIR_CTL_ARB = 0x80 ∧ (pairSide 1 1 []).get R.PAIR_CTL_MODE ≠ 0 := by
  decide
theorem witness_PairMirror :
    (let s := pairSide 1 sideStandby [zeros 8];
      ((s.upTo 0).mirrorPull 0).pair.rxRecs = [zeros 8] ∧ byteAt (zeros 8) 0 ≠ 7 ∧ ((s.upTo 0).mirrorPull 0).get R.PAIR_CTL_MODE = 1 ∧
        ((s.upTo 0).mirrorPull 0).side ≠ sideOff ∧ s.side = sideStandby) ∧
    (let s := pairSide 1 sideActive [];
      s.get R.PAIR_CTL_MODE = 1 ∧ s.side = sideActive ∧ s.pair.emitAt = 0) ∧
    (let s := pairSide 1 sideSyncing [7#8 :: zeros 7];
      ((s.upTo 0).mirrorPull 0).pair.rxRecs = [7#8 :: zeros 7] ∧ byteAt (7#8 :: zeros 7) 0 = 7 ∧
        ((s.upTo 0).mirrorPull 0).get R.PAIR_CTL_MODE = 1 ∧ ((s.upTo 0).mirrorPull 0).side ≠ sideOff ∧ s.side = sideSyncing) ∧
    (let s := (pairSide 1 sideStandby []).put1 R.SECTION_STATUS_PSTATE 0 2;
      s.side = sideStandby ∧ s.pair.testAt = 0 ∧
      ((List.range 1024).map (fun k => (s.pair.nextKnot + k) % 1024)).find? (fun K => s.pstate (K / 64) == 2 &&
        (knotPly s.draft.struct s.node K).isNone && !s.is1 R.KNOT_STATUS_TEST_BUSY K) = some 0) ∧
    (State.reset.put R.SYS_BOOT_STAGE 2).alive = false ∧
    ({ State.reset.put R.SYS_BOOT_STAGE 2 with power := { State.reset.power with d := 0 } } : State).alive = true ∧
    (State.reset.put R.PAIR_BADGER_FAILED 1).is R.PAIR_BADGER_FAILED = true := by
  decide +kernel

/-- A machine with stack site 0 in a state of R326. -/
def siteIn (st : Nat) : State := State.reset.put1 R.MEM_STATUS_STATE 0 st
theorem witness_MemorySites :
    (0 < nStacks (siteIn 1).part ∧ ((siteIn 1).memTime 0).siteState 0 = sitePowering ∧ (siteIn 1).siteState 0 = sitePowering) ∧
    ((siteIn 2).siteState 0 = siteTraining ∧ (siteIn 1).siteState 0 ≠ siteTraining ∧
      ((siteIn 2).put1 R.MEM_TRAIN_STATUS_BUSY 0 1).is1 R.MEM_TRAIN_STATUS_BUSY 0 = true ∧ ((siteIn 2).memTime 0).siteState 0 = siteTraining) ∧
    ((siteIn 3).memTime 0).siteState 0 = siteSweeping := by
  decide
theorem witness_MemoryService :
    ((siteIn 4).memTime 0).siteState 0 = siteReady ∧ (siteIn 4).siteState 0 = siteReady ∧
    (((siteIn 4).memTime 0).put1 R.MEM_STATUS_TEMP 0 (usgn 8 40)).siteState 0 ≠ siteOff ∧
    ((siteIn 4).put1 R.MEM_CTL_SCRUB_EN 0 1).is1 R.MEM_CTL_SCRUB_EN 0 = true ∧
    ((siteIn 4).site 0).scrubAt ≤ (siteIn 4).now ∧
    ((siteIn 4).stk.bankQ ++ (siteIn 4).stk.ingress).any (fun e => e.1 / 64 == pchOfKey (scrubKey 0 ((siteIn 4).site 0).scrubPos) && !e.2.isEmpty) =
      false ∧
    (let s := ((siteIn 4).put1 R.MEM_STATUS_SPARE 0 2).updSite 0 (fun x => { x with migSid := some 1 });
      (s.site 0).migSid = some 1 ∧ s.get1 R.MEM_STATUS_SPARE 0 = 2) ∧
    Tab.get 0 ((siteIn 4).memTime (nsToT 32000000)).stk.winStart 0 + nsToT 32000000 ≤ ((siteIn 4).memTime (nsToT 32000000)).now ∧
    (Tab.get Throttle.init ((siteIn 4).throttleCount (siteIn 4).now).stk.throttle 0).ends ≤ (siteIn 4).now ∧
    ((siteIn 4).memTime (nsToT 20000)).shedHolds 0 1 ((siteIn 4).memTime (nsToT 20000)).now = true ∧
    ((siteIn 4).memTime 0).shedHolds 0 0 ((siteIn 4).memTime 0).now = false ∧
    (∀ lv : Nat, lv < 4 → (((siteIn 4).put1 R.MEM_STATUS_SHED 0 lv).memTime 0).get1 R.MEM_STATUS_SHED 0 = lv) ∧
    (let s := (draftIn 4 id).put1 R.MEM_STATUS_TEMP 0 127; (s.memTime 0).aboveTempMax 0 = true) := by
  decide

/-- A machine whose store is in a state of R363, with a region for map tables, a walk in flight and all its sites ready. -/
def storeIn (st : Nat) : State :=
  ((List.range 6).foldl (fun (b : State) i => b.put1 R.MEM_STATUS_STATE i siteReady)
    { State.reset with store := { State.reset.store with walks := [⟨7, false, 4096, 64, [], false, false, false⟩], creelSwept := true },
                       place := ⟨4096, false, [⟨1, 0, 4096, 6, 1⟩]⟩ }).put R.STORE_STATUS_STATE st
/-- A machine in D0 with its supplies up and its host link up. -/
def hosted : State := { State.reset with power := { State.reset.power with d := 0 } }.put R.PCIE_STATUS_UP 1 |>.put R.SYS_BOOT_STAGE 2
theorem witness_StoreCommands :
    (translatedPort 7 = true ∧ segLen 4096 64 ≠ 0 ∧ translatedPort 35 = true ∧ segLen 2097151 64 ≠ 0) ∧
    ((storeIn 1).store.walks[0]? = some ⟨7, false, 4096, 64, [], false, false, false⟩ ∧ (storeIn 1).get R.STORE_STATUS_STATE = storeOpen ∧
      (let s1 : State := { (storeIn 1).upTo 0 with store := { (storeIn 1).store with walks := (storeIn 1).store.walks.eraseIdx 0 } };
        s1.aperWaits 7 4096 false = false) ∧ (storeIn 0).get R.STORE_STATUS_STATE ≠ storeOpen ∧
      (storeIn 0).store.walks[0]? = some ⟨7, false, 4096, 64, [], false, false, false⟩) ∧
    (State.reset.is R.STORE_STATUS_INV_BUSY = false ∧ (State.reset.put R.STORE_STATUS_INV_BUSY 1).is R.STORE_STATUS_INV_BUSY = true ∧
      (State.reset.put R.STORE_STATUS_INV_BUSY 1).store.walks.any (·.uncached) = false ∧ State.reset.frames.outst.any (·.inv) = false ∧
      State.reset.frames.reqQ.any (·.inv) = false) ∧
    (let s := { storeIn 1 with store := { (storeIn 1).store with building := true } }
     s.place.regions.find? (fun r => r.use == 6) = some ⟨1, 0, 4096, 6, 1⟩ ∧ s.store.building = true ∧ s.sitesReady 1 = true) ∧
    ((storeIn 0).store.building = false ∧ (storeIn 0).sitesUp = true ∧ (storeIn 0).get R.STORE_STATUS_STATE = storeClosed ∧
      (storeIn 0).store.creelSwept = true) ∧
    ((storeIn 2).store.building = false ∧ (storeIn 2).sitesUp = true ∧ (storeIn 2).get R.STORE_STATUS_STATE = storeRemapping) ∧
    (hosted.alive = true ∧ hosted.hostUp = true ∧ hosted.get R.PAIR_CTL_MODE ≠ 1) := by
  decide

/-- A machine with a timebase in a state of R378. -/
def timed (tb : Nat) : State := State.reset.put R.TIME_STATUS_STATE tb
theorem witness_TimeReferences :
    ((1 : Nat) ≤ 4 ∧ (4 : Nat) ≤ 4 ∧ (State.reset.put1 R.TIME_REF_CTL_EN 3 1).is1 R.TIME_REF_CTL_EN 3 = true ∧ (∃ l, (((State.reset.put1 R.HANK_STATUS_ROLE 0 3).put1 R.HANK_CTL_LANES 0 1).put1 R.LANE_STATUS_STATE 0 5).rcOf 4 = some l ∧
      (((State.reset.put1 R.HANK_STATUS_ROLE 0 3).put1 R.HANK_CTL_LANES 0 1).put1 R.LANE_STATUS_STATE 0 5).locked l = true)) ∧
    (let s := (State.reset.withTime (fun x => { x with wtrAt := [(1, 1)] })).put1 R.TIME_REF_STATUS_WTR_LEFT 0 5
     Tab.get 0 s.time.wtrAt 1 ≠ 0 ∧ s.get1 R.TIME_REF_STATUS_WTR_LEFT 0 ≠ 0 ∧ Tab.get 0 s.time.wtrAt 1 + secT ≤ max s.now secT + 1) ∧
    (Tab.get 0 State.reset.time.ppsAt 1 = 0) ∧
    (let s := State.reset.withTime (fun x => { x with ppsAt := [(0, 1)] })
     Tab.get 0 s.time.ppsAt 0 ≠ 0 ∧ (999999989 + s.ppsWin 0 < 1000000000 ∨ 1000000000 + s.ppsWin 0 < 5000000000) ∧
      1000000000 ≤ 1000000000 + s.ppsWin 0 ∧ 1000000000 ≤ 1000000000 + s.ppsWin 0 ∧
      Tab.get 0 s.time.ppsAt 0 + secT + nsToT (s.ppsWin 0) ≤ max s.now (3 * secT) + 1) := by
  refine ⟨⟨by decide, by decide, by decide, ⟨0, by decide⟩⟩, by decide, by decide, by decide⟩
theorem witness_TimeSetting :
    ((timed 1).tb = tbAcquire ∧ (timed 1).xoGone = false ∧ (timed 1).tb ≠ tbDen) ∧ (overNs ((timed 4).upTo 0).pullLeft = false ∧ (timed 4).tb = tbSwitching) ∧
    ((timed 1).put R.TIME_NET_CTL_SRC 1).get R.TIME_NET_CTL_SRC = 1 ∧
    (let s := State.reset.withTime (fun x => { x with netAt := 1 })
     s.netLive = true ∧ s.time.netAt + nsToT (100000000 * max 1 (s.get R.TIME_NET_CTL_TIMEOUT)) < max s.now (100 * secT) + 1) := by
  decide

/-- A machine with a locked lane 0 of a role. -/
def roleLane (r : Nat) : State := (State.reset.put1 R.LANE_STATUS_STATE 0 5).put1 R.HANK_STATUS_ROLE 0 r
/-- A machine that has received a beacon on lane 0. -/
def beaconed : State :=
  let f : RxDone := ⟨clsMgmt, zeros 2 ++ leBytes 1 0x0C ++ zeros 25 ++ leBytes 1 9 ++ zeros 3, [2#8, 0#8, 14#8] ++ zeros 29, 0⟩
  let s := (roleLane 3).put R.TIME_NET_CTL_SRC 2
  { s with frames := { s.frames with rxQ := [(0, [f])] } }
theorem witness_Beacons :
    (let s := (roleLane 3).put R.TIME_CTL_BEACON_TX 1
     s.is R.TIME_CTL_BEACON_TX = true ∧ s.locked 0 = true ∧ s.laneRole 0 = 3 ∧ Tab.get 0 s.time.beaconAt 0 = 0) ∧
    (match (beaconed.upTo 0).rxTake 0 (fun f => hdrType f.hdr == 0x0C) with
     | some (g, s1) => s1.get R.TIME_NET_CTL_SRC == 2 && s1.laneRole 0 == 3 && byteAt g.payload 0 == 2 && decide (fld g.payload 2 2 < 15) && hdrNode g.hdr != s1.nodeByte
     | none => false) = true ∧
    (let s := (State.reset.put R.TIME_NET_CTL_SRC 2).withTime (fun x => { x with beacons := [(7, ⟨1, 2, 3, 4⟩)] })
     s.get R.TIME_NET_CTL_SRC = 2 ∧ s.time.choiceAt = 0 ∧ bestBeacon s.time.beacons = some (7, ⟨1, 2, 3, 4⟩) ∧
      bestBeacon State.reset.time.beacons = none) := by
  refine ⟨by decide, ?_, by decide⟩
  decide +kernel
theorem witness_TrigPins :
    (let s := ((State.reset.put1 R.TRIGOUT_CTL_WIDTH 3 1).put1 R.TRIGOUT_START_TIME 3 9).put1 R.TRIGOUT_STATUS_ARMED 3 1
     s.get1 R.TRIGOUT_CTL_WIDTH 3 ≠ 0 ∧ max s.now 8 < s.get1 R.TRIGOUT_START_TIME 3 ∧ s.is1 R.TRIGOUT_CTL_MODE 3 = false ∧
      s.is1 R.TRIGOUT_STATUS_ARMED 3 = true) ∧ (let s := State.reset; (s.trigOut 3).next ≤ max s.now 0 ∧ (s.trigOut 3).busyTo ≤ max s.now 0) ∧
    (State.reset.put1 R.TRIGOUT_CTL_WIDTH 0 0).get1 R.TRIGOUT_CTL_WIDTH 0 = 0 ∧
    (let s := State.reset.withTime (fun x => { x with edgeAt := [(2, 5)] })
     Tab.get 0 s.time.edgeAt 2 ≠ 0 ∧ max s.now 200 + 1 < Tab.get 0 s.time.edgeAt 2 + nsToT 50 ∧
      Tab.get 0 s.time.edgeAt 2 + nsToT 50 ≤ max s.now 300 + 1) ∧
    (timed 5).tb = tbDen ∧ (nearest (timed 5).now (timed 5).time.denOfs.1 - (timed 5).now).natAbs ≤ nsToT 10000 := by decide

/-- A machine whose capture runs, with one ring region and a stream 0 of given state. -/
def capturing (x : CapStream) : State :=
  { State.reset with place := ⟨4096, false, [⟨1, 0, 4096, 4, 1⟩]⟩, cap := { State.reset.cap with run := true, streams := [(0, x)] } }
/-- A configuration of a tap on a TRIGIN pin. -/
def pinTap : TapCfg := ⟨0, 4, 0, 0, 1, 0, false, 0, 1, zeros 8, false⟩
theorem witness_CaptureCommands :
    (let s := { State.reset with cap := { State.reset.cap with run := true, units := [(3, { TrigUnit.init with cfgs := [pinTap] })] } }
     (s.unit 3).cfgs = [pinTap] ∧ s.cap.run = true ∧ pinTap.live = true ∧ s.draft.stopSpan = none) ∧
    (0 ∈ (capturing CapStream.init).capStreams) ∧
    (let s := capturing { CapStream.init with fq := [(0, 0, 5, [])] }
     let st : List Item := [⟨secRoutes, 2, 5, zeros 64⟩]
     (s.stream 0).fq = [(0, 0, 5, [])] ∧ destBody st 5 ≠ [] ∧ destKind (destBody st 5) = 0 ∧ 0 + nsToT 100000 ≤ max s.now secT ∧ s.silent = false ∧
      (s.stream 0).fq.any (fun f => decide (f.2.1 + nsToT 1000000 ≤ max s.now secT)) = true) ∧
    ((capturing { CapStream.init with blocked := true }).stream 0).blocked = true ∧
    (let s := { State.reset with beam := { State.reset.beam with retry := [65536, 255] } }
     s.beam.retry.contains 65536 = true ∧ s.beam.retry.contains 255 = true) := by
  decide
theorem witness_CaptureCommands_value : (State.reset.upTo (2 ^ 80)).tapValue pinTap 0 = some 0 := by decide +kernel

/-- A machine in D0 past its rails, with a crossbar state. -/
def awake (x : XbarState) : State := { State.reset with power := { State.reset.power with d := 0 }, xbar := x }.put R.SYS_BOOT_STAGE 2
theorem witness_CrossbarAccesses :
    (let s := awake State.reset.xbar
     s.alive = true ∧ s.get R.PAIR_CTL_MODE ≠ 1 ∧ (s.upTo 0).mustWait 0 0x3FFFFFC true = false ∧ (s.upTo 0).mustWait 0 0 false = false ∧
      (s.upTo 0).mustWait 0 (0x4000000 + 0x800000) true = false ∧ (s.upTo 0).mustWait 0 (0x4000000 + 0x800000) false = false) ∧
    ((awake { State.reset.xbar with queue := [⟨0, 0, some 1, []⟩] }).upTo 0).mustWait 0 0 false = true ∧
    (match regAt 0x200014, regAt 0x200010 with
     | some (h, i, _), some (l, k, _) => h.high && !l.high && !(awake State.reset.xbar).offline 0x200014 h i &&
        !(awake State.reset.xbar).offline 0x200010 l k && (highOf 0x200010).isSome
     | _, _ => false) = true ∧
    (match regAt 0x800000 with
     | some (r, i, _) => State.reset.offline 0x800000 r i && (State.reset.upTo 5).offline 0x800000 r i
     | none => false) = true := by
  decide +kernel
theorem witness_CrossbarLocks :
    ((Tab.get (0, 0) State.reset.xbar.held 3).1 = 0 ∧ Tab.get 0 State.reset.xbar.wait 3 = 0) ∧
    (let s := awake { State.reset.xbar with wait := [(3, 6)], held := [(2, (6, 0))] }
     Tab.get 0 s.xbar.wait 3 = 6 ∧ s.lockedOut 3 (some 5) = true ∧ (Tab.get (0, 0) s.xbar.held 2).1 ≠ 0 ∧
      (Tab.get (0, 0) s.xbar.held 2).2 + nsToT (1000 * max 1 (s.get R.XBAR_LOCK_LIMIT_US)) ≤ max s.now secT) ∧
    (awake { State.reset.xbar with wait := [(3, 6)] }).lockedOut 3 (some 5) = false ∧
    (let s := awake { State.reset.xbar with queue := [⟨0, 4, some 1, []⟩] }
     s.alive = true ∧ s.xbar.queue.any (fun q => q.master == 0 && q.off == 8 && q.value.isSome == true) = false ∧
      s.xbar.queue.any (fun q => q.master == 0 && q.off == 8 && q.value.isSome == false) = false ∧
      s.xbar.queue.any (fun q => q.master == 0 && q.off == 4 && q.value.isSome == true) = true) := by
  decide

/-- A machine whose channel 0 runs, with the store open, a region 0 of 4 KiB mapped at store address 0, and given bytes there. -/
def dmaRuns (cur : Nat) (x : DmaChan) : State :=
  ((State.reset.put1 R.DMA_STATUS_STATE 0 1).put1 R.DMA_CUR_ADDR 0 cur).setDma 0 x
/-- A descriptor that moves 64 bytes from store address 0 to 128, the last of its chain. -/
def aDescriptor : List Byte := leBytes 8 0 ++ leBytes 8 128 ++ leBytes 4 64 ++ leBytes 2 128 ++ zeros 42
theorem witness_DmaChannelStates :
    State.reset.dmaState 31 ≠ 1 ∧ (dmaRuns 0 DmaChan.init).dmaState 0 = 1 ∧ ((dmaRuns 0 DmaChan.init).dmaChan 0).desc = [] := by decide
theorem witness_DmaDescriptors :
    (dmaRuns 4 DmaChan.init).get1 R.DMA_CUR_ADDR 0 % 64 ≠ 0 ∧ (dmaRuns 64 DmaChan.init).get1 R.DMA_CUR_ADDR 0 % 64 = 0 ∧
    (((dmaRuns 64 DmaChan.init).upTo 0).storeRead 33 64 64 []).status ≠ 0 ∧
    (let s := dmaRuns 64 ⟨aDescriptor, 0, false, none⟩
     s.dmaState 0 = 1 ∧ (s.dmaChan 0).desc ≠ [] ∧ (s.upTo 0).dmaLocked (s.dmaChan 0).desc = false ∧
     ((s.upTo 0).dmaBody (aperRead 0) (aperWrite 0) 0 [] []).1.err ≠ 0 ∧
     ((s.upTo 0).dmaMove (aperRead 0) (aperWrite 0) (s.dmaChan 0).desc (min 0 (dmaLen (s.dmaChan 0).desc)) [] []).err = 0) := by
  decide +kernel
/-- The same with the store open and region 0 mapped. -/
def dmaOpen (cur : Nat) (x : DmaChan) : State :=
  ((((storeIn 1).put R.STORE_STATUS_DEFAULT 1).put1 R.DMA_STATUS_STATE 0 1).put1 R.DMA_CUR_ADDR 0 cur).setDma 0 x
theorem witness_DmaDescriptors_fetch :
    (dmaOpen 64 DmaChan.init).dmaState 0 = 1 ∧ (dmaOpen 64 DmaChan.init).get1 R.DMA_CUR_ADDR 0 % 64 = 0 ∧
    (((dmaOpen 64 DmaChan.init).upTo 0).storeRead 33 64 64 []).status = 0 ∧
    (((dmaOpen 64 DmaChan.init).upTo 0).storeRead 33 64 64 []).poisoned = false := by decide +kernel
theorem witness_DmaDescriptors_move :
    (let s := dmaOpen 64 ⟨aDescriptor, 0, false, none⟩
     let b := (s.upTo 0).dmaBody (aperRead 0) (aperWrite 0) 0 [] []
     s.dmaState 0 = 1 ∧ (s.upTo 0).dmaLocked (s.dmaChan 0).desc = false ∧ b.1.err = 0 ∧
     (b.1.st.storePut 33 104 (leBytes 24 0) false).2 = 0) := by decide +kernel

/-- A check unit 4 that holds an alive counter. -/
def aliveAt (n : Nat) : State := (State.reset.put1 R.CHECK_ALIVE_LAST_LAST 4 n).put1 R.CHECK_ALIVE_LAST_VALID 4 1
theorem witness_AliveCounter :
    (aliveAt 65).get1 R.CHECK_ALIVE_LAST_VALID 4 = 1 ∧ (65 + 65536 - (aliveAt 65).get1 R.CHECK_ALIVE_LAST_LAST 4) % 65536 = 0 ∧
    (68 + 65536 - (aliveAt 65).get1 R.CHECK_ALIVE_LAST_LAST 4) % 65536 = 3 ∧
    (66 + 65536 - (aliveAt 65).get1 R.CHECK_ALIVE_LAST_LAST 4) % 65536 = 1 ∧
    (32833 + 65536 - (aliveAt 65).get1 R.CHECK_ALIVE_LAST_LAST 4) % 65536 = 32768 ∧
    (32834 + 65536 - (aliveAt 65).get1 R.CHECK_ALIVE_LAST_LAST 4) % 65536 = 32769 := by decide

theorem witness_HostFunction :
    hosted.get R.PCIE_STATUS_UP = 1 ∧ hosted.power.d3hot = false ∧ hosted.power.d ≤ 1 ∧ State.reset.get R.PCIE_STATUS_UP ≠ 1 ∧
    (hosted.put R.PCIE_STATUS_UP 0).get R.PCIE_STATUS_UP ≠ 1 ∧ (hosted.put R.PCIE_STATUS_UP 0).alive = true ∧
    (let s := { State.reset with store := { State.reset.store with hostReads := [(33, 64, 0)] } }
     s.store.hostReads.find? (fun e => e.1 == 33 && e.2.1 == 64) = some (33, 64, 0) ∧ 0 + nsToT 10000000 ≤ max s.now secT) := by decide
theorem witness_HostRegisterRequests :
    hosted.alive = true ∧ hosted.hostUp = true ∧ 0x7FFFFFC < 134217728 ∧ 0x7FFFFFC % 4 = 0 ∧ 4 < 0x7FFFFFC % 4 + 8 ∧
    0x7FFFFFE % 4 + 2 ≤ 4 ∧ 0x7FFFFFE % 4 ≠ 0 := by decide
theorem witness_PendingAndVectors :
    Tab.get false State.reset.evt.vecPend 63 = false ∧ State.reset.vecOpen 63 = false ∧
    (let s := { hosted with evt := { hosted.evt with enable := true, msix := [(255, 0)] } }
     Tab.get false s.evt.vecPend 63 = false ∧ s.vecOpen 63 = true) ∧
    Tab.get false ({ State.reset.evt with vecPend := [(5, true)] } : EvtState).vecPend 5 = true ∧
    ((bitList 32 0).map (fun k => 32 * 3 + k)).filter State.reset.pend = [] := by decide

/-- A machine whose fabric runs and whose half-duplex enable is up. -/
def meeting (m : MgmtState) : State := { hosted with mgmt := m, power := { hosted.power with hpEn := true } }
/-- A register request for one word at offset 0: a read. -/
def aRequest : List Byte := leBytes 2 0x8002 ++ leBytes 2 7 ++ [1#8, 1#8, 0#8, 0#8] ++ leBytes 4 0
/-- A frame that waits in the medium. -/
def aTx (tries back : Nat) : MgmtTx := ⟨zeros 60, 0, tries, back, false, false⟩
theorem witness_ManagementPort :
    (hosted.get R.MGMT_CTL_EN = 1 ∧ hosted.alive = true ∧ hosted.get R.MGMT_CTL_REG_EN = 1 ∧
      hosted.tagOk (List.replicate 6 0xFF#8 ++ zeros 54) = true ∧
      (List.replicate 6 0xFF#8 ++ zeros 54).length + 4 = 64 ∧ ¬ rxBuffer < hosted.rxHeld + 0 + 60 ∧
      rxBuffer < hosted.rxHeld + 16384 + 60 ∧ (hosted.upTo 4).gapOver = true) ∧
    (let s := meeting ⟨none, [[1#8]], [], [], [], [], 0⟩
     s.alive = true ∧ s.power.hpEn = true ∧ s.macFree = true ∧ (s.nextMgmt [] []).isSome = true ∧ s.pair.hbQueue = none) ∧
    (({ State.reset with pair := { State.reset.pair with hbQueue := some [1#8] } } : State).pair.hbQueue = some [1#8]) ∧
    (max State.reset.now 0 ≤ (aTx 0 0).start + nsToT (800 * ((aTx 0 0).frame.length + 12)) ∧ max State.reset.now 0 ≤ (aTx 0 0).start + nsToT 51200 ∧
      (aTx 15 0).tries + 1 = 16 ∧ (aTx 0 0).start + nsToT 51200 < nsToT 52000 ∧ nsToT 52000 ≤ (aTx 0 0).start + nsToT (800 * ((aTx 0 0).frame.length + 12)) ∧
      (aTx 1 5).backoff ≤ max State.reset.now 4 + 1) ∧
    (reqMalformed aRequest = false ∧ reqMalformed [] = true ∧ byteAt aRequest 5 = 1 ∧ (hosted.upTo 0).mustWait 2 0 false = false ∧
      fld aRequest 8 4 = 0 ∧ (hosted.put R.MGMT_CTL_REG_EN 0).get R.MGMT_CTL_REG_EN ≠ 1) := by
  decide +kernel
theorem witness_BoardPorts :
    ((hosted.upTo 0).scpBegins 0x00300018 0 = true ∧ scpBad 0x00300018 = false ∧ (hosted.upTo 0).scpBegins 0x40000000 1 = true ∧
      scpBad 0x40000000 = false ∧ (hosted.upTo 0).scpBegins 0x80000000 2 = true ∧ scpBad 0x80000000 = false ∧
      (hosted.upTo 0).scpBegins 0x80000002 2 = true ∧ scpBad 0x80000002 = true ∧ scpBad 2 = true ∧ scpBad 0x40000001 = true) ∧
    (hosted.scp.mode ≠ 2 ∧ hosted.alive = true ∧ State.reset.power.d ≠ 2 ∨ State.reset.power.d = 2) ∧
    (let s := { State.reset with power := { State.reset.power with d := 2 } }
     s.power.d = 2 ∧ (s.put R.POWER_WAKE_EN_EN 31).wakeOn 3 = true) ∧
    (State.reset.get R.FLASH_CTL_BUSY ≠ 1 ∧ State.reset.bootHolds = false ∧ (State.reset.put R.FLASH_CTL_BUSY 1).get R.FLASH_CTL_BUSY = 1 ∧
      ({ State.reset.put R.SYS_BOOT_STAGE 2 with power := { State.reset.power with image := 0 } } : State).bootHolds = true ∧ bit (2 ^ 29) 29 = true ∧ bit 512 29 = false ∧
      State.reset.scp.flashAt + nsToT 10000000 ≤ max State.reset.now secT) := by
  decide +kernel
theorem witness_ManagementPort_broadcast : hosted.destOk (List.replicate 6 0xFF#8 ++ zeros 54) = true := by
  unfold State.destOk
  rw [show (List.replicate 6 0xFF#8 ++ zeros 54).take 6 = List.replicate 6 0xFF#8 from by decide]
  dsimp only
  rw [beq_self_eq_true (List.replicate 6 0xFF#8), Bool.or_true, Bool.true_or, Bool.true_or]

/-- A machine in D0 whose monitor port 2 is in a given state. -/
def sounding (p ctl frame : Nat) (fifo : List (List Nat)) : State :=
  { State.reset with power := { State.reset.power with d := 0 } }.setMon p
    { MonPort.init with ctl := ctl, run := true, frame := frame, fifo := fifo, since := 0 }
theorem witness_MonitorPorts :
    (let s := sounding 2 0 999 []
     (s.monPort 2).run = true ∧ (s.monPort 2).frame < 1000 ∧ s.power.d ≤ 1 ∧ s.ganged = false ∧ s.monFifo 2 = false ∧
      max s.now 0 < (s.monPort 2).frameAt ∧ (s.monPort 2).frameAt ≤ max s.now secT) ∧
    (let s := sounding 2 8 0 [[1]]
     (s.monPort 2).run = true ∧ s.ganged = false ∧ s.monFifo 2 = true ∧ ((s.upTo 0).monFill 2 |>.monPort 2).fifo = [[1]]) ∧
    (let s := sounding 2 8 0 []
     (s.monPort 2).run = true ∧ s.ganged = false ∧ s.monFifo 2 = true ∧ ((s.upTo 0).monFill 2 |>.monPort 2).fifo = []) ∧
    (let s := sounding 0 16 0 []
     s.ganged = true ∧ (s.monPort 0).frame < 1000 ∧ s.power.d ≤ 1) ∧
    (let s := sounding 2 0 1000 []
     1000 ≤ (s.monPort 2).frame ∧ s.ganged = false ∧ s.power.d = 0 ∧ s.get1 R.MON_CTL_EN 2 ≠ 1 ∧
     (s.put1 R.MON_CTL_EN 2 1).get1 R.MON_CTL_EN 2 = 1 ∧ ((s.put1 R.MON_CTL_EN 2 1).monPort 2).ctl ≠ (s.put1 R.MON_CTL_EN 2 1).monCtl 2) ∧
    (let s := (sounding 1 1024001 1000 []).put1 R.MON_CTL_EN 1 1
     (s.monPort 1).run = true ∧ (s.monPort 1).ctl = s.monCtl 1 ∧ s.get1 R.MON_CTL_EN 1 = 1 ∧ s.ganged = false ∧ bit (s.monCtl 1) 3 = false ∧
      monGrid (s.monCtl 1) (max s.now secT) = true ∧ monGrid (s.monCtl 1) (max s.now (secT + 1)) = false) ∧
    (let s := ({ State.reset with power := { State.reset.power with d := 0 } }.put1 R.MON_CTL_EN 0 1).put1 R.MON_CTL_GANG 0 1
     (s.monPort 0).run = false ∧ s.ganged = false ∧ s.power.d = 0 ∧ s.get1 R.MON_CTL_EN 0 = 1 ∧ s.get1 R.MON_CTL_GANG 0 = 1) := by
  decide +kernel

/-- A machine in power state D`d` with the power manager's STATE at `p`. -/
def poweredAt (d p : Nat) : State := { State.reset with power := { State.reset.power with d := d } }.setPw p
theorem witness_PowerStates :
    ((((poweredAt 0 pwD0).upTo 0).powerCtl 1 false false).powerRefused 1 = false ∧
      (((poweredAt 1 pwEntering).upTo 0).powerCtl 1 false false).powerRefused 1 = true ∧
      (((poweredAt 0 pwD0).upTo 0).powerCtl 2 false false).powerRefused 2 = false ∧
      (((poweredAt 1 pwEntering).upTo 0).powerCtl 2 false false).powerRefused 2 = true) ∧
    (((((poweredAt 1 1).put R.POWER_WAKE_EN_EN 31).upTo 0).powerCtl 0 false false).wakeOn (4 - 0) = true ∧
      ((((poweredAt 1 1).put R.POWER_WAKE_EN_EN 31).upTo 0).powerCtl 0 false false).wakeOn (4 - 1) = true ∧
      ((((poweredAt 1 1).put R.POWER_WAKE_EN_EN 0).upTo 0).powerCtl 0 false false).wakeOn (4 - 0) = false) ∧
    (let s := (poweredAt 0 pwEntering).withPower (fun p => { p with waits := true, armed := true })
     s.power.waits = true ∧ s.power.waitAt + nsToT 100000000 ≤ max s.now (nsToT 100000000) ∧ s.power.armed = true ∧
      s.get R.POWER_WAKE_TIME_TIME ≤ max s.now 0) ∧
    (let s := (poweredAt 0 pwWaking).put R.SYS_BOOT_STAGE 3
     s.pw = pwWaking ∧ s.get R.SYS_BOOT_STAGE = 3) ∧
    (let s := (poweredAt 2 2).put R.POWER_WAKE_EN_EN 31
     (s.upTo 0).wakeOn 5 = true ∧ (s.upTo 0).wakeOn 2 = true ∧ s.power.d = 2 ∧ (s.upTo 0).wakeOn 4 = true) := by
  decide
/-- The wake frame of R472 to the management port's address, for the device of identity 5. -/
theorem witness_WakeFrame :
    ((((poweredAt 2 2).withPower (fun p => { p with mac := 9 })).put R.TRUST_DEVICE_ID_ID 5).upTo 0).wakeFrame
      (leBytes 6 9 ++ zeros 6 ++ [0x88#8, 0xB6#8] ++ leBytes 2 0x8004 ++ zeros 6 ++ leBytes 8 5 ++ zeros 40) true = true := by
  unfold State.wakeFrame
  rw [State.get_upTo, State.get_put_same]
  decide +kernel

/-- A machine at a BOOT_STAGE whose image source is `image`. -/
def booting (stage image : Nat) : State := ((poweredAt 0 pwWaking).put R.SYS_BOOT_STAGE stage).withPower (fun p => { p with image := image })
/-- The least image R482 accepts: 64 bytes and no content. -/
def leastImage : List Byte := leBytes 4 0x57465659 ++ leBytes 4 7 ++ leBytes 4 64 ++ zeros 48 ++ leBytes 4 (crc32c [])
theorem witness_BootAndSupplies :
    ((poweredAt 0 0).power.d ≤ 1 ∧ ((poweredAt 0 0).withPower (fun p => { p with hpEn := true })).power.hpEn = true ∧
      ((poweredAt 0 0).withPower (fun p => { p with hpEn := false })).power.hpEn = false ∧ (poweredAt 3 0).power.d = 3) ∧
    ((booting 0 0).pw = pwWaking ∧ (booting 0 0).get R.SYS_BOOT_STAGE = 0 ∧ 2 ≤ (booting 2 0).get R.SYS_BOOT_STAGE) ∧
    ((booting 2 0).get R.SYS_BOOT_STAGE = 2 ∧ (booting 2 0).power.image < 2 ∧ imageFault leastImage = 0 ∧ (booting 2 0).power.image = 0 ∧
      imageFault (zeros 64) ≠ 0 ∧ (booting 2 1).power.image = 1 ∧ (booting 2 1).get R.SYS_BOOT_STAGE = 2) ∧
    (booting 5 2).get R.SYS_BOOT_STAGE = 5 := by
  decide +kernel

/-- A machine whose firmware update is in a state of R484. -/
def updating (st : Nat) : State := (booting 4 2).put R.TRUST_FW_STATUS_STATE st
/-- A machine in D0 that holds MCTP packets and waiting SPDM requests. -/
def attested (mctp : List (List Byte)) (q : List SpdmReq) : State :=
  ((booting 4 2).put R.PCIE_STATUS_UP 1).withTrust (fun x => { x with mctp := mctp, spdm := q })
theorem witness_TrustSessions :
    ((attested [] []).alive = true ∧ (attested [] []).is R.PCIE_STATUS_UP = true) ∧
    (mctpMessage [] (attested [zeros 9 ++ [0xC0#8, 5#8, 0x10#8, 0x84#8]] []).trust.mctp).isSome = true ∧
    (((attested [] []).put R.TRUST_MBOX_CTL_BUSY 1).is R.TRUST_MBOX_CTL_BUSY = true ∧
      ((attested [] []).put R.TRUST_MBOX_CTL_BUSY 1).trust.spdm.any (fun q => q.transport == 2) = false) ∧
    ((attested [] [⟨0, [], [0x10#8, 0x84#8], [], []⟩]).trust.spdm = [⟨0, [], [0x10#8, 0x84#8], [], []⟩] ∧
      byteAt [0x10#8, 0x84#8] 1 = 0x84) ∧
    ((attested [] []).is R.TRUST_MBOX_CTL_BUSY = false ∧ ((attested [] []).put R.TRUST_MBOX_CTL_DONE 1).is R.TRUST_MBOX_CTL_DONE = true) := by
  decide +kernel
theorem witness_FirmwareUpdate :
    ((updating 0).fwState = fwIdle ∧ (updating 1).fwState ≠ fwIdle ∧ (updating fwLoading).fwState = fwLoading ∧
      (updating fwStarting).fwState = fwStarting ∧ (updating fwReloading).fwState = fwReloading ∧ (updating fwHandover).fwState = fwHandover) ∧
    ((updating 0).withTrust (fun x => { x with awaits := 1 })).trust.awaits = 1 ∧
    (updating 0).trust.fwAt + nsToT 150000000 ≤ max (updating 0).now (nsToT 150000000) ∧
    (updating 0).trust.fwAt + nsToT 1000000 ≤ max (updating 0).now (nsToT 150000000) := by
  decide +kernel

theorem witness_LedgerCommands :
    (let s : State := { State.reset with power := { State.reset.power with d := 0 } }.put R.SYS_BOOT_STAGE 4
     s.is R.LEDGER_STATUS_BUSY = false ∧ s.alive = true) ∧ State.reset.alive = false ∧
    (let s : State := { State.reset with ledger := { State.reset.ledger with commit := some [], tries := 2 } }
     s.ledger.commit = some [] ∧ 2 ≤ s.ledger.tries) ∧
    (let s : State := { State.reset with ledger := { State.reset.ledger with commit := some [], tries := 1 } }
     s.ledger.commit = some [] ∧ s.ledger.tries < 2) ∧ (poweredAt 1 1).power.d ≤ 1 := by
  decide
theorem witness_PartnerLosses :
    let s : State := { State.reset with pair := { State.reset.pair with partnerSeen := true, arbSeen := true } }
    s.pair.partnerSeen = true ∧ s.pair.partnerAt + usT 300 ≤ max s.now (usT 300) ∧ s.pair.arbSeen = true ∧
      s.pair.arbAt + usT 300 ≤ max s.now (usT 300) := by
  decide

theorem witness_GroupReadOr : groupOf 0x2200000 = some (5, 0, 0) ∧ State.reset.groupReached 5 0 (State.reset.groupMembers 5 0) = List.range 16 ∧ groupWritable 5 0 = true := by
  decide +kernel
theorem witness_StepKeepsCanonical : State.reset.Canonical ∧ step State.reset = .next State.reset := by
  refine ⟨?_, rfl⟩
  unfold State.Canonical; decide
theorem witness_SentIsALog : Completes (exec (.checkInit 0) State.reset) fun u => u.sent = [] := ⟨_, rfl, rfl⟩
end

namespace Sys2Proof.Machine

/-! ## Every command answers a next state (R2)

Operands outside `Instr.wf` are answered too; that is the model's choice (notes/assumptions/1.md). -/

/-- Each arm of the dispatch by the law of its meaning. -/
theorem exec_keeps {s0 s : State} (h : Keeps s0 s) (i : Instr) : KeepsOut s0 (exec i s) := by
  unfold exec
  cases i with
  | draftAdmit => exact execDraftAdmit_keeps h
  | draftStart => exact execDraftStart_keeps h
  | draftStop => exact execDraftStop_keeps h
  | draftAbort => exact execDraftAbort_keeps h
  | draftScpData => exact execDraftScpData_keeps h
  | checkComplete => exact execCheckComplete_keeps h
  | draftRunning => exact execDraftRunning_keeps h
  | stoppingEnd => exact execStoppingEnd_keeps h
  | spanStart => exact execSpanStart_keeps h
  | spanFinal => exact execSpanFinal_keeps h
  | spanDeadline => exact execSpanDeadline_keeps h
  | passStart => exact execPassStart_keeps h
  | injectionResume => exact execInjectionResume_keeps h
  | passInjected => exact execPassInjected_keeps h
  | mergeDone => exact execMergeDone_keeps h
  | replayDone => exact execReplayDone_keeps h
  | passCommit => exact execPassCommit_keeps h
  | bufferRelease => exact execBufferRelease_keeps h
  | dumpStateWrite => exact execDumpStateWrite_keeps h
  | testStart => exact execTestStart_keeps h
  | testAbort => exact execTestAbort_keeps h
  | selfTestDone => exact execSelfTestDone_keeps h
  | testPower => exact execTestPower_keeps h
  | sectionPowerGood => exact execSectionPowerGood_keeps h
  | sectionPowerTimeout => exact execSectionPowerTimeout_keeps h
  | powerGoodLost => exact execPowerGoodLost_keeps h
  | sectionDrained => exact execSectionDrained_keeps h
  | foxSubmit => exact execFoxSubmit_keeps h
  | batchChecked => exact execBatchChecked_keeps h
  | foxClear => exact execFoxClear_keeps h
  | intervalInUse => exact execIntervalInUse_keeps h
  | tableComplete => exact execTableComplete_keeps h
  | foxStalePop => exact execFoxStalePop_keeps h
  | retractionSend => exact execRetractionSend_keeps h
  | withdrawalWrite => exact execWithdrawalWrite_keeps h
  | settledWrite => exact execSettledWrite_keeps h
  | beamPassStart => exact execBeamPassStart_keeps h
  | beamComplete => exact execBeamComplete_keeps h
  | beamPassEmitted => exact execBeamPassEmitted_keeps h
  | steeringBuildDone => exact execSteeringBuildDone_keeps h
  | beamPageHeader => exact execBeamPageHeader_keeps h
  | nop => exact execNop_keeps h
  | rpt => exact execRpt_keeps h
  | jmp => exact execJmp_keeps h
  | br => exact execBr_keeps h
  | jal => exact execJal_keeps h
  | jr => exact execJr_keeps h
  | blk => exact execBlk_keeps h
  | evt => exact execEvt_keeps h
  | salu => exact execSalu_keeps h
  | salui => exact execSalui_keeps h
  | ssh => exact execSsh_keeps h
  | smul => exact execSmul_keeps h
  | sget => exact execSget_keeps h
  | aset => exact execAset_keeps h
  | aget => exact execAget_keeps h
  | lds => exact execLds_keeps h
  | sts => exact execSts_keeps h
  | vld => exact execVld_keeps h
  | vst => exact execVst_keeps h
  | vldb => exact execVldb_keeps h
  | pin => exact execPin_keeps h
  | pout => exact execPout_keeps h
  | pseek => exact execPseek_keeps h
  | vadd => exact execVadd_keeps h
  | vsub => exact execVsub_keeps h
  | vbf => exact execVbf_keeps h
  | vmul => exact execVmul_keeps h
  | vshr => exact execVshr_keeps h
  | vshl => exact execVshl_keeps h
  | vperm => exact execVperm_keeps h
  | vbcs => exact execVbcs_keeps h
  | vcvt => exact execVcvt_keeps h
  | vlut => exact execVlut_keeps h
  | vmac => exact execVmac_keeps h
  | vmacp => exact execVmacp_keeps h
  | vacr => exact execVacr_keeps h
  | vacl => exact execVacl_keeps h
  | vsrch => exact execVsrch_keeps h
  | vstat => exact execVstat_keeps h
  | vstatf => exact execVstatf_keeps h
  | vrqs => exact execVrqs_keeps h
  | vnco => exact execVnco_keeps h
  | stallResume => exact execStallResume_keeps h
  | flushLate => exact execFlushLate_keeps h
  | inVector => exact execInVector_keeps h
  | spinSwap => exact execSpinSwap_keeps h
  | spinForceSwap => exact execSpinForceSwap_keeps h
  | forcedImageStart => exact execForcedImageStart_keeps h
  | spinProgData => exact execSpinProgData_keeps h
  | progCommit => exact execProgCommit_keeps h
  | spinLmemData => exact execSpinLmemData_keeps h
  | spinGainData => exact execSpinGainData_keeps h
  | zoomSample => exact execZoomSample_keeps h
  | swapArm => exact execSwapArm_keeps h
  | swapCancel => exact execSwapCancel_keeps h
  | zoomSwap => exact execZoomSwap_keeps h
  | zoomCoefData => exact execZoomCoefData_keeps h
  | signalPresent => exact execSignalPresent_keeps h
  | adaptDone => exact execAdaptDone_keeps h
  | commaFound => exact execCommaFound_keeps h
  | commaInterval => exact execCommaInterval_keeps h
  | headerErrorLimit => exact execHeaderErrorLimit_keeps h
  | signalLost => exact execSignalLost_keeps h
  | laneRelock => exact execLaneRelock_keeps h
  | blockReceive => exact execBlockReceive_keeps h
  | txBlock => exact execTxBlock_keeps h
  | laneTxFfe => exact execLaneTxFfe_keeps h
  | hankCtl => exact execHankCtl_keeps h
  | hankPllLock => exact execHankPllLock_keeps h
  | hankPllTimeout => exact execHankPllTimeout_keeps h
  | hankPllLoss => exact execHankPllLoss_keeps h
  | frameHeader => exact execFrameHeader_keeps h
  | frameTrailer => exact execFrameTrailer_keeps h
  | frameTruncated => exact execFrameTruncated_keeps h
  | creditReceive => exact execCreditReceive_keeps h
  | creditSend => exact execCreditSend_keeps h
  | frameTransmit => exact execFrameTransmit_keeps h
  | classDrainDone => exact execClassDrainDone_keeps h
  | frameGapPop => exact execFrameGapPop_keeps h
  | meshRequest => exact execMeshRequest_keeps h
  | completionReceive => exact execCompletionReceive_keeps h
  | npTimeout => exact execNpTimeout_keeps h
  | announceSend => exact execAnnounceSend_keeps h
  | announceReceive => exact execAnnounceReceive_keeps h
  | meshArm => exact execMeshArm_keeps h
  | meshCancel => exact execMeshCancel_keeps h
  | layoutApply => exact execLayoutApply_keeps h
  | meshOperand => exact execMeshOperand_keeps h
  | summaryReceive => exact execSummaryReceive_keeps h
  | summaryTimeout => exact execSummaryTimeout_keeps h
  | nodeLost => exact execNodeLost_keeps h
  | heartbeatSend => exact execHeartbeatSend_keeps h
  | heartbeatReceive => exact execHeartbeatReceive_keeps h
  | arbiterTimeout => exact execArbiterTimeout_keeps h
  | leaseEnd => exact execLeaseEnd_keeps h
  | pairGrantEnd => exact execPairGrantEnd_keeps h
  | mirrorRecord => exact execMirrorRecord_keeps h
  | emittedSend => exact execEmittedSend_keeps h
  | pairResync => exact execPairResync_keeps h
  | resyncRecord => exact execResyncRecord_keeps h
  | pairSolo => exact execPairSolo_keeps h
  | standbySelfTest => exact execStandbySelfTest_keeps h
  | badgerWatchdog => exact execBadgerWatchdog_keeps h
  | badgerRestart => exact execBadgerRestart_keeps h
  | memCommandCycle => exact execMemCommandCycle_keeps h
  | rdWindow => exact execRdWindow_keeps h
  | throttleEnd => exact execThrottleEnd_keeps h
  | sitePowerGood => exact execSitePowerGood_keeps h
  | sitePowerTimeout => exact execSitePowerTimeout_keeps h
  | memProbe => exact execMemProbe_keeps h
  | probeDone => exact execProbeDone_keeps h
  | memTrainDly => exact execMemTrainDly_keeps h
  | trainCommit => exact execTrainCommit_keeps h
  | trainFail => exact execTrainFail_keeps h
  | sweepDone => exact execSweepDone_keeps h
  | tempReport => exact execTempReport_keeps h
  | patrolScrub => exact execPatrolScrub_keeps h
  | memRetire => exact execMemRetire_keeps h
  | migrationDone => exact execMigrationDone_keeps h
  | shedLevelChange => exact execShedLevelChange_keeps h
  | storeAccess => exact execStoreAccess_keeps h
  | walkDone => exact execWalkDone_keeps h
  | invGo => exact execInvGo_keeps h
  | invAll => exact execInvAll_keeps h
  | invDone => exact execInvDone_keeps h
  | mapBuildDone => exact execMapBuildDone_keeps h
  | storeOpen => exact execStoreOpen_keeps h
  | storeFaultPop => exact execStoreFaultPop_keeps h
  | bar2Request => exact execBar2Request_keeps h
  | refGate => exact execRefGate_keeps h
  | refEdgeLoss => exact execRefEdgeLoss_keeps h
  | wtrTick => exact execWtrTick_keeps h
  | ppsEdge => exact execPpsEdge_keeps h
  | ppsMissing => exact execPpsMissing_keeps h
  | freqLock => exact execFreqLock_keeps h
  | pullDone => exact execPullDone_keeps h
  | timeSet => exact execTimeSet_keeps h
  | timeStep => exact execTimeStep_keeps h
  | timeNetAdj => exact execTimeNetAdj_keeps h
  | netTimeout => exact execNetTimeout_keeps h
  | xoFault => exact execXoFault_keeps h
  | beaconSend => exact execBeaconSend_keeps h
  | beaconReceive => exact execBeaconReceive_keeps h
  | beaconChoice => exact execBeaconChoice_keeps h
  | trigoutArm => exact execTrigoutArm_keeps h
  | trigoutCancel => exact execTrigoutCancel_keeps h
  | trigoutPulse => exact execTrigoutPulse_keeps h
  | triginEdge => exact execTriginEdge_keeps h
  | triginPop => exact execTriginPop_keeps h
  | denTick => exact execDenTick_keeps h
  | denPpsEdge => exact execDenPpsEdge_keeps h
  | tapSample => exact execTapSample_keeps h
  | capWptrAdvance => exact execCapWptrAdvance_keeps h
  | captureFrameSend => exact execCaptureFrameSend_keeps h
  | frameSkip => exact execFrameSkip_keeps h
  | registerWrite => exact execRegisterWrite_keeps h
  | rcRead => exact execRcRead_keeps h
  | latchedLowRead => exact execLatchedLowRead_keeps h
  | groupWrite => exact execGroupWrite_keeps h
  | groupRead => exact execGroupRead_keeps h
  | lockAcquire => exact execLockAcquire_keeps h
  | lockGrant => exact execLockGrant_keeps h
  | lockRelease => exact execLockRelease_keeps h
  | lockExpiry => exact execLockExpiry_keeps h
  | xbarTimeout => exact execXbarTimeout_keeps h
  | dmaArm => exact execDmaArm_keeps h
  | dmaDisable => exact execDmaDisable_keeps h
  | descriptorFetch => exact execDescriptorFetch_keeps h
  | descriptorComplete => exact execDescriptorComplete_keeps h
  | dmaFailure => exact execDmaFailure_keeps h
  | checkInit => exact execCheckInit_keeps h
  | checkData => exact execCheckData_keeps h
  | checkAliveIn => exact execCheckAliveIn_keeps h
  | checkState => exact execCheckState_keeps h
  | evtPend => exact execEvtPend_keeps h
  | msixUnmask => exact execMsixUnmask_keeps h
  | bar0Request => exact execBar0Request_keeps h
  | completionTimeout => exact execCompletionTimeout_keeps h
  | linkDown => exact execLinkDown_keeps h
  | linkUp => exact execLinkUp_keeps h
  | fnReset => exact execFnReset_keeps h
  | d3hot => exact execD3hot_keeps h
  | mgmtReceive => exact execMgmtReceive_keeps h
  | mgmtTransmit => exact execMgmtTransmit_keeps h
  | collision => exact execCollision_keeps h
  | backoffExpiry => exact execBackoffExpiry_keeps h
  | registerRequest => exact execRegisterRequest_keeps h
  | mgmtTsPop => exact execMgmtTsPop_keeps h
  | scpWrite => exact execScpWrite_keeps h
  | scpRead => exact execScpRead_keeps h
  | scpFetch => exact execScpFetch_keeps h
  | scpSelRise => exact execScpSelRise_keeps h
  | flashGo => exact execFlashGo_keeps h
  | flashDone => exact execFlashDone_keeps h
  | flashTimeout => exact execFlashTimeout_keeps h
  | monFrame => exact execMonFrame_keeps h
  | monBlock => exact execMonBlock_keeps h
  | enterD1 => exact execEnterD1_keeps h
  | enterD2 => exact execEnterD2_keeps h
  | wakeFromD1 => exact execWakeFromD1_keeps h
  | ledgerDone => exact execLedgerDone_keeps h
  | ledgerWaitTimeout => exact execLedgerWaitTimeout_keeps h
  | warmReset => exact execWarmReset_keeps h
  | fwReady => exact execFwReady_keeps h
  | wakeTime => exact execWakeTime_keeps h
  | denWakeN => exact execDenWakeN_keeps h
  | wakeFrame => exact execWakeFrame_keeps h
  | scpSelFall => exact execScpSelFall_keeps h
  | perstRise => exact execPerstRise_keeps h
  | supplyFault => exact execSupplyFault_keeps h
  | causeClear => exact execCauseClear_keeps h
  | hpEnFall => exact execHpEnFall_keeps h
  | hpEnRise => exact execHpEnRise_keeps h
  | tempSample => exact execTempSample_keeps h
  | porNAssert => exact execPorNAssert_keeps h
  | porNRelease => exact execPorNRelease_keeps h
  | railsGood => exact execRailsGood_keeps h
  | creelSweepDone => exact execCreelSweepDone_keeps h
  | imageFetched => exact execImageFetched_keeps h
  | bootRetry => exact execBootRetry_keeps h
  | spdmRequest => exact execSpdmRequest_keeps h
  | spdmResponse => exact execSpdmResponse_keeps h
  | mboxGo => exact execMboxGo_keeps h
  | trustMboxData => exact execTrustMboxData_keeps h
  | fwUpdate => exact execFwUpdate_keeps h
  | imageLoaded => exact execImageLoaded_keeps h
  | fwReadyCore => exact execFwReadyCore_keeps h
  | fwYield => exact execFwYield_keeps h
  | fwStartTimeout => exact execFwStartTimeout_keeps h
  | handoverTimeout => exact execHandoverTimeout_keeps h
  | ledgerCommit => exact execLedgerCommit_keeps h
  | commitDone => exact execCommitDone_keeps h
  | ledgerData => exact execLedgerData_keeps h
  | ledgerSample => exact execLedgerSample_keeps h
  | partnerLost => exact execPartnerLost_keeps h
  | arbiterLost => exact execArbiterLost_keeps h
  | recordRetry => exact execRecordRetry_keeps h

/-- Settles O51: the law of the dispatch, from the state to itself, read for the queue and the ordering code. -/
theorem everyCommandAnswers : Obligations.EveryCommandAnswers := by
  intro i s
  obtain ⟨u, answers, kept⟩ := exec_keeps (Keeps.refl s) i
  exact ⟨u, answers, kept.pending, kept.part⟩

/-! ## The course of an access through the crossbar (R13, R305, R414, R416)

`State.access` by its cases. What an off-line unit answers each master and what a group write to an offset that is not group-writable does
are the model's choices (notes/assumptions/50.md, notes/assumptions/59.md). -/

@[simp] theorem State.alive_upTo (s : State) (t : Nat) : (s.upTo t).alive = s.alive := rfl

@[simp] theorem State.answerRead_master (s : State) (m off v : Nat) (hm : m ≠ 1) : s.answerRead m off v = s.emit (.regRead m off v) := if_neg hm

/-- With no pair there is nothing to mirror and no standby to ignore the write. -/
theorem State.hostWrite_unpaired (s : State) (m off v : Nat) (hp : s.get R.PAIR_CTL_MODE ≠ 1) : s.hostWrite m off v = (true, s) := by
  have unpaired : s.is R.PAIR_CTL_MODE = false := beq_eq_false_iff_ne.mpr hp
  simp [State.hostWrite, unpaired]

theorem State.request_served (s : State) (m off : Nat) (value : Option Nat) (t : Nat) (hw : s.mustWait m off value.isSome = false) :
    s.request m off value t = (s.serve m off value (s.membersAt off) t).lockWritten off value t := by
  simp [State.request, hw]

theorem State.request_waits (s : State) (m off : Nat) (value : Option Nat) (t : Nat) (hw : s.mustWait m off value.isSome = true) :
    s.request m off value t = { s with xbar := { s.xbar with queue := s.xbar.queue ++ [⟨m, off, value, s.membersAt off⟩] } } := by
  simp [State.request, hw]

theorem State.access_read (s : State) (m off t : Nat) (ha : s.alive = true) (h4 : off % 4 = 0) :
    s.access m off none t = (s.upTo t).request m off none t := by
  simp [State.access, ha, h4]

theorem State.access_write (s : State) (m off v t : Nat) (ha : s.alive = true) (h4 : off % 4 = 0) (hp : s.get R.PAIR_CTL_MODE ≠ 1) :
    s.access m off (some v) t = (s.upTo t).request m off (some v) t := by
  simp [State.access, ha, h4, State.hostWrite_unpaired (s.upTo t) m off v hp]

theorem State.access_misaligned_write (s : State) (m off v t : Nat) (ha : s.alive = true) (h4 : off % 4 ≠ 0) :
    s.access m off (some v) t = if m = 3 ∨ m = 4 then (s.upTo t).emit (.regError m off) else s.upTo t := by
  simp [State.access, ha, h4]

theorem State.access_misaligned_read (s : State) (m off t : Nat) (ha : s.alive = true) (h4 : off % 4 ≠ 0) (hm : m ≠ 1) :
    s.access m off none t =
      if m = 3 ∨ m = 4 then ((s.upTo t).emit (.regRead m off 0)).emit (.regError m off) else (s.upTo t).emit (.regRead m off 0) := by
  simp [State.access, ha, h4, hm]

theorem State.lockWritten_read (s : State) (off t : Nat) : s.lockWritten off none t = s := by simp [State.lockWritten]

/-- XBAR_LOCK stands in the unicast half. -/
theorem State.lockWritten_group (s : State) (off : Nat) (value : Option Nat) (t : Nat) :
    s.lockWritten (apertureBase + off) value t = s := by
  have apart : apertureBase + off ≠ R.XBAR_LOCK_ACQUIRE.addr := by
    have below : R.XBAR_LOCK_ACQUIRE.addr < apertureBase := by decide
    omega
  simp [State.lockWritten, apart]

/-! ## Delivery to a register and to a group (R13, R410 to R412) -/

theorem State.serve_write (s : State) (m off v : Nat) (ks : List Nat) (t : Nat) (ho : off < apertureBase) :
    s.serve m off (some v) ks t =
      let w := (s.granted m off).writeReg m off v t
      if s.regOffline off = true then w.tellOffline m off false else w := by
  have inBar : ¬ 2 * apertureBase ≤ off := by omega
  simp [State.serve, State.perform, inBar, ho]

theorem State.serve_read (s : State) (m off : Nat) (ks : List Nat) (t : Nat) (ho : off < apertureBase) (hm : m ≠ 1) :
    s.serve m off none ks t =
      let r := ((s.granted m off).memShown off).readReg m off
      (if s.regOffline off = true then r.2.tellOffline m off true else r.2).emit (.regRead m off r.1) := by
  have inBar : ¬ 2 * apertureBase ≤ off := by omega
  simp [State.serve, State.perform, inBar, ho, hm]

theorem State.serve_groupWrite (s : State) (m off v : Nat) (ks : List Nat) (t : Nat) (ho : off < apertureBase) :
    s.serve m (apertureBase + off) (some v) ks t = (s.granted m (apertureBase + off)).groupWrite m off v ks t := by
  have inBar : ¬ 2 * apertureBase ≤ apertureBase + off := by omega
  simp [State.serve, State.perform, inBar]

theorem State.serve_groupRead (s : State) (m off : Nat) (ks : List Nat) (t : Nat) (ho : off < apertureBase) (hm : m ≠ 1) :
    s.serve m (apertureBase + off) none ks t =
      let r := ((s.granted m (apertureBase + off)).memShown (apertureBase + off)).groupRead m off ks
      r.2.emit (.regRead m (apertureBase + off) r.1) := by
  have inBar : ¬ 2 * apertureBase ≤ apertureBase + off := by omega
  simp [State.serve, State.perform, inBar, hm]

/-! ## Pairs of words and units off line (R13, R123) -/

theorem State.readReg_high (s : State) (m off i j : Nat) (r : Reg) (hr : regAt off = some (r, i, j)) (hon : s.offline off r i = false)
    (hh : r.high = true) : s.readReg m off = (Tab.get 0 s.xbar.latch (latchKey m (off - 4)), s) := by
  simp [State.readReg, hr, hon, hh]

theorem State.readReg_low (s : State) (m off i j i' j' : Nat) (r h : Reg) (hr : regAt off = some (r, i, j))
    (hon : s.offline off r i = false) (hl : r.high = false) (hp : highOf off = some (h, i', j')) :
    s.readReg m off = (s.word m r i j,
      (({ s with xbar := { s.xbar with latch := Tab.set 0 s.xbar.latch (latchKey m off) (s.word m h i' j') } } : State).clearRc r i j).advance
        r i) := by
  simp [State.readReg, hr, hon, hl, hp]

theorem State.readReg_offline (s : State) (m off i j : Nat) (r : Reg) (hr : regAt off = some (r, i, j)) (hoff : s.offline off r i = true) :
    s.readReg m off = (0, s.noteOffline r i) := by
  simp [State.readReg, hr, hoff]

theorem State.writeReg_offline (s : State) (m off v t i j : Nat) (r : Reg) (hr : regAt off = some (r, i, j))
    (hoff : (s.upTo t).offline off r i = true) : s.writeReg m off v t = (s.upTo t).noteOffline r i := by
  simp [State.writeReg, hr, hoff]

/-! ## The commands of the crossbar -/

theorem execRegisterWrite_served (s : State) (m off v t : Nat) (ho : off < apertureBase) (h4 : off % 4 = 0) (hv : v < 4294967296)
    (ha : s.alive = true) (hp : s.get R.PAIR_CTL_MODE ≠ 1) (hw : (s.upTo t).mustWait m off true = false) :
    execRegisterWrite m off ⟨v, 15⟩ t s = .next
      (let w := ((s.upTo t).granted m off).writeReg m off v t
       (if (s.upTo t).regOffline off = true then w.tellOffline m off false else w).lockWritten off (some v) t) := by
  simp only [execRegisterWrite, if_true, Nat.mod_eq_of_lt ho, Nat.mod_eq_of_lt hv]
  rw [State.access_write s m off v t ha h4 hp, State.request_served _ _ _ _ _ hw, State.serve_write _ _ _ _ _ _ ho]

theorem execRcRead_served (s : State) (m off t : Nat) (ho : off < apertureBase) (h4 : off % 4 = 0) (ha : s.alive = true) (hm : m ≠ 1)
    (hw : (s.upTo t).mustWait m off false = false) :
    execRcRead m off t s = .next
      (let r := (((s.upTo t).granted m off).memShown off).readReg m off
       (if (s.upTo t).regOffline off = true then r.2.tellOffline m off true else r.2).emit (.regRead m off r.1)) := by
  simp only [execRcRead, Nat.mod_eq_of_lt ho]
  rw [State.access_read s m off t ha h4, State.request_served _ _ _ _ _ hw, State.lockWritten_read, State.serve_read _ _ _ _ _ ho hm]

theorem execGroupWrite_served (s : State) (m off v t : Nat) (ho : off < apertureBase) (h4 : off % 4 = 0) (hv : v < 4294967296)
    (ha : s.alive = true) (hp : s.get R.PAIR_CTL_MODE ≠ 1) (hw : (s.upTo t).mustWait m (apertureBase + off) true = false) :
    execGroupWrite m off ⟨v, 15⟩ t s = .next
      (((s.upTo t).granted m (apertureBase + off)).groupWrite m off v ((s.upTo t).membersAt (apertureBase + off)) t) := by
  have aligned : (apertureBase + off) % 4 = 0 := by simp only [apertureBase]; omega
  simp only [execGroupWrite, if_true, Nat.mod_eq_of_lt ho, Nat.mod_eq_of_lt hv]
  rw [State.access_write s m _ v t ha aligned hp, State.request_served _ _ _ _ _ hw, State.lockWritten_group,
    State.serve_groupWrite _ _ _ _ _ _ ho]

theorem execGroupRead_served (s : State) (m off t : Nat) (ho : off < apertureBase) (h4 : off % 4 = 0) (ha : s.alive = true) (hm : m ≠ 1)
    (hw : (s.upTo t).mustWait m (apertureBase + off) false = false) :
    execGroupRead m off t s = .next
      (let r := (((s.upTo t).granted m (apertureBase + off)).memShown (apertureBase + off)).groupRead m off
         ((s.upTo t).membersAt (apertureBase + off))
       r.2.emit (.regRead m (apertureBase + off) r.1)) := by
  have aligned : (apertureBase + off) % 4 = 0 := by simp only [apertureBase]; omega
  simp only [execGroupRead, Nat.mod_eq_of_lt ho]
  rw [State.access_read s m _ t ha aligned, State.request_served _ _ _ _ _ hw, State.lockWritten_read,
    State.serve_groupRead _ _ _ _ _ ho hm]

theorem execRegisterWrite_misaligned (s : State) (m off v t : Nat) (ho : off < apertureBase) (h4 : off % 4 ≠ 0) (ha : s.alive = true) :
    execRegisterWrite m off ⟨v, 15⟩ t s = .next (if m = 3 ∨ m = 4 then (s.upTo t).emit (.regError m off) else s.upTo t) := by
  simp only [execRegisterWrite, if_true, Nat.mod_eq_of_lt ho]
  rw [State.access_misaligned_write s m off _ t ha h4]

theorem execRcRead_misaligned (s : State) (m off t : Nat) (ho : off < apertureBase) (h4 : off % 4 ≠ 0) (ha : s.alive = true) (hm : m ≠ 1) :
    execRcRead m off t s = .next
      (let s1 := (s.upTo t).emit (.regRead m off 0)
       if m = 3 ∨ m = 4 then s1.emit (.regError m off) else s1) := by
  simp only [execRcRead, Nat.mod_eq_of_lt ho]
  rw [State.access_misaligned_read s m off t ha h4 hm]

theorem execRcRead_waits (s : State) (m off t : Nat) (ho : off < apertureBase) (h4 : off % 4 = 0) (ha : s.alive = true)
    (hw : (s.upTo t).mustWait m off false = true) :
    execRcRead m off t s = .next
      { s.upTo t with xbar := { s.xbar with queue := s.xbar.queue ++ [⟨m, off, none, (s.upTo t).membersAt off⟩] } } := by
  simp only [execRcRead, Nat.mod_eq_of_lt ho]
  rw [State.access_read s m off t ha h4, State.request_waits _ _ _ _ _ hw]
  rfl

/-- Settles O32: each clause is the law of its command or of the register's read and write. -/
theorem crossbarAccesses : Obligations.CrossbarAccesses := by
  refine ⟨?registerWrite, ?partialEnables, ?rcRead, ?latchedLowRead, ?groupWrite, ?groupRead, ?misalignedWrite, ?misalignedRead, ?readWaits,
    ?highWord, ?lowWord, ?unitOffline⟩
  case registerWrite => exact fun s m off v t ho h4 hv ha hp hw => ⟨_, execRegisterWrite_served s m off v t ho h4 hv ha hp hw, rfl⟩
  case partialEnables => exact fun s m off v e t he => ⟨⟨_, if_neg he, rfl⟩, ⟨_, if_neg he, rfl⟩⟩
  case rcRead => exact fun s m off t ho h4 ha hm hw => ⟨_, execRcRead_served s m off t ho h4 ha hm hw, rfl⟩
  -- The low half is read as any register is.
  case latchedLowRead => exact fun s m off t ho h4 ha hm hw => ⟨_, execRcRead_served s m off t ho h4 ha hm hw, rfl⟩
  case groupWrite => exact fun s m off v t ho h4 hv ha hp hw => ⟨_, execGroupWrite_served s m off v t ho h4 hv ha hp hw, rfl⟩
  case groupRead => exact fun s m off t ho h4 ha hm hw => ⟨_, execGroupRead_served s m off t ho h4 ha hm hw, rfl⟩
  case misalignedWrite => exact fun s m off v t ho h4 ha => ⟨_, execRegisterWrite_misaligned s m off v t ho h4 ha, rfl⟩
  case misalignedRead => exact fun s m off t ho h4 ha hm => ⟨_, execRcRead_misaligned s m off t ho h4 ha hm, rfl⟩
  case readWaits => exact fun s m off t ho h4 ha hw => ⟨_, execRcRead_waits s m off t ho h4 ha hw, rfl⟩
  case highWord => exact fun s m off i j r hr hon hh => s.readReg_high m off i j r hr hon hh
  case lowWord => exact fun s m off i j i' j' r h hr hon hl hp => s.readReg_low m off i j i' j' r h hr hon hl hp
  case unitOffline =>
    intro s m off i j r hr hoff
    exact ⟨by rw [s.readReg_offline m off i j r hr hoff], fun v t hoff' => s.writeReg_offline m off v t i j r hr hoff'⟩

end Sys2Proof.Machine

namespace Sys2Proof.Machine

/-! ## The spans that array time brings (R24, R132, R155)

The guards of the span commands read the Draft, the registers and the passes, which a move of array time leaves as they are. Whole
nanoseconds of slack at a deadline, rounded down, are the model's choice (notes/assumptions/90.md). -/

@[simp] theorem State.spanning_upTo (s : State) (t : Nat) : (s.upTo t).spanning = s.spanning := rfl

/-- Two branches that both go on are one answer, whose state makes the choice. -/
theorem Out.ite_not_next (b : Bool) (u v : State) :
    (if !b then (.next u : Out) else .next v) = .next (if b then v else u) := by
  cases b <;> rfl

/-- Settles O3: the guard of a start and of a finality falls away, a finality then chooses by what the other nodes have sent, and a deadline
has no guard. -/
theorem spanCommands : Obligations.SpanCommands := by
  refine ⟨?spanStart, ?spanFinal, ?spanDeadline⟩
  case spanStart =>
    intro s span t running isNext reached
    have due : ¬ (!(s.upTo t).spanning ∨ span ≠ (s.upTo t).get R.DRAFT_SPAN_SPAN + 1 ∨ (s.upTo t).now < (s.upTo t).spanTime span) := by
      rintro (halted | other | early)
      · simp [running] at halted
      · exact other isNext
      · exact absurd early (not_lt.mpr reached)
    exact ⟨_, if_neg due, rfl⟩
  case spanFinal =>
    intro s span t running isNext ended verdicts
    have due : ¬ (span ≠ (if (s.upTo t).get R.PASS_FINAL_SPAN_SPAN = 2 ^ 64 - 1 then (s.upTo t).draft.base
          else (s.upTo t).get R.PASS_FINAL_SPAN_SPAN + 1) ∨
        !(s.upTo t).spanning ∨ (s.upTo t).get R.DRAFT_SPAN_SPAN ≤ span ∨ !(s.upTo t).verdictsIn span) := by
      rintro (other | halted | underway | missing)
      · exact other isNext
      · simp [running] at halted
      · exact absurd ended (not_lt.mpr underway)
      · simp [verdicts] at missing
    exact ⟨_, (if_neg due).trans (Out.ite_not_next _ _ _), rfl⟩
  case spanDeadline => exact fun s span t => ⟨_, rfl, rfl⟩

end Sys2Proof.Machine

namespace Sys2Proof.Machine

/-! ## What the Draft controller's operations leave (R64, R66, R68)

The rules for the staged range and a recorded refusal, in the fields that the controller's commands speak of. -/

@[simp] theorem State.draft_foxStop (s : State) : s.foxStop.draft = s.draft := rfl
@[simp] theorem State.draft_stageRelease (s : State) : s.stageRelease.draft = { s.draft with prot := none } := rfl
@[simp] theorem State.draft_stageProtect (s : State) :
    s.stageProtect.draft = { s.draft with prot := some (s.stageBase, s.stageLen) } := rfl
@[simp] theorem State.get_stageProtect (s : State) (g : Field) : s.stageProtect.get g = s.get g := rfl

@[simp] theorem State.draft_refuseWith (s : State) (r : Refuse) : (s.refuseWith r).draft = s.draft := rfl

theorem State.dState_refuseWith (s : State) (r : Refuse) : (s.refuseWith r).dState = s.dState := by
  unfold State.refuseWith
  simp (disch := decide) only [State.dState_put]

/-- Section, item and detail stand in fields apart from the code. -/
theorem State.code_refuseWith (s : State) (r : Refuse) : (s.refuseWith r).get R.DRAFT_REFUSE_CODE_CODE = r.code % 2 ^ 16 := by
  unfold State.refuseWith
  simp (disch := decide) only [State.get_put_ne]
  exact State.get_put_same _ _ _

theorem State.code_toDraft (s : State) (st : Nat) :
    (s.toDraft st).get R.DRAFT_REFUSE_CODE_CODE = s.get R.DRAFT_REFUSE_CODE_CODE :=
  s.get_toDraft st _ (by decide) (by decide)

/-! ## START, ABORT and STOP by the state they find (R68)

That a START waits while another master holds the lock of a target that it writes is the model's choice (notes/assumptions/50.md). -/

/-- The state that a START leaves of the state `s`, array time moved on: the Draft `d` measured and its structures armed. -/
def State.armedWith (s : State) (d : Stream) : State :=
  let s1 := (s.measureReset235.measure 2 4 0 d.digest).measure 3 5 0 d.tablesDigest
  let s2 := s1.withSections (fun a => (a.structArm d).put R.DRAFT_STATUS_STATE dArmed)
  let s3 := ((((s2.grantDraft.placeArm d.items).hanksArm d.items).classArm).spinsStart.zoomStart).foxStart
  ((s3.beginBuilds d.items ((localBeam d.items s3.node).map (·.idx)) s3.draft.base).ledCount 3).showPatches

/-- An admitted Draft's START: too late, held up by a lock, or armed. -/
theorem execDraftStart_admitted (s : State) (t : Nat) (d : Stream) (hs : s.dState = dAdmitted) (hd : s.draft.admitted = some d) :
    execDraftStart t s =
      if s.get R.DRAFT_START_START < max s.now t + nsToT 100000000 then .next ((s.upTo t).refuseWith (refuseAll 0x0117 0))
      else if (s.upTo t).armLocked then .next { s.upTo t with xbar := { s.xbar with armWaits := true } }
      else .next ((s.upTo t).armedWith d) := by
  have admitted : (s.upTo t).draft.admitted = some d := hd
  have ready : ¬ (s.upTo t).dState ≠ dAdmitted := not_not.mpr hs
  unfold execDraftStart
  dsimp only
  rw [admitted]
  exact if_neg ready

theorem execDraftAbort_checking (s : State) (hs : s.dState = dChecking) :
    execDraftAbort s =
      .next (((s.stageRelease.setDraft (fun d => { d with admitted := none })).toDraft dIdle).refuseWith (refuseAll 0x0119 0)) := if_pos hs

theorem execDraftAbort_judged (s : State) (hs : s.dState = dAdmitted ∨ s.dState = dRefused) :
    execDraftAbort s = .next ((s.stageRelease.setDraft (fun d => { d with admitted := none })).toDraft dIdle) := by
  have notChecking : s.dState ≠ dChecking := by rcases hs with h | h <;> rw [h] <;> decide
  exact (if_neg notChecking).trans (if_pos hs)

theorem execDraftAbort_armed (s : State) (hs : s.dState = dArmed) : execDraftAbort s = .next (s.foxStop.toDraft dAdmitted) := by
  have notChecking : s.dState ≠ dChecking := by rw [hs]; decide
  have notJudged : ¬ (s.dState = dAdmitted ∨ s.dState = dRefused) := by rw [hs]; decide
  exact (if_neg notChecking).trans ((if_neg notJudged).trans (if_pos hs))

theorem execDraftStop_armed (s : State) (t : Nat) (hs : s.dState = dArmed) :
    execDraftStop t s = .next ((s.upTo t).foxStop.toDraft dAdmitted) := if_pos hs

theorem execDraftStop_running (s : State) (t : Nat) (hs : s.dState = dRunning) :
    execDraftStop t s = .next ((s.upTo t).withSections (fun a =>
      ((a.setDraft (fun d => { d with stopSpan := some (s.get R.DRAFT_SPAN_SPAN) })).put R.DRAFT_STATUS_STATE dStopping).discardPatches
        (s.get R.DRAFT_SPAN_SPAN))) := by
  have notArmed : (s.upTo t).dState ≠ dArmed := by rw [dState_upTo, hs]; decide
  exact (if_neg notArmed).trans (if_pos hs)

/-- What is left of the state `s` when the last span of a stopped Draft is done: no Draft, no patch and no stop span. -/
def State.draftEnded (s : State) : State :=
  let s1 := (s.endIntegs.cutWindows (fun _ _ => true)).capStop
  let s2 := s1.withSections (fun a => (a.setDraft (fun d => { d with stopSpan := none, patches := [] })).put R.DRAFT_STATUS_STATE dIdle)
  (((((s2.put R.DRAFT_SPAN_SPAN 0).showPatches.foxStop.spinsRun false).zoomRunning).sideStop)).raise 0x1C3

theorem execStoppingEnd_stopped (s : State) (t S : Nat) (hs : s.dState = dStopping) (hS : s.draft.stopSpan = some S)
    (hd : (s.upTo t).stopped S = true) : execStoppingEnd t s = .next (s.upTo t).draftEnded := by
  have named : (s.upTo t).draft.stopSpan = some S := hS
  have done : ¬ (decide ((s.upTo t).dState ≠ dStopping) || !(s.upTo t).stopped S) = true := by simp [hs, hd]
  unfold execStoppingEnd
  dsimp only
  rw [named]
  exact if_neg done

/-! ## ADMIT (R68, R69, R76, R95) -/

/-- An ADMIT that is not ignored, before it is known what the stream is: KIND read, the figures and the code cleared. -/
def State.admitRead (s : State) (t : Nat) : State :=
  ((s.upTo t).stagedKind.2.putFigures Figures.zero).put R.DRAFT_REFUSE_CODE_CODE 0

/-- A check that begins: the staged range protected, and what refuses the stream before step 1 noted. -/
def State.admitTaken (s : State) (t : Nat) (patch : Bool) : State :=
  (s.admitRead t).stageProtect.setDraft (fun d => { d with pre := (s.admitRead t).preCheck patch (s.upTo t).stagedKind.1 })

@[simp] theorem State.draft_admitRead (s : State) (t : Nat) : (s.admitRead t).draft = (s.upTo t).stagedKind.2.draft := by
  unfold State.admitRead
  rw [(State.put_fields _ _ _).2.2.2.2.2.2.2.1, putFigures_draft]

theorem State.dState_admitRead (s : State) (t : Nat) : (s.admitRead t).dState = (s.upTo t).stagedKind.2.dState :=
  (State.dState_put _ _ _ (by decide)).trans (putFigures_dState _ _)

@[simp] theorem State.code_admitRead (s : State) (t : Nat) : (s.admitRead t).get R.DRAFT_REFUSE_CODE_CODE = 0 := State.get_put_same _ _ _

@[simp] theorem State.isSome_prot_admitTaken (s : State) (t : Nat) (patch : Bool) : (s.admitTaken t patch).draft.prot.isSome = true := rfl

theorem State.code_admitTaken (s : State) (t : Nat) (patch : Bool) : (s.admitTaken t patch).get R.DRAFT_REFUSE_CODE_CODE = 0 := by
  unfold State.admitTaken
  rw [get_setDraft, State.get_stageProtect, State.code_admitRead]

/-- With no Draft under way, KIND decides: a patch is refused, anything else is checked. -/
theorem execDraftAdmit_full (s : State) (t : Nat) (hs : s.dState = dIdle ∨ s.dState = dAdmitted ∨ s.dState = dRefused) :
    execDraftAdmit t s =
      if kindIs (s.upTo t).stagedKind.1 1 then .next (((s.admitRead t).refuseWith (refuseAll 0x0115 s.dState)).raise 0x1C5)
      else .next (((s.admitTaken t false).setDraft (fun d => { d with admitted := none })).toDraft dChecking) := by
  unfold execDraftAdmit
  dsimp only
  rw [dState_upTo]
  rcases hs with h | h | h <;> rw [h] <;> rfl

/-- In RUNNING with no patch under check, KIND decides: a full Draft is refused, anything else is checked as a patch. -/
theorem execDraftAdmit_running (s : State) (t : Nat) (hs : s.dState = dRunning) (hp : s.is R.DRAFT_STATUS_PCHECK = false) :
    execDraftAdmit t s =
      if kindIs (s.upTo t).stagedKind.1 0 then .next (((s.admitRead t).refuseWith (refuseAll 0x0115 dRunning)).raise 0x1C1)
      else .next ((s.admitTaken t true).put R.DRAFT_STATUS_PCHECK 1) := by
  unfold execDraftAdmit
  dsimp only
  rw [dState_upTo, State.is_upTo, hs, hp]
  rfl

/-! ## CHECK_COMPLETE and the staging range (R64, R65, R66) -/

theorem execCheckComplete_refused (s : State) (t : Nat) (r : Refuse) (hs : s.dState = dChecking)
    (hr : ((s.upTo t).checkAll false).1 = .error r) :
    execCheckComplete t s =
      .next (((((s.upTo t).checkAll false).2.stageRelease.refuseWith r).toDraft dRefused).raise 0x1C1) := by
  refine (if_pos hs).trans ?_
  generalize (s.upTo t).checkAll false = c at hr ⊢
  obtain ⟨_, s1⟩ := c
  subst hr
  rfl

theorem execCheckComplete_admitted (s : State) (t : Nat) (d : Stream) (hs : s.dState = dChecking)
    (hd : ((s.upTo t).checkAll false).1 = .ok d) :
    execCheckComplete t s =
      .next (((((s.upTo t).checkAll false).2.setDraft (fun x => { x with admitted := some d })).toDraft dAdmitted).raise 0x1C0) := by
  refine (if_pos hs).trans ?_
  generalize (s.upTo t).checkAll false = c at hd ⊢
  obtain ⟨_, s1⟩ := c
  subst hd
  rfl

theorem execDraftScpData_staged (s : State) (v : Nat) (hp : s.draft.prot = none) (hl : 4 * s.get R.DRAFT_SCP_PTR_PTR < s.stageLen) :
    execDraftScpData v s = .next
      ((s.storeWrite 34 (s.stageBase + 4 * s.get R.DRAFT_SCP_PTR_PTR) (leBytes 4 v)).1.wrap R.DRAFT_SCP_PTR_PTR 1) := by
  have unprotected : ¬ s.draft.prot.isSome = true := by simp [hp]
  exact (if_neg unprotected).trans (if_neg (not_le.mpr hl))

/-! ## The statements -/

/-- Settles O1: each command takes the branch of the state that it finds; what a change of the sections leaves gives the fields named. -/
theorem draftStartAndStop : Obligations.DraftStartAndStop := by
  refine ⟨?start, ?startWaits, ?startLate, ?running, ?stop, ?stoppingEnd⟩
  case start =>
    intro s t d state admitted early unlocked
    have free : ¬ (s.upTo t).armLocked = true := by simp [unlocked]
    refine ⟨_, (execDraftStart_admitted s t d state admitted).trans ((if_neg (not_lt.mpr early)).trans (if_neg free)), ?_⟩
    unfold State.armedWith dArmed
    rfl
  case startWaits =>
    intro s t d state admitted early locked
    exact ⟨_, (execDraftStart_admitted s t d state admitted).trans ((if_neg (not_lt.mpr early)).trans (if_pos locked)), rfl⟩
  case startLate =>
    intro s t d state admitted late
    refine ⟨_, (execDraftStart_admitted s t d state admitted).trans (if_pos late), ?_, rfl, State.code_refuseWith _ _⟩
    exact (State.dState_refuseWith _ _).trans state
  case running =>
    intro s t state reached
    have due : ¬ ((s.upTo t).dState ≠ dArmed ∨ (s.upTo t).now < (s.upTo t).draft.t0) := by
      rintro (other | early)
      · exact other state
      · exact absurd reached (not_le.mpr early)
    refine ⟨_, if_neg due, ?_⟩
    unfold dRunning
    refine ⟨?_, ?_, rfl⟩
    · exact (State.dState_put _ _ _ (by decide)).trans (State.dState_toDraft _ 4)
    · simp
  case stop =>
    intro s t state
    refine ⟨_, execDraftStop_running s t state, ?_⟩
    beta_reduce
    rw [dState_withSections, State.draft_withSections, (discardPatches_leaves _ _).1, (discardPatches_leaves _ _).2]
    exact ⟨dState_put_self _ 5, rfl, rfl, rfl⟩
  case stoppingEnd =>
    intro s t S state stopSpan stopped
    refine ⟨_, execStoppingEnd_stopped s t S state stopSpan stopped, ?_⟩
    unfold State.draftEnded dIdle
    refine ⟨?_, ?_, ?_, rfl⟩
    · exact (dState_withSections _ _).trans (dState_put_self _ 0)
    · rw [State.draft_withSections]; rfl
    · rw [State.draft_withSections]; rfl

/-- Settles O2: each command takes the branch of the state, of KIND or of the check's result that it finds; the rules of the operations give
the fields named. -/
theorem draftControllerCommands : Obligations.DraftControllerCommands := by
  refine ⟨?admitFull, ?admitPatchRefused, ?admitPatch, ?abortChecking, ?abortJudged, ?abortArmed, ?stopArmed, ?checkComplete, ?scpData⟩
  case admitFull =>
    intro s t state notPatch
    have whole : ¬ kindIs (s.upTo t).stagedKind.1 1 = true := by simp [notPatch]
    refine ⟨_, (execDraftAdmit_full s t state).trans (if_neg whole), State.dState_toDraft _ 1, ?_, ?_, ?_⟩
    · simp
    · simp
    · rw [State.code_toDraft, get_setDraft, State.code_admitTaken]
  case admitPatchRefused =>
    intro s t state patch
    refine ⟨_, (execDraftAdmit_full s t state).trans (if_pos patch), ?_, ?_, ?_⟩
    · rw [State.dState_raise _ _ (by decide), State.dState_refuseWith, State.dState_admitRead]
    · simp
    · exact (State.get_raise _ _ _ (by decide)).trans (State.code_refuseWith _ _)
  case admitPatch =>
    intro s t state noCheck notFull
    have quiet : s.is R.DRAFT_STATUS_PCHECK = false := by simp [State.is, noCheck]
    have patch : ¬ kindIs (s.upTo t).stagedKind.1 0 = true := by simp [notFull]
    refine ⟨_, (execDraftAdmit_running s t state quiet).trans (if_neg patch), State.get_put_same _ _ 1, ?_, ?_⟩
    · simp
    · exact (State.get_put_ne _ _ _ _ (by decide)).trans (s.code_admitTaken t true)
  case abortChecking =>
    intro s state
    refine ⟨_, execDraftAbort_checking s state, ?_, ?_, ?_, State.code_refuseWith _ _⟩
    · exact (State.dState_refuseWith _ _).trans (State.dState_toDraft _ 0)
    · simp
    · simp
  case abortJudged =>
    intro s state
    refine ⟨_, execDraftAbort_judged s state, State.dState_toDraft _ 0, ?_, ?_⟩
    · simp
    · simp
  case abortArmed => exact fun s state => ⟨_, execDraftAbort_armed s state, State.dState_toDraft _ 2, State.draft_toDraft _ _⟩
  case stopArmed => exact fun s t state => ⟨_, execDraftStop_armed s t state, State.dState_toDraft _ 2, State.draft_toDraft _ _⟩
  case checkComplete =>
    intro s t state
    cases result : ((s.upTo t).checkAll false).1 with
    | error r =>
      refine ⟨_, execCheckComplete_refused s t r state result, ?_, ?_, ?_⟩
      · exact (State.dState_raise _ _ (by decide)).trans (State.dState_toDraft _ 6)
      · simp
      · rw [State.get_raise _ _ _ (by decide), State.code_toDraft, State.code_refuseWith]
    | ok d =>
      refine ⟨_, execCheckComplete_admitted s t d state result, ?_, ?_⟩
      · exact (State.dState_raise _ _ (by decide)).trans (State.dState_toDraft _ 2)
      · simp
  case scpData => exact fun s v unprotected inside => ⟨_, execDraftScpData_staged s v unprotected inside, rfl⟩

end Sys2Proof.Machine

namespace Sys2Proof.Machine

/-! ## Self-tests of a knot by the state they find (R123, R125, R126)

The knots' registers stand below the sections', so what a test changes of its section leaves the knot's registers alone. -/

/-- A write to one field leaves another field of the same unit. -/
theorem State.get1_put1_field (s : State) (f g : Field) (i v : Nat) (h : g.addr * 8 + g.lo ≠ f.addr * 8 + f.lo ∧ g.s1 = f.s1 ∧ g.s2 = f.s2) :
    (s.put1 f i v).get1 g i = s.get1 g i :=
  State.get1_put1_ne s f g i i v (Field.key_ne g f i 0 h)

/-- In a section that is not ON the access is refused, and leaves its mark on the section (R123). -/
theorem execTestStart_offline (s : State) (k seed : Nat) (hk : k < 1024) (off : s.pstate (k / 64) ≠ 2) :
    execTestStart k seed s = .next (s.knotOffline k) := by
  unfold execTestStart
  rw [Nat.mod_eq_of_lt hk]
  exact if_pos off

theorem State.knotCover_running (s : State) (K : Nat) (h : s.draftRuns = true) : s.knotCover K = knotPly s.draft.struct s.node K := if_pos h

theorem State.knotCover_none (s : State) (K : Nat) (h : s.draftRuns = false ∨ knotPly s.draft.struct s.node K = none) :
    s.knotCover K = none := by
  unfold State.knotCover
  rcases h with stopped | uncovered
  · simp [stopped]
  · simp [uncovered]

theorem execTestStart_covered (s : State) (k seed : Nat) (hk : k < 1024) (on : s.pstate (k / 64) = 2)
    (covered : (s.knotCover k).isSome = true) :
    execTestStart k seed s = .next ((s.put1 R.KNOT_CTL_TEST_SEED k seed).put1 R.KNOT_STATUS_TEST_REFUSED k 1) := by
  unfold execTestStart
  rw [Nat.mod_eq_of_lt hk]
  exact (if_neg (not_not.mpr on)).trans (if_pos covered)

theorem execTestStart_idle (s : State) (k seed : Nat) (hk : k < 1024) (on : s.pstate (k / 64) = 2) (free : s.knotCover k = none)
    (idle : s.get1 R.KNOT_STATUS_TEST_BUSY k = 0) :
    execTestStart k seed s = .next ((s.put1 R.KNOT_CTL_TEST_SEED k seed).testBegins k) := by
  have uncovered : ¬ (s.knotCover k).isSome = true := by simp [free]
  have notBusy : ¬ s.is1 R.KNOT_STATUS_TEST_BUSY k = true := by simp [State.is1, idle]
  unfold execTestStart
  rw [Nat.mod_eq_of_lt hk]
  exact (if_neg (not_not.mpr on)).trans ((if_neg uncovered).trans (if_neg notBusy))

theorem execTestAbort_busy (s : State) (k : Nat) (hk : k < 1024) (on : s.pstate (k / 64) = 2)
    (busy : s.get1 R.KNOT_STATUS_TEST_BUSY k = 1) : execTestAbort k s = .next (s.testAborted k) := by
  have isBusy : s.is1 R.KNOT_STATUS_TEST_BUSY k = true := by simp [State.is1, busy]
  unfold execTestAbort
  rw [Nat.mod_eq_of_lt hk]
  exact (if_neg (not_not.mpr on)).trans (if_pos isBusy)

/-- An aborted test: apart from TEST_ABORTED, the knot's registers are those of a test that stops. -/
theorem State.get1_testAborted_ne (s : State) (K : Nat) (g : Field) (h : g.key K 0 ≠ R.KNOT_STATUS_TEST_ABORTED.key K 0) :
    (s.testAborted K).get1 g K =
      (s.testStops K (min 4096 (loomCycles (Tab.get 0 s.loom.testAt K) s.now))).get1 g K :=
  State.get1_put1_ne _ _ _ _ _ _ h

theorem State.testAborted_only (s : State) (K : Nat) :
    s.testAborted K = { s with regs := (s.testAborted K).regs, loom := { s.loom with busy := (s.testAborted K).loom.busy } } :=
  State.put1_only (State.testStops_only s K _) _ _ _

/-- The result of a test that has run to its end, before its verdict (R125): the failing cells counted and the first of them, and the test
noted for the health word. -/
def State.testResult (s : State) (K : Nat) (bad : List Nat) : State :=
  ((((s.testStops K 4096).put1 R.KNOT_TEST_RESULT_FAILS K bad.length).put1 R.KNOT_TEST_RESULT_FIRST K (bad.head?.getD 0)).put1
    R.KNOT_STATUS_TEST_ABORTED K 0).noteTest (bad.length != 0)

/-- The verdict on a knot after its result (R125, R128). -/
def State.testVerdict (s : State) (K : Nat) (bad : List Nat) : State :=
  if bad.length = 0 then s.put1 R.KNOT_STATUS_TEST_PASS K 1
  else (s.put1 R.KNOT_STATUS_TEST_FAIL K 1).sectionEvt R.SECTION_EVT_TEST_FAIL (K / 64)

theorem execSelfTestDone_busy (s : State) (k : Nat) (cells : List Nat) (t : Nat) (hk : k < 1024)
    (busy : s.get1 R.KNOT_STATUS_TEST_BUSY k = 1) :
    execSelfTestDone k cells t s =
      .next (((s.upTo t).testResult k ((List.range 1024).filter (fun c => cells.contains c))).testVerdict k
        ((List.range 1024).filter (fun c => cells.contains c))) := by
  have isBusy : ¬ (!(s.upTo t).is1 R.KNOT_STATUS_TEST_BUSY k) = true := by simp [State.is1, busy]
  unfold execSelfTestDone
  rw [Nat.mod_eq_of_lt hk]
  exact if_neg isBusy

theorem State.testResult_busy (s : State) (K : Nat) (bad : List Nat) (hK : K < 1024) :
    (s.testResult K bad).get1 R.KNOT_STATUS_TEST_BUSY K = 0 := by
  unfold State.testResult
  simp (disch := decide) only [State.get1_noteTest, State.get1_put1_field]
  exact State.testStops_busy s K _ hK

theorem State.testResult_fails (s : State) (K : Nat) (bad : List Nat) :
    (s.testResult K bad).get1 R.KNOT_TEST_RESULT_FAILS K = bad.length % 2 ^ 11 := by
  unfold State.testResult
  simp (disch := decide) only [State.get1_noteTest, State.get1_put1_field]
  exact State.get1_put1_same _ _ _ _

theorem State.testResult_first (s : State) (K : Nat) (bad : List Nat) :
    (s.testResult K bad).get1 R.KNOT_TEST_RESULT_FIRST K = bad.head?.getD 0 % 2 ^ 10 := by
  unfold State.testResult
  simp (disch := decide) only [State.get1_noteTest, State.get1_put1_field]
  exact State.get1_put1_same _ _ _ _

/-- A cause bit of a section leaves every knot's registers. -/
theorem State.get1_sectionEvt_knot (s : State) (f : Field) (S : Nat) (g : Field) (K : Nat) (hS : S < 16) (hK : K < 1024)
    (high : 0x200000 ≤ g.addr) (below : g.addr * 8 + g.lo + 1023 * g.s1 * 8 < f.addr * 8 + f.lo) :
    (s.sectionEvt f S).get1 g K = s.get1 g K :=
  (State.get1_cause1 _ _ _ _ _ _ _ (Field.free_high _ _ _ _ high (by omega))).trans
    (State.get1_put1_ne _ _ _ _ _ _ (Field.key_apart g f K S 1024 hK below))

/-- The verdict writes TEST_PASS or TEST_FAIL of the knot and no other of its registers. -/
theorem State.get1_testVerdict (s : State) (K : Nat) (bad : List Nat) (g : Field) (hK : K < 1024) (high : 0x200000 ≤ g.addr)
    (below : g.addr * 8 + g.lo + 1023 * g.s1 * 8 < R.SECTION_EVT_TEST_FAIL.addr * 8 + R.SECTION_EVT_TEST_FAIL.lo)
    (other : ∀ f ∈ [R.KNOT_STATUS_TEST_PASS, R.KNOT_STATUS_TEST_FAIL],
      g.addr * 8 + g.lo ≠ f.addr * 8 + f.lo ∧ g.s1 = f.s1 ∧ g.s2 = f.s2) :
    (s.testVerdict K bad).get1 g K = s.get1 g K := by
  unfold State.testVerdict
  split
  · exact State.get1_put1_field _ _ _ _ _ (other _ (by simp))
  · exact (State.get1_sectionEvt_knot _ _ _ g K (by omega) hK high below).trans (State.get1_put1_field _ _ _ _ _ (other _ (by simp)))

theorem State.testVerdict_pass (s : State) (K : Nat) : (s.testVerdict K []).get1 R.KNOT_STATUS_TEST_PASS K = 1 :=
  State.get1_put1_same _ _ _ _

theorem State.testVerdict_fail (s : State) (K : Nat) (bad : List Nat) (hK : K < 1024) (faulty : bad ≠ []) :
    (s.testVerdict K bad).get1 R.KNOT_STATUS_TEST_FAIL K = 1 := by
  unfold State.testVerdict
  rw [if_neg (mt List.length_eq_zero_iff.mp faulty)]
  exact (State.get1_sectionEvt_knot _ _ _ _ K (by omega) hK (by decide) (by decide)).trans (State.get1_put1_same _ _ _ _)

/-- A completed test changes registers, the busy cycles counted, the pair's health and what an event changes. -/
theorem State.testDone_only (s : State) (K : Nat) (bad : List Nat) :
    let u := (s.testResult K bad).testVerdict K bad
    u = { s with regs := u.regs, evt := u.evt, sent := u.sent, pair := u.pair, loom := { s.loom with busy := u.loom.busy } } := by
  intro u
  have stopped := State.testStops_only s K 4096
  by_cases clean : bad.length = 0
  · have passed : u = (s.testResult K bad).put1 R.KNOT_STATUS_TEST_PASS K 1 := if_pos clean
    rw [passed]
    exact State.testOnly (EvtOnly.refl _) (State.noteTest_only _ _ _) stopped
  · have failed : u = ((s.testResult K bad).put1 R.KNOT_STATUS_TEST_FAIL K 1).sectionEvt R.SECTION_EVT_TEST_FAIL (K / 64) := if_neg clean
    rw [failed]
    exact State.testOnly (EvtOnly.cause1 _ _ _ _ _) (State.noteTest_only _ _ _) stopped

/-- Settles O5: each command takes the branch of the section's power state, of the plies and of TEST_BUSY that it finds; the rules of a
test's start, stop, result and verdict give the fields named. -/
theorem knotSelfTests : Obligations.KnotSelfTests := by
  refine ⟨?start, ?refused, ?abort, ?offline, ?done⟩
  case start =>
    intro s k seed hk on free idle
    refine ⟨_, execTestStart_idle s k seed hk on (s.knotCover_none k free) idle, ?_, ?_, ?_, rfl⟩
    · rw [State.get1_testBegins, State.get1_put1_field _ _ _ _ _ (by decide)]
      exact State.get1_put1_same _ _ _ _
    · rw [State.get1_testBegins]
      exact State.get1_put1_same _ _ _ _
    · simp (disch := decide) only [State.get1_testBegins, State.get1_put1_field]
      exact State.get1_put1_same _ _ _ _
  case refused =>
    intro s k seed hk on running covered
    rw [← s.knotCover_running k running] at covered
    refine ⟨_, execTestStart_covered s k seed hk on covered, State.get1_put1_same _ _ _ _, ?_, rfl⟩
    simp (disch := decide) only [State.get1_put1_field]
  case abort =>
    intro s k hk on busy
    refine ⟨_, execTestAbort_busy s k hk on busy, ?_, State.get1_put1_same _ _ _ _, ?_, s.testAborted_only k⟩
    · exact (s.get1_testAborted_ne k _ (Field.key_ne _ _ _ _ (by decide))).trans (s.testStops_busy k _ hk)
    · exact (s.get1_testAborted_ne k _ (Field.key_ne _ _ _ _ (by decide))).trans (s.testStops_active k _ hk)
  case offline =>
    intro s k seed hk off
    exact ⟨_, execTestStart_offline s k seed hk off, State.get1_put1_same _ _ _ _, rfl⟩
  case done =>
    intro s k cells t hk busy
    refine ⟨_, execSelfTestDone_busy s k cells t hk busy, ?_⟩
    have inKnot : ∀ c ∈ (List.range 1024).filter (fun c => cells.contains c), c < 1024 :=
      fun c h => List.mem_range.mp (List.mem_filter.mp h).1
    have few : ((List.range 1024).filter (fun c => cells.contains c)).length ≤ 1024 :=
      (List.length_filter_le _ _).trans_eq List.length_range
    generalize (List.range 1024).filter (fun c => cells.contains c) = bad at inKnot few ⊢
    refine ⟨?_, ?_, ?_, ?_, ?_, (s.upTo t).testDone_only k bad⟩
    · rw [State.get1_testVerdict _ _ _ _ hk (by decide) (by decide) (by decide)]
      exact State.testResult_busy _ k bad hk
    · rw [State.get1_testVerdict _ _ _ _ hk (by decide) (by decide) (by decide), State.testResult_fails]
      exact Nat.mod_eq_of_lt (by omega)
    · intro clean
      rw [clean]
      exact State.testVerdict_pass _ k
    · exact State.testVerdict_fail _ k bad hk
    · intro c first
      rw [State.get1_testVerdict _ _ _ _ hk (by decide) (by decide) (by decide), State.testResult_first, first]
      exact Nat.mod_eq_of_lt (inKnot c (List.mem_of_head? first))

end Sys2Proof.Machine

namespace Sys2Proof.Machine

/-! ## The power of a section, and a hold that ends (R109, R122, R124, R127) -/

/-- A change of a section's TEST_POWER moves the sections: registers of sections and knots and the busy cycles counted are all that
changes. -/
theorem HighRegs.testPower (s : State) (S : Nat) (on : Bool) :
    HighRegs s (s.withSections (fun a => (if on then a else a.abortTests S).put1 R.SECTION_CTL_TEST_POWER S (b2n on))) :=
  ((HighRegs.ite (.refl s) (HighRegs.abortTests s S)).trans (HighRegs.put1 _ _ _ _ (by decide))).trans (HighRegs.withSections s _)

theorem execTestPower_section (s : State) (S : Nat) (on : Bool) (hS : S < 16) :
    execTestPower S on s =
      .next (s.withSections (fun a => (if on then a else a.abortTests S).put1 R.SECTION_CTL_TEST_POWER S (b2n on))) := by
  unfold execTestPower
  rw [Nat.mod_eq_of_lt hS]

/-- A section that comes ON counts its power-up, and drains at once where nothing uses it any more: its registers, those of its knots and the
busy cycles counted are all that changes. -/
theorem HighRegs.powerGood (s : State) (S : Nat) :
    HighRegs s (((s.put1 R.SECTION_STATUS_PSTATE S 2).bump1 R.SECTION_PWR_COUNT_UPS S 1).sectionMove S) :=
  ((HighRegs.put1 s _ _ _ (by decide)).trans (HighRegs.put1 _ _ _ _ (by decide))).trans (HighRegs.sectionMove _ S)

theorem execSectionPowerGood_powering (s : State) (S : Nat) (hS : S < 16) (powering : s.pstate S = 1) :
    execSectionPowerGood S s =
      .next ((((s.zeroCells S).put1 R.SECTION_STATUS_PSTATE S 2).bump1 R.SECTION_PWR_COUNT_UPS S 1).sectionMove S) := by
  unfold execSectionPowerGood
  rw [Nat.mod_eq_of_lt hS]
  exact if_neg (not_not.mpr powering)

theorem execSectionPowerTimeout_powering (s : State) (S : Nat) (hS : S < 16) (powering : s.pstate S = 1) :
    execSectionPowerTimeout S s = .next (s.sectionFault S) := by
  unfold execSectionPowerTimeout
  rw [Nat.mod_eq_of_lt hS]
  exact if_neg (not_not.mpr powering)

theorem execPowerGoodLost_powered (s : State) (S : Nat) (hS : S < 16) (powered : s.pstate S = 2 ∨ s.pstate S = 3) :
    execPowerGoodLost S s = .next (s.sectionFault S) := by
  unfold execPowerGoodLost
  rw [Nat.mod_eq_of_lt hS]
  exact if_pos powered

/-- A drained section is OFF, and powers up again at once where it is used again, with the same things changed. -/
theorem HighRegs.drained (s : State) (S : Nat) : HighRegs s ((s.put1 R.SECTION_STATUS_PSTATE S 0).sectionMove S) :=
  (HighRegs.put1 s _ _ _ (by decide)).trans (HighRegs.sectionMove _ S)

theorem execSectionDrained_draining (s : State) (S : Nat) (hS : S < 16) (draining : s.pstate S = 3) :
    execSectionDrained S s = .next ((s.put1 R.SECTION_STATUS_PSTATE S 0).sectionMove S) := by
  unfold execSectionDrained
  rw [Nat.mod_eq_of_lt hS]
  exact if_neg (not_not.mpr draining)

/-- A held correlating pass of the ply goes first; its injection runs on from now, once the sections are ON. -/
theorem execInjectionResume_pass (s : State) (ply cycles : Nat) (p : Pass)
    (held : s.pass.passes.find? (fun p => p.ply == ply && p.held) = some p)
    (on : s.plyOn (plyBody (s.structAt p.last) ply) = true) :
    execInjectionResume ply cycles s =
      .next ((s.holdCount (plyBody (s.structAt p.last) ply) cycles).withPassList
        (fun l => l.map (fun (q : Pass) => if q = p then { q with held := false, t0 := s.now } else q))) := by
  unfold execInjectionResume
  simp only [held, on, if_true, State.now_holdCount]

/-- With no correlating pass of the ply held, its held beam pass runs on. -/
theorem execInjectionResume_beam (s : State) (ply cycles : Nat) (p : BeamPass)
    (noPass : s.pass.passes.find? (fun p => p.ply == ply && p.held) = none)
    (held : s.beam.passes.find? (fun p => p.ply == ply && p.held) = some p)
    (on : s.plyOn (plyBody (s.structAt p.last) ply) = true) :
    execInjectionResume ply cycles s =
      .next (let v := s.holdCount (plyBody (s.structAt p.last) ply) cycles
        { v with beam := { v.beam with
          passes := v.beam.passes.map (fun (q : BeamPass) => if q = p then { q with held := false, t0 := s.now } else q) } }) := by
  unfold execInjectionResume
  simp only [noPass, held, on, if_true, State.now_holdCount]

/-- Settles O6: each command takes the branch of the section's power state, or of the pass that is held; what a section's move leaves gives
the frames. -/
theorem sectionPower : Obligations.SectionPower := by
  refine ⟨?testPower, ?powerGood, ?timeout, ?lost, ?drained, ?resumePass, ?resumeBeam⟩
  case testPower => exact fun s S on hS => ⟨_, execTestPower_section s S on hS, rfl, (HighRegs.testPower s S on).1⟩
  case powerGood =>
    exact fun s S hS powering => ⟨_, execSectionPowerGood_powering s S hS powering, rfl, (HighRegs.powerGood (s.zeroCells S) S).1⟩
  case timeout => exact fun s S hS powering => ⟨_, execSectionPowerTimeout_powering s S hS powering, rfl⟩
  case lost => exact fun s S hS powered => ⟨_, execPowerGoodLost_powered s S hS powered, rfl⟩
  case drained => exact fun s S hS draining => ⟨_, execSectionDrained_draining s S hS draining, rfl, (HighRegs.drained s S).1⟩
  case resumePass => exact fun s ply cycles p held on => ⟨_, execInjectionResume_pass s ply cycles p held on, rfl⟩
  case resumeBeam => exact fun s ply cycles p noPass held on => ⟨_, execInjectionResume_beam s ply cycles p noPass held on, rfl⟩

end Sys2Proof.Machine

namespace Sys2Proof.Machine

/-! ## Fox: batches, intervals and tables (R164, R165, R166, R169, R171)

Each command of Fox by the state it finds. The order in which the errors of a batch are looked for, and that discarded entries are counted
as TABLE_COMPLETE replaces them, are the model's reading (notes/assumptions/22.md). -/

/-- A SUBMIT with no batch pending takes the address and sets PENDING. -/
theorem execFoxSubmit_free (s : State) (free : s.is R.FOX_STATUS_PENDING = false) :
    execFoxSubmit s =
      .next ({ s with fox := { s.fox with batch := s.get R.FOX_BATCH_ADDR_ADDR / 64 * 64 } }.put R.FOX_STATUS_PENDING 1) :=
  if_neg (by simp [free])

/-- What the check of the pending batch makes of a machine whose PENDING has been cleared: the first error that its bytes show refuses it. -/
def State.foxChecked (s : State) (ext : List Byte) : State :=
  let h := s.storeRead 34 s.fox.batch 32 ext
  let n := fld h.data 12 2
  let r := h.st.storeRead 34 (s.fox.batch + 32) (8 + 48 * n) (ext.drop 32)
  let b := h.data ++ r.data
  if h.status ≠ stOk ∨ h.poisoned = true then h.st.foxRefuse 7
  else if n = 0 ∨ 4096 < n then h.st.foxRefuse 2
  else if r.status ≠ stOk ∨ r.poisoned = true then r.st.foxRefuse 7
  else if r.st.foxErr b = 0 then (r.st.foxAccept b r.st.foxU).mirrorBatch b
  else r.st.foxRefuse (r.st.foxErr b)

/-- An answer that is next whichever way a test goes is next of the state that the test gives. -/
theorem next_ite {c : Prop} [Decidable c] {a b : State} {o : Out} (h : o = .next b) :
    (if c then .next a else o) = .next (if c then a else b) := by
  rw [h]
  split <;> rfl

theorem execBatchChecked_pending (s : State) (ext : List Byte) (t : Nat) (pending : (s.upTo t).is R.FOX_STATUS_PENDING = true) :
    execBatchChecked ext t s = .next (((s.upTo t).put R.FOX_STATUS_PENDING 0).foxChecked ext) := by
  have busy : ¬ (!(s.upTo t).is R.FOX_STATUS_PENDING) = true := by simp [pending]
  unfold execBatchChecked State.foxChecked
  refine (if_neg busy).trans ?_
  exact next_ite (next_ite (next_ite rfl))

theorem execFoxClear_stopped (s : State) (stopped : s.draftRuns = false) :
    execFoxClear s = .next { s with fox := { s.fox with models := [] } } :=
  congrArg Host.Outcome.next (if_neg (by simp [stopped]))

@[simp] theorem State.foxNext_upTo (s : State) (t : Nat) : (s.upTo t).foxNext = s.foxNext := rfl

/-- In RUNNING and STOPPING the next interval comes into use, with its table where Fox is enabled. -/
theorem execIntervalInUse_running (s : State) (late : List Nat) (t : Nat) (running : s.dState = 4 ∨ s.dState = 5) :
    execIntervalInUse late t s =
      .next (if (s.upTo t).is R.FOX_CTL_ENABLE then (s.upTo t).foxInUse late s.foxNext else (s.upTo t).foxMark s.foxNext) := by
  rw [← s.foxNext_upTo t]
  exact if_neg (not_not.mpr running)

/-- The tables before it complete, an interval's table is filled for the slots it lacks. -/
theorem execTableComplete_due (s : State) (v : Nat) (d : FoxTable) (held : s.fox.tables.find? (fun d => d.n == v) = some d)
    (due : s.fox.tables.any (fun x => x.n + 1 == v && !(s.foxTodo x).isEmpty) = false) :
    execTableComplete v s =
      .next (((s.foxPut { (s.foxTodo d).foldl (fun a x => s.foxCompute x a) d with redo := [] }).bump R.FOX_RECOMPUTES_COUNT
        (d.redo.length * fineChannels s.draft.struct)).foxRun) := by
  unfold execTableComplete
  simp only [held]
  exact if_neg (by simp [due])

/-- Settles O7: each command takes the branch of PENDING, of the Draft's state and of the tables held; SUBMIT and the pop are read back
through the register they write. -/
theorem foxCommands : Obligations.FoxCommands := by
  refine ⟨?submit, ?checked, ?clear, ?inUse, ?table, ?pop⟩
  case submit => exact fun s free => ⟨_, execFoxSubmit_free s free, State.get_put_same _ _ _, rfl, rfl, rfl, rfl⟩
  case checked => exact fun s ext t pending => ⟨_, execBatchChecked_pending s ext t pending, rfl⟩
  case clear => exact fun s stopped => ⟨_, execFoxClear_stopped s stopped, rfl⟩
  case inUse => exact fun s late t running => ⟨_, execIntervalInUse_running s late t running, rfl⟩
  case table => exact fun s v d held due => ⟨_, execTableComplete_due s v d held due, rfl⟩
  case pop => exact fun s => ⟨_, rfl, rfl, State.get_put_same _ _ _, rfl⟩

end Sys2Proof.Machine

namespace Sys2Proof.Machine

/-! ## Capture: taps, streams, frames and retries (R172, R189, R368, R394, R404, R405)

Each command by the unit, the stream or the queue it finds. What a retry does at the head of a stream (notes/assumptions/101.md) and for a
page (notes/assumptions/23.md), and that a silent side skips no frame (notes/assumptions/49.md), are the model's choices. -/

@[simp] theorem State.unit_upTo (s : State) (t u : Nat) : (s.upTo t).unit u = s.unit u := rfl
@[simp] theorem State.stream_upTo (s : State) (t k : Nat) : (s.upTo t).stream k = s.stream k := rfl
@[simp] theorem State.capT_upTo (s : State) (t : Nat) : (s.upTo t).capT = s.capT := rfl
@[simp] theorem State.capStreams_upTo (s : State) (t : Nat) : (s.upTo t).capStreams = s.capStreams := rfl
@[simp] theorem State.silent_upTo (s : State) (t : Nat) : (s.upTo t).silent = s.silent := rfl

/-- A live tap that has its sample, in a span that no STOP has cut off, takes it into its unit. -/
theorem execTapSample_value (s : State) (k t : Nat) (c : TapCfg) (r : List TapCfg) (v : Int) (cfgs : (s.unit k).cfgs = c :: r)
    (runs : s.cap.run = true) (live : c.live = true) (inTime : ∀ e, s.draft.stopSpan = some e → (s.unit k).n / s.capT ≤ e)
    (value : (s.upTo t).tapValue c (s.unit k).n = some v) :
    execTapSample k t s = .next ((s.upTo t).tapStep k c v).capPrune := by
  unfold execTapSample
  cases stop : s.draft.stopSpan with
  | none => simp [cfgs, runs, live, value, stop]
  | some e =>
    have notPast : ¬ e < (s.unit k).n / s.capT := Nat.not_lt.mpr (inTime e stop)
    simp [cfgs, runs, live, value, stop, notPast]

theorem execCapWptrAdvance_running (s : State) (k t : Nat) (running : k ∈ s.capStreams) :
    execCapWptrAdvance k t s = .next (((s.upTo t).put1 R.CAP_WPTR_OFFSET k (s.stream k).off).drain k) := by
  have listed : ¬ (!(s.upTo t).capStreams.contains k) = true := by simp [running]
  exact if_neg listed

/-- The capture frame of the records at the head of stream `k`'s queue, the first of which is `f`, as item `item` of its destination. -/
def State.captureFrame (s : State) (k : Nat) (f : Nat × Nat × Nat × List Byte) (recs : List (Nat × Nat × Nat × List Byte))
    (item : Nat) : OutFrame :=
  ⟨destSrc s.draft.struct f.2.2.1, 0x04, f.2.1, true, 0, recs.length, f.1 % 2 ^ 56 + k * 2 ^ 56, recs.flatMap (·.2.2.2), 0, item,
    destHanks (destBody s.draft.struct f.2.2.1)⟩

/-- A frame that is full or overdue leaves for a hank destination that the structure still has. -/
theorem execCaptureFrameSend_due (s : State) (k t : Nat) (f : Nat × Nat × Nat × List Byte) (r : List (Nat × Nat × Nat × List Byte))
    (queued : (s.stream k).fq = f :: r) (dest : destBody s.draft.struct f.2.2.1 ≠ [])
    (hank : destKind (destBody s.draft.struct f.2.2.1) = 0)
    (due : (frameTake f.2.2.1 8192 (f :: r)).2 ≠ [] ∨ f.2.1 + nsToT 100000 ≤ max s.now t) :
    execCaptureFrameSend k t s =
      .next ((((s.upTo t).nextItem f.2.2.1).2.setStream k { s.stream k with fq := (frameTake f.2.2.1 8192 (f :: r)).2 }).queueDest f.2.2.1
        (s.captureFrame k f (frameTake f.2.2.1 8192 (f :: r)).1 ((s.upTo t).nextItem f.2.2.1).1)) := by
  have notEarly : ¬ ((frameTake f.2.2.1 8192 (f :: r)).2.isEmpty = true ∧ (s.upTo t).now < f.2.1 + nsToT 100000) := by
    rintro ⟨whole, early⟩
    rcases due with full | overdue
    · exact full (List.isEmpty_iff.mp whole)
    · exact absurd early (Nat.not_lt.mpr overdue)
  have routed : ¬ ((destBody s.draft.struct f.2.2.1).isEmpty = true ∨ destKind (destBody s.draft.struct f.2.2.1) ≠ 0) := by
    simp [dest, hank]
  unfold execCaptureFrameSend
  simp only [State.stream_upTo, queued]
  exact (if_neg notEarly).trans (if_neg routed)

/-- A side that is not silent skips the stream's queued records and frames once one of its queue has waited 1 ms. -/
theorem execFrameSkip_overdue (s : State) (k t : Nat) (speaks : s.silent = false)
    (overdue : (s.stream k).fq.any (fun f => decide (f.2.1 + nsToT 1000000 ≤ max s.now t)) = true) :
    execFrameSkip k t s =
      .next (let waiting := s.frames.destQ.flatMap (fun q => q.2.filter (capFrame k))
        let q := (s.frames.destQ.map (fun (q : Nat × List OutFrame) => (q.1, q.2.filter (fun f => !capFrame k f)))).filter
          (fun (q : Nat × List OutFrame) => !q.2.isEmpty)
        ((({ s.upTo t with frames := { s.frames with destQ := q } } : State).setStream k { s.stream k with fq := [] }).bump1
          R.CAP_LOSS_FRAME_SKIP k ((s.stream k).fq.length + sumN waiting (fun f => f.count))).trigEvt R.CAP_EVT_FRAME_SKIP k) := by
  have waited : ∀ framed : Bool, ¬ (!((s.stream k).fq.any (fun f => decide (f.2.1 + nsToT 1000000 ≤ max s.now t)) || framed)) = true := by
    intro framed
    rw [overdue, Bool.true_or]
    decide
  have loud : ¬ (s.upTo t).silent = true := by simp [speaks]
  unfold execFrameSkip
  exact if_neg (not_or.mpr ⟨loud, waited _⟩)

theorem execRecordRetry_blocked (s : State) (k t : Nat) (hk : k < 16) (blocked : (s.stream k).blocked = true) :
    execRecordRetry k t s = .next (((s.upTo t).setStream k { s.stream k with blocked := false }).drain k) := by
  unfold execRecordRetry
  exact (if_pos hk).trans (if_pos blocked)

/-- The retry of a page header that waits is BEAM_PAGE_HEADER at the instant reached. -/
theorem execRecordRetry_page (s : State) (t : Nat) (waits : s.beam.retry.contains 65536 = true) :
    execRecordRetry 16 t s = execBeamPageHeader t (s.upTo t) := by
  unfold execRecordRetry
  exact (if_neg (by decide)).trans ((if_pos rfl).trans (if_pos waits))

/-- The retry of a destination that waits is RETRACTION_SEND of up to 128 records at the instant reached. -/
theorem execRecordRetry_dest (s : State) (d t : Nat) (waits : s.beam.retry.contains d = true) :
    execRecordRetry (17 + d) t s = execRetractionSend d 128 t (s.upTo t) := by
  unfold execRecordRetry
  rw [Nat.add_sub_cancel_left]
  exact (if_neg (by omega)).trans ((if_neg (by omega)).trans (if_pos waits))

/-- Settles O31: each command takes the branch of the tap, stream, queue or retry that it finds. -/
theorem captureCommands : Obligations.CaptureCommands := by
  refine ⟨?sample, ?wptr, ?send, ?skip, ?blocked, ?page, ?dest⟩
  case sample =>
    exact fun s k t c r v cfgs runs live inTime value => ⟨_, execTapSample_value s k t c r v cfgs runs live inTime value, rfl⟩
  case wptr => exact fun s k t running => ⟨_, execCapWptrAdvance_running s k t running, rfl⟩
  case send => exact fun s k t f r queued dest hank due => ⟨_, execCaptureFrameSend_due s k t f r queued dest hank due, rfl⟩
  case skip => exact fun s k t speaks overdue => ⟨_, execFrameSkip_overdue s k t speaks overdue, rfl⟩
  case blocked => exact fun s k t hk blocked => ⟨_, execRecordRetry_blocked s k t hk blocked, rfl⟩
  case page => exact fun s t waits => execRecordRetry_page s t waits
  case dest => exact fun s d t waits => execRecordRetry_dest s d t waits

end Sys2Proof.Machine

namespace Sys2Proof.Machine

/-! ## Beams: passes, steering builds and page headers (R180, R182, R184, R189)

Each command by the pass, the build or the page it finds. That a header is dated as it is written, that the records owed leave inside
BEAM_COMPLETE, that a frame is counted at its header, and that a refused header loses a beam-block page and repeats a retraction page, are the
model's reading (notes/assumptions/23.md). -/

@[simp] theorem State.beam_upTo (s : State) (t : Nat) : (s.upTo t).beam = s.beam := rfl
@[simp] theorem State.plyOn_upTo (s : State) (t : Nat) (b : List Byte) : (s.upTo t).plyOn b = s.plyOn b := rfl

@[simp] theorem State.buildLate_upTo (s : State) (t ply last : Nat) : (s.upTo t).buildLate ply last = s.buildLate ply last := rfl
@[simp] theorem State.buildLate_setBeam (s : State) (p q : BeamPass) (ply last : Nat) :
    (s.setBeam p q).buildLate ply last = s.buildLate ply last := rfl
@[simp] theorem State.buildLate_weightHold (s : State) (b : List Byte) (cycles ply last : Nat) :
    (s.weightHold b cycles).buildLate ply last = s.buildLate ply last := by
  unfold State.buildLate
  rw [weightHold_beam]

/-- What the start of a ply's pass leaves: its operands read, its first weights loaded and, where its span is final, its records owed. -/
def State.beamStarted (s : State) (l : List Item) (ply : Nat) (p : BeamPass) : State :=
  let ops := s.beamOperands l p
  let q := { ops.1 with
    state := if (plyBeams l ply).isEmpty then 2 else 1, spec := !ops.2.isFinal p.last, t0 := ops.2.now, runs := [] }
  let v := ((ops.2.setBeam p q).loadShadow l q 0).weightBoundary l q 0
  (if q.spec then v else v.owe (v.passOwes l q (fun _ => 1))).prefetchBeam ply

section Start

variable {s : State} {ply t : Nat} {p : BeamPass}

/-- A pass that may start, and neither waits nor is held, is not passed over. -/
theorem not_startBlocked (may : (s.upTo t).beamMayStart (s.structAt p.last) p = true) (fresh : p.waited = false) (free : p.held = false) :
    ¬ (!(s.upTo t).beamMayStart ((s.upTo t).structAt p.last) p || p.waited || p.held) = true := by
  simp [may, fresh, free]

variable (queued : s.beam.passes.find? (fun p => p.ply == ply && p.state == 0) = some p)
  (may : (s.upTo t).beamMayStart (s.structAt p.last) p = true) (fresh : p.waited = false) (free : p.held = false)
include queued may fresh free

/-- With its matrix built and its sections ON, the oldest queued pass starts. -/
theorem execBeamPassStart_ready (built : s.buildLate ply p.last = false) (on : s.plyOn (plyBody (s.structAt p.last) ply) = true) :
    execBeamPassStart ply t s = .next ((s.upTo t).beamStarted (s.structAt p.last) ply p) := by
  have notLate : ¬ (s.upTo t).buildLate ply p.last = true := by simp [built]
  have notOff : ¬ (!(s.upTo t).plyOn (plyBody ((s.upTo t).structAt p.last) ply)) = true := by simp [on]
  unfold execBeamPassStart
  simp only [State.beam_upTo, queued]
  exact (if_neg (not_startBlocked may fresh free)).trans ((if_neg notLate).trans (if_neg notOff))

/-- While its matrix is being built the pass waits, with the hold noted on its sections and event 0x0D1. -/
theorem execBeamPassStart_late (late : s.buildLate ply p.last = true) :
    execBeamPassStart ply t s =
      .next ((((s.upTo t).setBeam p { p with waited := true, heldAt := max s.now t }).holdNote
        (plyBody (s.structAt p.last) ply)).beamEvt 1) := by
  unfold execBeamPassStart
  simp only [State.beam_upTo, queued]
  exact (if_neg (not_startBlocked may fresh free)).trans (if_pos late)

end Start

/-- The beams of a ply that its pass has still to complete. -/
def BeamPass.todo (p : BeamPass) (l : List Item) (ply : Nat) : List Nat :=
  ((plyBeams l ply).map (·.idx)).filter (fun b => !p.sums.any (fun x => x.1 == b))

/-- What the completion of a beam of a ply's pass leaves: its sums kept, its blocks sent behind the records that go before them and, after the
ply's last beam, the injection ended. -/
def State.beamCompleted (s : State) (l : List Item) (ply beam : Nat) (p : BeamPass) : State :=
  let ys := s.beamSum l p beam
  let tag := s.routeTag (beamTag beam) p.last
  let bl := s.beamBlocks l p beam (2 * b2n p.spec + 4 * b2n tag) ys
  let last := (p.todo l ply).length == 1
  let q := { p with
    sums := p.sums ++ [(beam, ys)], data := p.data ++ bl.1.flatMap (·.2), out := true
    wins := p.wins ++ [(beam, Tab.get (0, 0) s.beam.windows (winKey beam p.chan))], state := if last then 2 else 1 }
  let s2 := (if tag then bl.2.useTag (beamTag beam) p.last else bl.2).setBeam p q
  let s3 := if s2.isFinal p.last then s2 else
    { s2 with beam := { s2.beam with early := Tab.set false s2.beam.early (earlyKey p.span p.chan beam) true } }
  let v := ((s3.tapBeam p (tOf l) beam ys).owedAhead (bmDest (beamBody l beam)) p.span).emitBeam l p beam bl.1
  if last then v.beamInjected l p else v

/-- The lowest beam that a running pass has still to complete is completed, its sections ON. -/
theorem execBeamComplete_next (s : State) (ply beam t : Nat) (p : BeamPass)
    (running : s.beam.passes.find? (fun p => p.ply == ply && p.state == 1) = some p)
    (listed : (p.todo (s.structAt p.last) ply).contains beam = true)
    (lowest : (p.todo (s.structAt p.last) ply).any (fun b => decide (b < beam)) = false) (free : p.held = false)
    (on : ((s.upTo t).lateOperands (s.structAt p.last) 4 p.span p.chan p.last (plySlots (s.structAt p.last) ply)).plyOn
      (plyBody (s.structAt p.last) ply) = true) :
    execBeamComplete ply beam t s =
      .next (((s.upTo t).lateOperands (s.structAt p.last) 4 p.span p.chan p.last (plySlots (s.structAt p.last) ply)).beamCompleted
        (s.structAt p.last) ply beam p) := by
  have goes : ¬ (!(p.todo (s.structAt p.last) ply).contains beam || (p.todo (s.structAt p.last) ply).any (fun b => decide (b < beam)) ||
      p.held || !((s.upTo t).lateOperands (s.structAt p.last) 4 p.span p.chan p.last (plySlots (s.structAt p.last) ply)).plyOn
        (plyBody (s.structAt p.last) ply)) = true := by
    rw [listed, lowest, free, on]
    decide
  unfold execBeamComplete
  simp only [State.beam_upTo, running]
  exact if_neg goes

/-- What the end of a pass's output leaves: its digest sent, its sum buffer free and the pass gone, or done where its span is not final. -/
def State.beamEmitted (s : State) (p : BeamPass) : State :=
  let s1 := (s.digest p.ply p.chan p.span (s.itemInStep (p.span - 1)) p.data).releaseBeams (s.structAt p.last) p
  let q := { p with state := 3, ops := [], sums := [], data := [] }
  (if s1.isFinal p.last then { s1 with beam := { s1.beam with passes := s1.beam.passes.erase p } } else s1.setBeam p q).sectionsMove

theorem execBeamPassEmitted_left (s : State) (ply : Nat) (p : BeamPass)
    (emitting : s.beam.passes.find? (fun p => p.ply == ply && p.state == 2) = some p)
    (left : (!s.silent && s.beamWaits (s.structAt p.last) p) = false) :
    execBeamPassEmitted ply s = .next (s.beamEmitted p) := by
  have notWaiting : ¬ (!s.silent && s.beamWaits (s.structAt p.last) p) = true := by simp [left]
  unfold execBeamPassEmitted
  simp only [emitting]
  exact if_neg notWaiting

/-- A build of a steering matrix ended: the matrix is there. -/
def State.buildEnded (s : State) (m : SteerMatrix) : State :=
  { s with beam := { s.beam with builds := s.beam.builds.erase m, matrices := s.beam.matrices ++ [m] } }

section Build

variable {s : State} {ply cycles : Nat} {m : SteerMatrix}
  (building : s.beam.builds.find? (fun b => b.ply == ply) = some m)
include building

/-- No pass of the ply waits for its matrix. -/
theorem execSteeringBuildDone_unawaited (unawaited : s.beam.passes.find? (fun p => p.ply == ply && p.waited && p.state == 0) = none) :
    execSteeringBuildDone ply cycles s = .next (s.buildEnded m) := by
  unfold execSteeringBuildDone
  simp only [building, unawaited]
  rfl

variable {p : BeamPass} (waiting : s.beam.passes.find? (fun p => p.ply == ply && p.waited && p.state == 0) = some p)
include waiting

/-- The pass that waits needs another build yet. -/
theorem execSteeringBuildDone_late (late : (s.buildEnded m).buildLate ply p.last = true) :
    execSteeringBuildDone ply cycles s = .next (s.buildEnded m) := by
  unfold execSteeringBuildDone
  simp only [building, waiting]
  exact if_pos late

/-- The pass that waits has its matrix: it waits no more, and the cycles of its wait are counted. -/
theorem execSteeringBuildDone_ready (ready : (s.buildEnded m).buildLate ply p.last = false) :
    execSteeringBuildDone ply cycles s =
      .next (((s.buildEnded m).setBeam p { p with waited := false }).weightHold (plyBody (s.structAt p.last) ply) cycles) := by
  have notLate : ¬ (s.buildEnded m).buildLate ply p.last = true := by simp [ready]
  unfold execSteeringBuildDone
  simp only [building, waiting]
  exact if_neg notLate

end Build

/-- The end of a ply's build, by the pass that waits for it: the build's matrix is kept, and the pass waits no more unless another build that
it needs is under way. -/
theorem execSteeringBuildDone_completes (s : State) (ply cycles : Nat) (m : SteerMatrix)
    (building : s.beam.builds.find? (fun b => b.ply == ply) = some m) :
    Completes (execSteeringBuildDone ply cycles s) fun u =>
      u.beam.builds = s.beam.builds.erase m ∧ u.beam.matrices = s.beam.matrices ++ [m] ∧
        ((s.beam.passes.find? (fun p => p.ply == ply && p.waited && p.state == 0) = none ∧ u.beam.passes = s.beam.passes) ∨
          ∃ p, s.beam.passes.find? (fun p => p.ply == ply && p.waited && p.state == 0) = some p ∧
            u.beam.passes = if u.buildLate ply p.last then s.beam.passes
              else updBeam (· == p) (fun _ => { p with waited := false }) s.beam.passes) := by
  cases waiting : s.beam.passes.find? (fun p => p.ply == ply && p.waited && p.state == 0) with
  | none => exact ⟨_, execSteeringBuildDone_unawaited building waiting, rfl, rfl, .inl ⟨rfl, rfl⟩⟩
  | some p =>
    cases late : (s.buildEnded m).buildLate ply p.last with
    | true => exact ⟨_, execSteeringBuildDone_late building waiting late, rfl, rfl, .inr ⟨p, rfl, (if_pos late).symm⟩⟩
    | false =>
      have notLate : ¬ (s.buildEnded m).buildLate ply p.last = true := by simp [late]
      refine ⟨_, execSteeringBuildDone_ready building waiting late, ?_⟩
      simp only [weightHold_beam, State.buildLate_weightHold, State.buildLate_setBeam]
      exact ⟨rfl, rfl, .inr ⟨p, rfl, (if_neg notLate).symm⟩⟩

/-- What the write of the header of page `p` leaves, `r` being the pages behind it: a written header makes the page one that its reader sees;
a refused one loses a beam-block page (PTYPE 1) and leaves any other for the next try. -/
def State.pageHeaded (s : State) (p : BeamPage) (r : List BeamPage) : State :=
  let b := padTo 60 (p.hdr ++ leBytes 8 s.now)
  let w := s.storeWrite 8 p.addr (b ++ leBytes 4 (crc32c b))
  let v := if byteAt p.hdr 0 = 1 then w.1 else w.1.noteRetry 8 p.addr 64 (w.2 != stOk)
  if w.2 = stOk then
    let a : State := { v with beam := { v.beam with
      pages := r, shown := Tab.set 0 v.beam.shown p.dest (p.pseq + 1), retry := v.beam.retry.filter (· != 65536) } }
    (if byteAt p.hdr 0 = 1 then a.bump R.BEAM_FRAMES_COUNT 1 else a).itemPages p.dest p.item
  else if byteAt p.hdr 0 = 1 then
    (({ v with beam := { v.beam with pages := r } }.bump R.BEAM_STORE_LOST_COUNT 1).beamEvt 3).itemPages p.dest p.item
  else { v with beam := { v.beam with retry := 65536 :: v.beam.retry.filter (· != 65536) } }

theorem execBeamPageHeader_oldest (s : State) (t : Nat) (p : BeamPage) (r : List BeamPage) (oldest : s.beam.pages = p :: r) :
    execBeamPageHeader t s = .next ((s.upTo t).pageHeaded p r) := by
  unfold execBeamPageHeader
  simp only [State.beam_upTo, oldest]
  exact next_ite (next_ite rfl)

/-- Settles O9: each command takes the branch of the oldest pass, build or page of its kind, and of how far that is. -/
theorem beamCommands : Obligations.BeamCommands := by
  refine ⟨?start, ?wait, ?complete, ?emitted, ?build, ?header⟩
  case start =>
    exact fun s ply t p queued may fresh free built on => ⟨_, execBeamPassStart_ready queued may fresh free built on, rfl⟩
  case wait => exact fun s ply t p queued may fresh free late => ⟨_, execBeamPassStart_late queued may fresh free late, rfl⟩
  case complete =>
    intro s ply beam t p running l s0 todo listed lowest free on
    exact ⟨_, execBeamComplete_next s ply beam t p running listed lowest free on, rfl⟩
  case emitted => exact fun s ply p emitting left => ⟨_, execBeamPassEmitted_left s ply p emitting left, rfl⟩
  case build => exact fun s ply cycles m building => execSteeringBuildDone_completes s ply cycles m building
  case header => exact fun s t p r oldest => ⟨_, execBeamPageHeader_oldest s t p r oldest, rfl⟩

end Sys2Proof.Machine

namespace Sys2Proof.Machine

/-! ## Issue of a spindle's word (R201 to R203, R209, R215, R226)

What a command of a spindle instruction does by what the spindle finds at its PC. -/

/-- The spindle takes up the word at its PC: it runs, no restart and no stall holds it, and it has positions. -/
def SCtx.Ready (c : SCtx) : Prop := c.sp.run = true ∧ c.sp.restart = none ∧ c.sp.stall = 0 ∧ c.slots ≠ []

theorem SCtx.Ready.not_idle {c : SCtx} (ready : c.Ready) :
    ¬ (!c.sp.run || c.sp.restart.isSome || c.sp.stall != 0 || c.slots.isEmpty) = true := by
  obtain ⟨run, restart, stall, slots⟩ := ready
  simp [run, restart, stall, slots]

/-- An opcode that R209 does not define faults with code 1 under the command of any instruction. -/
theorem State.spinRun_undefined {s : State} {n t : Nat} (op : Nat) (f : State → SCtx → State) (ready : ((s.upTo t).spinCtx n).Ready)
    (undefined : spinDefined (((s.upTo t).spinCtx n).w / 67108864 % 64) = false) :
    s.spinRun n t op f = (s.upTo t).spinFault n 1 :=
  (if_neg ready.not_idle).trans (if_pos (by simp [undefined]))

/-- A format C instruction other than NOP faults with code 4 under a repeat (R215). -/
theorem State.spinRun_repeated {s : State} {n t op : Nat} (f : State → SCtx → State) (ready : ((s.upTo t).spinCtx n).Ready)
    (opcode : ((s.upTo t).spinCtx n).w / 67108864 % 64 = op) (defined : spinDefined op = true)
    (repeats : ((s.upTo t).spinCtx n).sp.left ≠ 0) (formC : 1 ≤ op ∧ op ≤ 7) :
    s.spinRun n t op f = (s.upTo t).spinFault n 4 := by
  subst opcode
  exact (if_neg ready.not_idle).trans ((if_neg (by simp [defined])).trans ((if_neg (not_not.mpr rfl)).trans (if_pos ⟨repeats, formC⟩)))

/-- An issued instruction whose meaning completes without a saturation or a free value changes its spindle and nothing else. -/
theorem State.spinExec_completes {s : State} {n t op : Nat} {sem : SCtx → SRes} {sp : Spindle} {next : Option Nat}
    (issued : s.issues n t op) (defined : spinDefined op = true) (done : sem ((s.upTo t).spinCtx n) = .done sp 0 next false) :
    Completes (.next (s.spinExec n t op sem)) fun u => u = (s.upTo t).setSpindle n (((s.upTo t).spinCtx n).goOn sp next) := by
  rw [State.spinExec_issues s n t op sem issued defined, done, State.applySem_ok]
  exact ⟨_, rfl, rfl⟩

/-- An issued instruction whose meaning is a fault. -/
theorem State.spinExec_fault {s : State} {n t op : Nat} {sem : SCtx → SRes} {code : Nat}
    (issued : s.issues n t op) (defined : spinDefined op = true) (faults : sem ((s.upTo t).spinCtx n) = .fault code) :
    s.spinExec n t op sem = (s.upTo t).spinFault n code := by
  rw [State.spinExec_issues s n t op sem issued defined, faults]
  rfl

/-- Settles O11: where BLK and EVT issue, their branch of a reserved field of zero runs. -/
theorem spindleBlkEvt : Obligations.SpindleBlkEvt := by
  refine ⟨?blk, ?evt⟩
  case blk =>
    intro s n t issued clear
    refine ⟨_, rfl, congrArg State.capPull ?_⟩
    exact (State.spinRun_issues s n t 6 _ issued rfl).trans (if_neg (not_not.mpr clear))
  case evt =>
    intro s n t issued clear
    refine ⟨_, rfl, ?_⟩
    exact (State.spinRun_issues s n t 7 _ issued rfl).trans (if_neg (not_not.mpr clear))

end Sys2Proof.Machine

namespace Sys2Proof.Machine

/-! ## The meanings of the control, scalar and memory instructions (R209 to R211, R213)

One equation for each form, its reserved fields zero. -/

section Meanings

variable {c : SCtx}

theorem semNop_clear (sub : c.sub = 0) : semNop c = .ok c.sp := if_neg (not_not.mpr sub)

theorem semRpt_clear (sub : c.sub = 0) :
    semRpt c = .ok { c.sp with left := (if bit c.w 18 then c.sp.s (c.b 22 4) % 65536 else c.b 0 16) + 1, iter := 0 } :=
  if_neg (not_not.mpr sub)

/-- A jump whose reserved bits are zero goes by its target. -/
theorem SCtx.target_clear (f : Nat → SRes) (sub : c.sub = 0) (reserved : c.b 12 4 = 0) : c.target f = f (c.b 0 12) :=
  if_neg (by simp [sub, reserved])

theorem semJmp_clear (sub : c.sub = 0) (reserved : c.b 12 4 = 0) : semJmp c = .done c.sp 0 (some (c.b 0 12)) false :=
  SCtx.target_clear _ sub reserved

theorem semJal_clear (sub : c.sub = 0) (reserved : c.b 12 4 = 0) :
    semJal c = .done (c.sp.setS 15 ((c.sp.pc + 1) % 4096)) 0 (some (c.b 0 12)) false :=
  SCtx.target_clear _ sub reserved

theorem semJr_clear (sub : c.sub = 0) : semJr c = .done c.sp 0 (some (c.sp.s (c.b 22 4) % 4096)) false := if_neg (not_not.mpr sub)

section Branch

variable (sub : c.sub = 0) (reserved : c.b 12 4 = 0)
include sub reserved

theorem semBr_zero (cond : c.b 19 3 = 0) :
    semBr c = .done c.sp 0 (if sgn 32 (c.sp.s (c.b 22 4)) = 0 then some (c.b 0 12) else none) false := by
  simp only [semBr, SCtx.target_clear _ sub reserved, cond]

theorem semBr_nonzero (cond : c.b 19 3 = 1) :
    semBr c = .done c.sp 0 (if sgn 32 (c.sp.s (c.b 22 4)) ≠ 0 then some (c.b 0 12) else none) false := by
  simp only [semBr, SCtx.target_clear _ sub reserved, cond]

theorem semBr_negative (cond : c.b 19 3 = 2) :
    semBr c = .done c.sp 0 (if sgn 32 (c.sp.s (c.b 22 4)) < 0 then some (c.b 0 12) else none) false := by
  simp only [semBr, SCtx.target_clear _ sub reserved, cond]

theorem semBr_nonnegative (cond : c.b 19 3 = 3) :
    semBr c = .done c.sp 0 (if 0 ≤ sgn 32 (c.sp.s (c.b 22 4)) then some (c.b 0 12) else none) false := by
  simp only [semBr, SCtx.target_clear _ sub reserved, cond]

end Branch

section Salu

variable (reserved : c.b 0 12 = 0)
include reserved

theorem semSalu_add (sub : c.sub = 0) : semSalu c = .ok (c.sp.setS (c.b 22 4) (c.sa + c.sb)) := by
  simp [semSalu, reserved, sub]

theorem semSalu_sub (sub : c.sub = 1) : semSalu c = .ok (c.sp.setS (c.b 22 4) (c.sa + 4294967296 - c.sb)) := by
  simp [semSalu, reserved, sub]

theorem semSalu_and (sub : c.sub = 2) : semSalu c = .ok (c.sp.setS (c.b 22 4) (andN 32 c.sa c.sb)) := by
  simp [semSalu, reserved, sub]

theorem semSalu_or (sub : c.sub = 3) : semSalu c = .ok (c.sp.setS (c.b 22 4) (orN 32 c.sa c.sb)) := by
  simp [semSalu, reserved, sub]

theorem semSmul_clear (sub : c.sub = 0) : semSmul c = .ok (c.sp.setS (c.b 22 4) (c.sa * c.sb)) :=
  if_neg (by simp [sub, reserved])

end Salu

theorem semSalui_add (sub : c.sub = 0) : semSalui c = .ok (c.sp.setS (c.b 22 4) (usgn 32 ((c.sa : Int) + sgn 16 (c.b 0 16)))) := by
  simp only [semSalui, sub]

theorem semSalui_and (sub : c.sub = 1) : semSalui c = .ok (c.sp.setS (c.b 22 4) (andN 32 c.sa (c.b 0 16))) := by
  simp only [semSalui, sub]

theorem semSalui_or (sub : c.sub = 2) : semSalui c = .ok (c.sp.setS (c.b 22 4) (orN 32 c.sa (c.b 0 16))) := by
  simp only [semSalui, sub]

theorem semSalui_high (sub : c.sub = 3) :
    semSalui c = .ok (c.sp.setS (c.b 22 4) (c.b 0 16 * 65536 + c.sp.s (c.b 22 4) % 65536)) := by
  simp only [semSalui, sub]

theorem semSsh_left (sub : c.sub = 0) : semSsh c = .ok (c.sp.setS (c.b 22 4) (c.sa * 2 ^ c.b 0 5)) := by
  simp only [semSsh, sub]

theorem semSsh_right (sub : c.sub = 1) : semSsh c = .ok (c.sp.setS (c.b 22 4) (c.sa / 2 ^ c.b 0 5)) := by
  simp only [semSsh, sub]

theorem semSsh_arith (sub : c.sub = 2) :
    semSsh c = .ok (c.sp.setS (c.b 22 4) (usgn 32 (sgn 32 c.sa / (2 ^ c.b 0 5 : Int)))) := by
  simp only [semSsh, sub]

theorem semAset_a (sub : c.sub = 0) : semAset c = .ok (c.sp.setA (c.b 22 3) (c.sa % 2 ^ c.aw)) := by simp only [semAset, sub]
theorem semAset_q (sub : c.sub = 1) : semAset c = .ok (c.sp.setQ (c.b 22 3) c.sa) := by simp only [semAset, sub]
theorem semAset_m (sub : c.sub = 2) : semAset c = .ok (c.sp.setM (c.b 22 3) (c.sa % 2 ^ c.aw)) := by simp only [semAset, sub]

theorem semAget_a (sub : c.sub = 0) : semAget c = .ok (c.sp.setS (c.b 22 4) (usgn 32 (sgn c.aw (c.sp.a (c.b 18 3))))) := by
  simp only [semAget, sub]

theorem semAget_q (sub : c.sub = 1) : semAget c = .ok (c.sp.setS (c.b 22 4) (c.sp.q (c.b 18 3))) := by simp only [semAget, sub]

theorem semAget_m (sub : c.sub = 2) : semAget c = .ok (c.sp.setS (c.b 22 4) (usgn 32 (sgn c.aw (c.sp.m (c.b 18 3))))) := by
  simp only [semAget, sub]

/-- An access at an aligned address takes its effect there and updates An. -/
theorem SCtx.mem_aligned {size x : Nat} (f : Nat → Spindle) (aligned : c.addr (c.b 18 3) c.disp size = some x) :
    c.mem size f = .ok (c.update (f x) (c.b 18 3) (c.b 16 2) (c.b 13 3) size false) := by
  simp only [SCtx.mem, aligned]

/-- An access at an address that is not aligned faults with code 2. -/
theorem SCtx.mem_misaligned {size : Nat} (f : Nat → Spindle) (misaligned : c.addr (c.b 18 3) c.disp size = none) :
    c.mem size f = .fault 2 := by
  simp only [SCtx.mem, misaligned]

end Meanings

/-- Settles O12: each form issues, and its meaning is the equation of that form. -/
theorem spindleScalarResults : Obligations.SpindleScalarResults := by
  intro s n t c ends rd
  refine ⟨?nop, ?rpt, ?jmp, ?brZero, ?brNonzero, ?brNegative, ?brNonnegative, ?jal, ?jr, ?saluAdd, ?saluSub, ?saluAnd, ?saluOr,
    ?saluiAdd, ?saluiAnd, ?saluiOr, ?saluiHigh, ?sshLeft, ?sshRight, ?sshArith, ?smul, ?asetA, ?asetQ, ?asetM, ?agetA, ?agetQ, ?agetM,
    ?lds, ?sts, ?vld, ?vst⟩
  case nop => exact fun i sub => State.spinExec_completes i rfl (semNop_clear sub)
  case rpt => exact fun i sub => State.spinExec_completes i rfl (semRpt_clear sub)
  case jmp => exact fun i sub z => State.spinExec_completes i rfl (semJmp_clear sub z)
  case brZero => exact fun i sub z cond => State.spinExec_completes i rfl (semBr_zero sub z cond)
  case brNonzero => exact fun i sub z cond => State.spinExec_completes i rfl (semBr_nonzero sub z cond)
  case brNegative => exact fun i sub z cond => State.spinExec_completes i rfl (semBr_negative sub z cond)
  case brNonnegative => exact fun i sub z cond => State.spinExec_completes i rfl (semBr_nonnegative sub z cond)
  case jal => exact fun i sub z => State.spinExec_completes i rfl (semJal_clear sub z)
  case jr => exact fun i sub => State.spinExec_completes i rfl (semJr_clear sub)
  case saluAdd => exact fun i sub z => State.spinExec_completes i rfl (semSalu_add z sub)
  case saluSub => exact fun i sub z => State.spinExec_completes i rfl (semSalu_sub z sub)
  case saluAnd => exact fun i sub z => State.spinExec_completes i rfl (semSalu_and z sub)
  case saluOr => exact fun i sub z => State.spinExec_completes i rfl (semSalu_or z sub)
  case saluiAdd => exact fun i sub => State.spinExec_completes i rfl (semSalui_add sub)
  case saluiAnd => exact fun i sub => State.spinExec_completes i rfl (semSalui_and sub)
  case saluiOr => exact fun i sub => State.spinExec_completes i rfl (semSalui_or sub)
  case saluiHigh => exact fun i sub => State.spinExec_completes i rfl (semSalui_high sub)
  case sshLeft => exact fun i sub => State.spinExec_completes i rfl (semSsh_left sub)
  case sshRight => exact fun i sub => State.spinExec_completes i rfl (semSsh_right sub)
  case sshArith => exact fun i sub => State.spinExec_completes i rfl (semSsh_arith sub)
  case smul => exact fun i sub z => State.spinExec_completes i rfl (semSmul_clear z sub)
  case asetA => exact fun i sub => State.spinExec_completes i rfl (semAset_a sub)
  case asetQ => exact fun i sub => State.spinExec_completes i rfl (semAset_q sub)
  case asetM => exact fun i sub => State.spinExec_completes i rfl (semAset_m sub)
  case agetA => exact fun i sub => State.spinExec_completes i rfl (semAget_a sub)
  case agetQ => exact fun i sub => State.spinExec_completes i rfl (semAget_q sub)
  case agetM => exact fun i sub => State.spinExec_completes i rfl (semAget_m sub)
  case lds => exact fun x i aligned => State.spinExec_completes i rfl (SCtx.mem_aligned _ aligned)
  case sts => exact fun x i aligned => State.spinExec_completes i rfl (SCtx.mem_aligned _ aligned)
  case vld => exact fun x i aligned => State.spinExec_completes i rfl (SCtx.mem_aligned _ aligned)
  case vst => exact fun x i aligned => State.spinExec_completes i rfl (SCtx.mem_aligned _ aligned)

/-- Settles O13: the word faults before its command's meaning runs, or the address of LDS makes the meaning a fault. -/
theorem spindleFaults : Obligations.SpindleFaults := by
  refine ⟨?undefined, ?repeated, ?misaligned⟩
  case undefined =>
    intro s n t c run restart stall slots undefined
    exact ⟨_, rfl, State.spinRun_undefined 0 _ ⟨run, restart, stall, slots⟩ undefined⟩
  case repeated =>
    intro s n t c run restart stall slots opcode repeats
    exact ⟨_, rfl, congrArg State.capPull
      (State.spinRun_repeated _ ⟨run, restart, stall, slots⟩ opcode rfl repeats (by decide))⟩
  case misaligned =>
    intro s n t issued misaligned
    exact ⟨_, rfl, State.spinExec_fault issued rfl (SCtx.mem_misaligned _ misaligned)⟩

end Sys2Proof.Machine

namespace Sys2Proof.Machine

/-! ## Stalls, late flushes, arriving vectors and forced starts (R201, R204, R215, R225)

A stall's cycles are those of a spindle clock of 650 MHz, rounded down, which is the model's choice (notes/assumptions/31.md). -/

/-- A stalled instruction that its port or record allows is carried out, the stall counted. -/
theorem execStallResume_done {s : State} {n t : Nat} {sem : SCtx → SRes} {sp : Spindle} {sats : Nat} {next : Option Nat} {free : Bool}
    (stalled : ((s.upTo t).spinCtx n).sp.stall ≠ 0) (restart : ((s.upTo t).spinCtx n).sp.restart = none)
    (means : semOf (((s.upTo t).spinCtx n).w / 67108864 % 64) = some sem)
    (done : sem ((s.upTo t).spinCtx n) = .done sp sats next free) :
    execStallResume n t s = .next (((s.upTo t).stallCount n).applySem ((s.upTo t).spinCtx n) (.done sp sats next free)) := by
  have waits : ¬ (((s.upTo t).spinCtx n).sp.stall = 0 ∨ ((s.upTo t).spinCtx n).sp.restart.isSome = true) := by
    simp [stalled, restart]
  unfold execStallResume
  refine (if_neg waits).trans ?_
  simp only [means, done]

/-- A spindle with positions whose flush has not come 0.9 ms after the span's end is flushed as it stands, its slots excluded. -/
theorem execFlushLate_due {s : State} {n t : Nat} (run : (s.spindle n).run = true)
    (slots : spinSlots (s.structAt (s.flushNext (s.spindle n))) n ≠ [])
    (due : s.spanTime (s.flushNext (s.spindle n) + 1) + nsToT 900000 ≤ max s.now t) :
    execFlushLate n t s =
      .next (((spinSlots (s.structAt (s.flushNext (s.spindle n))) n).foldl
        (fun a x => a.exclude (s.flushNext (s.spindle n)) allChans x 2)
        ((s.upTo t).flushTally n (s.flushNext (s.spindle n)) (s.structAt (s.flushNext (s.spindle n))))).cause1
          R.SPIN_BANK_EVT_FLUSH_LATE (n / 64) 0 (0x0A0 + n / 64)) := by
  have owed : ¬ (!(s.spindle n).run || (spinSlots (s.structAt (s.flushNext (s.spindle n))) n).isEmpty ||
      decide (max s.now t < s.spanTime (s.flushNext (s.spindle n) + 1) + nsToT 900000)) = true := by
    simp only [run, List.isEmpty_eq_false_iff.mpr slots, decide_eq_false (Nat.not_lt.mpr due)]
    decide
  exact if_neg owed

/-- A vector that has come is passed over in a block given up, dropped by a full FIFO, and else enters the IN FIFO. -/
theorem execInVector_comes {s : State} {n t : Nat} (comes : (s.upTo t).inComes n = true) :
    execInVector n t s =
      .next (if (s.spindle n).inBlk < (s.spindle n).blk ∨ (s.spindle n).drops.any (fun d => d.1 == (s.spindle n).inBlk) = true then
          ((s.upTo t).inTake n).2.setSpindle n (s.inAhead n)
        else if 1024 ≤ (s.spindle n).inq.length then
          ((((s.upTo t).inTake n).2.setSpindle n
            { s.inAhead n with drops := (s.spindle n).drops ++ [((s.spindle n).inBlk, (s.spindle n).inIdx)] }).bump1
              R.SPIN_VOID_IN_DROP n 1).spinEvt R.SPIN_EVT_IN_DROP n
        else ((s.upTo t).inTake n).2.setSpindle n
          { s.inAhead n with inq := (s.spindle n).inq ++ [((s.spindle n).inBlk, ((s.upTo t).inTake n).1)] }) := by
  have here : ¬ (!(s.upTo t).inComes n) = true := by simp [comes]
  unfold execInVector
  refine (if_neg here).trans ?_
  exact next_ite (next_ite rfl)

/-- The image of a forced swap starts at its entry once local memory is filled and a vector of the next block has come. -/
theorem execForcedImageStart_came {s : State} {n t r : Nat} (restart : (s.spindle n).restart = some r) (filled : r ≤ max s.now t)
    (came : (s.spindle n).blk < (s.spindle n).inBlk ∨ (s.spindle n).inBlk = (s.spindle n).blk ∧ 0 < (s.spindle n).inIdx) :
    execForcedImageStart n t s =
      .next ((s.upTo t).setSpindle n
        { s.spindle n with restart := none, pc := ((s.spindle n).bankNo (s.activeBank n)).entry }) := by
  have starts : r ≤ (s.upTo t).now ∧ (decide ((s.spindle n).blk < (s.spindle n).inBlk) ||
      ((s.spindle n).inBlk == (s.spindle n).blk && decide (0 < (s.spindle n).inIdx))) = true := ⟨filled, by simpa using came⟩
  unfold execForcedImageStart
  simp only [show (s.upTo t).spindle n = s.spindle n from rfl, restart]
  exact if_pos starts

/-- Settles O14: each command takes the branch of the stall, of the flush owed, of the IN FIFO or of the restart that it finds. -/
theorem spindleFlow : Obligations.SpindleFlow := by
  refine ⟨?stall, ?flush, ?vector, ?start⟩
  case stall => exact fun s n t sem sp sats nx fr stalled restart means done => ⟨_, execStallResume_done stalled restart means done, rfl⟩
  case flush => exact fun s n t run slots due => ⟨_, execFlushLate_due run slots due, rfl⟩
  case vector => exact fun s n t comes => ⟨_, execInVector_comes comes, rfl⟩
  case start => exact fun s n t r restart filled came => ⟨_, execForcedImageStart_came restart filled came, rfl⟩

end Sys2Proof.Machine

namespace Sys2Proof.Machine

/-! ## Program banks, local memory and gains of a spindle (R199, R202, R223, R224, R225)

That a commit takes the FLAGS of the active bank, and that a bank which holds a patch image takes none, are the model's reading
(notes/assumptions/30.md). -/

theorem execSpinSwap_ok {s : State} {n : Nat} (ok : s.forceOk n = true) :
    execSpinSwap n s = .next (s.put1 R.SPIN_PROG_STATUS_SWAP_PENDING n 1) :=
  congrArg Host.Outcome.next (if_pos ok)

theorem execSpinSwap_refused {s : State} {n : Nat} (refused : s.forceOk n = false) : execSpinSwap n s = .next (s.spinRefuse n) :=
  congrArg Host.Outcome.next (if_neg (by simp [refused]))

theorem execSpinForceSwap_ok {s : State} {n : Nat} (t : Nat) (ok : s.forceOk n = true) :
    execSpinForceSwap n t s =
      .next (((s.upTo t).mirror 4 (leBytes 2 n ++ zeros 6 ++ leBytes 8 (s.spindle n).blk)).forceSwap n) :=
  if_pos ok

/-- A write of the active bank is refused, BUSY set. -/
theorem execSpinProgData_active {s : State} {n : Nat} (w : Nat) (active : s.get1 R.SPIN_PROG_ADDR_BANK n = s.activeBank n) :
    execSpinProgData n w s = .next ((s.put1 R.SPIN_PROG_STATUS_BUSY n 1).spinRefuse n) :=
  if_pos (.inl active)

/-- A word written to bank `b` of a spindle, at `k`. -/
def Spindle.setWord (sp : Spindle) (b k w : Nat) : Spindle :=
  sp.setBank b { sp.bankNo b with words := Tab.set 0 (sp.bankNo b).words k (w % 4294967296) }

/-- A write of the inactive bank that holds no patch image stores the word, clears VALID and advances WORD. -/
theorem execSpinProgData_inactive {s : State} {n : Nat} (w : Nat) (inactive : s.get1 R.SPIN_PROG_ADDR_BANK n ≠ s.activeBank n)
    (noPatch : (s.spindle n).swapSpan = none) :
    execSpinProgData n w s =
      .next (((s.setSpindle n ((s.spindle n).setWord (s.get1 R.SPIN_PROG_ADDR_BANK n) (s.get1 R.SPIN_PROG_ADDR_WORD n) w)).put1
        (validField (s.get1 R.SPIN_PROG_ADDR_BANK n)) n 0).wrap1 R.SPIN_PROG_ADDR_WORD n 1) :=
  if_neg (by simp [inactive, noPatch])

/-- An inactive bank `b` marked VALID with its entry word, the FLAGS those of the active bank. -/
def Spindle.commit (sp : Spindle) (b active entry : Nat) : Spindle :=
  sp.setBank b { sp.bankNo b with entry := entry % 4096, flags := (sp.bankNo active).flags, dataAt := 0, data := [] }

theorem execProgCommit_free {s : State} {n : Nat} (e : Nat) (noPatch : (s.spindle n).swapSpan = none) :
    execProgCommit n e s =
      .next (((s.put1 R.SPIN_PROG_ENTRY_ENTRY n e).setSpindle n
        ((s.spindle n).commit (1 - s.activeBank n) (s.activeBank n) e)).put1 (validField (1 - s.activeBank n)) n 1) :=
  if_neg (by simp [noPatch])

@[simp] theorem State.spindle_put1 (s : State) (f : Field) (i v n : Nat) : (s.put1 f i v).spindle n = s.spindle n := rfl
@[simp] theorem State.spindle_wrap1 (s : State) (f : Field) (i v n : Nat) : (s.wrap1 f i v).spindle n = s.spindle n := rfl

theorem Spindle.setBank_zero_bank1 (sp : Spindle) (x : ProgBank) : (sp.setBank 0 x).bank1 = sp.bank1 := rfl
theorem Spindle.setBank_one_bank0 (sp : Spindle) (x : ProgBank) : (sp.setBank 1 x).bank0 = sp.bank0 := rfl

@[simp] theorem validField_w (b : Nat) : (validField b).w = 1 := by
  unfold validField
  split <;> rfl

/-- VALID of either bank is apart from the write address of the same spindle. -/
theorem validField_key_ne_word (b n : Nat) : (validField b).key n 0 ≠ R.SPIN_PROG_ADDR_WORD.key n 0 := by
  unfold validField
  split <;> exact Field.key_ne _ _ _ _ (by decide)

/-- What a word written to bank `b` leaves. -/
theorem progWord_stored (s : State) (n b k w : Nat) :
    let u := ((s.setSpindle n ((s.spindle n).setWord b k w)).put1 (validField b) n 0).wrap1 R.SPIN_PROG_ADDR_WORD n 1
    ((u.spindle n).bankNo b).words = Tab.set 0 ((s.spindle n).bankNo b).words k (w % 4294967296) ∧
      (b = 0 → (u.spindle n).bank1 = (s.spindle n).bank1) ∧ (b = 1 → (u.spindle n).bank0 = (s.spindle n).bank0) ∧
      u.get1 (validField b) n = 0 ∧ u = { s with regs := u.regs, spin := u.spin } := by
  intro u
  have stored : u.spindle n = (s.spindle n).setWord b k w := by simp [u]
  have invalid : u.get1 (validField b) n = 0 := by
    simp [u, State.get1_wrap1_ne _ _ _ _ _ _ (validField_key_ne_word b n), Field.trunc]
  refine ⟨by rw [stored, Spindle.setWord, Spindle.bankNo_setBank], ?_, ?_, invalid, rfl⟩
  · rintro rfl
    rw [stored, Spindle.setWord, Spindle.setBank_zero_bank1]
  · rintro rfl
    rw [stored, Spindle.setWord, Spindle.setBank_one_bank0]

/-- What a commit of the inactive bank leaves. -/
theorem progCommit_stored (s : State) (n b active e : Nat) :
    let u := ((s.put1 R.SPIN_PROG_ENTRY_ENTRY n e).setSpindle n ((s.spindle n).commit b active e)).put1 (validField b) n 1
    (u.spindle n).bankNo b = { (s.spindle n).bankNo b with
        entry := e % 4096, flags := ((s.spindle n).bankNo active).flags, dataAt := 0, data := [] } ∧
      u.get1 (validField b) n = 1 ∧ u = { s with regs := u.regs, spin := u.spin } := by
  intro u
  refine ⟨?_, ?_, rfl⟩
  · simp [u, Spindle.commit]
  · simp [u, Field.trunc]

/-- A host read of local memory sends the word, on no pin that HP_EN keeps quiet, and advances the address. -/
theorem execSpinLmemData_read (s : State) (n v : Nat) :
    execSpinLmemData n v false s =
      .next { s.wrap1 R.SPIN_LMEM_ADDR_WORD n 1 with
        sent := s.sent ++ [.regRead 0 (R.SPIN_LMEM_DATA_DATA.addr + n * R.SPIN_LMEM_DATA_DATA.s1)
          (Tab.get 0 (s.spindle n).lmem (s.get1 R.SPIN_LMEM_ADDR_WORD n))] } := rfl

/-- Settles O15: each command takes the branch of the bank addressed and of the patch image held; what it writes is read back. -/
theorem spindlePrograms : Obligations.SpindlePrograms := by
  refine ⟨?swap, ?swapRefused, ?force, ?word, ?wordRefused, ?commit, ?lmemWrite, ?lmemRead, ?gain⟩
  case swap => exact fun s n ok => ⟨_, execSpinSwap_ok ok, State.get1_put1_same _ _ _ _, rfl⟩
  case swapRefused => exact fun s n refused => ⟨_, execSpinSwap_refused refused, rfl⟩
  case force => exact fun s n t ok => ⟨_, execSpinForceSwap_ok t ok, rfl⟩
  case word => exact fun s n w inactive noPatch => ⟨_, execSpinProgData_inactive w inactive noPatch, progWord_stored s n _ _ w⟩
  case wordRefused => exact fun s n w active => ⟨_, execSpinProgData_active w active, rfl⟩
  case commit => exact fun s n e noPatch => ⟨_, execProgCommit_free e noPatch, progCommit_stored s n _ _ e⟩
  case lmemWrite => exact fun s n v => ⟨_, rfl, congrArg Spindle.lmem (State.spindle_setSpindle s n _), rfl⟩
  case lmemRead => exact fun s n v => ⟨_, execSpinLmemData_read s n v, rfl, rfl⟩
  case gain => exact fun s n v => ⟨_, rfl, congrArg Spindle.gains (State.spindle_setSpindle s n _), rfl⟩

end Sys2Proof.Machine

namespace Sys2Proof.Machine

/-! ## Samples, swaps and coefficient writes of a zoom engine (R236, R241, R242)

INDEX moves on after a refused coefficient write too: R245 has it increment after each access of ZOOM_COEF_DATA. The model follows that
rule, where notes/assumptions/30.md says that a refused write leaves the address. -/

/-- A running engine takes its next coarse sample once the sample's time has come. -/
theorem execZoomSample_runs {s : State} {e t : Nat}
    (runs : s.zoomRuns (s.structAt (s.coarseSpan (Tab.get 0 s.zoom.next e))) e = true)
    (come : s.coarseTime (Tab.get 0 s.zoom.next e) ≤ max s.now t) :
    execZoomSample e t s =
      .next ((s.upTo t).zoomTake (s.structAt (s.coarseSpan (Tab.get 0 s.zoom.next e))) e (Tab.get 0 s.zoom.next e)) := by
  have due : ¬ (!s.zoomRuns (s.structAt (s.coarseSpan (Tab.get 0 s.zoom.next e))) e ||
      decide (max s.now t < s.coarseTime (Tab.get 0 s.zoom.next e))) = true := by
    simp only [runs, decide_eq_false (Nat.not_lt.mpr come)]
    decide
  exact if_neg due

/-- A running engine swaps at the output that its next coarse sample belongs to. -/
theorem execZoomSwap_runs {s : State} {e : Nat} (t : Nat)
    (runs : s.zoomRuns (s.structAt (s.coarseSpan (Tab.get 0 s.zoom.next e))) e = true) :
    execZoomSwap e t s =
      .next ((s.upTo t).zoomSwapAt (s.structAt (s.coarseSpan (Tab.get 0 s.zoom.next e))) e
        (Tab.get 0 s.zoom.next e / max 1 (zR (zoomBody (s.structAt (s.coarseSpan (Tab.get 0 s.zoom.next e))) e)))) := by
  have clocked : ¬ (!s.zoomRuns (s.structAt (s.coarseSpan (Tab.get 0 s.zoom.next e))) e) = true := by simp [runs]
  exact if_neg clocked

/-- A swap of an engine pending, its entry of the armed times `a` (0 at once, else the time and one). -/
def State.zoomArm (s : State) (e a : Nat) : State :=
  ({ s with zoom := { s.zoom with armed := Tab.set 0 s.zoom.armed e a } }).put1 R.ZOOM_STATUS_SWAP_PENDING e 1

theorem State.pending_zoomArm (s : State) (e a : Nat) : (s.zoomArm e a).get1 R.ZOOM_STATUS_SWAP_PENDING e = 1 :=
  State.get1_put1_same _ _ _ _

theorem State.armed_zoomArm (s : State) (e a : Nat) : Tab.get 0 (s.zoomArm e a).zoom.armed e = a :=
  Tab.get_set_same _ _ _ _

theorem execSwapArm_late {s : State} {e t : Nat} (late : s.get1 R.ZOOM_SWAP_TIME_TIME e < max s.now t) :
    execSwapArm e t s = .next (((s.upTo t).zoomArm e 0).put1 R.ZOOM_FLAGS_SWAP_LATE e 1) := by
  simp [execSwapArm, State.zoomArm, late]

theorem execSwapArm_ahead {s : State} {e t : Nat} (ahead : ¬ s.get1 R.ZOOM_SWAP_TIME_TIME e < max s.now t) :
    execSwapArm e t s = .next ((s.upTo t).zoomArm e (s.get1 R.ZOOM_SWAP_TIME_TIME e + 1)) := by
  simp [execSwapArm, State.zoomArm, ahead]

/-- An armed swap is pending at its time, or at once and flagged where that time is past. -/
theorem execSwapArm_completes (s : State) (e t : Nat) :
    Completes (execSwapArm e t s) fun u => u.get1 R.ZOOM_STATUS_SWAP_PENDING e = 1 ∧
      Tab.get 0 u.zoom.armed e = (if s.get1 R.ZOOM_SWAP_TIME_TIME e < max s.now t then 0 else s.get1 R.ZOOM_SWAP_TIME_TIME e + 1) ∧
      (s.get1 R.ZOOM_SWAP_TIME_TIME e < max s.now t → u.get1 R.ZOOM_FLAGS_SWAP_LATE e = 1) ∧
      u = { s with regs := u.regs, now := max s.now t, zoom := { s.zoom with armed := u.zoom.armed } } := by
  by_cases late : s.get1 R.ZOOM_SWAP_TIME_TIME e < max s.now t
  · refine ⟨_, execSwapArm_late late, ?_, ?_, fun _ => State.get1_put1_same _ _ _ _, rfl⟩
    · rw [State.get1_put1_field _ _ _ _ _ (by decide)]
      exact State.pending_zoomArm _ _ _
    · rw [if_pos late]
      exact State.armed_zoomArm _ _ _
  · refine ⟨_, execSwapArm_ahead late, State.pending_zoomArm _ _ _, ?_, fun past => absurd past late, rfl⟩
    rw [if_neg late]
    exact State.armed_zoomArm _ _ _

/-- A disarmed engine has no swap pending and no armed time. -/
theorem State.zoomDisarm_disarmed (s : State) (e : Nat) :
    (s.zoomDisarm e).get1 R.ZOOM_STATUS_SWAP_PENDING e = 0 ∧ Tab.get 0 (s.zoomDisarm e).zoom.armed e = 0 :=
  ⟨State.get1_put1_same _ _ _ _, Tab.get_del_same _ _ _⟩

/-- Coefficient `k` of bank `b` of an engine stored, in 18 bits. -/
def State.putCoef (s : State) (e b k v : Nat) : State :=
  { s with zoom := { s.zoom with coef := Tab.set 0 s.zoom.coef (coefKey e b k) (v % 262144) } }

/-- A coefficient of the inactive bank is stored, and INDEX moves on. -/
theorem execZoomCoefData_inactive {s : State} {e : Nat} (v : Nat)
    (inactive : s.get1 R.ZOOM_COEF_ADDR_BANK e ≠ s.get1 R.ZOOM_STATUS_ACTIVE_BANK e) (noPatch : s.zoomPatched e = false) :
    execZoomCoefData e v s =
      .next ((s.putCoef e (s.get1 R.ZOOM_COEF_ADDR_BANK e) (s.get1 R.ZOOM_COEF_ADDR_INDEX e) v).wrap1 R.ZOOM_COEF_ADDR_INDEX e 1) :=
  if_neg (by simp [inactive, noPatch])

/-- A coefficient write refused: counted and flagged, and INDEX moves on. -/
def State.coefRefuse (s : State) (e : Nat) : State :=
  ((s.bump1 R.ZOOM_FLAGS_REFUSED e 1).put1 R.ZOOM_FLAGS_COEF_REFUSED e 1).wrap1 R.ZOOM_COEF_ADDR_INDEX e 1

theorem execZoomCoefData_refused {s : State} {e : Nat} (v : Nat)
    (held : s.get1 R.ZOOM_COEF_ADDR_BANK e = s.get1 R.ZOOM_STATUS_ACTIVE_BANK e ∨ s.zoomPatched e = true) :
    execZoomCoefData e v s = .next (s.coefRefuse e) :=
  if_pos held

theorem State.flagged_coefRefuse (s : State) (e : Nat) : (s.coefRefuse e).get1 R.ZOOM_FLAGS_COEF_REFUSED e = 1 :=
  (State.get1_put1_field _ _ _ _ _ (by decide)).trans (State.get1_put1_same _ _ _ _)

theorem State.index_coefRefuse (s : State) (e : Nat) :
    (s.coefRefuse e).get1 R.ZOOM_COEF_ADDR_INDEX e = R.ZOOM_COEF_ADDR_INDEX.trunc (s.get1 R.ZOOM_COEF_ADDR_INDEX e + 1) := by
  have kept : ((s.bump1 R.ZOOM_FLAGS_REFUSED e 1).put1 R.ZOOM_FLAGS_COEF_REFUSED e 1).get1 R.ZOOM_COEF_ADDR_INDEX e =
      s.get1 R.ZOOM_COEF_ADDR_INDEX e :=
    (State.get1_put1_field _ _ _ _ _ (by decide)).trans (State.get1_put1_field _ _ _ _ _ (by decide))
  rw [State.coefRefuse, State.get1_wrap1_same, kept]

/-- Settles O16: each command takes the branch of the engine's run, of the swap time, or of the bank addressed and the patches pending. -/
theorem zoomCommands : Obligations.ZoomCommands := by
  refine ⟨?sample, ?swap, ?arm, ?cancel, ?coef, ?coefRefused⟩
  case sample => exact fun s e t runs come => ⟨_, execZoomSample_runs runs come, rfl, State.zoomTake_next _ _ e _⟩
  case swap => exact fun s e t runs => ⟨_, execZoomSwap_runs t runs, rfl⟩
  case arm => exact execSwapArm_completes
  case cancel =>
    intro s e
    obtain ⟨pending, armed⟩ := s.zoomDisarm_disarmed e
    exact ⟨_, rfl, pending, armed, rfl⟩
  case coef => exact fun s e v inactive noPatch => ⟨_, execZoomCoefData_inactive v inactive noPatch, rfl, rfl⟩
  case coefRefused =>
    exact fun s e v held => ⟨_, execZoomCoefData_refused v held, s.flagged_coefRefuse e, s.index_coefRefuse e, rfl⟩

end Sys2Proof.Machine

namespace Sys2Proof.Machine

/-! ## The receiver of a lane by the state it finds (R252, R260, R261, R263)

The two SIGNAL_PRESENT that bring a receiver to ADAPT (notes/assumptions/102.md), ADAPT_DONE in VERIFY and LOCKED
(notes/assumptions/34.md), what an aligned receiver makes of a block (notes/assumptions/33.md) and the lengths of the PRBS checker
(notes/assumptions/92.md) are the model's reading. -/

/-- The signal comes: SIGNAL is set, and the time that it has been there runs from now. -/
theorem execSignalPresent_comes {s : State} {l : Nat} (t : Nat) (noSignal : s.laneState l = laneNoSignal)
    (absent : s.is1 R.LANE_STATUS_SIGNAL l = false) :
    execSignalPresent l t s = .next (((s.upTo t).setLane l { s.lane l with sigAt := max s.now t }).put1 R.LANE_STATUS_SIGNAL l 1) :=
  (if_neg (not_not.mpr noSignal)).trans (if_pos (by simp [absent]))

/-- A signal that has been there for 10 µs starts the adaptation. -/
theorem execSignalPresent_held {s : State} {l t : Nat} (noSignal : s.laneState l = laneNoSignal)
    (present : s.is1 R.LANE_STATUS_SIGNAL l = true) (held : (s.lane l).sigAt + nsToT 10000 ≤ max s.now t) :
    execSignalPresent l t s = .next ((s.upTo t).laneTo_ l laneAdapt) :=
  (if_neg (not_not.mpr noSignal)).trans ((if_neg (by simp [present])).trans (if_neg (Nat.not_lt.mpr held)))

/-- An adaptation that ends in ADAPT leads to HUNT, unless RX_PRBS holds the receiver. -/
theorem execAdaptDone_adapt {s : State} {l : Nat} (eye ctle : Nat) (taps : List Nat) (t : Nat) (adapt : s.laneState l = laneAdapt) :
    execAdaptDone l eye ctle taps t s =
      .next (if ((s.upTo t).adapted l eye ctle taps).is1 R.LANE_CTL_RX_PRBS l then (s.upTo t).adapted l eye ctle taps
        else ((s.upTo t).adapted l eye ctle taps).laneTo_ l laneHunt) := by
  have notAligned : ¬ ((s.upTo t).laneState l = laneVerify ∨ (s.upTo t).laneState l = laneLocked) := by
    rw [State.laneState_upTo, adapt]
    decide
  exact (if_neg notAligned).trans (if_neg (not_not.mpr adapt))

/-- In VERIFY and LOCKED an adaptation changes the equaliser's values alone. -/
theorem execAdaptDone_aligned {s : State} {l : Nat} (eye ctle : Nat) (taps : List Nat) (t : Nat)
    (aligned : s.laneState l = laneVerify ∨ s.laneState l = laneLocked) :
    execAdaptDone l eye ctle taps t s = .next ((s.upTo t).adapted l eye ctle taps) :=
  if_pos aligned

/-- The next state of an adaptation, in the three states that it runs in. -/
theorem execAdaptDone_runs {s : State} {l : Nat} (eye ctle : Nat) (taps : List Nat) (t : Nat)
    (runs : s.laneState l = laneAdapt ∨ s.laneState l = laneVerify ∨ s.laneState l = laneLocked) :
    execAdaptDone l eye ctle taps t s =
      .next (if s.laneState l ≠ laneAdapt ∨ ((s.upTo t).adapted l eye ctle taps).is1 R.LANE_CTL_RX_PRBS l = true then
          (s.upTo t).adapted l eye ctle taps
        else ((s.upTo t).adapted l eye ctle taps).laneTo_ l laneHunt) := by
  rcases runs with adapt | aligned
  · rw [execAdaptDone_adapt eye ctle taps t adapt]
    simp [adapt]
  · have notAdapt : s.laneState l ≠ laneAdapt := by rcases aligned with st | st <;> simp [st, laneVerify, laneLocked, laneAdapt]
    rw [execAdaptDone_aligned eye ctle taps t aligned, if_pos (.inl notAdapt)]

/-- A comma found in HUNT: VERIFY, with count 1 and the descrambler started. -/
theorem execCommaFound_hunt {s : State} {l : Nat} (t : Nat) (hunt : s.laneState l = laneHunt) :
    execCommaFound l t s =
      .next (((s.upTo t).laneTo_ l laneVerify).setLane l
        { ((s.upTo t).laneTo_ l laneVerify).lane l with count := 1, descr := 0 }) :=
  if_neg (not_not.mpr hunt)

/-- An aligned receiver at a comma place passes the guard of COMMA_INTERVAL. -/
theorem not_commaSkipped {s : State} {l : Nat} (place : (s.lane l).pos = 1023)
    (aligned : s.laneState l = laneVerify ∨ s.laneState l = laneLocked) :
    ¬ ((s.lane l).pos ≠ 1023 ∨ ¬ (s.laneState l = laneVerify ∨ s.laneState l = laneLocked)) :=
  fun skipped => skipped.elim (fun away => away place) (fun out => out aligned)

/-- A comma place in VERIFY: without a comma back to HUNT, with the fourth into LOCKED, else the count goes on. -/
theorem execCommaInterval_verify {s : State} {l : Nat} (blk reads t : Nat) (verify : s.laneState l = laneVerify)
    (place : (s.lane l).pos = 1023) :
    execCommaInterval l blk reads t s =
      .next (let s1 := ((s.upTo t).setLane l { s.lane l with pos := 0, count := (s.lane l).count + 1 }).takeBlock l (s.rxBits l blk) reads true
        if (s.rxBits l blk == 4 * commaPayload + 2) = false then (s.upTo t).laneTo_ l laneHunt
        else if (s.lane l).count = 3 then s1.lockGained l else s1) := by
  refine (if_neg (not_commaSkipped place (.inl verify))).trans ((if_pos verify).trans ?_)
  cases comma : s.rxBits l blk == 4 * commaPayload + 2 <;> simp [comma]

/-- A comma place in LOCKED: the fourth missed comma in a row loses the lock. -/
theorem execCommaInterval_locked {s : State} {l : Nat} (blk reads t : Nat) (locked : s.laneState l = laneLocked)
    (place : (s.lane l).pos = 1023) :
    execCommaInterval l blk reads t s =
      .next (let comma := s.rxBits l blk == 4 * commaPayload + 2
        let s1 := ((s.upTo t).setLane l
          { s.lane l with pos := 0, hdrErr := 0, misses := if comma then 0 else (s.lane l).misses + 1 }).takeBlock l (s.rxBits l blk) reads true
        let s2 := if comma then s1 else s1.bump1 R.LANE_ERR_CTRL_COMMA_MISS l 1
        if !comma ∧ (s.lane l).misses = 3 then (s2.lockLost l false).laneTo_ l laneHunt else s2) := by
  have notVerify : (s.upTo t).laneState l ≠ laneVerify := by
    rw [State.laneState_upTo, locked]
    decide
  exact (if_neg (not_commaSkipped place (.inr locked))).trans (if_neg notVerify)

theorem execHeaderErrorLimit_reached {s : State} {l : Nat} (t : Nat) (locked : s.locked l = true) (reached : 64 ≤ (s.lane l).hdrErr) :
    execHeaderErrorLimit l t s = .next (((s.upTo t).lockLost l false).laneTo_ l laneHunt) :=
  if_pos ⟨locked, reached⟩

theorem execSignalLost_on {s : State} {l : Nat} (t : Nat) (on : s.laneState l ≠ laneOff) :
    execSignalLost l t s = .next ((((s.upTo t).lockLost l false).put1 R.LANE_STATUS_SIGNAL l 0).laneTo_ l laneNoSignal) :=
  if_neg on

theorem execLaneRelock_started {s : State} {l : Nat} (started : laneAdapt ≤ s.laneState l) :
    execLaneRelock l s = .next ((s.lockLost l false).laneTo_ l laneAdapt) :=
  if_neg (Nat.not_lt.mpr started)

/-- In ADAPT with RX_PRBS a block's bits go to the PRBS checker. -/
theorem execBlockReceive_prbs {s : State} {l : Nat} (blk reads t : Nat) (adapt : s.laneState l = laneAdapt)
    (prbs : s.is1 R.LANE_CTL_RX_PRBS l = true) :
    execBlockReceive l blk reads t s =
      .next (let r := prbsCheck 130 (s.rxBits l blk) (s.lane l).prbsN (s.lane l).prbs
        ((s.upTo t).setLane l { s.lane l with prbsN := r.1, prbs := r.2.1 }).bump1 R.LANE_PRBS_ERR_COUNT l r.2.2) := by
  have checks : (s.upTo t).laneState l = laneAdapt ∧ (s.upTo t).is1 R.LANE_CTL_RX_PRBS l = true := ⟨adapt, prbs⟩
  simp only [execBlockReceive, if_pos checks, State.lane_upTo, State.rxBits_upTo]

/-- An aligned receiver takes a block inside a comma interval. -/
theorem execBlockReceive_aligned {s : State} {l : Nat} (blk reads t : Nat)
    (aligned : s.laneState l = laneVerify ∨ s.laneState l = laneLocked) (inside : (s.lane l).pos < 1023) :
    execBlockReceive l blk reads t s =
      .next (((s.upTo t).setLane l { s.lane l with pos := (s.lane l).pos + 1 }).takeBlock l (s.rxBits l blk) reads false) := by
  have notPrbs : ¬ ((s.upTo t).laneState l = laneAdapt ∧ (s.upTo t).is1 R.LANE_CTL_RX_PRBS l = true) := by
    rintro ⟨adapt, -⟩
    rw [State.laneState_upTo] at adapt
    rcases aligned with st | st <;> exact absurd (st.symm.trans adapt) (by decide)
  exact (if_neg notPrbs).trans (if_pos ⟨aligned, inside⟩)

/-- Settles O17: each command takes the branch of the lane's state, and of the block, the count or RX_PRBS that it finds there. -/
theorem laneReceivers : Obligations.LaneReceivers := by
  refine ⟨?signalComes, ?signalHeld, ?adaptDone, ?commaFound, ?verify, ?locked, ?headerErrors, ?signalLost, ?relock, ?prbs, ?block⟩
  case signalComes => exact fun s l t noSignal absent => ⟨_, execSignalPresent_comes t noSignal absent, rfl⟩
  case signalHeld => exact fun s l t noSignal present held => ⟨_, execSignalPresent_held noSignal present held, rfl⟩
  case adaptDone => exact fun s l eye ctle t taps runs => ⟨_, execAdaptDone_runs eye ctle taps t runs, rfl⟩
  case commaFound => exact fun s l t hunt => ⟨_, execCommaFound_hunt t hunt, rfl⟩
  case verify => exact fun s l blk reads t verify place => ⟨_, execCommaInterval_verify blk reads t verify place, rfl⟩
  case locked => exact fun s l blk reads t locked place => ⟨_, execCommaInterval_locked blk reads t locked place, rfl⟩
  case headerErrors => exact fun s l t locked reached => ⟨_, execHeaderErrorLimit_reached t locked reached, rfl⟩
  case signalLost => exact fun s l t on => ⟨_, execSignalLost_on t on, rfl⟩
  case relock => exact fun s l started => ⟨_, execLaneRelock_started started, rfl⟩
  case prbs => exact fun s l blk reads t adapt prbs => ⟨_, execBlockReceive_prbs blk reads t adapt prbs, rfl⟩
  case block => exact fun s l blk reads t aligned inside => ⟨_, execBlockReceive_aligned blk reads t aligned inside, rfl⟩

end Sys2Proof.Machine

namespace Sys2Proof.Machine

/-! ## Transmitters and PLLs of the hanks (R248, R251, R259, R263)

MAIN shows the low six bits of 64 - PRE - POST, 0 for 64: the model's choice (notes/assumptions/9.md). -/

@[simp] theorem State.txMay_upTo (s : State) (t l : Nat) : (s.upTo t).txMay l = s.txMay l := rfl

theorem execTxBlock_prbs {s : State} {l : Nat} (t : Nat) (may : s.txMay l = true) (prbs : s.is1 R.LANE_CTL_TX_PRBS l = true) :
    execTxBlock l t s = .next ((s.upTo t).txPrbsBlock l) := by
  have sends : ¬ (!(s.upTo t).txMay l) = true := by simp [may]
  exact (if_neg sends).trans (if_pos prbs)

/-- Without TX_PRBS a transmitter sends the block of its place and moves on. -/
theorem execTxBlock_frames {s : State} {l : Nat} (t : Nat) (may : s.txMay l = true) (noPrbs : s.is1 R.LANE_CTL_TX_PRBS l = false) :
    execTxBlock l t s = .next (((s.upTo t).setLane l { s.lane l with txB := (s.lane l).txB + 1 }).txPayload l (s.lane l).txB) := by
  have sends : ¬ (!(s.upTo t).txMay l) = true := by simp [may]
  exact (if_neg sends).trans (if_neg (by simp [noPrbs]))

/-- A value within a field's width is held whole. -/
theorem Field.trunc_eq_self (f : Field) {v : Nat} (fits : v < 2 ^ f.w) : f.trunc v = v := Nat.mod_eq_of_lt fits

/-- The three taps of a lane's transmitter written. -/
def State.putFfe (s : State) (l pre post main : Nat) : State :=
  ((s.put1 R.LANE_TX_FFE_PRE l pre).put1 R.LANE_TX_FFE_POST l post).put1 R.LANE_TX_FFE_MAIN l main

theorem State.pre_putFfe (s : State) (l pre post main : Nat) :
    (s.putFfe l pre post main).get1 R.LANE_TX_FFE_PRE l = R.LANE_TX_FFE_PRE.trunc pre := by
  unfold State.putFfe
  rw [State.get1_put1_field _ _ _ _ _ (by decide), State.get1_put1_field _ _ _ _ _ (by decide), State.get1_put1_same]

theorem State.post_putFfe (s : State) (l pre post main : Nat) :
    (s.putFfe l pre post main).get1 R.LANE_TX_FFE_POST l = R.LANE_TX_FFE_POST.trunc post := by
  unfold State.putFfe
  rw [State.get1_put1_field _ _ _ _ _ (by decide), State.get1_put1_same]

theorem State.main_putFfe (s : State) (l pre post main : Nat) :
    (s.putFfe l pre post main).get1 R.LANE_TX_FFE_MAIN l = R.LANE_TX_FFE_MAIN.trunc main :=
  State.get1_put1_same _ _ _ _

/-- The clamped taps fit their fields and are read back; MAIN keeps six bits. -/
theorem execLaneTxFfe_completes (s : State) (l pre post : Nat) :
    Completes (execLaneTxFfe l pre post s) fun u =>
      u.get1 R.LANE_TX_FFE_PRE l = min 12 (pre % 32) ∧ u.get1 R.LANE_TX_FFE_POST l = min 24 (post % 64) ∧
      u.get1 R.LANE_TX_FFE_MAIN l = (64 - min 12 (pre % 32) - min 24 (post % 64)) % 64 ∧ u = { s with regs := u.regs } := by
  have preFits : min 12 (pre % 32) < 2 ^ R.LANE_TX_FFE_PRE.w := lt_of_le_of_lt (min_le_left _ _) (by decide)
  have postFits : min 24 (post % 64) < 2 ^ R.LANE_TX_FFE_POST.w := lt_of_le_of_lt (min_le_left _ _) (by decide)
  exact ⟨_, rfl, (s.pre_putFfe l _ _ _).trans (Field.trunc_eq_self _ preFits),
    (s.post_putFfe l _ _ _).trans (Field.trunc_eq_self _ postFits), s.main_putFfe l _ _ _, rfl⟩

@[simp] theorem State.draftRuns_upTo (s : State) (t : Nat) : (s.upTo t).draftRuns = s.draftRuns := rfl

/-- A RATE and a ROLE that R247 knows pass the guard of HANK_CTL. -/
theorem not_hankIgnored {v : Nat} (rate : bits v 4 2 ≠ 3) (role : bits v 0 4 ≤ 5) : ¬ (bits v 4 2 = 3 ∨ 5 < bits v 0 4) :=
  not_or.mpr ⟨rate, Nat.not_lt.mpr role⟩

/-- While a Draft runs a write of HANK_CTL reaches MIN_LANES alone. -/
theorem execHankCtl_running {s : State} {h v : Nat} (t : Nat) (rate : bits v 4 2 ≠ 3) (role : bits v 0 4 ≤ 5)
    (running : s.draftRuns = true) :
    execHankCtl h v t s = .next (((s.upTo t).put1 R.HANK_CTL_MIN_LANES h (bits v 16 4)).hankShow h) :=
  (if_neg (not_hankIgnored rate role)).trans (if_pos running)

/-- With no Draft running a write of HANK_CTL is put in force. -/
theorem execHankCtl_stopped {s : State} {h v : Nat} (t : Nat) (rate : bits v 4 2 ≠ 3) (role : bits v 0 4 ≤ 5)
    (stopped : s.draftRuns = false) :
    execHankCtl h v t s =
      .next ((((((s.upTo t).put1 R.HANK_CTL_MIN_LANES h (bits v 16 4)).put1 R.HANK_CTL_ROLE h (bits v 0 4)).put1
        R.HANK_CTL_RATE h (bits v 4 2)).put1 R.HANK_CTL_LANES h (bits v 8 8) |>.put1 R.HANK_STATUS_DRAFT h 0).hankApply h
          (bits v 0 4) (bits v 4 2) (bits v 8 8)) := by
  have halted : ¬ (s.upTo t).draftRuns = true := by simp [stopped]
  exact (if_neg (not_hankIgnored rate role)).trans (if_neg halted)

/-- A hank with a ROLE whose PLL is not locked passes the guard of a lock and of a time-out. -/
theorem not_pllIdle {s : State} {h : Nat} (role : s.get1 R.HANK_STATUS_ROLE h ≠ 0) (unlocked : s.is1 R.HANK_STATUS_PLL_LOCK h = false) :
    ¬ (s.get1 R.HANK_STATUS_ROLE h = 0 ∨ s.is1 R.HANK_STATUS_PLL_LOCK h = true) :=
  not_or.mpr ⟨role, by simp [unlocked]⟩

/-- Lane `n` of a hank transmits from block 0, its scrambler at a free value (R254, R263). -/
def State.txRestart (s : State) (h n : Nat) : State :=
  s.takeFree.2.setLane (8 * h + n)
    { s.takeFree.2.lane (8 * h + n) with
      txB := 0, scr := s.takeFree.1 % 2 ^ 58, txBytes := [], txFrames := 0, txIdle := false, stamps := [] }

theorem execHankPllLock_waiting {s : State} {h : Nat} (t : Nat) (role : s.get1 R.HANK_STATUS_ROLE h ≠ 0)
    (unlocked : s.is1 R.HANK_STATUS_PLL_LOCK h = false) :
    execHankPllLock h t s = .next ((forN 8 (fun n a => a.txRestart h n) (s.upTo t)).put1 R.HANK_STATUS_PLL_LOCK h 1) :=
  if_neg (not_pllIdle role unlocked)

theorem execHankPllTimeout_waiting {s : State} {h : Nat} (t : Nat) (role : s.get1 R.HANK_STATUS_ROLE h ≠ 0)
    (unlocked : s.is1 R.HANK_STATUS_PLL_LOCK h = false) :
    execHankPllTimeout h t s = .next ((s.upTo t).hankEvt R.HANK_EVT_PLL_FAULT h) :=
  if_neg (not_pllIdle role unlocked)

theorem execHankPllLoss_locked {s : State} {h : Nat} (t : Nat) (locked : s.is1 R.HANK_STATUS_PLL_LOCK h = true) :
    execHankPllLoss h t s = .next (((s.upTo t).put1 R.HANK_STATUS_PLL_LOCK h 0).hankEvt R.HANK_EVT_PLL_FAULT h) :=
  if_neg (by simp [locked])

/-- Settles O18: each command takes the branch of TX_PRBS, of the Draft's state or of the PLL's; the taps and the lock bit are read back. -/
theorem hankCommands : Obligations.HankCommands := by
  refine ⟨?txPrbs, ?txFrames, ?ffe, ?ctlRunning, ?ctlStopped, ?pllLock, ?pllTimeout, ?pllLoss⟩
  case txPrbs => exact fun s l t may prbs => ⟨_, execTxBlock_prbs t may prbs, rfl⟩
  case txFrames => exact fun s l t may noPrbs => ⟨_, execTxBlock_frames t may noPrbs, rfl⟩
  case ffe => exact execLaneTxFfe_completes
  case ctlRunning => exact fun s h v t rate role running => ⟨_, execHankCtl_running t rate role running, rfl⟩
  case ctlStopped => exact fun s h v t rate role stopped => ⟨_, execHankCtl_stopped t rate role stopped, rfl⟩
  case pllLock =>
    exact fun s h t role unlocked => ⟨_, execHankPllLock_waiting t role unlocked, State.get1_put1_same _ _ _ _, rfl⟩
  case pllTimeout => exact fun s h t role unlocked => ⟨_, execHankPllTimeout_waiting t role unlocked, rfl⟩
  case pllLoss => exact fun s h t locked => ⟨_, execHankPllLoss_locked t locked, rfl⟩

end Sys2Proof.Machine

namespace Sys2Proof.Machine

/-! ## The unscrambled blocks (R253, R256)

A block is its header's two bits with the payload above them; the bits of the comma's block are those of its payload, two places up. -/

/-- Payload bit `k` is block bit `k + 2`. -/
theorem bit_block_payload {hdr : Nat} (payload k : Nat) (twoBits : hdr < 4) : bit (hdr + 4 * payload) (k + 2) = bit payload k := by
  have shifted : (hdr + 4 * payload) / 2 / 2 = payload := by omega
  rw [bit_succ, bit_succ, shifted]

theorem commaPayload_ones : ∀ k < 20, bit commaPayload k = true := by decide

theorem commaPayload_zeros {k : Nat} (from20 : 20 ≤ k) (below40 : k < 40) : bit commaPayload k = false := by
  have zeros : ∀ j < 20, bit commaPayload (20 + j) = false := by decide
  simpa [from20] using zeros (k - 20) (by omega)

/-- The 21 ones of the comma's block: the upper bit of the control header, and the payload's 20. -/
theorem commaBlock_ones {k : Nat} (from1 : 1 ≤ k) (below22 : k < 22) : bit (2 + 4 * commaPayload) k = true := by
  match k with
  | 1 => decide
  | j + 2 => rw [bit_block_payload _ _ (by decide), commaPayload_ones j (by omega)]

theorem commaBlock_zeros {k : Nat} (from22 : 22 ≤ k) (below42 : k < 42) : bit (2 + 4 * commaPayload) k = false := by
  obtain ⟨j, rfl⟩ := Nat.exists_eq_add_of_le' (show 2 ≤ k by omega)
  rw [bit_block_payload _ _ (by decide), commaPayload_zeros (by omega) (by omega)]

/-- The kind of a control block turns on the whole raw payload first: only one that is neither COMMA nor FILLER is descrambled. -/
theorem blockKind_control {payload : Nat} (fits : payload < 2 ^ 128) (h : Nat) :
    blockKind (2 + 4 * payload) h =
      if payload = commaPayload then (kComma, 0, h)
      else if payload = fillerPayload then (kFiller, 0, h)
      else
        let r := scramble false 128 payload h
        (if r.1 % 256 = 0x1E then kIdle else if r.1 % 256 = 0x4B then kCredit else kEnd, r.1, r.2) := by
  have header : (2 + 4 * payload) % 4 = 2 := by omega
  have raw : (2 + 4 * payload) / 4 % 2 ^ 128 = payload := by omega
  unfold blockKind
  rw [header, raw]
  rfl

/-- A comma is known whatever the descrambler holds, and leaves it as it is. -/
theorem blockKind_comma (h : Nat) : blockKind (2 + 4 * commaPayload) h = (kComma, 0, h) :=
  (blockKind_control (by decide) h).trans (if_pos rfl)

/-- So is a filler, which is no comma. -/
theorem blockKind_filler (h : Nat) : blockKind (2 + 4 * fillerPayload) h = (kFiller, 0, h) :=
  (blockKind_control (by decide) h).trans ((if_neg (by decide)).trans (if_pos rfl))

/-- Settles O55: the bytes and the comma's bits are read off; in the block they stand two places up, and the raw payload names the kind. -/
theorem commaAndFiller : Obligations.CommaAndFiller := by
  refine ⟨?commaBytes, ?fillerBytes, commaPayload_ones, fun _ => commaPayload_zeros, ?bit40, fun _ => commaBlock_ones,
    fun _ => commaBlock_zeros, ?kinds⟩
  case commaBytes => decide
  case fillerBytes => decide
  case bit40 => decide
  case kinds => exact fun h => ⟨by rw [blockKind_comma], by rw [blockKind_filler]⟩

end Sys2Proof.Machine

namespace Sys2Proof.Machine

/-! ## Reception of frames by what a lane holds (R271, R275, R276, R278)

That fewer than 16 bytes left in an ended run are padding, and no header cut short, is the model's choice
(notes/assumptions/99.md). -/

section Runs
variable {s : State} {l : Nat} {r : Run} {rest : List Run}

/-- Between frames, 32 bytes of the head run are examined as a header. -/
theorem execFrameHeader_whole (t : Nat) (between : Tab.get none s.frames.rx l = none) (head : (s.lane l).runs = r :: rest)
    (whole : 32 ≤ r.bytes.length) : execFrameHeader l t s = .next ((s.upTo t).headerStep l r rest) := by
  simp only [execFrameHeader, State.upTo_fields, State.lane_upTo, between, head, if_neg (Nat.not_lt.mpr whole)]

/-- Between frames, an ended run that holds no whole header is given up. -/
theorem execFrameHeader_left (t : Nat) (between : Tab.get none s.frames.rx l = none) (head : (s.lane l).runs = r :: rest)
    (short : r.bytes.length < 32) (ended : r.ended = true) : execFrameHeader l t s = .next ((s.upTo t).runLeft l r rest) := by
  simp only [execFrameHeader, State.upTo_fields, State.lane_upTo, between, head, if_pos short, if_pos ended]

/-- Padding is dropped; a header cut short counts, and starts a new epoch where the run before it was not broken. -/
theorem State.runLeft_eq (s : State) (l : Nat) (r : Run) (rest : List Run) :
    s.runLeft l r rest =
      if r.bytes.length < 16 then s.setRun l rest
      else if 3 ≤ s.laneRole l ∧ s.laneRole l ≤ 5 ∧ r.broken = false then ((s.setRun l rest).bump R.FRAME_LOSS_TRUNCATED 1).newEpoch l
      else (s.setRun l rest).bump R.FRAME_LOSS_TRUNCATED 1 := by
  simp only [State.runLeft, Bool.not_eq_true']

variable {f : RxFrame}

/-- A frame whose payload and trailer have come is judged by its check. -/
theorem execFrameTrailer_whole (t : Nat) (receiving : Tab.get none s.frames.rx l = some f) (head : (s.lane l).runs = r :: rest)
    (whole : hdrLen f.hdr + 8 ≤ r.bytes.length) : execFrameTrailer l t s = .next ((s.upTo t).trailerStep l f r rest) := by
  simp only [execFrameTrailer, State.upTo_fields, State.lane_upTo, receiving, head, if_neg (Nat.not_lt.mpr whole)]

/-- A frame whose run has ended, or whose 900 µs have passed, before its trailer is cut. -/
theorem execFrameTruncated_cut (t : Nat) (receiving : Tab.get none s.frames.rx l = some f) (head : (s.lane l).runs = r :: rest)
    (short : r.bytes.length < hdrLen f.hdr + 8) (lost : r.ended = true ∨ f.t + nsToT 900000 ≤ max s.now t) :
    execFrameTruncated l t s = .next ((s.upTo t).frameCut l r rest f) := by
  have givenUp : ¬ (decide (hdrLen f.hdr + 8 ≤ r.bytes.length) || (!r.ended && decide (max s.now t < f.t + nsToT 900000))) = true := by
    rw [decide_eq_false (Nat.not_le.mpr short)]
    rcases lost with ended | late
    · simp [ended]
    · rw [decide_eq_false (Nat.not_lt.mpr late)]
      simp
  simp only [execFrameTruncated, State.upTo_fields, State.lane_upTo, receiving, head, if_neg givenUp]

end Runs

/-- A drain ends once no frame of a superseded generation is in reception or in an input buffer. -/
theorem execClassDrainDone_empty {s : State} {t : Nat} (drains : s.is R.CLASS_STATUS_DRAIN = true)
    (received : s.frames.rx.any (fun e =>
      match e.2 with
      | none => false
      | some f => f.accepted && !f.entry.isEmpty && f.gen != Tab.get 0 s.frames.gens f.idx) = false)
    (buffered : (List.range 12).any (fun h => ((s.upTo t).inWaiting h).any (fun f => f.gen != Tab.get 0 s.frames.gens f.idx)) = false) :
    execClassDrainDone t s = .next (((s.upTo t).put R.CLASS_STATUS_DRAIN 0).frameEvt 7) := by
  refine if_neg ?_
  rw [State.is_upTo, drains]
  exact Bool.eq_false_iff.mp (Bool.or_eq_false_iff.mpr ⟨rfl, Bool.or_eq_false_iff.mpr ⟨received, buffered⟩⟩)

/-- Settles O19: each command takes the branch of what the lane holds, and the clause is that branch written out. -/
theorem frameReception : Obligations.FrameReception := by
  refine ⟨?header, ?left, ?trailer, ?truncated, ?drain, ?gapPop⟩
  case header => exact fun s l t r rest between head whole => ⟨_, execFrameHeader_whole t between head whole, rfl⟩
  case left =>
    exact fun s l t r rest between head short ended =>
      ⟨_, execFrameHeader_left t between head short ended, (s.upTo t).runLeft_eq l r rest⟩
  case trailer => exact fun s l t f r rest receiving head whole => ⟨_, execFrameTrailer_whole t receiving head whole, rfl⟩
  case truncated =>
    exact fun s l t f r rest receiving head short lost => ⟨_, execFrameTruncated_cut t receiving head short lost, rfl⟩
  case drain => exact fun s t drains received buffered => ⟨_, execClassDrainDone_empty drains received buffered, rfl⟩
  case gapPop => exact fun s => ⟨_, rfl, rfl, State.get_put_same _ _ _, rfl⟩

end Sys2Proof.Machine

namespace Sys2Proof.Machine

/-! ## Credits, requests and transmission (R283, R284, R286 to R289)

The free STATUS of a far store's completion (notes/assumptions/37.md) and the choice of lane and queue behind `nextOut` and `nextLink`
(notes/assumptions/35.md) are the model's choice. -/

/-- The units of a lane's three credited classes written. -/
def setUnits (m : Tab Nat) (l posted nonPosted compl : Nat) : Tab Nat :=
  Tab.set 0 (Tab.set 0 (Tab.set 0 m (laneCls l clsPosted) posted) (laneCls l clsNonPosted) nonPosted) (laneCls l clsCompl) compl

theorem laneCls_ne {c d : Nat} (l : Nat) (h : c ≠ d) : laneCls l c ≠ laneCls l d := fun e => h (Nat.add_left_cancel e)

theorem compl_setUnits (m : Tab Nat) (l p n c : Nat) : Tab.get 0 (setUnits m l p n c) (laneCls l clsCompl) = c := Tab.get_set_same _ _ _ _

theorem nonPosted_setUnits (m : Tab Nat) (l p n c : Nat) : Tab.get 0 (setUnits m l p n c) (laneCls l clsNonPosted) = n :=
  (Tab.get_set_other _ _ _ _ _ (laneCls_ne l (by decide))).trans (Tab.get_set_same _ _ _ _)

theorem posted_setUnits (m : Tab Nat) (l p n c : Nat) : Tab.get 0 (setUnits m l p n c) (laneCls l clsPosted) = p :=
  (Tab.get_set_other _ _ _ _ _ (laneCls_ne l (by decide))).trans
    ((Tab.get_set_other _ _ _ _ _ (laneCls_ne l (by decide))).trans (Tab.get_set_same _ _ _ _))

/-- The lane's limits and EPOCH are those of a good CREDIT block; its first block, and one of another EPOCH, start its used units from 0. -/
def State.creditTaken (s : State) (l : Nat) (b : List Byte) : State :=
  { s with frames := { s.frames with
    txUsed := if !Tab.get false s.frames.txHas l || byteAt b 10 != Tab.get 0 s.frames.txEpoch l then setUnits s.frames.txUsed l 0 0 0
      else s.frames.txUsed
    txLimit := setUnits s.frames.txLimit l (fld b 1 3) (fld b 4 3) (fld b 7 3)
    txEpoch := Tab.set 0 s.frames.txEpoch l (byteAt b 10)
    txHas := Tab.set false s.frames.txHas l true } }

section CreditTaken
variable (s : State) (l : Nat) (b : List Byte)

theorem State.limits_creditTaken :
    Tab.get 0 (s.creditTaken l b).frames.txLimit (laneCls l clsPosted) = fld b 1 3 ∧
    Tab.get 0 (s.creditTaken l b).frames.txLimit (laneCls l clsNonPosted) = fld b 4 3 ∧
    Tab.get 0 (s.creditTaken l b).frames.txLimit (laneCls l clsCompl) = fld b 7 3 :=
  ⟨posted_setUnits _ _ _ _ _, nonPosted_setUnits _ _ _ _ _, compl_setUnits _ _ _ _ _⟩

theorem State.epoch_creditTaken : Tab.get 0 (s.creditTaken l b).frames.txEpoch l = byteAt b 10 := Tab.get_set_same 0 _ l _

theorem State.has_creditTaken : Tab.get false (s.creditTaken l b).frames.txHas l = true := Tab.get_set_same false s.frames.txHas l true

theorem State.lane_creditTaken : (s.creditTaken l b).lane l = s.lane l := rfl

/-- Another EPOCH starts the used units of the posted class from 0. -/
theorem State.used_creditTaken (another : byteAt b 10 ≠ Tab.get 0 s.frames.txEpoch l) :
    Tab.get 0 (s.creditTaken l b).frames.txUsed (laneCls l clsPosted) = 0 := by
  have fresh : (!Tab.get false s.frames.txHas l || byteAt b 10 != Tab.get 0 s.frames.txEpoch l) = true := by simp [another]
  simp only [State.creditTaken, if_pos fresh, posted_setUnits]

end CreditTaken

section CreditBlock
variable {s : State} {l : Nat} {b : List Byte} {r : List (List Byte)}

theorem execCreditReceive_good (t : Nat) (oldest : (s.lane l).credits = b :: r) (good : crc16 (b.take 13) = fld b 13 2) :
    execCreditReceive l t s = .next (((s.upTo t).setLane l { s.lane l with credits := r }).creditTaken l b) := by
  simp only [execCreditReceive, State.lane_upTo, oldest, if_neg (not_not.mpr good)]
  rfl

theorem execCreditReceive_bad (t : Nat) (oldest : (s.lane l).credits = b :: r) (bad : crc16 (b.take 13) ≠ fld b 13 2) :
    execCreditReceive l t s =
      .next ((((s.upTo t).setLane l { s.lane l with credits := r }).bump1 R.FRAME_HANK_CREDIT_CHK_ERR (l / 8) 1).frameEvt 5) := by
  simp only [execCreditReceive, State.lane_upTo, oldest, if_pos bad]

end CreditBlock

/-- The CREDIT block of a lane waits to be sent, and no unit has been freed since. -/
def State.creditQueued (s : State) (l : Nat) : State :=
  let s1 := s.setLane l { s.lane l with txCredit := (s.lane l).txCredit ++ [s.creditBlock l] }
  { s1 with frames := { s1.frames with freed := Tab.set 0 s.frames.freed l 0 } }

theorem State.lane_creditQueued (s : State) (l : Nat) :
    (s.creditQueued l).lane l = { s.lane l with txCredit := (s.lane l).txCredit ++ [s.creditBlock l] } := State.lane_setLane s l _

theorem State.freed_creditQueued (s : State) (l : Nat) : Tab.get 0 (s.creditQueued l).frames.freed l = 0 := Tab.get_set_same 0 _ l 0

theorem execCreditSend_linked {s : State} {l : Nat} (t : Nat) (linked : 3 ≤ s.laneRole l) (locked : s.locked l = true) :
    execCreditSend l t s = .next ((s.upTo t).creditQueued l) := by
  have sends : ¬ ((s.upTo t).laneRole l < 3 ∨ (!(s.upTo t).locked l) = true) :=
    not_or.mpr ⟨Nat.not_lt.mpr linked, by simp [locked]⟩
  exact if_neg sends

section Transmit
variable {s s0 : State} {l t : Nat} {f : OutFrame} (ready : ((s.upTo t).mirrorPack l).purgeLane l = s0) (may : s0.frameMay l = true)
include ready may

/-- An output lane sends the frame in turn, or waits for credit. -/
theorem execFrameTransmit_out {d : Nat} (output : s0.laneRole l = 2) (speaks : s0.silent = false) (next : s0.nextOut l = some (d, f)) :
    execFrameTransmit l t s = .next (if s0.creditOk l clsPosted f.payload.length then s0.sendOut l d f else s0.waits l) := by
  simp only [execFrameTransmit, ready, may, output, speaks, next]
  exact (apply_ite Host.Outcome.next _ _ _).symm

/-- A mesh, mirror or far-store lane sends the head of its first class that may go, unless its side is silent on the mesh. -/
theorem execFrameTransmit_link {c : Nat} (link : s0.laneRole l ≠ 2) (next : s0.nextLink l = some (c, f)) :
    execFrameTransmit l t s =
      .next (if s0.laneRole l = 3 ∧ s0.silent = true ∧ c ≠ clsMgmt then s0 else s0.sendLink l c f) := by
  simp only [execFrameTransmit, ready, may, if_neg link, next]
  exact (apply_ite Host.Outcome.next _ _ _).symm

end Transmit

/-- The request of this lane's hank, sent and not completed, that a completion's TAG names. -/
def State.requestOf (s : State) (l : Nat) (f : RxDone) : Option Outstanding :=
  s.frames.outst.find? (fun o => o.hank == l / 8 && o.tag == bits (hdrAux f.hdr) 48 16 && o.t != 0)

section Taken
variable {s s1 : State} {l t : Nat} {f : RxDone}

theorem execMeshRequest_taken
    (taken : (s.upTo t).rxTake l (fun f => hdrType f.hdr == 0x09 || (hdrType f.hdr == 0x0B && hdrFirst f.hdr != 8)) = some (f, s1)) :
    execMeshRequest l t s = .next (if hdrType f.hdr = 0x09 then s1.servePeer l f else s1) := by
  simp only [execMeshRequest, taken]

/-- A completion that no request waits for counts; one that a request waits for ends it, with a free STATUS from a far store. -/
theorem execCompletionReceive_taken
    (taken : (s.upTo t).rxTake l (fun f => hdrType f.hdr == 0x0A || (hdrType f.hdr == 0x0B && hdrFirst f.hdr == 8)) = some (f, s1)) :
    execCompletionReceive l t s =
      .next (match s1.requestOf l f with
        | none => (s1.bump R.FRAME_NP_TIMEOUT_UNMATCHED 1).frameEvt 6
        | some o => if hdrType f.hdr = 0x0A then s1.endRequest o (hdrFirst f.hdr) f.payload
            else s1.takeFree.2.endRequest o (s1.takeFree.1 % 6) f.payload) := by
  simp only [execCompletionReceive, taken]
  change (match s1.requestOf l f with | none => _ | some o => _) = _
  cases s1.requestOf l f with
  | none => rfl
  | some o => exact (apply_ite Host.Outcome.next _ _ _).symm

end Taken

/-- Settles O20: each command takes the branch of the block, the lane or the frame that it finds; the limits of a good block are read
back class by class. -/
theorem frameTransmission : Obligations.FrameTransmission := by
  refine ⟨?creditGood, ?creditBad, ?creditSend, ?out, ?link, ?request, ?completion, ?timeout⟩
  case creditGood =>
    intro s l t b r oldest good
    let s1 := (s.upTo t).setLane l { s.lane l with credits := r }
    obtain ⟨posted, nonPosted, compl⟩ := s1.limits_creditTaken l b
    have credits : ((s1.creditTaken l b).lane l).credits = r := by rw [State.lane_creditTaken, State.lane_setLane]
    exact ⟨_, execCreditReceive_good t oldest good, credits, posted, nonPosted, compl, s1.epoch_creditTaken l b, s1.has_creditTaken l b,
      s1.used_creditTaken l b⟩
  case creditBad => exact fun s l t b r oldest bad => ⟨_, execCreditReceive_bad t oldest bad, rfl⟩
  case creditSend =>
    exact fun s l t linked locked =>
      ⟨_, execCreditSend_linked t linked locked, (s.upTo t).lane_creditQueued l, (s.upTo t).freed_creditQueued l⟩
  case out => exact fun s l t d f may output speaks next => ⟨_, execFrameTransmit_out rfl may output speaks next, rfl⟩
  case link => exact fun s l t c f may link next => ⟨_, execFrameTransmit_link rfl may link next, rfl⟩
  case request => exact fun s l t f s1 taken => ⟨_, execMeshRequest_taken taken, rfl⟩
  case completion => exact fun s l t f s1 taken => ⟨_, execCompletionReceive_taken taken, rfl⟩
  case timeout => exact fun s t => ⟨_, rfl, rfl⟩

end Sys2Proof.Machine

namespace Sys2Proof.Machine

/-! ## Announces, layouts and what comes over the mesh (R294, R296, R299, R300, R302)

That a refused ARM clears no conflict and that an armed layout applies at the first span not before its time is the model's reading
(notes/assumptions/38.md); the home node of a slot and the free class of a summary slot beyond the 64 listed are its choice
(notes/assumptions/37.md). -/

/-- What is sent once a period is due where it was never sent (0), or a whole period after it was. -/
theorem not_early {last now period : Nat} (due : last = 0 ∨ last + period ≤ now) : ¬ (last ≠ 0 ∧ now < last + period) := by
  rintro ⟨sent, early⟩
  exact due.elim sent (Nat.not_le.mpr early)

theorem early_eq_false {last now period : Nat} (due : last = 0 ∨ last + period ≤ now) :
    (last != 0 && decide (now < last + period)) = false := by
  simpa using not_early due

/-- The time of a lane's announce noted, and the announce queued. -/
def State.announceOut (s : State) (l : Nat) : State :=
  let s1 : State := { s with mesh := { s.mesh with annSent := Tab.set 0 s.mesh.annSent l (s.now + 1) } }
  s1.queueLane l (s1.linkFrame 0x0D 0 0 0 s1.announceBytes 0)

theorem execAnnounceSend_due {s : State} {l t : Nat} (from3 : 3 ≤ s.laneRole l) (to5 : s.laneRole l ≤ 5) (locked : s.locked l = true)
    (due : Tab.get 0 s.mesh.annSent l = 0 ∨ Tab.get 0 s.mesh.annSent l + nsToT 1000000 ≤ max s.now t + 1) :
    execAnnounceSend l t s = .next ((s.upTo t).announceOut l) := by
  have sends : ¬ (!(decide (3 ≤ s.laneRole l ∧ s.laneRole l ≤ 5)) || !s.locked l ||
      (Tab.get 0 s.mesh.annSent l != 0 && decide (max s.now t + 1 < Tab.get 0 s.mesh.annSent l + nsToT 1000000))) = true := by
    rw [early_eq_false due, decide_eq_true ⟨from3, to5⟩, locked]
    decide
  exact if_neg sends

/-- The announce of a lane is the one that came last on it. -/
theorem State.ann_announceTake (s : State) (l : Nat) (p : List Byte) :
    ∃ n, Tab.get Announce.init (s.announceTake l p).mesh.ann l = ⟨byteAt p 4, byteAt p 5, fld p 8 8, fld p 16 8, n⟩ :=
  ⟨_, Tab.get_set_same _ _ _ _⟩

/-- The next layout armed for its time; of the nodes in conflict those stay that it holds. -/
def State.layoutArmed (s : State) : State :=
  ({ s with mesh := { s.mesh with
    armed := some (s.get R.MESH_NEXT_TIME_TIME)
    conflict := s.mesh.conflict.filter (fun nb => s.bitOf R.MESH_NEXT_NODES (nb % 64)) } } : State).put R.MESH_STATUS_ARMED 1

theorem execMeshArm_ahead {s : State} {t : Nat} (ahead : max s.now t + nsToT 10000000 ≤ s.get R.MESH_NEXT_TIME_TIME) :
    execMeshArm t s = .next (s.upTo t).layoutArmed :=
  if_neg (Nat.not_lt.mpr ahead)

theorem execMeshArm_late {s : State} {t : Nat} (late : s.get R.MESH_NEXT_TIME_TIME < max s.now t + nsToT 10000000) :
    execMeshArm t s = .next ((s.upTo t).meshEvt 4) :=
  if_pos late

/-- The next layout in force, and none armed. -/
def State.nextLayout (s : State) : State :=
  (({ s with mesh := { s.mesh with armed := none } } : State).put R.MESH_STATUS_ARMED 0).put R.MESH_LAYOUT_NODES (s.get R.MESH_NEXT_NODES)

/-- An armed layout applies at its time, outside a Draft's run or at a span that does not begin before it. -/
theorem execLayoutApply_come {s : State} {t a : Nat} (armed : s.mesh.armed = some a) (come : a ≤ max s.now t)
    (spanCome : s.dState = 4 ∨ s.dState = 5 → a ≤ s.spanTime (s.get R.DRAFT_SPAN_SPAN)) :
    execLayoutApply t s =
      .next (((s.upTo t).nextLayout.endNodes (fun nd => s.inLayout nd && !(s.upTo t).nextLayout.inLayout nd)).meshEvt 2) := by
  have applies : ¬ (max s.now t < a ∨ ((s.dState = 4 ∨ s.dState = 5) ∧ s.spanTime (s.get R.DRAFT_SPAN_SPAN) < a)) :=
    not_or.mpr ⟨Nat.not_lt.mpr come, fun ⟨runs, before⟩ => Nat.not_lt.mpr (spanCome runs) before⟩
  simp only [execLayoutApply, State.upTo_fields, armed]
  exact if_neg applies

section MeshFrames
variable {s s1 : State} {l t : Nat} {f : RxDone}

theorem execAnnounceReceive_taken (taken : (s.upTo t).rxTake l (fun f => hdrType f.hdr == 0x0D) = some (f, s1)) :
    execAnnounceReceive l t s = .next (s1.announceTake l f.payload) := by
  simp only [execAnnounceReceive, taken]

/-- Operands of none of the spans are dropped. -/
theorem execMeshOperand_taken
    (taken : (s.upTo t).rxTake l (fun f => hdrType f.hdr == 0x08 && bits (hdrAux f.hdr) 32 16 != 0xFFFF) = some (f, s1)) :
    execMeshOperand l t s =
      .next (match s1.spanAt (hdrFirst f.hdr) (hdrTime f.hdr) with
        | none => s1
        | some z => s1.operandTake f z) := by
  simp only [execMeshOperand, taken]
  cases s1.spanAt (hdrFirst f.hdr) (hdrTime f.hdr) with
  | none => rfl
  | some z => rfl

/-- A summary of none of the spans is dropped. -/
theorem execSummaryReceive_taken
    (taken : (s.upTo t).rxTake l (fun f => hdrType f.hdr == 0x08 && bits (hdrAux f.hdr) 32 16 == 0xFFFF) = some (f, s1)) :
    execSummaryReceive l t s =
      .next (match s1.spanAt (hdrFirst f.hdr) (hdrTime f.hdr) with
        | none => s1
        | some z => s1.summaryTake f z) := by
  simp only [execSummaryReceive, taken]
  cases s1.spanAt (hdrFirst f.hdr) (hdrTime f.hdr) with
  | none => rfl
  | some z => rfl

end MeshFrames

/-- Summaries are missed 1 ms after the end of a span that has ended. -/
theorem execSummaryTimeout_ended {s : State} {span t : Nat} (wide : hasWide (s.structAt span) = true)
    (late : s.spanTime (span + 1) + nsToT 1000000 ≤ max s.now t) (ended : span < s.get R.DRAFT_SPAN_SPAN) :
    execSummaryTimeout span t s =
      .next (forN (fineChannels (s.structAt span)) (fun c a => a.summaryMiss (s.structAt span) span c) (s.upTo t)) := by
  have missed : ¬ (!hasWide (s.structAt span) || decide (max s.now t < s.spanTime (span + 1) + nsToT 1000000) ||
      decide (s.get R.DRAFT_SPAN_SPAN ≤ span)) = true := by
    rw [wide, decide_eq_false (Nat.not_lt.mpr late), decide_eq_false (Nat.not_le.mpr ended)]
    decide
  exact if_neg missed

/-- Another node that has announced itself and is reached by no lane is lost. -/
theorem execNodeLost_unreached {s : State} {n t : Nat}
    (known : s.mesh.ann.any (fun e => decide (e.2.node < 128) && e.2.node % 64 == n) = true) (unreached : (s.upTo t).reached n = false)
    (another : n ≠ s.node) : execNodeLost n t s = .next ((s.upTo t).nodeGone n) := by
  have lost : ¬ (!s.mesh.ann.any (fun e => decide (e.2.node < 128) && e.2.node % 64 == n) || (s.upTo t).reached n || n == s.node) = true := by
    rw [known, unreached, beq_false_of_ne another]
    decide
  exact if_neg lost

/-- Settles O21: each command takes the branch of the lane, the time or the frame that it finds; what ARM and CANCEL write is read back. -/
theorem meshCommands : Obligations.MeshCommands := by
  refine ⟨?announceSend, ?announceReceive, ?arm, ?armLate, ?cancel, ?applyRunning, ?applyStopped, ?operand, ?summary, ?timeout, ?lost⟩
  case announceSend => exact fun s l t from3 to5 locked due => ⟨_, execAnnounceSend_due from3 to5 locked due, rfl⟩
  case announceReceive => exact fun s l t f s1 taken => ⟨_, execAnnounceReceive_taken taken, rfl, s1.ann_announceTake l f.payload⟩
  case arm => exact fun s t ahead => ⟨_, execMeshArm_ahead ahead, rfl, State.get_put_same _ _ _, rfl, rfl⟩
  case armLate => exact fun s t late => ⟨_, execMeshArm_late late, rfl⟩
  case cancel => exact fun s => ⟨_, rfl, rfl, State.get_put_same _ _ _, rfl⟩
  case applyRunning => exact fun s t a armed come _ spanCome => ⟨_, execLayoutApply_come armed come (fun _ => spanCome), rfl⟩
  case applyStopped =>
    exact fun s t a armed come stopped => ⟨_, execLayoutApply_come armed come (fun runs => absurd runs stopped), rfl⟩
  case operand => exact fun s l t f s1 taken => ⟨_, execMeshOperand_taken taken, rfl⟩
  case summary => exact fun s l t f s1 taken => ⟨_, execSummaryReceive_taken taken, rfl⟩
  case timeout => exact fun s span t wide late ended => ⟨_, execSummaryTimeout_ended wide late ended, rfl⟩
  case lost => exact fun s n t known unreached another => ⟨_, execNodeLost_unreached known unreached another, rfl⟩

end Sys2Proof.Machine

namespace Sys2Proof.Machine

/-! ## Losses, leases and the arbiter of a pair (R309, R312 to R315, R321)

The order of the arbiter's choices, its guard before a grant and the instant of LEASE_END (notes/assumptions/41.md), the heartbeat queued
for the management port and the sides that the arbiter keys by node byte (notes/assumptions/39.md) are the model's reading. -/

/-- A cause bit of the pair leaves the fields above the event router's registers, itself apart. -/
theorem State.get_pairEvt (s : State) (k : Nat) (g : Field) (cause : k < 16) (high : 0x200000 ≤ g.addr)
    (other : g.key 0 0 ≠ R.PAIR_EVT_CAUSE.key 0 0) : (s.pairEvt k).get g = s.get g :=
  (State.get_cause1 _ _ _ _ _ _ (Field.free_high g 0 0 _ high (by omega))).trans (State.get2_put2_other _ _ _ _ _ _ _ _ other)

theorem State.side_pairEvt (s : State) (k : Nat) (cause : k < 16) : (s.pairEvt k).side = s.side :=
  State.get_pairEvt s k _ cause (by decide) (by decide)

theorem State.pair_pairEvt (s : State) (k : Nat) : (s.pairEvt k).pair = s.pair := by
  simp only [State.pairEvt, State.causeBase_fields]

theorem execPartnerLost_silent {s : State} {t : Nat} (seen : s.pair.partnerSeen = true) (silent : s.pair.partnerAt + usT 300 ≤ max s.now t) :
    execPartnerLost t s = .next (({ s.upTo t with pair := { s.pair with partnerSeen := false } } : State).pairEvt 5) :=
  if_pos ⟨seen, silent⟩

theorem execArbiterLost_silent {s : State} {t : Nat} (seen : s.pair.arbSeen = true) (silent : s.pair.arbAt + usT 300 ≤ max s.now t) :
    execArbiterLost t s = .next (({ s.upTo t with pair := { s.pair with arbSeen := false } } : State).pairEvt 6) :=
  if_pos ⟨seen, silent⟩

/-- Settles O49: the loss is noted and its event raised, and an event of the pair leaves the side's state. -/
theorem partnerLosses : Obligations.PartnerLosses := by
  refine ⟨?partner, ?arbiter⟩
  case partner =>
    exact fun s t seen silent =>
      ⟨_, execPartnerLost_silent seen silent, congrArg PairState.partnerSeen (State.pair_pairEvt _ 5), State.side_pairEvt _ 5 (by decide), rfl⟩
  case arbiter =>
    exact fun s t seen silent =>
      ⟨_, execArbiterLost_silent seen silent, congrArg PairState.arbSeen (State.pair_pairEvt _ 6), State.side_pairEvt _ 6 (by decide), rfl⟩

/-- A side of a pair, or an arbiter, beats once in 100 µs. -/
theorem execHeartbeatSend_due {s : State} {t : Nat} (beats : (s.get R.PAIR_CTL_MODE = 1 ∧ s.side ≠ sideOff) ∨ s.get R.PAIR_CTL_MODE = 2)
    (due : s.pair.hbAt = 0 ∨ s.pair.hbAt + usT 100 ≤ max s.now t + 1) : execHeartbeatSend t s = .next (s.upTo t).heartbeat := by
  have sends : ¬ (!((s.get R.PAIR_CTL_MODE == 1 && s.side != sideOff) || s.get R.PAIR_CTL_MODE == 2) ||
      (s.pair.hbAt != 0 && decide (max s.now t + 1 < s.pair.hbAt + usT 100))) = true := by
    rw [early_eq_false due]
    rcases beats with ⟨paired, on⟩ | arbiter
    · simp [paired, on]
    · simp [arbiter]
  exact if_neg sends

theorem State.hbAt_heartbeat (s : State) : s.heartbeat.pair.hbAt = s.heartbeat.now + 1 := rfl

theorem execHeartbeatReceive_taken {s s1 : State} {l t : Nat} {h p : List Byte} (taken : (s.upTo t).beatTake l = some (h, p, s1)) :
    execHeartbeatReceive l t s = .next (s1.beatHeard h p) := by
  simp only [execHeartbeatReceive, taken]

section Arbiter
variable {s : State} {t h nb : Nat} (arbiter : s.get R.PAIR_CTL_MODE = 2) (holder : s.pair.holder = some h)
  (other : (s.upTo t).arbOther h = some nb)
include arbiter holder other

/-- An arbiter that has another side to grant grants it a guard after the old lease, if that side is still ready, and decides on it
before. -/
theorem execArbiterTimeout_other :
    execArbiterTimeout t s =
      .next (if s.pair.lease + guardT ≤ max s.now t then
          if s.sideReady nb then (s.upTo t).arbGrant nb else { s.upTo t with pair := { s.pair with decided := none } }
        else { s.upTo t with pair := { s.pair with decided := some nb } }) := by
  simp only [execArbiterTimeout, State.get_upTo, arbiter, State.upTo_fields, holder, other]
  exact (apply_ite Host.Outcome.next _ _ _).symm

theorem execArbiterTimeout_waits (guarded : max s.now t < s.pair.lease + guardT) :
    execArbiterTimeout t s = .next { s.upTo t with pair := { s.pair with decided := some nb } } := by
  rw [execArbiterTimeout_other arbiter holder other, if_neg (Nat.not_le.mpr guarded)]

theorem execArbiterTimeout_grants (past : s.pair.lease + guardT ≤ max s.now t) (ready : s.sideReady nb = true) :
    execArbiterTimeout t s = .next ((s.upTo t).arbGrant nb) := by
  rw [execArbiterTimeout_other arbiter holder other, if_pos past, if_pos ready]

end Arbiter

/-- The side fenced, and the instant noted. -/
def State.fenceNoted (s : State) : State := { s.fence with pair := { s.fence.pair with fencedAt := s.now + 1 } }

theorem State.get_withPair (s : State) (p : PairState) (g : Field) : ({ s with pair := p } : State).get g = s.get g := rfl

theorem State.get_fenceNoted (s : State) (g : Field) : s.fenceNoted.get g = s.fence.get g := State.get_withPair s.fence _ g

/-- A fenced side is in FENCED, with PAIR_ACTIVE low. -/
theorem State.side_fenceNoted (s : State) : s.fenceNoted.side = sideFenced := by
  rw [State.side, State.get_fenceNoted, State.fence, State.get_pairEvt _ 1 _ (by decide) (by decide) (by decide),
    State.get_put_ne _ _ _ _ (by decide), State.get_put_same]
  rfl

theorem State.pairActive_fenceNoted (s : State) : s.fenceNoted.get R.PAIR_STATUS_PAIR_ACTIVE = 0 := by
  rw [State.get_fenceNoted, State.fence, State.get_pairEvt _ 1 _ (by decide) (by decide) (by decide), State.get_put_same]
  rfl

/-- The active side is fenced a guard before its lease ends. -/
theorem execLeaseEnd_due {s : State} {t : Nat} (active : s.side = sideActive) (due : s.get R.PAIR_LEASE_END_TIME ≤ max s.now t + guardT) :
    execLeaseEnd t s = .next (s.upTo t).fenceNoted :=
  if_pos ⟨active, due⟩

/-- Settles O22: each command takes the branch of the mode, the beat or the lease that it finds; a fenced side reads FENCED and PAIR_ACTIVE
low. -/
theorem pairLease : Obligations.PairLease := by
  refine ⟨?send, ?receive, ?waits, ?grants, ?leaseEnd, ?byHand, ?solo⟩
  case send => exact fun s t beats due => ⟨_, execHeartbeatSend_due beats due, rfl, (s.upTo t).hbAt_heartbeat⟩
  case receive => exact fun s l t h p s1 taken => ⟨_, execHeartbeatReceive_taken taken, rfl⟩
  case waits => exact fun s t h nb arbiter holder other guarded => ⟨_, execArbiterTimeout_waits arbiter holder other guarded, rfl⟩
  case grants =>
    exact fun s t h nb arbiter holder other past ready => ⟨_, execArbiterTimeout_grants arbiter holder other past ready, rfl⟩
  case leaseEnd =>
    exact fun s t active due => ⟨_, execLeaseEnd_due active due, rfl, (s.upTo t).side_fenceNoted, (s.upTo t).pairActive_fenceNoted⟩
  case byHand => exact fun s hi t granted => ⟨_, if_neg (not_not.mpr granted), rfl⟩
  case solo => exact fun s paired => ⟨_, congrArg Host.Outcome.next (if_neg paired), rfl⟩

end Sys2Proof.Machine

namespace Sys2Proof.Machine

/-! ## Mirror records, resync, standby tests and the spare core (R306, R308, R310, R311, R320)

That the watchdog takes over in LOADING and STARTING, and sets FAILED alone where no standby core is OK, is the model's choice
(notes/assumptions/63.md). -/

/-- The oldest record received taken from the queue, and its sequence number checked. -/
def State.recordTaken (s : State) (r : List Byte) (rest : List (List Byte)) : State :=
  ({ s with pair := { s.pair with rxRecs := rest } } : State).mirrorSeq r

section Records
variable {s s0 : State} {l t : Nat} {r : List Byte} {rest : List (List Byte)} (pulled : (s.upTo t).mirrorPull l = s0)
  (oldest : s0.pair.rxRecs = r :: rest) (paired : s0.get R.PAIR_CTL_MODE = 1) (on : s0.side ≠ sideOff)

include paired on in
theorem not_recordDropped : ¬ (!s0.is R.PAIR_CTL_MODE || s0.side == sideOff) = true := by
  simp [State.is, paired, on]

include pulled oldest paired on

theorem execMirrorRecord_taken (mirrors : byteAt r 0 ≠ 7) :
    execMirrorRecord l t s = .next ((s0.recordTaken r rest).applyRecord r t) := by
  simp only [execMirrorRecord, pulled, oldest, if_neg mirrors]
  exact if_neg (not_recordDropped paired on)

/-- An active side answers a request for a resync; a syncing side notes the span that it was told. -/
theorem execResyncRecord_taken (agree : Bool) (resyncs : byteAt r 0 = 7) :
    execResyncRecord l agree t s =
      .next (let s2 := s0.recordTaken r rest
        if byteAt r 8 = 0 ∧ s2.side = sideActive then s2.resyncAsked agree
        else if byteAt r 8 = 1 ∧ s2.side = sideSyncing then { s2 with pair := { s2.pair with resyncR := some (fld r 16 8) } }
        else s2) := by
  simp only [execResyncRecord, pulled, oldest, if_neg (not_not.mpr resyncs), apply_ite Host.Outcome.next]
  exact if_neg (not_recordDropped paired on)

end Records

/-- The last frame sent to each destination that one was sent to, reported in mirror records. -/
def State.emittedReported (s : State) : State :=
  (((itemsOf s.draft.struct secRoutes 2).map (·.idx)).filter (fun d => Tab.get 0 s.frames.destDone d != 0)).foldl
    (fun a d => a.mirrorRec 6 (leBytes 2 d ++ zeros 2 ++
      leBytes 4 ((Tab.get 0 a.frames.destAlive d + 65535) % 65536) ++ leBytes 8 (Tab.get 0 a.frames.destDone d - 1))) s

theorem execEmittedSend_due {s : State} {t : Nat} (paired : s.get R.PAIR_CTL_MODE = 1) (active : s.side = sideActive)
    (due : s.pair.emitAt = 0 ∨ s.pair.emitAt + usT 100 ≤ max s.now t + 1) :
    execEmittedSend t s =
      .next { (s.upTo t).emittedReported with
        pair := { (s.upTo t).emittedReported.pair with emitAt := (s.upTo t).emittedReported.now + 1 } } :=
  if_neg (not_or.mpr ⟨not_not.mpr paired, not_or.mpr ⟨not_not.mpr active, not_early due⟩⟩)

/-- A knot that a standby may test: in a section that is ON, of no ply and under no test. -/
def State.knotFree (s : State) (K : Nat) : Bool :=
  s.pstate (K / 64) == 2 && (knotPly s.draft.struct s.node K).isNone && !s.is1 R.KNOT_STATUS_TEST_BUSY K

/-- The next such knot in turn. -/
def State.nextFreeKnot (s : State) : Option Nat := ((List.range 1024).map (fun k => (s.pair.nextKnot + k) % 1024)).find? s.knotFree

theorem State.knotFree_upTo (s : State) (t : Nat) : (s.upTo t).knotFree = s.knotFree := rfl

theorem State.nextFreeKnot_upTo (s : State) (t : Nat) : (s.upTo t).nextFreeKnot = s.nextFreeKnot := by
  simp only [State.nextFreeKnot, State.knotFree_upTo, State.upTo_fields]

/-- The test of a knot begun, with the knot after it next in turn. -/
def State.standbyTests (s : State) (K : Nat) : State :=
  { s.testBegins K with pair := { s.pair with nextKnot := (K + 1) % 1024, testAt := s.now + 1 } }

/-- A side in standby or syncing tests a knot once in 100 µs. -/
theorem execStandbySelfTest_due {s : State} {t K : Nat} (waiting : s.side = sideStandby ∨ s.side = sideSyncing)
    (due : s.pair.testAt = 0 ∨ s.pair.testAt + usT 100 ≤ max s.now t + 1) (free : s.nextFreeKnot = some K) :
    execStandbySelfTest t s = .next ((s.upTo t).standbyTests K) := by
  have tests : ¬ (!(s.side == sideStandby || s.side == sideSyncing) ||
      (s.pair.testAt != 0 && decide (max s.now t + 1 < s.pair.testAt + usT 100))) = true := by
    rw [early_eq_false due]
    rcases waiting with st | st <;> simp [st]
  rw [← s.nextFreeKnot_upTo t] at free
  unfold State.nextFreeKnot State.knotFree at free
  simp only [execStandbySelfTest, free]
  exact if_neg tests

theorem State.get1_standbyTests (s : State) (K : Nat) (g : Field) :
    (s.standbyTests K).get1 g K = ((s.put1 R.KNOT_STATUS_TEST_BUSY K 1).put1 R.KNOT_STATUS_TEST_PASS K 0).get1 g K :=
  s.get1_testBegins K g K

theorem exec_standbySelfTest (t : Nat) (s : State) : exec (.standbySelfTest t) s = execStandbySelfTest t s := rfl

/-- The tested knot is busy, and its last pass is no longer shown. -/
theorem State.busy_standbyTests (s : State) (K : Nat) : (s.standbyTests K).get1 R.KNOT_STATUS_TEST_BUSY K = 1 := by
  rw [State.get1_standbyTests, State.get1_put1_field _ _ _ _ _ (by decide), State.get1_put1_same]
  rfl

theorem State.pass_standbyTests (s : State) (K : Nat) : (s.standbyTests K).get1 R.KNOT_STATUS_TEST_PASS K = 0 := by
  rw [State.get1_standbyTests, State.get1_put1_same]
  rfl

/-- A watchdog that expires: the update's handover, or a takeover, or FAILED. -/
theorem execBadgerWatchdog_alive {s : State} (t : Nat) (alive : s.alive = true) :
    execBadgerWatchdog t s =
      .next (if s.fwState = fwHandover then (s.upTo t).handover
        else if s.fwState = fwLoading ∨ s.fwState = fwStarting then
          ((((s.upTo t).fwTo fwIdle).put R.TRUST_FW_STATUS_ERR 7).trustEvt 2).takeover.withTrust (fun x => { x with awaits := 2 })
        else if s.is R.PAIR_BADGER_STANDBY_OK then (s.upTo t).takeover
        else (s.upTo t).put R.PAIR_BADGER_FAILED 1) := by
  have expires : ¬ (!(s.upTo t).alive) = true := by simp [alive]
  simp only [apply_ite Host.Outcome.next]
  exact if_neg expires

/-- A core that has failed is restarted: it awaits READY, and FAILED is clear. -/
theorem execBadgerRestart_failed {s : State} (failed : s.is R.PAIR_BADGER_FAILED = true) :
    execBadgerRestart s =
      .next ((s.withTrust (fun x => { x with awaits := if x.awaits = 2 then 2 else 1 })).put R.PAIR_BADGER_FAILED 0) :=
  if_pos failed

/-- Settles O23: each command takes the branch of the record, the side, the knot or the core that it finds; the test bits of the knot and
FAILED are read back. -/
theorem pairMirror : Obligations.PairMirror := by
  refine ⟨?record, ?emitted, ?resync, ?resyncRecord, ?selfTest, ?watchdog, ?restart⟩
  case record =>
    exact fun s l t r rest oldest mirrors paired on => ⟨_, execMirrorRecord_taken rfl oldest paired on mirrors, rfl⟩
  case emitted => exact fun s t paired active due => ⟨_, execEmittedSend_due paired active due, rfl⟩
  case resync => exact fun s waiting => ⟨_, congrArg Host.Outcome.next (if_pos waiting), rfl⟩
  case resyncRecord =>
    exact fun s l t agree r rest oldest resyncs paired on => ⟨_, execResyncRecord_taken rfl oldest paired on agree resyncs, rfl⟩
  case selfTest =>
    intro s t K waiting due free
    have next : s.nextFreeKnot = some K := free
    exact ⟨_, (exec_standbySelfTest t s).trans (execStandbySelfTest_due waiting due next),
      State.busy_standbyTests _ K, State.pass_standbyTests _ K, rfl, rfl, rfl⟩
  case watchdog => exact fun s t alive => ⟨_, execBadgerWatchdog_alive t alive, rfl⟩
  case restart => exact fun s failed => ⟨_, execBadgerRestart_failed failed, State.get_put_same _ _ _, rfl, rfl⟩

end Sys2Proof.Machine

namespace Sys2Proof.Machine

/-! ## Steps, the record of what was sent, and the canonical form (notes/assumptions/11.md, 13.md, 42.md, 73.md)

`exec_keeps` says of every command what it leaves; the statements of this part read it. -/

/-- What `Keeps` says of the three tables is that their canonical form stays. -/
theorem Keeps.canonical {s u : State} (kept : Keeps s u) (canonical : s.Canonical) : u.Canonical := by
  obtain ⟨mem, poison, regs⟩ := canonical
  exact ⟨kept.mem mem, kept.poison poison, kept.regs regs⟩

/-- A command's next state is one that its law speaks of. -/
theorem Keeps.of_exec {i : Instr} {s u : State} (answers : exec i s = .next u) : Keeps s u := by
  obtain ⟨v, answersV, kept⟩ := exec_keeps (Keeps.refl s) i
  rw [answers] at answersV
  cases answersV
  exact kept

/-- Settles O54: an idle step changes nothing; any other step is the front command on a state with the same tables, and every command
keeps their form. -/
theorem stepKeepsCanonical : Obligations.StepKeepsCanonical := by
  intro s u canonical steps
  unfold step at steps
  split at steps
  case h_1 => cases steps; exact canonical
  case h_2 c rest queued => exact (Keeps.of_exec steps).canonical canonical

/-- Settles O52: the record after begins with the record before. -/
theorem sentIsALog : Obligations.SentIsALog := by
  intro i s u answers
  obtain ⟨more, log⟩ := (Keeps.of_exec answers).sent
  exact ⟨more, log.symm⟩

/-- Settles O50: the two cases of the queue are the two cases of `step`. -/
theorem stepRunsFront : Obligations.StepRunsFront := by
  refine ⟨?front, ?idle⟩
  case front => intro s c rest queued; simp only [step, queued]
  case idle => intro s empty; simp only [step, empty]

/-- An empty table is in canonical form. -/
theorem Tab.wf_nil {α : Type} [DecidableEq α] (d : α) : Tab.wf d ([] : Tab α) = true := rfl

/-- Settles O53: the three tables are empty at reset. -/
theorem resetCanonical : Obligations.ResetCanonical := ⟨Tab.wf_nil 0#8, Tab.wf_nil false, rfl⟩

end Sys2Proof.Machine

namespace Sys2Proof.Machine

/-! ## Reading a unit's registers back after a count and after a cause bit (R14, R429) -/

/-- A count in one field leaves another field of the same unit. -/
theorem State.get1_bump1_field (s : State) (f g : Field) (i n : Nat) (h : g.addr * 8 + g.lo ≠ f.addr * 8 + f.lo ∧ g.s1 = f.s1 ∧ g.s2 = f.s2) :
    (s.bump1 f i n).get1 g i = s.get1 g i :=
  State.get1_bump1_ne s f g i i n (Field.key_ne g f i 0 h)

/-- A counter reads one more, or its maximum. -/
theorem State.get1_bump1_min (s : State) (f : Field) (i n : Nat) : (s.bump1 f i n).get1 f i = min (2 ^ f.w - 1) (s.get1 f i + n) := by
  have fits : min (2 ^ f.w - 1) (s.get1 f i + n) < 2 ^ f.w :=
    Nat.lt_of_le_of_lt (Nat.min_le_left _ _) (Nat.sub_lt (Nat.two_pow_pos _) Nat.one_pos)
  rw [State.get1_bump1_same, Field.trunc_eq_self _ fits]

theorem State.get_bump_min (s : State) (f : Field) (n : Nat) : (s.bump f n).get f = min (2 ^ f.w - 1) (s.get f + n) :=
  State.get1_bump1_min s f 0 n

/-- A cause bit of a unit leaves another field of the same unit, above the event router's registers. -/
theorem State.get1_cause1_field (s : State) (f g : Field) (i k n : Nat)
    (h : g.addr * 8 + g.lo ≠ f.addr * 8 + f.lo ∧ g.s1 = f.s1 ∧ g.s2 = f.s2) (high : 0x200000 ≤ g.addr) (source : n < 1024) :
    (s.cause1 f i k n).get1 g i = s.get1 g i :=
  (State.get1_cause1 s f i k n g i (Field.free_high g i 0 n high source)).trans (State.get1_put1_field s f g i _ h)

/-- A one-bit cause reads 1 once it is set. -/
theorem State.get1_cause1_flag (s : State) (f : Field) (i n : Nat) (oneBit : f.w = 1) (high : 0x200000 ≤ f.addr) (source : n < 1024) :
    (s.cause1 f i 0 n).get1 f i = 1 := by
  rw [State.get1_cause1 s f i 0 n f i (Field.free_high f i 0 n high source), State.setBit1, State.get1_put1_same, Field.trunc, oneBit, putBits]
  omega

/-! ## The check-value units (R426 to R428) -/

/-- The counter value of an alive check taken as the last (R427). -/
def State.aliveTaken (s : State) (u v : Nat) : State :=
  (s.put1 R.CHECK_ALIVE_LAST_LAST u v).put1 R.CHECK_ALIVE_LAST_VALID u 1

section Alive
variable (s : State) {u v : Nat} (unit : u < 16) (half : v < 65536)

theorem State.valid_aliveTaken : (s.aliveTaken u v).get1 R.CHECK_ALIVE_LAST_VALID u = 1 := State.get1_put1_same _ _ _ _

include half in
theorem State.last_aliveTaken : (s.aliveTaken u v).get1 R.CHECK_ALIVE_LAST_LAST u = v := by
  rw [State.aliveTaken, State.get1_put1_field _ _ _ _ _ (by decide), State.get1_put1_same]
  exact Nat.mod_eq_of_lt half

/-- The value repeats the last one, or one before it. -/
def State.aliveDup (s : State) (u : Nat) : State := (s.bump1 R.CHECK_COUNT_DUPS u 1).cause1 R.CHECK_STATUS_DUP u 0 (0x120 + u)

/-- The value lies `missed` counts further than the next one. -/
def State.aliveJump (s : State) (u v missed : Nat) : State :=
  (((s.aliveTaken u v).put1 R.CHECK_STATUS_MISSED u missed).bump1 R.CHECK_COUNT_JUMPS u 1).cause1 R.CHECK_STATUS_JUMP u 0 (0x120 + u)

include half

theorem execCheckAliveIn_next (next : s.get1 R.CHECK_ALIVE_LAST_VALID u ≠ 1 ∨ (v + 65536 - s.get1 R.CHECK_ALIVE_LAST_LAST u) % 65536 = 1) :
    execCheckAliveIn u v s = .next (s.aliveTaken u v) := by
  simp only [execCheckAliveIn, Nat.mod_eq_of_lt half]
  exact if_pos (by simpa [State.is1] using next)

theorem execCheckAliveIn_dup (valid : s.get1 R.CHECK_ALIVE_LAST_VALID u = 1)
    (behind : (v + 65536 - s.get1 R.CHECK_ALIVE_LAST_LAST u) % 65536 = 0 ∨ 32768 < (v + 65536 - s.get1 R.CHECK_ALIVE_LAST_LAST u) % 65536) :
    execCheckAliveIn u v s = .next (s.aliveDup u) := by
  simp only [execCheckAliveIn, Nat.mod_eq_of_lt half]
  refine (if_neg ?_).trans (if_pos behind)
  simp only [State.is1, valid, beq_self_eq_true, Bool.not_true, Bool.false_or, beq_iff_eq]
  omega

theorem execCheckAliveIn_jump (valid : s.get1 R.CHECK_ALIVE_LAST_VALID u = 1)
    (from2 : 2 ≤ (v + 65536 - s.get1 R.CHECK_ALIVE_LAST_LAST u) % 65536)
    (ahead : (v + 65536 - s.get1 R.CHECK_ALIVE_LAST_LAST u) % 65536 ≤ 32768) :
    execCheckAliveIn u v s = .next (s.aliveJump u v ((v + 65536 - s.get1 R.CHECK_ALIVE_LAST_LAST u) % 65536 - 1)) := by
  simp only [execCheckAliveIn, Nat.mod_eq_of_lt half]
  refine (if_neg ?_).trans (if_neg ?_)
  · simp only [State.is1, valid, beq_self_eq_true, Bool.not_true, Bool.false_or, beq_iff_eq]
    omega
  · omega

end Alive

/-- Settles O36: VALID and the distance choose the branch; a cause bit of the unit leaves its other fields, which are read back. -/
theorem aliveCounter : Obligations.AliveCounter := by
  intro s u v unit half last d valid
  have source : 0x120 + u < 1024 := by omega
  by_cases next : valid ≠ 1 ∨ d = 1
  · refine ⟨_, execCheckAliveIn_next s half next, fun _ => ⟨rfl, s.last_aliveTaken half, s.valid_aliveTaken⟩, ?_, ?_⟩ <;> omega
  · obtain ⟨valid1, notOne⟩ := not_or.mp next
    have valid1 : valid = 1 := not_not.mp valid1
    by_cases behind : d = 0 ∨ 32768 < d
    · refine ⟨_, execCheckAliveIn_dup s half valid1 behind, fun h => absurd h next, fun _ _ => ⟨rfl, ?dup, ?last, ?count⟩, by omega⟩
      case dup => exact State.get1_cause1_flag _ _ _ _ rfl (by decide) source
      case last =>
        exact (State.get1_cause1_field _ _ _ _ _ _ (by decide) (by decide) source).trans (State.get1_bump1_field _ _ _ _ _ (by decide))
      case count => exact (State.get1_cause1_field _ _ _ _ _ _ (by decide) (by decide) source).trans (State.get1_bump1_min _ _ _ _)
    · have ahead : 2 ≤ d ∧ d ≤ 32768 := by omega
      have kept (g : Field) (h : g.addr * 8 + g.lo ≠ R.CHECK_STATUS_JUMP.addr * 8 + R.CHECK_STATUS_JUMP.lo ∧
          g.s1 = R.CHECK_STATUS_JUMP.s1 ∧ g.s2 = R.CHECK_STATUS_JUMP.s2) (high : 0x200000 ≤ g.addr) :
          (s.aliveJump u v (d - 1)).get1 g u =
            (((s.aliveTaken u v).put1 R.CHECK_STATUS_MISSED u (d - 1)).bump1 R.CHECK_COUNT_JUMPS u 1).get1 g u :=
        State.get1_cause1_field _ _ _ _ _ _ h high source
      refine ⟨_, execCheckAliveIn_jump s half valid1 ahead.1 ahead.2, fun h => absurd h next, fun _ h => absurd h behind,
        fun _ _ _ => ⟨rfl, ?jump, ?missed, ?last, ?count⟩⟩
      case jump => exact State.get1_cause1_flag _ _ _ _ rfl (by decide) source
      case missed =>
        rw [kept _ (by decide) (by decide), State.get1_bump1_field _ _ _ _ _ (by decide), State.get1_put1_same]
        exact Nat.mod_eq_of_lt (Nat.lt_of_le_of_lt (Nat.sub_le _ _) (Nat.mod_lt _ (by decide)))
      case last =>
        rw [kept _ (by decide) (by decide), State.get1_bump1_field _ _ _ _ _ (by decide), State.get1_put1_field _ _ _ _ _ (by decide),
          s.last_aliveTaken half]
      case count =>
        rw [kept _ (by decide) (by decide), State.get1_bump1_min]
        simp (disch := decide) only [State.aliveTaken, State.get1_put1_field]

/-- What a running register shows of its state and its result (R426, R428). -/
theorem State.state_checkPut (s : State) (u st : Nat) :
    (s.checkPut u st).get1 R.CHECK_STATE_STATE u = st % 2 ^ checkWidth (s.checkKind u) % 2 ^ 64 := by
  rw [State.checkPut, State.get1_put1_field _ _ _ _ _ (by decide), State.get1_put1_same]
  rfl

theorem State.result_checkPut (s : State) (u st : Nat) :
    (s.checkPut u st).get1 R.CHECK_RESULT_RESULT u =
      checkFinal (s.checkKind u) (st % 2 ^ checkWidth (s.checkKind u)) % 2 ^ 64 :=
  State.get1_put1_same _ _ _ _

theorem checkWidth_le (k : Nat) : checkWidth k ≤ 64 := by
  unfold checkWidth
  split
  · exact le_refl 64
  · split <;> decide

/-- A check's register fits the 64 bits of CHECK_STATE. -/
theorem checkWidth_fits (k st : Nat) : st % 2 ^ checkWidth k % 2 ^ 64 = st % 2 ^ checkWidth k := by
  have below : st % 2 ^ checkWidth k < 2 ^ checkWidth k := Nat.mod_lt _ (Nat.two_pow_pos _)
  have fits : 2 ^ checkWidth k ≤ 2 ^ 64 := Nat.pow_le_pow_right Nat.two_pos (checkWidth_le k)
  exact Nat.mod_eq_of_lt (Nat.lt_of_lt_of_le below fits)

/-- The unit computes the check `k` from now on. -/
def State.checkSelect (s : State) (u k : Nat) : State := { s with checkPoly := Tab.set 0 s.checkPoly u k }

@[simp] theorem State.checkKind_put1 (s : State) (f : Field) (i v u : Nat) : (s.put1 f i v).checkKind u = s.checkKind u := rfl

@[simp] theorem State.checkKind_checkPut (s : State) (i st u : Nat) : (s.checkPut i st).checkKind u = s.checkKind u := by
  simp only [State.checkPut, State.checkKind_put1]

theorem State.checkKind_checkSelect (s : State) (u k : Nat) : (s.checkSelect u k).checkKind u = k := Tab.get_set_same _ _ _ _

/-- What INIT leaves of a unit that computes check `k` (R426): the initial value loaded, the alive history cleared. -/
def State.checkStarted (s : State) (u k : Nat) : State :=
  (((s.checkSelect u k).checkPut u (checkInit k)).put1 R.CHECK_ALIVE_LAST_VALID u 0).put1 R.CHECK_ALIVE_LAST_LAST u 0

theorem execCheckInit_starts (s : State) (u : Nat) :
    execCheckInit u s = .next (s.checkStarted u (if s.get1 R.CHECK_CTL_POLY u = 3 then 0 else s.get1 R.CHECK_CTL_POLY u)) := by
  unfold State.checkStarted
  generalize started : s.checkSelect u (if s.get1 R.CHECK_CTL_POLY u = 3 then 0 else s.get1 R.CHECK_CTL_POLY u) = s1
  have kind : s1.checkKind u = if s.get1 R.CHECK_CTL_POLY u = 3 then 0 else s.get1 R.CHECK_CTL_POLY u := by
    rw [← started, State.checkKind_checkSelect]
  rw [← kind, ← started]
  rfl

section CheckStarted
variable (s : State) (u k : Nat)

/-- INIT's clearing of the alive history leaves the unit's other fields. -/
theorem State.get1_checkStarted (g : Field)
    (last : g.addr * 8 + g.lo ≠ R.CHECK_ALIVE_LAST_LAST.addr * 8 + R.CHECK_ALIVE_LAST_LAST.lo ∧
      g.s1 = R.CHECK_ALIVE_LAST_LAST.s1 ∧ g.s2 = R.CHECK_ALIVE_LAST_LAST.s2)
    (valid : g.addr * 8 + g.lo ≠ R.CHECK_ALIVE_LAST_VALID.addr * 8 + R.CHECK_ALIVE_LAST_VALID.lo ∧
      g.s1 = R.CHECK_ALIVE_LAST_VALID.s1 ∧ g.s2 = R.CHECK_ALIVE_LAST_VALID.s2) :
    (s.checkStarted u k).get1 g u = ((s.checkSelect u k).checkPut u (checkInit k)).get1 g u :=
  (State.get1_put1_field _ _ _ _ _ last).trans (State.get1_put1_field _ _ _ _ _ valid)

theorem State.checkKind_checkStarted : (s.checkStarted u k).checkKind u = k := by
  simp only [State.checkStarted, State.checkKind_put1, State.checkKind_checkPut, State.checkKind_checkSelect]

theorem State.state_checkStarted : (s.checkStarted u k).get1 R.CHECK_STATE_STATE u = checkInit k % 2 ^ checkWidth k := by
  rw [State.get1_checkStarted _ _ _ _ (by decide) (by decide), State.state_checkPut, State.checkKind_checkSelect, checkWidth_fits]

theorem State.result_checkStarted :
    (s.checkStarted u k).get1 R.CHECK_RESULT_RESULT u = checkFinal k (checkInit k % 2 ^ checkWidth k) % 2 ^ 64 := by
  rw [State.get1_checkStarted _ _ _ _ (by decide) (by decide), State.result_checkPut, State.checkKind_checkSelect]

theorem State.valid_checkStarted : (s.checkStarted u k).get1 R.CHECK_ALIVE_LAST_VALID u = 0 :=
  (State.get1_put1_field _ _ _ _ _ (by decide)).trans (State.get1_put1_same _ _ _ _)

theorem State.last_checkStarted : (s.checkStarted u k).get1 R.CHECK_ALIVE_LAST_LAST u = 0 := State.get1_put1_same _ _ _ _

theorem State.checkStarted_only :
    s.checkStarted u k = { s with regs := (s.checkStarted u k).regs, checkPoly := (s.checkStarted u k).checkPoly } := rfl

end CheckStarted

/-- Settles O37: each command puts a value into the running register, whose state and result are read back. -/
theorem checkUnits : Obligations.CheckUnits := by
  refine ⟨?init, ?data, ?state⟩
  case init =>
    intro s u p k
    exact ⟨_, execCheckInit_starts s u, s.state_checkStarted u k, s.checkKind_checkStarted u k, s.result_checkStarted u k,
      s.valid_checkStarted u k, s.last_checkStarted u k, s.checkStarted_only u k⟩
  case data =>
    intro s u w n k v
    exact ⟨_, rfl, (State.get1_put1_field _ _ _ _ _ (by decide)).trans (s.state_checkPut u _),
      (State.get1_put1_field _ _ _ _ _ (by decide)).trans (s.result_checkPut u _), State.get1_put1_same _ _ _ _, rfl⟩
  case state => exact fun s u w high => ⟨_, rfl, s.state_checkPut u _, s.result_checkPut u _, rfl⟩

end Sys2Proof.Machine

namespace Sys2Proof.Machine

/-! ## The OR of a group read (R412) -/

/-- The word of a register of a member, zero where no register stands. -/
def State.memberWord (s : State) (m arr r k : Nat) : Nat :=
  match regAt (memberOff arr k r) with
  | some (y, i, j) => s.word m y i j
  | none => 0

theorem State.groupRead_reached (s : State) {m off arr g r : Nat} {ks : List Nat} (group : groupOf off = some (arr, g, r))
    (reached : s.groupReached arr r ks ≠ []) (writable : groupWritable arr r = true) :
    s.groupRead m off ks = ((s.groupReached arr r ks).foldl (fun v k => orN 32 v (s.memberWord m arr r k)) 0, s) := by
  simp only [State.groupRead, group, writable, if_true]
  rfl

theorem State.bit_memberWord (s : State) (m arr r k b : Nat) :
    bit (s.memberWord m arr r k) b =
      (match regAt (memberOff arr k r) with
        | some (y, i, j) => bit (s.word m y i j) b
        | none => false) := by
  unfold State.memberWord
  split
  · rfl
  · simp [bit]

theorem State.membersAt_aperture (s : State) {off arr g r : Nat} (group : groupOf off = some (arr, g, r)) :
    s.membersAt (apertureBase + off) = s.groupMembers arr g := by
  have inAperture : ¬ apertureBase + off < apertureBase := by omega
  simp only [State.membersAt, if_neg inAperture, Nat.add_sub_cancel_left, group]

/-- Settles O56: a read that reaches members folds their words by OR, whose bits are the OR of the bits. -/
theorem groupReadOr : Obligations.GroupReadOr := by
  intro s m off arr g r group reached writable
  rw [s.groupRead_reached group reached writable]
  refine ⟨s.membersAt_aperture group, rfl, fun b word => ?_⟩
  have zero : bit 0 b = false := by simp [bit]
  rw [bit_foldl_or _ _ _ _ word, zero, Bool.false_or]
  exact congrArg (List.any _) (funext fun k => s.bit_memberWord m arr r k b)

/-! ## Pending bits and vectors (R429, R432) -/

theorem State.sent_emit (s : State) {o : Sent} (noPin : o.pin = false) : (s.emit o).sent = s.sent ++ [o] := by
  simp [State.emit, noPin]

theorem State.evt_emit (s : State) (o : Sent) : (s.emit o).evt = s.evt := by simp only [State.emit_fields]

section Vectors
variable (s : State) {v : Nat}

/-- A vector noted as pending. -/
def State.vecNoted (s : State) (v : Nat) : State := { s with evt := { s.evt with vecPend := Tab.set false s.evt.vecPend v true } }

theorem State.vecRise_pending (pending : Tab.get false s.evt.vecPend v = true) : s.vecRise v = s := if_pos pending

theorem State.vecRise_open (fresh : Tab.get false s.evt.vecPend v = false) (isOpen : s.vecOpen v = true) :
    s.vecRise v = (s.vecNoted v).emit (.msix v) := by
  simp only [State.vecRise, fresh, isOpen, State.vecNoted]
  rfl

theorem State.vecRise_closed (fresh : Tab.get false s.evt.vecPend v = false) (closed : s.vecOpen v = false) :
    s.vecRise v = { s.vecNoted v with evt := { (s.vecNoted v).evt with pba := Tab.set false s.evt.pba v true } } := by
  simp only [State.vecRise, fresh, closed, State.vecNoted]
  rfl

theorem State.vecPend_vecNoted : Tab.get false (s.vecNoted v).evt.vecPend v = true := Tab.get_set_same false s.evt.vecPend v true

end Vectors

theorem execEvtPend_word (s : State) {w v : Nat} (word : w < 32) (value : v < 4294967296) : execEvtPend w v s = .next (clearPend w v s) := by
  rw [execEvtPend, Nat.mod_eq_of_lt word, Nat.mod_eq_of_lt value]

/-- Settles O40: EVT_PEND is `clearPend`; the three kinds of mask write differ in their field alone; a vector's rise takes the branch of its
being pending and open. -/
theorem pendingAndVectors : Obligations.PendingAndVectors := by
  refine ⟨?pend, ?mask, ?functionMask, ?enable, ?sent, ?noted, ?once⟩
  case pend =>
    intro s w v word value cleared vecs s1
    refine ⟨_, execEvtPend_word s word value, rfl, fun none => ?_⟩
    have noVecs : vecs = [] := by simp only [vecs, none, List.filter_nil, List.map_nil, List.dedup_nil]
    calc clearPend w v s = cleared.foldl (fun a n => if a.level n then a.raise n else a) (vecs.foldl State.vecFall s1) := rfl
      _ = s1 := by rw [noVecs, none]; rfl
  case mask =>
    intro s k v vector
    refine ⟨_, rfl, ?_⟩
    simp only [if_pos vector]
  case functionMask => exact fun s v => ⟨_, rfl, rfl⟩
  case enable => exact fun s v => ⟨_, rfl, rfl⟩
  case sent =>
    intro s v fresh isOpen
    rw [s.vecRise_open fresh isOpen, State.sent_emit _ rfl]
    refine ⟨?_, rfl⟩
    rw [State.evt_emit, State.vecPend_vecNoted]
  case noted =>
    intro s v fresh closed
    rw [s.vecRise_closed fresh closed]
    exact ⟨s.vecPend_vecNoted, Tab.get_set_same false s.evt.pba v true, rfl⟩
  case once => exact fun s v pending => s.vecRise_pending pending

end Sys2Proof.Machine

namespace Sys2Proof.Machine

/-! ## Locks and the limit of the crossbar (R416, R417)

Targets from 24 up are accepted as the others are (notes/assumptions/50.md). -/

/-- The target that a master names in XBAR_LOCK. -/
def State.lockNamed (s : State) (m k : Nat) : State := { s with xbar := { s.xbar with target := Tab.set 0 s.xbar.target m k } }

section Acquire
variable (s : State) (m t : Nat) {k : Nat} (target : k < 32)
include target

/-- The word that requests target `k`: bit 31 alone and the target's number. -/
theorem lockWord_bits : bits (2147483648 + k * 65536) 16 5 = k ∧ bit (2147483648 + k * 65536) 30 = false ∧
    bit (2147483648 + k * 65536) 31 = true := by
  simp only [bits, bit, beq_iff_eq, beq_eq_false_iff_ne]
  omega

theorem execLockAcquire_writes :
    execLockAcquire m k t s = .next
      (if (Tab.get (0, 0) s.xbar.held m).1 != 0 || Tab.get 0 s.xbar.wait m != 0 || k == 21 then
        ((s.upTo t).lockNamed m k).bump R.XBAR_STATUS_LOCK_REFUSED 1
      else { (s.upTo t).lockNamed m k with
        xbar := { ((s.upTo t).lockNamed m k).xbar with wait := Tab.set 0 s.xbar.wait m (k + 1) } }) := by
  obtain ⟨named, keeps, requests⟩ := lockWord_bits target
  unfold execLockAcquire State.writeLock
  rw [Nat.mod_eq_of_lt target, named, keeps, requests]
  rfl

theorem execLockAcquire_free (other : k ≠ 21) (holdsNone : (Tab.get (0, 0) s.xbar.held m).1 = 0) (waitsNone : Tab.get 0 s.xbar.wait m = 0) :
    execLockAcquire m k t s = .next { (s.upTo t).lockNamed m k with
      xbar := { ((s.upTo t).lockNamed m k).xbar with wait := Tab.set 0 s.xbar.wait m (k + 1) } } := by
  rw [execLockAcquire_writes s m t target, if_neg (by simp [other, holdsNone, waitsNone])]

theorem execLockAcquire_refused (refused : k = 21 ∨ (Tab.get (0, 0) s.xbar.held m).1 ≠ 0 ∨ Tab.get 0 s.xbar.wait m ≠ 0) :
    execLockAcquire m k t s = .next (((s.upTo t).lockNamed m k).bump R.XBAR_STATUS_LOCK_REFUSED 1) := by
  rw [execLockAcquire_writes s m t target, if_pos ?_]
  rcases refused with pair | holds | waits
  · simp [pair]
  · simp [holds]
  · simp [waits]

end Acquire

/-- A target granted to the master that waited for it. -/
def State.lockHeld (s : State) (m w : Nat) : State :=
  { s with xbar := { s.xbar with wait := Tab.set 0 s.xbar.wait m 0, held := Tab.set (0, 0) s.xbar.held m (w + 1, s.now) } }

theorem execLockGrant_free {s : State} {m w : Nat} (t : Nat) (waits : Tab.get 0 s.xbar.wait m = w + 1)
    (free : s.lockedOut m (some w) = false) : execLockGrant m t s = .next ((s.upTo t).lockHeld m w) := by
  have goes : ¬ (w + 1 = 0 ∨ (s.upTo t).lockedOut m (some (w + 1 - 1)) = true) := by
    rintro (none | locked)
    · omega
    · exact Bool.false_ne_true (free.symm.trans locked)
  unfold execLockGrant
  simp only [State.upTo_fields, waits, if_neg goes]
  rfl

theorem execLockGrant_locked {s : State} {m w : Nat} (t : Nat) (waits : Tab.get 0 s.xbar.wait m = w + 1)
    (locked : s.lockedOut m (some w) = true) : execLockGrant m t s = .next (s.upTo t) := by
  have stays : w + 1 = 0 ∨ (s.upTo t).lockedOut m (some (w + 1 - 1)) = true := .inr locked
  unfold execLockGrant
  simp only [State.upTo_fields, waits, if_pos stays]

theorem execLockExpiry_due {s : State} {m t : Nat} (holds : (Tab.get (0, 0) s.xbar.held m).1 ≠ 0)
    (due : (Tab.get (0, 0) s.xbar.held m).2 + nsToT (1000 * max 1 (s.get R.XBAR_LOCK_LIMIT_US)) ≤ max s.now t) :
    execLockExpiry m t s = .next (((({ s.upTo t with xbar := { s.xbar with held := Tab.set (0, 0) s.xbar.held m (0, 0) } } : State).bump
      R.XBAR_STATUS_LOCK_EXPIRED 1).raise 0x17E).drainQueue t) :=
  if_neg (not_or.mpr ⟨holds, Nat.not_lt.mpr due⟩)

theorem execXbarTimeout_unlocked {s : State} {m off : Nat} (t : Nat) {write : Bool} (alive : s.alive = true)
    (unlocked : s.xbar.queue.any (fun q => q.master == m && q.off == off && q.value.isSome == write) = false) :
    execXbarTimeout m off t write s = .next
      (let s1 := ((s.upTo t).bump R.XBAR_STATUS_TIMEOUT 1).raise 0x17E
       if write then s1
       else if m = 1 then ({ s1 with scp := { s1.scp with err := s1.scp.err || decide (0 < s1.scp.due) } } : State).answerRead 1 off 0
       else (s1.answerRead m off 0).emit (.regError m off)) := by
  have limited : ¬ ((!(s.upTo t).alive) = true ∨
      (s.upTo t).xbar.queue.any (fun q => q.master == m && q.off == off && q.value.isSome == write) = true) := by
    rintro (off | locked)
    · simp [alive] at off
    · exact Bool.false_ne_true (unlocked.symm.trans locked)
  unfold execXbarTimeout
  simp only [if_neg limited, apply_ite Host.Outcome.next]

/-- Settles O33: each command takes the branch of what the master holds, waits for and asks, or of the queue. -/
theorem crossbarLocks : Obligations.CrossbarLocks := by
  refine ⟨?acquire, ?refused, ?grant, ?locked, ?release, ?expiry, ?writeTimeout, ?readTimeout, ?behindLock⟩
  case acquire =>
    exact fun s m k t target other holdsNone waitsNone => ⟨_, execLockAcquire_free s m t target other holdsNone waitsNone,
      Tab.get_set_same 0 s.xbar.wait m (k + 1), Tab.get_set_same 0 s.xbar.target m k, rfl⟩
  case refused => exact fun s m k t target refused => ⟨_, execLockAcquire_refused s m t target refused, rfl, rfl, rfl⟩
  case grant =>
    exact fun s m w t waits free => ⟨_, execLockGrant_free t waits free, Tab.get_set_same 0 s.xbar.wait m 0,
      Tab.get_set_same (0, 0) s.xbar.held m (w + 1, max s.now t), rfl⟩
  case locked => exact fun s m w t waits locked => ⟨_, execLockGrant_locked t waits locked, rfl⟩
  case release => exact fun s m t => ⟨_, rfl, rfl⟩
  case expiry => exact fun s m t holds due => ⟨_, execLockExpiry_due holds due, rfl⟩
  case writeTimeout => exact fun s m off t alive unlocked => ⟨_, execXbarTimeout_unlocked t alive unlocked, if_pos rfl⟩
  case readTimeout =>
    intro s m off t alive other unlocked
    refine ⟨_, execXbarTimeout_unlocked t alive unlocked, ?_⟩
    simp only [if_neg other, State.answerRead_master _ _ _ _ other, Bool.false_eq_true, if_false]
  case behindLock => exact fun s m off t w locked => ⟨_, if_pos (.inr locked), rfl⟩

end Sys2Proof.Machine

namespace Sys2Proof.Machine

/-- A cause bit of a register without instances leaves the fields above the event router's registers, itself apart (R429). -/
theorem State.get_causeBase (s : State) (f : Field) (b k : Nat) (g : Field) (other : g.key 0 0 ≠ f.key 0 0) (high : 0x200000 ≤ g.addr)
    (source : b + k < 1024) : (s.causeBase f b k).get g = s.get g :=
  (State.get_cause1 s f 0 k (b + k) g (Field.free_high g 0 0 _ high source)).trans (State.get2_put2_other _ _ _ _ _ _ _ _ other)

/-! ## The host function (R435 to R438)

D3HOT with `on` false and a misaligned read that stays in its word are the model's choices (notes/assumptions/53.md), and which reads of
host memory stand is its reading of R437 (notes/assumptions/123.md). -/

/-- The link shows as down. -/
def State.linkCleared (s : State) : State := ((s.put R.PCIE_STATUS_UP 0).put R.PCIE_STATUS_SPEED 0).put R.PCIE_STATUS_WIDTH 0

theorem State.up_linkCleared (s : State) : s.linkCleared.get R.PCIE_STATUS_UP = 0 := by
  rw [State.linkCleared, State.get_put_ne _ _ _ _ (by decide), State.get_put_ne _ _ _ _ (by decide), State.get_put_same]
  rfl

theorem State.speed_linkCleared (s : State) : s.linkCleared.get R.PCIE_STATUS_SPEED = 0 := by
  rw [State.linkCleared, State.get_put_ne _ _ _ _ (by decide), State.get_put_same]
  rfl

theorem State.width_linkCleared (s : State) : s.linkCleared.get R.PCIE_STATUS_WIDTH = 0 := by
  rw [State.linkCleared, State.get_put_same]
  rfl

/-- An event of the function and the end of its reads leave the fields above the event router's registers, the causes apart. -/
theorem State.get_pcieEvt_hostReadsEnd (s : State) {k : Nat} (cause : k < 16) (g : Field) (other : g.key 0 0 ≠ R.PCIE_EVT_CAUSE.key 0 0)
    (high : 0x200000 ≤ g.addr) : (s.causeBase R.PCIE_EVT_CAUSE 0x160 k).hostReadsEnd.get g = s.get g :=
  (State.get_hostReadsEnd _ _).trans (State.get_causeBase s _ _ k g other high (by omega))

section Link
variable (s : State)

/-- What a link leaves that goes down. -/
def State.linkLost (s : State) : State := ((s.linkCleared.bump R.PCIE_STATUS_DOWNS 1).causeBase R.PCIE_EVT_CAUSE 0x160 0).hostReadsEnd

theorem State.get_linkLost (g : Field) (other : g.key 0 0 ≠ R.PCIE_EVT_CAUSE.key 0 0) (high : 0x200000 ≤ g.addr) :
    s.linkLost.get g = (s.linkCleared.bump R.PCIE_STATUS_DOWNS 1).get g :=
  State.get_pcieEvt_hostReadsEnd _ (by decide) g other high

theorem State.up_linkLost : s.linkLost.get R.PCIE_STATUS_UP = 0 := by
  rw [s.get_linkLost _ (by decide) (by decide), State.get_bump_ne _ _ _ _ (by decide), State.up_linkCleared]

theorem State.speed_linkLost : s.linkLost.get R.PCIE_STATUS_SPEED = 0 := by
  rw [s.get_linkLost _ (by decide) (by decide), State.get_bump_ne _ _ _ _ (by decide), State.speed_linkCleared]

theorem State.width_linkLost : s.linkLost.get R.PCIE_STATUS_WIDTH = 0 := by
  rw [s.get_linkLost _ (by decide) (by decide), State.get_bump_ne _ _ _ _ (by decide), State.width_linkCleared]

theorem State.downs_linkLost :
    s.linkLost.get R.PCIE_STATUS_DOWNS = min (2 ^ R.PCIE_STATUS_DOWNS.w - 1) (s.get R.PCIE_STATUS_DOWNS + 1) := by
  rw [s.get_linkLost _ (by decide) (by decide), State.get_bump_min]
  simp (disch := decide) only [State.linkCleared, State.get_put_ne]

variable {s}

theorem execLinkDown_up (up : s.get R.PCIE_STATUS_UP = 1) : execLinkDown s = .next s.linkLost := by
  have isUp : ¬ (!s.is R.PCIE_STATUS_UP) = true := by simp [State.is, up]
  exact if_neg isUp

theorem execLinkDown_down (down : s.get R.PCIE_STATUS_UP ≠ 1) : execLinkDown s = .next s := by
  have isDown : (!s.is R.PCIE_STATUS_UP) = true := by simp [State.is, down]
  exact if_pos isDown

theorem execLinkUp_down (v w : Nat) (down : s.get R.PCIE_STATUS_UP ≠ 1) (alive : s.alive = true) :
    execLinkUp v w s = .next ((((s.put R.PCIE_STATUS_UP 1).put R.PCIE_STATUS_SPEED v).put R.PCIE_STATUS_WIDTH w).causeBase R.PCIE_EVT_CAUSE
      0x160 1).vecFlush := by
  have comesUp : ¬ (s.is R.PCIE_STATUS_UP || !s.alive) = true := by simp [State.is, down, alive]
  exact if_neg comesUp

/-- A function reset while the part is powered. -/
theorem execFnReset_powered (powered : s.power.d ≤ 1) :
    execFnReset s = .next ((s.fnReset.causeBase R.PCIE_EVT_CAUSE 0x160 5).hostReadsEnd) :=
  congrArg Host.Outcome.next (if_pos (decide_eq_true powered))

/-- The registers of a reset function are those of a link that is down. -/
theorem State.get_fnReset (s : State) (g : Field) : s.fnReset.get g = s.linkCleared.get g := rfl

theorem execCompletionTimeout_due {p a t : Nat} {e : Nat × Nat × Nat}
    (stands : s.store.hostReads.find? (fun e => e.1 == p && e.2.1 == a) = some e) (due : e.2.2 + nsToT 10000000 ≤ max s.now t) :
    execCompletionTimeout ⟨p, a⟩ t s = .next
      (({ s.upTo t with store := { s.store with hostReads := s.store.hostReads.erase e } } : State).pcieCto.emit (.storeDone p a stError [] false)) := by
  simp only [execCompletionTimeout, State.upTo_fields, stands, if_neg (Nat.not_lt.mpr due)]

theorem State.cto_pcieCto (s : State) : s.pcieCto.get R.PCIE_ERR_CTO = min (2 ^ R.PCIE_ERR_CTO.w - 1) (s.get R.PCIE_ERR_CTO + 1) := by
  rw [State.pcieCto, State.pcieEvt, State.get_causeBase _ _ _ _ _ (by decide) (by decide) (by decide), State.get_bump_min]

end Link

/-- Settles O38: each command takes the branch of the link's, the part's or the read's state; what is cleared and counted is read back. -/
theorem hostFunction : Obligations.HostFunction := by
  refine ⟨?down, ?alreadyDown, ?up, ?reset, ?d3hot, ?readsEnd, ?timeout⟩
  case down => exact fun s up => ⟨_, execLinkDown_up up, s.up_linkLost, s.speed_linkLost, s.width_linkLost, s.downs_linkLost, rfl⟩
  case alreadyDown => exact fun s down => ⟨_, execLinkDown_down down, rfl⟩
  case up => exact fun s v w down alive => ⟨_, execLinkUp_down v w down alive, rfl⟩
  case reset =>
    intro s powered
    have cleared (g : Field) (other : g.key 0 0 ≠ R.PCIE_EVT_CAUSE.key 0 0) (high : 0x200000 ≤ g.addr) :
        ((s.fnReset.causeBase R.PCIE_EVT_CAUSE 0x160 5).hostReadsEnd).get g = s.linkCleared.get g :=
      (State.get_pcieEvt_hostReadsEnd _ (by decide) g other high).trans (s.get_fnReset g)
    exact ⟨_, execFnReset_powered powered, (cleared _ (by decide) (by decide)).trans s.up_linkCleared,
      (cleared _ (by decide) (by decide)).trans s.speed_linkCleared, (cleared _ (by decide) (by decide)).trans s.width_linkCleared, rfl⟩
  case d3hot => exact fun s on => ⟨_, rfl, rfl⟩
  case readsEnd => exact fun s => s.hostReadsEnd_eq
  case timeout =>
    exact fun s p a t e stands due => ⟨_, execCompletionTimeout_due stands due, (State.get_emit _ _ _).trans (State.cto_pcieCto _), rfl⟩

section Bar0
variable {s : State} {off : Nat} (t : Nat) (alive : s.alive = true) (up : s.hostUp = true) (inBar : off < 134217728)
include alive up inBar

/-- A request of a powered part whose function is up, by its direction, its alignment, its length and its byte enables. -/
theorem execBar0Request_up (write : Bool) (len en v : Nat) :
    execBar0Request write off len en v t s =
      .next (if write then
          if len = 4 ∧ en = 15 ∧ off % 4 = 0 then (s.upTo t).access 0 off (some (v % 4294967296)) t else (s.upTo t).bar0Refuse
        else if off % 4 + len ≤ 4 then
          if off % 4 = 0 then (s.upTo t).access 0 off none t else (s.upTo t).bar0Refuse.emit (.regRead 0 off 0)
        else (s.upTo t).bar0Refuse.emit (.regError 0 off)) := by
  have decoded : ¬ (!(s.upTo t).alive || !(s.upTo t).hostUp) = true := by
    have upNow : (s.upTo t).hostUp = true := up
    simp [alive, upNow]
  unfold execBar0Request
  simp only [if_neg decoded, Nat.mod_eq_of_lt inBar, apply_ite Host.Outcome.next]

theorem execBar0Request_write {v : Nat} (word : v < 4294967296) (aligned : off % 4 = 0) :
    execBar0Request true off 4 15 v t s = .next ((s.upTo t).access 0 off (some v) t) := by
  rw [execBar0Request_up t alive up inBar, if_pos rfl, if_pos ⟨rfl, rfl, aligned⟩, Nat.mod_eq_of_lt word]

theorem execBar0Request_partialWrite {len en : Nat} (v : Nat) (bad : off % 4 ≠ 0 ∨ len ≠ 4 ∨ en ≠ 15) :
    execBar0Request true off len en v t s = .next (s.upTo t).bar0Refuse := by
  rw [execBar0Request_up t alive up inBar, if_pos rfl, if_neg (by omega)]

theorem execBar0Request_read {len : Nat} (en v : Nat) (word : len ≤ 4) (aligned : off % 4 = 0) :
    execBar0Request false off len en v t s = .next ((s.upTo t).access 0 off none t) := by
  rw [execBar0Request_up t alive up inBar, if_neg Bool.false_ne_true, if_pos (by omega), if_pos aligned]

theorem execBar0Request_misalignedRead {len : Nat} (en v : Nat) (inWord : off % 4 + len ≤ 4) (misaligned : off % 4 ≠ 0) :
    execBar0Request false off len en v t s = .next ((s.upTo t).bar0Refuse.emit (.regRead 0 off 0)) := by
  rw [execBar0Request_up t alive up inBar, if_neg Bool.false_ne_true, if_pos inWord, if_neg misaligned]

theorem execBar0Request_longRead {len : Nat} (en v : Nat) (long : 4 < off % 4 + len) :
    execBar0Request false off len en v t s = .next ((s.upTo t).bar0Refuse.emit (.regError 0 off)) := by
  rw [execBar0Request_up t alive up inBar, if_neg Bool.false_ne_true, if_neg (Nat.not_le.mpr long)]

end Bar0

/-- Settles O39: each kind of request is its branch of the request's law. -/
theorem hostRegisterRequests : Obligations.HostRegisterRequests := by
  intro s off t alive up inBar
  refine ⟨?write, ?partialWrite, ?read, ?misalignedRead, ?longRead⟩
  case write => exact fun v word aligned => ⟨_, execBar0Request_write t alive up inBar word aligned, rfl⟩
  case partialWrite => exact fun v len en bad => ⟨_, execBar0Request_partialWrite t alive up inBar v bad, rfl⟩
  case read => exact fun v en len word aligned => ⟨_, execBar0Request_read t alive up inBar en v word aligned, rfl⟩
  case misalignedRead =>
    exact fun v en len inWord misaligned => ⟨_, execBar0Request_misalignedRead t alive up inBar en v inWord misaligned, rfl⟩
  case longRead => exact fun v en len long => ⟨_, execBar0Request_longRead t alive up inBar en v long, rfl⟩

end Sys2Proof.Machine

namespace Sys2Proof.Machine

@[simp] theorem State.is_eq_true (s : State) (f : Field) : s.is f = true ↔ s.get f = 1 := beq_iff_eq

/-! ## SCP and the flash (R446 to R448)

A READ that drops the reads that still wait, LEN above 256 as 256 and a second GO that replaces the one that waits are the model's choices
(notes/assumptions/57.md). -/

section Scp
variable {s : State} {cmd t op : Nat}

/-- A transaction of operation `op` whose header is bad is refused, whichever command carries it. -/
theorem execScp_refused (begins : (s.upTo t).scpBegins cmd op = true) (bad : scpBad cmd = true) :
    (op = 0 → ∀ w, execScpWrite cmd w t s = .next (s.upTo t).scpRefuse) ∧
    (op = 1 → ∀ w, execScpRead cmd w t s = .next (s.upTo t).scpRefuse) ∧
    (op = 2 → ∀ n, execScpFetch cmd n t s = .next (s.upTo t).scpRefuse) := by
  have goes : ¬ (!(s.upTo t).scpBegins cmd op) = true := by simpa using begins
  refine ⟨?write, ?read, ?fetch⟩
  case write => rintro rfl w; exact (if_neg goes).trans (if_pos bad)
  case read => rintro rfl w; exact (if_neg goes).trans (if_pos bad)
  case fetch => rintro rfl n; exact (if_neg goes).trans (if_pos bad)

theorem execScpWrite_good (w : List Nat) (begins : (s.upTo t).scpBegins cmd 0 = true) (good : scpBad cmd = false) :
    execScpWrite cmd w t s = .next
      ((((List.range w.length).zip w).foldl (fun a x => a.access 1 (scpAddr cmd x.1) (some (x.2 % 4294967296)) t) (s.upTo t)).scpMode 1) := by
  simp only [execScpWrite, begins, good, Bool.not_true, Bool.false_eq_true, if_false]

/-- A READ of a good header with a COUNT behind it. -/
theorem execScpRead_counted (n : Nat) (w : List Nat) (begins : (s.upTo t).scpBegins cmd 1 = true) (good : scpBad cmd = false) :
    execScpRead cmd (n :: w) t s = .next
      (if n = 0 ∨ 64 < n then (s.upTo t).scpRefuse
      else forN n (fun k a => a.access 1 (scpAddr cmd k) none t) { s.upTo t with
        scp := { s.scp with buf := [], due := n, err := false, mode := 2 },
        xbar := { s.xbar with queue := s.xbar.queue.filter (fun x => !(x.master == 1 && x.value.isNone)) } }) := by
  simp only [execScpRead, begins, good, Bool.not_true, Bool.false_eq_true, if_false, apply_ite Host.Outcome.next]
  rfl

theorem execScpFetch_good (k : Nat) (begins : (s.upTo t).scpBegins cmd 2 = true) (good : scpBad cmd = false) :
    execScpFetch cmd (k + 1) t s = .next
      (({ s.upTo t with scp := { s.scp with
          buf := s.scp.buf.drop (min k s.scp.buf.length)
          mode := if min k s.scp.buf.length = s.scp.buf.length then 2 else 4 } } : State).emit
        (.scp ((2147483648 * b2n (s.scp.due == 0) + 1073741824 * b2n s.scp.err + s.scp.buf.length) ::
          s.scp.buf.take (min k s.scp.buf.length)))) := by
  simp only [execScpFetch, begins, good, Bool.not_true, Bool.false_eq_true, if_false, Nat.succ_ne_zero, Nat.add_sub_cancel]
  rfl

end Scp

/-- A transaction that ends at a word's end, or that was refused, leaves nothing but its end. -/
theorem execScpSelRise_whole {s : State} {n : Nat} (whole : s.scp.mode = 2 ∨ n % 32 = 0) : execScpSelRise n s = .next (s.scpMode 0) := by
  unfold execScpSelRise
  rw [if_pos whole]
  exact ite_self _

theorem execScpSelRise_cut {s : State} {n : Nat} (alive : s.alive = true) (mode : s.scp.mode ≠ 2) (cut : n % 32 ≠ 0) :
    execScpSelRise n s = .next
      (((({ s with scp := { s.scp with buf := if s.scp.mode = 4 then s.scp.buf.drop 1 else s.scp.buf } } : State).bump
        R.SCP_STATUS_PARTIAL 1).causeBase R.SCP_EVT_CAUSE 0x170 0).scpMode 0) := by
  have isCut : ¬ (s.scp.mode = 2 ∨ n % 32 = 0) := not_or.mpr ⟨mode, cut⟩
  have fetched : (if s.scp.mode = 4 then { s with scp := { s.scp with buf := s.scp.buf.drop 1 } } else s) =
      ({ s with scp := { s.scp with buf := if s.scp.mode = 4 then s.scp.buf.drop 1 else s.scp.buf } } : State) := by
    split <;> rfl
  simp only [execScpSelRise, alive, Bool.not_true, Bool.false_eq_true, if_false, if_neg isCut, fetched]
  rfl

/-- The select line wakes the part from D2 alone. -/
theorem execScpSelFall_eq (s : State) (t : Nat) :
    execScpSelFall t s = .next (if s.power.d = 2 ∧ s.wakeOn 3 = true then (s.upTo t).wakeUp 3 else s.upTo t) := by
  have same : (s.upTo t).wakeOn 3 = s.wakeOn 3 := rfl
  simp only [execScpSelFall, State.upTo_fields, same, Bool.and_eq_true, decide_eq_true_eq]

theorem execFlashGo_free {s : State} (t : Nat) (free : s.get R.FLASH_CTL_BUSY ≠ 1) :
    execFlashGo t s = .next (if s.bootHolds then { s.upTo t with scp := { s.scp with flashWait := true } } else (s.upTo t).flashStart) := by
  have issued : ¬ (s.upTo t).is R.FLASH_CTL_BUSY = true := by simpa using free
  exact (if_neg issued).trans (apply_ite Host.Outcome.next _ _ _).symm

theorem State.busy_flashStart (s : State) : s.flashStart.get R.FLASH_CTL_BUSY = 1 := by
  rw [State.flashStart, State.get_emit, State.get_put_same]
  rfl

theorem execFlashDone_busy {s : State} (d : List Byte) (busy : s.get R.FLASH_CTL_BUSY = 1) :
    execFlashDone d s = .next
      (let x := padTo (flashLen s.scp.flashCtl) d
       if bit s.scp.flashCtl 29 then s.put R.FLASH_CTL_BUSY 0
       else forN 64 (fun k a => a.put1 R.FLASH_BUF_DATA k (fld (x ++ ((s.put R.FLASH_CTL_BUSY 0).flashBuf 256).drop x.length) (4 * k) 4))
         (s.put R.FLASH_CTL_BUSY 0)) := by
  have runs : ¬ (!s.is R.FLASH_CTL_BUSY) = true := by simpa using busy
  exact (if_neg runs).trans (apply_ite Host.Outcome.next _ _ _).symm

theorem execFlashTimeout_due {s : State} {t : Nat} (busy : s.get R.FLASH_CTL_BUSY = 1) (due : s.scp.flashAt + nsToT 10000000 ≤ max s.now t) :
    execFlashTimeout t s = .next ((((s.upTo t).put R.FLASH_CTL_BUSY 0).bump R.FLASH_CTL_ERRORS 1).causeBase R.SCP_EVT_CAUSE 0x170 2) := by
  have times : ¬ (!(s.upTo t).is R.FLASH_CTL_BUSY || decide ((s.upTo t).now < (s.upTo t).scp.flashAt + nsToT 10000000)) = true := by
    have isBusy : (s.upTo t).is R.FLASH_CTL_BUSY = true := by simpa using busy
    have notEarly : ¬ (s.upTo t).now < (s.upTo t).scp.flashAt + nsToT 10000000 := Nat.not_lt.mpr due
    simp only [isBusy, decide_eq_false notEarly, Bool.not_true, Bool.or_self, Bool.false_eq_true, not_false_eq_true]
  exact if_neg times

/-- Settles O42: each command takes the branch of the transaction, the header, the power state or BUSY that it finds. -/
theorem boardPorts : Obligations.BoardPorts := by
  refine ⟨?write, ?refused, ?read, ?badCount, ?fetch, ?whole, ?cut, ?awake, ?wakes, ?ignored, ?held, ?go, ?wrote, ?done, ?timeout⟩
  case write => exact fun s cmd t w begins good => ⟨_, execScpWrite_good w begins good, rfl⟩
  case refused =>
    intro s cmd t w op op3 begins bad refused
    obtain ⟨write, read, fetch⟩ := execScp_refused begins bad
    exact ⟨fun h => ⟨_, write h w, rfl⟩, fun h => ⟨_, read h w, rfl⟩, fun h n => ⟨_, fetch h n, rfl⟩⟩
  case read =>
    intro s cmd t n w begins good from1 to64
    exact ⟨_, execScpRead_counted n w begins good, if_neg (by omega)⟩
  case badCount => exact fun s cmd t n w begins good bad => ⟨_, execScpRead_counted n w begins good, if_pos bad⟩
  case fetch => exact fun s cmd t k begins good => ⟨_, execScpFetch_good k begins good, rfl⟩
  case whole => exact fun s n whole => ⟨_, execScpSelRise_whole whole, rfl⟩
  case cut => exact fun s n alive mode cut => ⟨_, execScpSelRise_cut alive mode cut, rfl⟩
  case awake => exact fun s t awake => ⟨_, execScpSelFall_eq s t, if_neg (fun ⟨asleep, _⟩ => awake asleep)⟩
  case wakes => exact fun s t asleep on => ⟨_, execScpSelFall_eq s t, if_pos ⟨asleep, on⟩⟩
  case ignored => exact fun s t busy => ⟨_, if_pos ((s.upTo t).is_eq_true _ |>.mpr busy), rfl⟩
  case held => exact fun s t free held => ⟨_, execFlashGo_free t free, if_pos held⟩
  case go =>
    intro s t free noBoot
    refine ⟨_, (execFlashGo_free t free).trans (congrArg _ (if_neg (by simp [noBoot]))), State.busy_flashStart _, rfl⟩
  case wrote => exact fun s d busy write => ⟨_, execFlashDone_busy d busy, if_pos write⟩
  case done => exact fun s d busy read => ⟨_, execFlashDone_busy d busy, if_neg (by simp [read])⟩
  case timeout => exact fun s t busy due => ⟨_, execFlashTimeout_due busy due, rfl⟩

end Sys2Proof.Machine

namespace Sys2Proof.Machine

/-! ## The management port (R439 to R445)

STATUS 2 before the shape of a request is checked and the free destination of heartbeats are the model's choices
(notes/assumptions/54.md). -/

section Receive
variable {s : State} {d : List Byte} {ok : Bool} {held t : Nat}

/-- A received frame moves the end of carrier; what the filters of R440 read stays. -/
def State.received (s : State) (d : List Byte) (t : Nat) : State := (s.upTo t).carrierTo (t + octetsT (d.length + 4))

theorem State.mgmtFilter_runt (short : d.length + 4 < 64) : s.mgmtFilter d ok held = 1 := if_pos short

theorem State.mgmtFilter_oversize (long : 1522 < d.length + 4) : s.mgmtFilter d ok held = 2 :=
  (if_neg (by omega)).trans (if_pos long)

section Sized
variable (from64 : 64 ≤ d.length + 4) (to1522 : d.length + 4 ≤ 1522)
include from64 to1522

theorem State.mgmtFilter_bad (bad : ok = false ∨ s.destOk d = false ∨ s.tagOk d = false ∨ rxBuffer < s.rxHeld + held + d.length) :
    3 ≤ s.mgmtFilter d ok held := by
  unfold State.mgmtFilter
  rw [if_neg (Nat.not_lt.mpr from64), if_neg (Nat.not_lt.mpr to1522)]
  split
  · decide
  · split
    · decide
    · split
      · decide
      · split
        · decide
        · simp_all

theorem State.mgmtFilter_good (fcs : ok = true) (dest : s.destOk d = true) (tag : s.tagOk d = true)
    (fits : ¬ rxBuffer < s.rxHeld + held + d.length) : s.mgmtFilter d ok held = 0 := by
  unfold State.mgmtFilter
  rw [if_neg (Nat.not_lt.mpr from64), if_neg (Nat.not_lt.mpr to1522), if_neg (by simp [fcs]), if_neg (by simp [dest]), if_neg (by simp [tag]),
    if_neg fits]

end Sized

section Enabled
variable (enabled : s.get R.MGMT_CTL_EN = 1) (alive : s.alive = true)
include enabled alive

theorem not_receiveOff : ¬ (!(s.received d t).is R.MGMT_CTL_EN || !(s.received d t).alive) = true := by
  have isOn : (s.received d t).is R.MGMT_CTL_EN = true := beq_iff_eq.mpr enabled
  have runs : (s.received d t).alive = true := alive
  simp only [isOn, runs, Bool.not_true, Bool.or_self, Bool.false_eq_true, not_false_eq_true]

/-- A frame that an enabled port receives goes where its first failing filter sends it. -/
theorem execMgmtReceive_dispatched (passes : (s.received d t).mgmtFilter d ok held = 0) :
    execMgmtReceive d ok held t s = .next ((s.received d t).mgmtDispatch (untag d)) := by
  refine (if_neg (not_receiveOff enabled alive)).trans ?_
  rw [← State.received, passes]
  rfl

theorem execMgmtReceive_runt (fails : (s.received d t).mgmtFilter d ok held = 1) :
    execMgmtReceive d ok held t s = .next (((s.received d t).bump R.MGMT_RX_RUNT 1).mgmtEvt 0) := by
  refine (if_neg (not_receiveOff enabled alive)).trans ?_
  rw [← State.received, fails]
  rfl

theorem execMgmtReceive_oversize (fails : (s.received d t).mgmtFilter d ok held = 2) :
    execMgmtReceive d ok held t s = .next (((s.received d t).bump R.MGMT_RX_OVERSIZE 1).mgmtEvt 0) := by
  refine (if_neg (not_receiveOff enabled alive)).trans ?_
  rw [← State.received, fails]
  rfl

theorem execMgmtReceive_bad (fails : 3 ≤ (s.received d t).mgmtFilter d ok held) :
    execMgmtReceive d ok held t s = .next (((s.received d t).bump R.MGMT_RX_BAD 1).mgmtEvt 0) := by
  obtain ⟨n, filter⟩ := Nat.exists_eq_add_of_le' fails
  refine (if_neg (not_receiveOff enabled alive)).trans ?_
  rw [← State.received, filter]
  rfl

end Enabled

end Receive

section Transmit
variable {s : State} {ptp other : List Byte} {t : Nat}

theorem execMgmtTransmit_free {f : List Byte} {p : Bool} {u : State} (enabled : s.get R.MGMT_CTL_EN = 1) (alive : s.alive = true)
    (driven : s.power.hpEn = true) (free : (s.upTo t).macFree = true) (next : (s.upTo t).nextMgmt ptp other = some (f, p, u)) :
    execMgmtTransmit ptp other t s = .next (u.attempt ⟨u.txFrame f, 0, 0, 0, p, false⟩) := by
  have sends : ¬ (!(s.upTo t).is R.MGMT_CTL_EN || !(s.upTo t).alive || !(s.upTo t).power.hpEn || !(s.upTo t).macFree) = true := by
    simp [enabled, alive, driven, free, State.is]
  unfold execMgmtTransmit
  simp only [if_neg sends, next]

theorem State.nextMgmt_heartbeat {h : List Byte} (queued : s.pair.hbQueue = some h) :
    s.nextMgmt ptp other = some ((s.takeFree.2).etherFrame (leBytes 6 s.takeFree.1) 0x88B5 h, false,
      { s.takeFree.2 with pair := { s.pair with hbQueue := none } }) := by
  simp only [State.nextMgmt, queued]
  rfl

theorem State.nextMgmt_ptp (noBeat : s.pair.hbQueue = none) (offered : ptp ≠ []) : s.nextMgmt ptp other = some (ptp, true, s) := by
  have some : ptp.isEmpty = false := List.isEmpty_eq_false_iff.mpr offered
  simp only [State.nextMgmt, noBeat, some, Bool.not_false, if_true]

theorem State.nextMgmt_response {f : List Byte} {r : List (List Byte)} (noBeat : s.pair.hbQueue = none) (queued : s.mgmt.resps = f :: r) :
    s.nextMgmt [] other = some (f, false, { s with mgmt := { s.mgmt with resps := r } }) := by
  simp only [State.nextMgmt, noBeat, queued, List.isEmpty_nil, Bool.not_true, Bool.false_eq_true, if_false]

end Transmit

section Collision
variable {s : State} {x : MgmtTx} {t : Nat} (sending : s.mgmt.tx = some x) (onMedium : x.backoff = 0)
  (inFrame : max s.now t ≤ x.start + nsToT (800 * (x.frame.length + 12)))

/-- A collision ends the attempt: its stamp is withdrawn, and carrier ends with the jam. -/
def State.jammed (s : State) (x : MgmtTx) : State :=
  ({ s with mgmt := { s.mgmt with
    tx := none
    txTs := if x.stamped then s.mgmt.txTs.dropLast else s.mgmt.txTs
    carrier := s.now + nsToT (800 * 4) + 1 } } : State).tsShow

/-- Back-off of `r` slots before the next attempt. -/
def State.backsOff (s : State) (x : MgmtTx) (r : Nat) : State :=
  { s.takeFree.2 with mgmt := { s.mgmt with
    tx := some { x with tries := x.tries + 1, stamped := false, backoff := s.now + nsToT (51200 * r) + 1 } } }

include sending onMedium inFrame

theorem execCollision_sending :
    execCollision t s =
      .next (if x.start + nsToT 51200 < max s.now t then (((s.upTo t).jammed x).bump R.MGMT_TX_LATE 1).mgmtEvt 2
        else if 16 ≤ x.tries + 1 then (((s.upTo t).jammed x).bump R.MGMT_TX_EXCESS 1).mgmtEvt 1
        else ((s.upTo t).jammed x).backsOff x (((s.upTo t).jammed x).takeFree.1 % 2 ^ min (x.tries + 1) 10)) := by
  have collides : ¬ (x.backoff ≠ 0 ∨ x.start + octetsT (x.frame.length + 12) < max s.now t) :=
    not_or.mpr ⟨not_not.mpr onMedium, Nat.not_lt.mpr inFrame⟩
  simp only [execCollision, State.upTo_fields, sending, if_neg collides, apply_ite Host.Outcome.next]
  rfl

end Collision

theorem execBackoffExpiry_due {s : State} {x : MgmtTx} {t : Nat} (waits : s.mgmt.tx = some x) (backingOff : x.backoff ≠ 0)
    (ended : x.backoff ≤ max s.now t + 1) (quiet : (s.upTo t).gapOver = true) (enabled : s.get R.MGMT_CTL_EN = 1) (alive : s.alive = true)
    (driven : s.power.hpEn = true) : execBackoffExpiry t s = .next ((s.upTo t).attempt x) := by
  have tries : ¬ (x.backoff = 0 ∨ max s.now t + 1 < x.backoff ∨ (!(s.upTo t).gapOver) = true ∨ (!(s.upTo t).is R.MGMT_CTL_EN) = true ∨
      (!(s.upTo t).alive) = true ∨ (!s.power.hpEn) = true) := by
    have notEarly : ¬ max s.now t + 1 < x.backoff := Nat.not_lt.mpr ended
    simp [State.is, backingOff, notEarly, quiet, enabled, alive, driven]
  simp only [execBackoffExpiry, State.upTo_fields, waits]
  exact if_neg tries

/-- The oldest stamp of the queue that `dir` names is dropped. -/
def State.stampDropped (s : State) (dir : Nat) : State :=
  ({ s.put R.MGMT_TS_CTL_DIR dir with mgmt := { s.mgmt with
    rxTs := if dir = 1 then s.mgmt.rxTs else s.mgmt.rxTs.drop 1
    txTs := if dir = 1 then s.mgmt.txTs.drop 1 else s.mgmt.txTs } } : State).tsShow

theorem execMgmtTsPop_drops (s : State) {dir : Nat} (oneBit : dir < 2) : execMgmtTsPop dir s = .next (s.stampDropped dir) := by
  have shown : (s.put R.MGMT_TS_CTL_DIR dir).get R.MGMT_TS_CTL_DIR = dir := (State.get_put_same _ _ _).trans (Nat.mod_eq_of_lt oneBit)
  unfold execMgmtTsPop State.stampDropped
  simp only [shown, State.put_fields]
  split <;> rfl

section Request
variable {s : State} {src p : List Byte} {r : List (List Byte × List Byte)} {t : Nat} (oldest : s.mgmt.reqs = (src, p) :: r)
  (alive : s.alive = true)

/-- The oldest register request taken from the queue. -/
def State.requestTaken (s : State) (r : List (List Byte × List Byte)) : State := { s with mgmt := { s.mgmt with reqs := r } }

include oldest alive

theorem execRegisterRequest_off (off : s.get R.MGMT_CTL_REG_EN ≠ 1) (late : List Nat) :
    execRegisterRequest late t s = .next (((s.upTo t).requestTaken r).respond src (reqResponse p 2 [])).mctpTurn := by
  have isOff : (s.upTo t).is R.MGMT_CTL_REG_EN = false := beq_eq_false_iff_ne.mpr off
  simp only [execRegisterRequest, State.upTo_fields, oldest, State.alive_upTo, alive, isOff, Bool.not_true, Bool.not_false,
    Bool.false_eq_true, if_false, if_true]
  rfl

theorem execRegisterRequest_malformed (on : s.get R.MGMT_CTL_REG_EN = 1) (malformed : reqMalformed p = true) (late : List Nat) :
    execRegisterRequest late t s =
      .next ((((s.upTo t).requestTaken r).mgmtEvt 4).respond src (reqResponse p 1 [])).mctpTurn := by
  have isOn : (s.upTo t).is R.MGMT_CTL_REG_EN = true := beq_iff_eq.mpr on
  simp only [execRegisterRequest, State.upTo_fields, oldest, State.alive_upTo, alive, isOn, malformed, Bool.not_true,
    Bool.false_eq_true, if_false, if_true]
  rfl

theorem execRegisterRequest_served (on : s.get R.MGMT_CTL_REG_EN = 1) (wellFormed : reqMalformed p = false)
    (unlocked : ∀ k, k < byteAt p 5 → (s.upTo t).mustWait 2 (fld p 8 4 + 4 * k) (byteAt p 4 == 2) = false) :
    execRegisterRequest [] t s =
      .next ((((s.upTo t).requestTaken r).reqWords p [] t).2.respond src
        (reqResponse p 0 (if byteAt p 4 = 1 then (((s.upTo t).requestTaken r).reqWords p [] t).1 else []))).mctpTurn := by
  have isOn : (s.upTo t).is R.MGMT_CTL_REG_EN = true := beq_iff_eq.mpr on
  have goes : ¬ ((List.range (byteAt p 5)).any (fun k => !([] : List Nat).contains k &&
      (s.upTo t).mustWait 2 (fld p 8 4 + 4 * k) (byteAt p 4 == 2))) = true := by
    simpa using unlocked
  simp only [execRegisterRequest, State.upTo_fields, oldest, State.alive_upTo, alive, isOn, wellFormed, Bool.not_true,
    Bool.false_eq_true, if_false, List.filter_nil]
  exact if_neg goes

end Request

/-- Settles O41: each command takes the branch of the first failing filter, of the queue in turn, of the attempt under way or of the request. -/
theorem managementPort : Obligations.ManagementPort := by
  refine ⟨?receive, ?transmit, ?heartbeat, ?ptp, ?response, ?collision, ?backoff, ?pop, ?request⟩
  case receive =>
    intro s d ok held t enabled alive s0 tooFull
    refine ⟨fun short => ⟨_, execMgmtReceive_runt enabled alive (State.mgmtFilter_runt short), rfl⟩,
      fun long => ⟨_, execMgmtReceive_oversize enabled alive (State.mgmtFilter_oversize long), rfl⟩,
      fun from64 to1522 bad => ⟨_, execMgmtReceive_bad enabled alive (State.mgmtFilter_bad from64 to1522 bad), rfl⟩,
      fun from64 to1522 fcs dest tag fits =>
        ⟨_, execMgmtReceive_dispatched enabled alive (State.mgmtFilter_good from64 to1522 fcs dest tag fits), rfl⟩⟩
  case transmit =>
    exact fun s ptp other f p u1 t enabled alive driven free next => ⟨_, execMgmtTransmit_free enabled alive driven free next, rfl⟩
  case heartbeat => exact fun s h ptp other queued => State.nextMgmt_heartbeat queued
  case ptp => exact fun s ptp other noBeat offered => State.nextMgmt_ptp noBeat offered
  case response => exact fun s f r other noBeat queued => State.nextMgmt_response noBeat queued
  case collision =>
    intro s x t sending onMedium inFrame s1
    have answers := execCollision_sending sending onMedium inFrame
    refine ⟨fun late => ⟨_, answers, if_pos late⟩, fun early last => ⟨_, answers, ?_⟩, fun early more => ⟨_, answers, ?_⟩⟩
    · exact (if_neg (Nat.not_lt.mpr early)).trans (if_pos last)
    · exact ⟨_, Nat.mod_lt _ (Nat.two_pow_pos _), (if_neg (Nat.not_lt.mpr early)).trans (if_neg (Nat.not_le.mpr more))⟩
  case backoff =>
    exact fun s x t waits backingOff ended quiet enabled alive driven =>
      ⟨_, execBackoffExpiry_due waits backingOff ended quiet enabled alive driven, rfl⟩
  case pop => exact fun s dir oneBit => ⟨_, execMgmtTsPop_drops s oneBit, rfl, rfl, rfl⟩
  case request =>
    intro s src p r t oldest alive s1
    exact ⟨fun off late => ⟨_, execRegisterRequest_off oldest alive off late, rfl⟩,
      fun on malformed late => ⟨_, execRegisterRequest_malformed oldest alive on malformed late, rfl⟩,
      fun on wellFormed unlocked => ⟨_, execRegisterRequest_served oldest alive on wellFormed unlocked, rfl⟩⟩

end Sys2Proof.Machine

namespace Sys2Proof.Machine

/-! ## Stack sites (R335 to R338, R345) -/

section Sites
variable {s : State} {x t : Nat}

/-- A powered site in TRAINING at the minimum delays. -/
def State.siteTrains (s : State) (x : Nat) : State :=
  (s.put1 R.MEM_STATUS_STATE x siteTraining).updSite x (fun x => { x with dly := [] })

/-- The stored delays applied to a site. -/
def State.delaysApplied (s : State) (x : Nat) (vals : List Byte) : State :=
  s.updSite x (fun x => { x with dly := (valueLines.zip vals).foldl (fun m p => Tab.set 0 m p.1 (p.2.toNat % 128)) [] })

section PowerGood
variable (v : Bool) (present : x < nStacks s.part) (powering : (s.memTime t).siteState x = sitePowering)
include present powering

/-- Without a stored set the site trains. -/
theorem exec_sitePowerGood_trains (noSet : ((s.memTime t).siteTrains x).storedSet x = none) :
    exec (.sitePowerGood x t v) s = .next ((s.memTime t).siteTrains x) := by
  have good : ¬ (nStacks s.part ≤ x ∨ (s.memTime t).siteState x ≠ sitePowering) :=
    not_or.mpr ⟨Nat.not_le.mpr present, not_not.mpr powering⟩
  unfold State.siteTrains at noSet ⊢
  show execSitePowerGood x t v s = _
  simp only [execSitePowerGood, if_neg good, noSet]

/-- A stored set that verifies leads on to the sweep. -/
theorem exec_sitePowerGood_stored {vals : List Byte} (stored : ((s.memTime t).siteTrains x).storedSet x = some vals) :
    exec (.sitePowerGood x t v) s =
      .next (if v then (((s.memTime t).siteTrains x).delaysApplied x vals).commitDelays x else (s.memTime t).siteTrains x) := by
  have good : ¬ (nStacks s.part ≤ x ∨ (s.memTime t).siteState x ≠ sitePowering) :=
    not_or.mpr ⟨Nat.not_le.mpr present, not_not.mpr powering⟩
  unfold State.siteTrains at stored ⊢
  show execSitePowerGood x t v s = _
  simp only [execSitePowerGood, if_neg good, stored, State.delaysApplied]

end PowerGood

theorem exec_sitePowerTimeout_powering (present : x < nStacks s.part) (powering : s.siteState x = sitePowering) :
    exec (.sitePowerTimeout x) s = .next ((s.siteFaults x).memEvt R.MEM_EVT_CA_FAIL x 1) :=
  if_neg (not_or.mpr ⟨Nat.not_le.mpr present, not_not.mpr powering⟩)

/-- The result of a probe. -/
def State.probed (s : State) (x pass : Nat) : State :=
  (s.put1 R.MEM_TRAIN_STATUS_BUSY x 0).put1 R.MEM_TRAIN_RESULT_PASS x (pass % 2 ^ kindLines (s.get1 R.MEM_TRAIN_SEL_KIND x))

theorem State.busy_probed (pass : Nat) : (s.probed x pass).get1 R.MEM_TRAIN_STATUS_BUSY x = 0 :=
  (State.get1_put1_field _ _ _ _ _ (by decide)).trans (State.get1_put1_same _ _ _ _)

/-- The committed delays begin the sweep. -/
theorem State.siteState_commitDelays : (s.commitDelays x).siteState x = siteSweeping := State.siteState_sweepBegins _ x

end Sites

/-- Settles O24: each command takes the branch of the site's state, and of the stored delays; BUSY and the state of a committed site are
read back. -/
theorem memorySites : Obligations.MemorySites := by
  refine ⟨?powerGood, ?powerTimeout, ?probe, ?probeRefused, ?probeDone, ?delays, ?commit, ?fail, ?sweepDone⟩
  case powerGood =>
    intro s x t v present powering
    cases stored : ((s.memTime t).siteTrains x).storedSet x with
    | none =>
      refine ⟨_, exec_sitePowerGood_trains v present powering stored, ?_⟩
      unfold State.siteTrains at stored ⊢
      simp only [stored]
    | some vals =>
      refine ⟨_, exec_sitePowerGood_stored v present powering stored, ?_⟩
      unfold State.siteTrains State.delaysApplied at *
      simp only [stored]
  case powerTimeout => exact fun s x present powering => ⟨_, exec_sitePowerTimeout_powering present powering, rfl⟩
  case probe => exact fun s x training => ⟨_, if_pos training, State.get1_put1_same _ _ _ _, rfl⟩
  case probeRefused => exact fun s x elsewhere => ⟨_, if_neg elsewhere, rfl⟩
  case probeDone => exact fun s x pass busy => ⟨_, if_pos busy, State.busy_probed pass, rfl, rfl⟩
  case delays => exact fun s x dly all training => ⟨_, if_neg (not_not.mpr training), State.get1_put1_same _ _ _ _, rfl, rfl⟩
  case commit => exact fun s x t training => ⟨_, if_pos training, rfl, State.siteState_commitDelays⟩
  case fail => exact fun s x training => ⟨_, if_pos training, rfl⟩
  case sweepDone => exact fun s x t sweeping => ⟨_, if_pos sweeping, rfl⟩

/-! ## The stacks' service (R331 to R346)

A write refused once it stood in the queue and the unit that it leaves (notes/assumptions/97.md) and the durations of the shed table
(notes/assumptions/100.md) are the model's reading. -/

section Service
variable {s : State} {x t : Nat}

/-- What a command cycle does with what it picked: nothing but a refresh put off, the refresh that the row of the request owes, or the
request. -/
def State.cycleTakes (s1 : State) (x k cyc t err post : Nat) : Option (Nat × MemReq) → State
  | none => if 0 < post then s1.setPostponed k (post - 1) else s1
  | some (b, r) =>
    if !s1.rowHit (k * 64 + b) cyc r && s1.stk.refreshDue.contains (k * 64 + b, r.row) then
      { s1 with stk := { s1.stk with refreshDue := s1.stk.refreshDue.erase (k * 64 + b, r.row) } }
    else
      let s2 := s1.serveReq x (k * 64 + b) cyc t err r
      { s2 with stk := { s2.stk with ptr := Tab.set 0 s2.stk.ptr k ((b + 1) % 64) } }

/-- A command cycle of a READY site: a refresh put off for too long, the migration's read that cannot be done, or what it picks. -/
theorem exec_memCommandCycle_ready (pch cyc banks err : Nat) (due : Bool) (ready : (s.memTime t).siteState x = siteReady) :
    let k := x * 32 + pch % 32
    let post := Tab.get 0 (s.memTime t).stk.postponed k + b2n due
    let s1 := (s.memTime t).setPostponed k post
    exec (.memCommandCycle x pch cyc t banks err due) s =
      .next (if 4 < post ∨ (post = 4 ∧ !due) then s1.setPostponed k (post - 1)
        else if 5 ≤ err then s1.migrateUe x (pch % 32) (err - 5)
        else s1.cycleTakes x k cyc t err post (s1.pick x (pch % 32) cyc t banks)) := by
  intro k post s1
  refine (if_neg (not_not.mpr ready)).trans ?_
  simp only [apply_ite Host.Outcome.next]
  refine if_congr Iff.rfl rfl (if_congr Iff.rfl rfl ?_)
  generalize s1.pick x (pch % 32) cyc t banks = picked
  cases picked with
  | none => exact (apply_ite Host.Outcome.next _ _ _).symm
  | some y => exact (apply_ite Host.Outcome.next _ _ _).symm

theorem exec_rdWindow_over (past : Tab.get 0 (s.memTime t).stk.winStart x + nsToT 32000000 ≤ (s.memTime t).now) :
    exec (.rdWindow x t) s = .next ((s.memTime t).trackersRestart x (Tab.get 0 (s.memTime t).stk.winStart x + nsToT 32000000)) :=
  if_neg (Nat.not_lt.mpr past)

theorem exec_throttleEnd_over {p : Nat} (past : (Tab.get Throttle.init (s.throttleCount s.now).stk.throttle p).ends ≤ s.now) :
    exec (.throttleEnd p) s = .next { s.throttleCount s.now with
      stk := { (s.throttleCount s.now).stk with
        throttle := Tab.set Throttle.init (s.throttleCount s.now).stk.throttle p Throttle.init } } :=
  if_neg (Nat.not_lt.mpr past)

end Service

theorem exec_tempReport_on {s : State} {x t : Nat} (temp : Int) (present : x < nStacks s.part)
    (on : ((s.memTime t).put1 R.MEM_STATUS_TEMP x (usgn 8 temp)).siteState x ≠ siteOff) :
    let s0 := (s.memTime t).put1 R.MEM_STATUS_TEMP x (usgn 8 temp)
    let cur := s0.get1 R.MEM_STATUS_MULT x
    let since := s0.coolFrom x t temp
    let cooled := fun m => since m ≠ 0 ∧ since m + nsToT 10000000 ≤ t + 1
    exec (.tempReport x t temp) s =
      .next ((s0.updSite x (fun y => { y with coolSince := Tab.set 0 (Tab.set 0 y.coolSince 1 (since 1)) 2 (since 2) })).put1 R.MEM_STATUS_MULT x
        (max (multCode (refreshMult s0.refreshCurve temp))
          (if cur = 2 ∧ cooled 2 then (if cooled 1 then 0 else 1) else if cur = 1 ∧ cooled 1 then 0 else cur))) := by
  show execTempReport x t temp s = _
  simp only [execTempReport, if_neg (not_or.mpr ⟨Nat.not_le.mpr present, on⟩), Bool.and_eq_true, bne_iff_ne, ne_eq, decide_eq_true_eq]

theorem exec_patrolScrub_due {s : State} {x : Nat} (err : Nat) (ready : s.siteState x = siteReady)
    (enabled : s.is1 R.MEM_CTL_SCRUB_EN x = true) (due : (s.site x).scrubAt ≤ s.now)
    (idle : (s.stk.bankQ ++ s.stk.ingress).any (fun e => e.1 / 64 == pchOfKey (scrubKey x (s.site x).scrubPos) && !e.2.isEmpty) = false) :
    let n := (s.site x).scrubPos
    let s1 := (s.served 37 1).updSite x (fun y => { y with scrubAt := s.now + s.scrubStep x })
    let s2 := if err = 0 then s1.meet 37 (scrubKey x n) else if err = 1 ∨ err = 3 then s1.readCe (scrubKey x n)
      else if err = 2 then s1.readUe (scrubKey x n) else s1.parityFail (scrubKey x n) 37 false
    exec (.patrolScrub x err) s =
      .next (if n + 1 < siteUnits then s2.updSite x (fun y => { y with scrubPos := n + 1 })
        else (s2.updSite x (fun y => { y with scrubPos := 0 })).wrap1 R.MEM_SCRUB_PASSES x 1) := by
  intro n s1 s2
  have scrubs : ¬ (s.siteState x ≠ siteReady ∨ (!s.is1 R.MEM_CTL_SCRUB_EN x) = true ∨ s.now < (s.site x).scrubAt ∨
      (s.stk.bankQ ++ s.stk.ingress).any (fun e => e.1 / 64 == pchOfKey (scrubKey x (s.site x).scrubPos) && !e.2.isEmpty) = true) := by
    simp only [ready, enabled, idle, Nat.not_lt.mpr due, ne_eq, not_true_eq_false, Bool.not_true, Bool.false_eq_true, or_self, not_false_eq_true]
  refine (if_neg scrubs).trans (congrArg Host.Outcome.next ?_)
  exact State.scrubbed_eq s1 x (scrubKey x n) n err

theorem exec_migrationDone_copies {s : State} {x sid : Nat} (migrates : (s.site x).migSid = some sid) (copying : s.get1 R.MEM_STATUS_SPARE x = 2) :
    exec (.migrationDone x) s = .next
      (((((s.copyRows x sid (s.site x).migDone sidBytes).put1 R.MEM_STATUS_SPARE x 3).put1 R.MEM_MIG_PROGRESS x 65535).updSite x
        (fun x => { x with migSid := none })).memEvt R.MEM_EVT_MIG_DONE x 2) := by
  show execMigrationDone x s = _
  simp only [execMigrationDone, migrates, copying, ne_eq, not_true_eq_false, if_false]

/-- Settles O25: the command cycle by what the site picks, the temperature by how long each point has been cooler, the shed table row by
row. -/
theorem memoryService : Obligations.MemoryService := by
  refine ⟨?cycle, ?window, ?throttle, ?temp, ?scrub, ?retire, ?migrated, ?shed, ?notShed⟩
  case cycle =>
    intro s x pch cyc t banks err due ready s0 k post s1
    refine ⟨_, exec_memCommandCycle_ready pch cyc banks err due ready, if_congr Iff.rfl rfl (if_congr Iff.rfl rfl ?_)⟩
    generalize s1.pick x (pch % 32) cyc t banks = picked
    cases picked with
    | none => rfl
    | some y => rfl
  case window => exact fun s x t past => ⟨_, exec_rdWindow_over past, rfl, rfl, State.winStart_trackersRestart _ x _⟩
  case throttle => exact fun s p past => ⟨_, exec_throttleEnd_over past, Tab.get_set_same _ (s.throttleCount s.now).stk.throttle p Throttle.init, rfl⟩
  case temp => exact fun s x t temp present on => ⟨_, exec_tempReport_on temp present on, rfl⟩
  case scrub => exact fun s x err ready enabled due idle => ⟨_, exec_patrolScrub_due err ready enabled due idle, rfl⟩
  case retire => exact fun s x sid t => ⟨_, rfl, rfl⟩
  case migrated => exact fun s x sid migrates copying => ⟨_, exec_migrationDone_copies migrates copying, rfl⟩
  case shed =>
    intro s x row t s0 lv holds
    refine ⟨_, if_neg (by simp only [s0, holds, Bool.not_true, Bool.false_eq_true, not_false_eq_true]), ?_, ?_, ?_, ?_, ?_, ?_, ?_⟩ <;>
      · rintro rfl level
        exact if_pos level
  case notShed => exact fun s x row t fails => ⟨_, if_pos (by simp [fails]), rfl⟩

end Sys2Proof.Machine

namespace Sys2Proof.Machine

/-! ## Store accesses, invalidation and BAR2 (R353, R358, R361 to R369)

A segment that waits for a lock among the walks (notes/assumptions/122.md) and the wait of INV_DONE (notes/assumptions/44.md) are the model's
reading. -/

/-- A walk of a segment goes into flight. -/
def State.walkStarts (s : State) (w : Walk) : State := { s with store := { s.store with walks := s.store.walks ++ [w] } }

/-- The `n`-th walk leaves the flight. -/
def State.walkEnds (s : State) (n : Nat) : State := { s with store := { s.store with walks := s.store.walks.eraseIdx n } }

section Access
variable {s : State} {port addr len : Nat} (translated : translatedPort port = true) (some_ : segLen addr len ≠ 0)
include translated some_

/-- A segment of a translated port ends with STORE_CLOSED, is served, or waits for its walk. -/
theorem exec_storeAccess_segment (t : Nat) (wr bad : Bool) (data ext : List Byte) :
    exec (.storeAccess port addr len wr data bad ext t) s = .next
      (if s.get R.STORE_STATUS_STATE ≠ storeOpen then (s.upTo t).closedSegment port addr (segLen addr len) wr
        else if (s.is R.STORE_STATUS_DEFAULT || (s.cached addr).isSome) && !(s.upTo t).aperWaits port addr wr then
          (s.upTo t).serveSegment port addr (segLen addr len) t wr data bad ext
        else (s.upTo t).walkStarts ⟨port, wr, addr, segLen addr len, padTo (segLen addr len) data, bad, false, false⟩) := by
  refine (if_neg (by simp [translated, some_])).trans ?_
  simp only [apply_ite Host.Outcome.next]
  rfl

end Access

section WalkDone
variable {s : State} {n : Nat} {w : Walk} (flies : s.store.walks[n]? = some w)
include flies

/-- A walk of a store that has left OPEN since ends with STORE_CLOSED. -/
theorem exec_walkDone_closed (t : Nat) (bad : Bool) (ext : List Byte) (closed : w.dead = true ∨ s.get R.STORE_STATUS_STATE ≠ storeOpen) :
    exec (.walkDone n bad ext t) s = .next (((s.upTo t).walkEnds n).closedSegment w.port w.addr w.len w.write) := by
  show execWalkDone n bad ext t s = _
  simp only [execWalkDone, State.upTo_fields, flies]
  exact if_pos closed

/-- A walk of an open store serves its segment; the result of one that an invalidate met is not cached. -/
theorem exec_walkDone_served (t : Nat) (bad : Bool) (ext : List Byte) (isOpen : s.get R.STORE_STATUS_STATE = storeOpen) (alive : w.dead = false)
    (free : ((s.upTo t).walkEnds n).aperWaits w.port w.addr w.write = false) :
    let s2 := ((s.upTo t).walkEnds n).serveSegment w.port w.addr w.len t w.write w.data (if w.write then w.bad else bad) ext
    exec (.walkDone n bad ext t) s = .next (if w.uncached then { s2 with store := { s2.store with cache := s.store.cache } } else s2) := by
  show execWalkDone n bad ext t s = _
  simp only [execWalkDone, State.upTo_fields, flies]
  refine (if_neg ?_).trans (if_neg ?_)
  · exact not_or.mpr ⟨ne_true_of_eq_false alive, not_not.mpr isOpen⟩
  · exact ne_true_of_eq_false free

end WalkDone

theorem State.invalidate_idle {s : State} (idle : s.is R.STORE_STATUS_INV_BUSY = false) (sel : CacheLine → Bool) :
    (s.invalidate sel).get R.STORE_STATUS_INV_BUSY = 1 ∧ (s.invalidate sel).get R.STORE_INV_GEN = s.get R.STORE_INV_GEN ∧
      (s.invalidate sel).store.cache = s.store.cache.filter (fun c => !sel c) ∧
      s.invalidate sel = { s with regs := (s.invalidate sel).regs, store := (s.invalidate sel).store, frames := (s.invalidate sel).frames } := by
  unfold State.invalidate
  rw [if_neg (ne_true_of_eq_false idle)]
  exact ⟨State.get_put_same _ _ _, State.get_put_ne _ _ _ _ (by decide), rfl, rfl⟩

theorem exec_invDone_quiet {s : State} (busy : s.is R.STORE_STATUS_INV_BUSY = true) (walks : s.store.walks.any (·.uncached) = false)
    (outst : s.frames.outst.any (·.inv) = false) (reqs : s.frames.reqQ.any (·.inv) = false) :
    exec .invDone s = .next ((s.put R.STORE_STATUS_INV_BUSY 0).storeEvt 3) :=
  if_pos ⟨busy, ne_true_of_eq_false walks, ne_true_of_eq_false outst, ne_true_of_eq_false reqs⟩

theorem exec_mapBuildDone_built {s : State} {root : Region} (placed : s.place.regions.find? (fun r => r.use == 6) = some root)
    (building : s.store.building = true) (ready : s.sitesReady root.sites = true) :
    exec .mapBuildDone s = .next { s.mapBuilt root with store := { (s.mapBuilt root).store with building := false } } := by
  show execMapBuildDone s = _
  simp only [execMapBuildDone, placed, building, ready, Bool.not_true, Bool.or_self, Bool.false_eq_true, if_false]

section Open
variable {s : State} (built : s.store.building = false) (up : s.sitesUp = true)
include built up

theorem exec_storeOpen_closed (closed : s.get R.STORE_STATUS_STATE = storeClosed) (swept : s.store.creelSwept = true) :
    exec .storeOpen s = .next ((s.cacheClear.put R.STORE_STATUS_STATE storeOpen).storeEvt 1) :=
  (if_neg (by simp [built, up])).trans (if_pos ⟨closed, swept⟩)

theorem exec_storeOpen_remapping (remapping : s.get R.STORE_STATUS_STATE = storeRemapping) :
    exec .storeOpen s = .next ((s.put R.STORE_STATUS_STATE storeOpen).storeEvt 1) :=
  (if_neg (by simp [built, up])).trans ((if_neg (by simp [remapping, storeRemapping, storeClosed])).trans (if_pos remapping))

end Open

theorem State.storeState_opened (s : State) : ((s.put R.STORE_STATUS_STATE storeOpen).storeEvt 1).get R.STORE_STATUS_STATE = storeOpen :=
  (State.get_causeBase _ _ _ _ _ (by decide) (by decide) (by decide)).trans (State.get_put_same _ _ _)

/-- One segment of a write of BAR2: written, and mirrored where that succeeded. -/
def State.bar2Writes (a : Nat) (data : List Byte) (bad : Bool) (b : State) (sg : Nat × Nat) : State :=
  let d := (data.drop (sg.1 - a)).take sg.2
  let w := b.serveWrite bar2Port sg.1 d bad
  if w.2 = stOk then w.1.mirrorBar2 sg.1 d else w.1

section Bar2
variable {s : State} (alive : s.alive = true) (up : s.hostUp = true)
include alive up

theorem not_bar2Off (t : Nat) : ¬ (!(s.upTo t).alive || !(s.upTo t).hostUp) = true := by
  have runs : (s.upTo t).alive = true := alive
  have linked : (s.upTo t).hostUp = true := up
  simp only [runs, linked, Bool.not_true, Bool.or_self, Bool.false_eq_true, not_false_eq_true]

theorem exec_bar2Request_read (off len t : Nat) (data ext : List Byte) (bad : Bool) :
    let a := s.get R.STORE_BAR2_BASE * 68719476736 + off % 68719476736
    exec (.bar2Request false off len data bad ext t) s = .next
      ((segments a len).foldl (fun b sg => b.serveRead bar2Port sg.1 sg.2 (ext.drop (sg.1 - a)) bad) (s.upTo t)) :=
  (if_neg (not_bar2Off alive up t)).trans (if_pos rfl)

theorem exec_bar2Request_write (off len t : Nat) (data ext : List Byte) (bad : Bool) (single : s.get R.PAIR_CTL_MODE ≠ 1) :
    let a := s.get R.STORE_BAR2_BASE * 68719476736 + off % 68719476736
    exec (.bar2Request true off len data bad ext t) s = .next
      (((segments a data.length).foldl (State.bar2Writes a data bad) (if bad then (s.upTo t).pciePoison else s.upTo t)).flushLanes bar2Port) := by
  have unpaired : ¬ ((s.upTo t).is R.PAIR_CTL_MODE = true ∧ ((s.upTo t).side = sideStandby ∨ (s.upTo t).side = sideSyncing)) :=
    fun paired => single (beq_iff_eq.mp paired.1)
  refine (if_neg (not_bar2Off alive up t)).trans ((if_neg Bool.false_ne_true).trans ((if_neg unpaired).trans ?_))
  refine congrArg (fun f => Host.Outcome.next (State.flushLanes (List.foldl f _ _) bar2Port)) (funext fun b => funext fun sg => ?_)
  simp only [State.bar2Writes]
  rfl

end Bar2

/-- Settles O26: each command takes the branch of the store's state, of the walk or of the write; what an invalidate sets is read back. -/
theorem storeCommands : Obligations.StoreCommands := by
  refine ⟨?access, ?walked, ?closed, ?invGo, ?invAll, ?invDone, ?built, ?opens, ?reopens, ?faultPop, ?bar2Read, ?bar2Write⟩
  case access => exact fun s port addr len t wr bad data ext translated some_ => ⟨_, exec_storeAccess_segment translated some_ t wr bad data ext, rfl⟩
  case walked => exact fun s n t bad ext w flies isOpen alive free => ⟨_, exec_walkDone_served flies t bad ext isOpen alive free, rfl⟩
  case closed => exact fun s n t bad ext w flies closed => ⟨_, exec_walkDone_closed flies t bad ext closed, rfl⟩
  case invGo =>
    intro s gen idle
    have still : (s.put R.STORE_INV_GEN gen).is R.STORE_STATUS_INV_BUSY = false :=
      (congrArg (· == 1) (State.get_put_ne s R.STORE_INV_GEN R.STORE_STATUS_INV_BUSY gen (by decide))).trans idle
    obtain ⟨busy, keeps, cache, only⟩ := State.invalidate_idle still (fun c => c.gen == gen % 256 || (c.level == 2 && bits c.entry1 56 8 == gen % 256))
    exact ⟨_, rfl, busy, keeps.trans (State.get_put_same _ _ _), cache, only⟩
  case invAll =>
    intro s idle
    obtain ⟨busy, -, cache, only⟩ := State.invalidate_idle idle (fun _ => true)
    exact ⟨_, rfl, busy, cache.trans (List.filter_false _), only⟩
  case invDone => exact fun s busy walks outst reqs => ⟨_, exec_invDone_quiet busy walks outst reqs, rfl⟩
  case built => exact fun s root placed building ready => ⟨_, exec_mapBuildDone_built placed building ready, rfl⟩
  case opens => exact fun s built up closed swept => ⟨_, exec_storeOpen_closed built up closed swept, rfl, State.storeState_opened _⟩
  case reopens => exact fun s built up remapping => ⟨_, exec_storeOpen_remapping built up remapping, rfl, State.storeState_opened s⟩
  case faultPop => exact fun s => ⟨_, rfl, rfl, State.get_put_same _ _ _, rfl⟩
  case bar2Read => exact fun s off len t data ext bad alive up => ⟨_, exec_bar2Request_read alive up off len t data ext bad, rfl⟩
  case bar2Write => exact fun s off len t data ext bad alive up single => ⟨_, exec_bar2Request_write alive up off len t data ext bad single, rfl⟩

end Sys2Proof.Machine

namespace Sys2Proof.Machine

/-! ## References and PPS inputs (R375, R376)

Gates as operands in mHz and the three good PPS intervals are the model's choice (notes/assumptions/46.md). -/

section References
variable {s : State} {code : Nat}

/-- What a gate measures of an input: it is active, at an offset from its nominal frequency. -/
def State.gateNoted (s : State) (code mHz nom : Nat) : State :=
  (s.put1 R.TIME_REF_STATUS_ACTIVE (code - 1) 1).withTime
    (fun x => { x with gated := Tab.set 0 x.gated code (((mHz : Int) - 1000 * nom) * 281474976710656 / (1000 * nom)) })

section Codes
variable (from1 : 1 ≤ code) (to4 : code ≤ 4)
include from1 to4

/-- A gate of an enabled input that is present, by its window, its qualification and its wait-to-restore. -/
theorem State.gate_enabled {mHz nom : Nat} (present : code ≤ 2 ∨ ∃ l, s.rcOf code = some l ∧ s.locked l = true)
    (enabled : s.is1 R.TIME_REF_CTL_EN (code - 1) = true) (nominal : s.refNominal code = some nom) :
    let s1 := s.gateNoted code mHz nom
    s.gate code mHz =
      if 100 * max 1 (s1.get1 R.TIME_REF_WIN_WINDOW (code - 1)) < (centiPpm mHz nom).natAbs then s1.unqual code
      else if s1.refQual code = true then (if s1.get R.TIME_STATUS_REF = code then s1.noteRate else s1)
      else if Tab.get false s1.time.lost code = false ∨ s1.get1 R.TIME_REF_CTL_WTR (code - 1) = 0 then s1.qual code
      else if Tab.get 0 s1.time.wtrAt code ≠ 0 then s1
      else (s1.withTime (fun x => { x with wtrAt := Tab.set 0 x.wtrAt code (s1.now + 1) })).put1 R.TIME_REF_STATUS_WTR_LEFT (code - 1)
        (s1.get1 R.TIME_REF_CTL_WTR (code - 1)) := by
  simp only [State.gate, nominal]
  refine (if_neg ?_).trans (gate_ifs (s.gateNoted code mHz nom) code (code - 1) (centiPpm mHz nom).natAbs)
  rintro (zero | above | absent | disabled)
  · omega
  · omega
  · rcases present with low | ⟨l, recovers, locked⟩
    · have pin : code = 1 ∨ code = 2 := by omega
      rcases pin with rfl | rfl <;> simp at absent
    · simp [recovers, locked] at absent
  · simp [enabled] at disabled

theorem State.edgeLoss_code : s.edgeLoss code = (s.put1 R.TIME_REF_STATUS_ACTIVE (code - 1) 0).unqual code :=
  if_neg (by omega)

end Codes

theorem State.wtrSecond_runs (waits : Tab.get 0 s.time.wtrAt code ≠ 0) (left : s.get1 R.TIME_REF_STATUS_WTR_LEFT (code - 1) ≠ 0)
    (enabled : s.is1 R.TIME_REF_CTL_EN (code - 1) = true) (past : Tab.get 0 s.time.wtrAt code + secT ≤ s.now + 1) :
    let s1 := (s.withTime (fun x => { x with wtrAt := Tab.set 0 x.wtrAt code (Tab.get 0 s.time.wtrAt code + secT) })).put1
      R.TIME_REF_STATUS_WTR_LEFT (code - 1) (s.get1 R.TIME_REF_STATUS_WTR_LEFT (code - 1) - 1)
    s.wtrSecond code = if s.get1 R.TIME_REF_STATUS_WTR_LEFT (code - 1) = 1 then s1.qual code else s1 :=
  if_neg (by simp only [waits, left, enabled, Nat.not_lt.mpr past, Bool.not_true, Bool.false_eq_true, or_self, not_false_eq_true])

end References

section Pps
variable {s : State} {p ns t : Nat}

/-- An edge of a PPS input is noted. -/
def State.ppsSeen (s : State) (p t : Nat) : State := (s.upTo t).withTime (fun x => { x with ppsAt := Tab.set 0 x.ppsAt p (max s.now t + 1) })

/-- An edge in its window counts; the third in a row qualifies the input. -/
def State.ppsCounted (s : State) (p t : Nat) : State :=
  let n := Tab.get 0 s.time.ppsGood p + 1
  let s2 := (s.ppsSeen p t).withTime (fun x => { x with ppsGood := Tab.set 0 x.ppsGood p n })
  if 3 ≤ n then (s2.put1 R.TIME_REF_STATUS_PPS_QUAL p 1).select else s2

/-- The distance from a second of a PPS input. -/
def State.ppsDistance (s : State) (p : Nat) : Int := nearest s.now (s.get1 R.TIME_REF_OFS_FRACTION p) - s.now

/-- The distance of an edge is noted. -/
def State.ppsNoted (s : State) (p : Nat) : State :=
  (s.withTime (fun x => { x with ppsDelta := Tab.set 0 x.ppsDelta p (s.ppsDistance p) })).put1 R.TIME_REF_OFFSET_NS p (ns32 (s.ppsDistance p * 65536))

/-- The selected input sets the time that waits for it, or else pulls by the distance. -/
def State.ppsFollowed (s : State) (p : Nat) (d : Int) : Option Nat → State
  | some v =>
    if s.draftRuns = true then s.withTime (fun x => { x with setAt := none })
    else
      let s5 := (s.setNow v).withTime (fun x => { x with setAt := none })
      if s5.is R.TIME_STATUS_PULLING = true then s5.startPull ((nearest v (s5.get1 R.TIME_REF_OFS_FRACTION p) - v) * 65536) else s5
  | none => s.pullTo (d * 65536)

/-- A qualified input notes the distance of its edge; the time follows the selected one. -/
def State.ppsMeasured (s : State) (p : Nat) : State :=
  if (s.ppsNoted p).get R.TIME_STATUS_REF ≠ p + 1 then s.ppsNoted p
  else (s.ppsNoted p).ppsFollowed p (s.ppsDistance p) (s.ppsNoted p).time.setAt

section Input
variable (input : p < 2)
include input

theorem exec_ppsEdge_first (first : Tab.get 0 s.time.ppsAt p = 0) : exec (.ppsEdge p ns t) s = .next (s.ppsSeen p t) := by
  show execPpsEdge p ns t s = _
  simp only [execPpsEdge, Nat.mod_eq_of_lt input]
  exact if_pos first

section Later
variable (later : Tab.get 0 s.time.ppsAt p ≠ 0)
include later

theorem exec_ppsEdge_outside (outside : ns + s.ppsWin p < 1000000000 ∨ 1000000000 + s.ppsWin p < ns) :
    exec (.ppsEdge p ns t) s = .next ((s.ppsSeen p t).ppsLost p) := by
  have bad : ¬ (1000000000 ≤ ns + (s.upTo t).ppsWin p ∧ ns ≤ 1000000000 + (s.upTo t).ppsWin p) :=
    fun inside => outside.elim (Nat.not_lt.mpr inside.1) (Nat.not_lt.mpr inside.2)
  show execPpsEdge p ns t s = _
  simp only [execPpsEdge, Nat.mod_eq_of_lt input]
  exact (if_neg later).trans (if_pos (by simp only [bad, decide_false, Bool.not_false]))

theorem exec_ppsEdge_inside (inside : 1000000000 ≤ ns + s.ppsWin p) (inside' : ns ≤ 1000000000 + s.ppsWin p) :
    exec (.ppsEdge p ns t) s =
      .next (if (!(s.ppsCounted p t).is1 R.TIME_REF_STATUS_PPS_QUAL p) = true then s.ppsCounted p t else (s.ppsCounted p t).ppsMeasured p) := by
  have good : 1000000000 ≤ ns + (s.upTo t).ppsWin p ∧ ns ≤ 1000000000 + (s.upTo t).ppsWin p := ⟨inside, inside'⟩
  show execPpsEdge p ns t s = _
  simp only [execPpsEdge, Nat.mod_eq_of_lt input]
  refine (if_neg later).trans ((if_neg (by simp only [good, decide_true, and_self, Bool.not_true, Bool.false_eq_true, not_false_eq_true])).trans ?_)
  refine .trans (if_congr Iff.rfl rfl ?_) (apply_ite Host.Outcome.next _ _ _).symm
  by_cases other : ((s.ppsCounted p t).ppsNoted p).get R.TIME_STATUS_REF ≠ p + 1
  · exact (if_pos other).trans (congrArg Host.Outcome.next (if_pos other).symm)
  · refine (if_neg other).trans (.trans ?_ (congrArg Host.Outcome.next (if_neg other).symm))
    split
    next v waits =>
      rw [show ((s.ppsCounted p t).ppsNoted p).time.setAt = some v from waits]
      exact (apply_ite Host.Outcome.next _ _ _).symm
    next none_ =>
      rw [show ((s.ppsCounted p t).ppsNoted p).time.setAt = none from none_]
      rfl

end Later
end Input

theorem exec_ppsMissing_past (input : p < 2) (later : Tab.get 0 s.time.ppsAt p ≠ 0)
    (past : Tab.get 0 s.time.ppsAt p + secT + nsToT (s.ppsWin p) ≤ max s.now t + 1) :
    exec (.ppsMissing p t) s = .next (((s.upTo t).withTime (fun x => { x with ppsAt := Tab.set 0 x.ppsAt p 0 })).ppsLost p) := by
  show execPpsMissing p t s = _
  simp only [execPpsMissing, Nat.mod_eq_of_lt input]
  exact if_neg (not_or.mpr ⟨later, Nat.not_lt.mpr past⟩)

end Pps

/-- Settles O27: a gate by its window and the input's wait, an edge by its window and the qualification it leaves. -/
theorem timeReferences : Obligations.TimeReferences := by
  refine ⟨?gate, ?loss, ?tick, ?first, ?outside, ?inside, ?missing⟩
  case gate => exact fun s code mHz nom t from1 to4 present enabled nominal =>
    ⟨_, rfl, refSelect_eq _ _ (s.upTo t) (State.gate_enabled from1 to4 present enabled nominal)⟩
  case loss => exact fun s code t from1 to4 => ⟨_, rfl, refSelect_eq _ _ (s.upTo t) (State.edgeLoss_code from1 to4)⟩
  case tick => exact fun s code t waits left enabled past =>
    ⟨_, rfl, refSelect_eq _ _ (s.upTo t) (State.wtrSecond_runs waits left enabled past)⟩
  case first => exact fun s p ns t input first => ⟨_, exec_ppsEdge_first input first, rfl⟩
  case outside => exact fun s p ns t input later outside => ⟨_, exec_ppsEdge_outside input later outside, rfl⟩
  case inside =>
    intro s p ns t input later inside inside'
    refine ⟨_, exec_ppsEdge_inside input later inside inside', fun unqualified => if_pos (congrArg not unqualified), ?_, ?_, ?_⟩
    · exact fun qualified other => (if_neg (ne_true_of_eq_false (congrArg not qualified))).trans (if_pos other)
    · exact fun qualified selected none_ => (if_neg (ne_true_of_eq_false (congrArg not qualified))).trans
        ((if_neg (not_not.mpr selected)).trans (congrArg (State.ppsFollowed _ _ _) none_))
    · exact fun v qualified selected waits => (if_neg (ne_true_of_eq_false (congrArg not qualified))).trans
        ((if_neg (not_not.mpr selected)).trans (congrArg (State.ppsFollowed _ _ _) waits))
  case missing => exact fun s p t input later past => ⟨_, exec_ppsMissing_past input later past, rfl⟩

end Sys2Proof.Machine

namespace Sys2Proof.Machine

/-! ## Locking, pulls, sets and steps of array time (R378 to R381)

Which instants move with array time (notes/assumptions/109.md) and that a network correction replaces the one before
(notes/assumptions/46.md) are the model's choices. -/

section Setting
variable {s : State} (t : Nat)

theorem exec_freqLock_acquire (acquires : s.tb = tbAcquire) (present : s.xoGone = false) :
    exec (.freqLock t) s = .next
      (if s.timeSource = 0 ∨ overNs (s.upTo t).delta = false then (s.upTo t).setTb tbLocked
        else if s.draftRuns = false then (((s.upTo t).jump (s.upTo t).delta).startPull 0).setTb tbLocked
        else ((s.upTo t).startPull (s.upTo t).delta).setTb tbSwitching) := by
  refine (if_neg (not_or.mpr ⟨not_not.mpr acquires, ne_true_of_eq_false present⟩)).trans ?_
  simp only [Bool.not_eq_true', apply_ite Host.Outcome.next]
  rfl

theorem exec_pullDone_within (within : overNs (s.upTo t).pullLeft = false) (pulls : s.tb = tbSwitching ∨ s.is R.TIME_STATUS_PULLING = true) :
    exec (.pullDone t) s = .next
      (if s.tb = tbSwitching then (((s.upTo t).startPull 0).setTb tbLocked).timeEvt 6 else ((s.upTo t).startPull 0).timeEvt 6) := by
  refine (if_neg (ne_true_of_eq_false within)).trans ?_
  by_cases switching : s.tb = tbSwitching
  · exact (if_pos switching).trans (congrArg Host.Outcome.next (if_pos switching).symm)
  · exact (if_neg switching).trans ((if_pos (pulls.resolve_left switching)).trans (congrArg Host.Outcome.next (if_neg switching).symm))

/-- TIME_SET by the Draft, by SET_AT_PPS and by the pull that runs. -/
def State.timeSets (s : State) (v : Nat) : State :=
  if s.draftRuns = true then s.bump R.TIME_STATUS_IGNORED 1
  else if s.is R.TIME_CTL_SET_AT_PPS = true then s.withTime (fun x => { x with setAt := some v })
  else if s.is R.TIME_STATUS_PULLING = true then (s.setNow v).startPull (s.setDelta v)
  else s.setNow v

theorem exec_timeSet (hi : Nat) :
    let v := putBits (s.get R.TIME_SET_TIME) 32 32 hi
    exec (.timeSet hi t) s = .next (((s.upTo t).put R.TIME_SET_TIME v).timeSets v) := by
  simp only [State.timeSets, apply_ite Host.Outcome.next]
  exact if_congr Iff.rfl rfl (if_congr Iff.rfl rfl (apply_ite Host.Outcome.next _ _ _))

theorem exec_timeStep (hi : Nat) :
    let v := putBits (s.get R.TIME_STEP_STEP) 32 32 hi
    let s1 := (s.upTo t).put R.TIME_STEP_STEP v
    let s2 := s1.startPull (s1.pullLeft + sgn 64 v)
    exec (.timeStep hi t) s = .next
      (if s1.draftRuns = false ∧ s1.is R.TIME_STATUS_PULLING = false then s1.jump (sgn 64 v)
        else if s2.tb = tbLocked then s2.setTb tbSwitching else s2) := by
  intro v s1 s2
  have still : (s1.draftRuns = false ∧ s1.is R.TIME_STATUS_PULLING = false) ↔ (!s1.draftRuns && !s1.is R.TIME_STATUS_PULLING) = true := by
    simp only [Bool.and_eq_true, Bool.not_eq_true']
  exact (if_congr still.symm rfl rfl).trans (apply_ite Host.Outcome.next _ _ _).symm

theorem exec_timeNetAdj_ieee1588 (v : Nat) (ieee1588 : s.get R.TIME_NET_CTL_SRC = 1) :
    exec (.timeNetAdj v t) s = .next ((s.upTo t).netDeliver (sgn 32 v * 65536)) := if_neg (not_not.mpr ieee1588)

theorem exec_netTimeout_past (live : s.netLive = true)
    (past : s.time.netAt + nsToT (100000000 * max 1 (s.get R.TIME_NET_CTL_TIMEOUT)) < max s.now t + 1) :
    exec (.netTimeout t) s = .next (s.upTo t).netLost := by
  have silent : ¬ (!s.netLive || decide (max s.now t + 1 ≤ s.time.netAt + nsToT (100000000 * max 1 (s.get R.TIME_NET_CTL_TIMEOUT)))) = true := by
    rw [live, decide_eq_false (Nat.not_le.mpr past)]
    exact Bool.false_ne_true
  exact if_neg silent

theorem exec_xoFault_present (present : s.xoGone = false) (powered : s.tb ≠ tbDen) :
    exec (.xoFault t) s = .next (((((s.upTo t).put R.TIME_STATUS_XO_FAULT 1).startPull 0).setTb tbFreerun).timeEvt 10) :=
  if_neg (not_or.mpr ⟨ne_true_of_eq_false present, powered⟩)

end Setting

/-- Settles O28: each command by the state of the timebase, the Draft and the pull that runs. -/
theorem timeSetting : Obligations.TimeSetting := by
  refine ⟨?lock, ?pulled, ?set, ?step, ?net, ?timeout, ?xo⟩
  case lock => exact fun s t acquires present => ⟨_, exec_freqLock_acquire t acquires present, rfl⟩
  case pulled => exact fun s t within pulls => ⟨_, exec_pullDone_within t within pulls, rfl⟩
  case set =>
    intro s hi t v s1
    refine ⟨_, exec_timeSet t hi, fun runs => ⟨if_pos runs, ?_⟩, fun idle waits => ?_, fun idle now_ still => ?_, fun idle now_ pulls => ?_⟩
    · exact (congrArg State.now (if_pos runs)).trans ((State.bump_fields _ _ _).2.1)
    · exact (if_neg (ne_true_of_eq_false idle)).trans (if_pos waits)
    · exact (if_neg (ne_true_of_eq_false idle)).trans ((if_neg (ne_true_of_eq_false now_)).trans (if_neg (ne_true_of_eq_false still)))
    · exact (if_neg (ne_true_of_eq_false idle)).trans ((if_neg (ne_true_of_eq_false now_)).trans (if_pos pulls))
  case step => exact fun s hi t => ⟨_, exec_timeStep t hi, rfl⟩
  case net => exact fun s v t ieee1588 => ⟨_, exec_timeNetAdj_ieee1588 t v ieee1588, rfl⟩
  case timeout => exact fun s t live past => ⟨_, exec_netTimeout_past t live past, rfl⟩
  case xo => exact fun s t present powered => ⟨_, exec_xoFault_present t present powered, rfl⟩

end Sys2Proof.Machine

namespace Sys2Proof.Machine

/-! ## Beacons (R383)

The mean offset rounded down and the timing of a choice are the model's choice (notes/assumptions/46.md). -/

section Beacon
variable {s : State} {l t : Nat}

/-- The role test of a beacon lane as the model writes it. -/
theorem beaconRole_iff (n : Nat) : (n == 3 || n == 4) = true ↔ n = 3 ∨ n = 4 := by simp only [Bool.or_eq_true, beq_iff_eq]

/-- The payload of a beacon. -/
def State.beaconBody (s : State) : List Byte :=
  leBytes 1 s.tb ++ leBytes 1 (s.get R.TIME_STATUS_REF) ++ leBytes 2 s.beaconHops ++ leBytes 4 s.beaconErr ++ zeros 24

/-- A beacon's instant noted. -/
def State.beaconNoted (s : State) (l : Nat) : State := s.withTime (fun x => { x with beaconAt := Tab.set 0 x.beaconAt l (s.now + 1) })

theorem exec_beaconSend_due (enabled : s.is R.TIME_CTL_BEACON_TX = true) (locked : s.locked l = true) (role : s.laneRole l = 3 ∨ s.laneRole l = 4)
    (due : Tab.get 0 s.time.beaconAt l = 0 ∨ Tab.get 0 s.time.beaconAt l + nsToT 1000000 ≤ max s.now t + 1) :
    exec (.beaconSend l t) s = .next
      (((s.upTo t).beaconNoted l).queueLane l (((s.upTo t).beaconNoted l).linkFrame 0x0C 0 0 0 (s.upTo t).beaconBody 0)) := by
  have sends : ¬ (!s.is R.TIME_CTL_BEACON_TX || !s.locked l || !(s.laneRole l == 3 || s.laneRole l == 4) ||
      (Tab.get 0 s.time.beaconAt l != 0 && decide (max s.now t + 1 < Tab.get 0 s.time.beaconAt l + nsToT 1000000))) = true := by
    rw [enabled, locked, (beaconRole_iff _).mpr role, early_eq_false due]
    decide
  exact if_neg sends

/-- When a beacon is passed over, as the model writes it and as R383 does. -/
theorem beaconUnusable_iff (src role st hops node own : Nat) :
    (src ≠ 2 ∨ (!(role == 3 || role == 4)) = true ∨ (!(st == 2 || st == 3) || decide (15 ≤ hops) || node == own) = true) ↔
      (src ≠ 2 ∨ ¬(role = 3 ∨ role = 4) ∨ ¬(st = 2 ∨ st = 3) ∨ 15 ≤ hops ∨ node = own) := by
  simp only [Bool.or_eq_true, Bool.not_eq_true', Bool.or_eq_false_iff, beq_eq_false_iff_ne, decide_eq_true_eq, beq_iff_eq, not_or, or_assoc]

section Receive
variable {arrival : Nat} {f : RxDone} {s1 : State} (taken : (s.upTo t).rxTake l (fun f => hdrType f.hdr == 0x0C) = some (f, s1))
include taken

/-- A beacon of a locked sender within 14 hops adds its offset to the lane's sum. -/
theorem exec_beaconReceive_usable (follows : s1.get R.TIME_NET_CTL_SRC = 2) (role : s1.laneRole l = 3 ∨ s1.laneRole l = 4)
    (sender : byteAt f.payload 0 = 2 ∨ byteAt f.payload 0 = 3) (near : fld f.payload 2 2 < 15) (other : hdrNode f.hdr ≠ s1.nodeByte) :
    exec (.beaconReceive l arrival t) s = .next (s1.withTime (fun x => { x with
      beacons := Tab.set Beacon.init x.beacons l ⟨fld f.payload 2 2, fld f.payload 4 4, (Tab.get Beacon.init s1.time.beacons l).sum +
        ((hdrTime f.hdr : Int) + sgn 32 (s1.get1 R.TIME_BEACON_DELAY_DELAY l) - arrival), (Tab.get Beacon.init s1.time.beacons l).n + 1⟩ })) := by
  show execBeaconReceive l arrival t s = _
  simp only [execBeaconReceive, taken]
  refine if_neg ((beaconUnusable_iff _ _ _ _ _ _).not.mpr ?_)
  rintro (elsewhere | noRole | unlocked | far | own)
  · exact elsewhere follows
  · exact noRole role
  · exact unlocked sender
  · exact Nat.not_le.mpr near far
  · exact other own

/-- Any other frame of a beacon is passed over. -/
theorem exec_beaconReceive_unusable (unusable : s1.get R.TIME_NET_CTL_SRC ≠ 2 ∨ ¬(s1.laneRole l = 3 ∨ s1.laneRole l = 4) ∨
      ¬(byteAt f.payload 0 = 2 ∨ byteAt f.payload 0 = 3) ∨ 15 ≤ fld f.payload 2 2 ∨ hdrNode f.hdr = s1.nodeByte) :
    exec (.beaconReceive l arrival t) s = .next s1 := by
  show execBeaconReceive l arrival t s = _
  simp only [execBeaconReceive, taken]
  exact if_pos ((beaconUnusable_iff _ _ _ _ _ _).mpr unusable)

end Receive

section Choice
variable (follows : s.get R.TIME_NET_CTL_SRC = 2) (due : s.time.choiceAt = 0 ∨ s.time.choiceAt + secT ≤ max s.now t + 1)
include follows due

theorem not_choiceEarly : ¬ (s.get R.TIME_NET_CTL_SRC ≠ 2 ∨ (s.time.choiceAt ≠ 0 ∧ max s.now t + 1 < s.time.choiceAt + secT)) := by omega

/-- The second of a choice begins. -/
def State.choiceBegins (s : State) : State := s.withTime (fun x => { x with beacons := [], choiceAt := s.now + 1 })

theorem exec_beaconChoice_none (silent : bestBeacon s.time.beacons = none) :
    exec (.beaconChoice t) s = .next ((s.upTo t).choiceBegins.put R.TIME_STATUS_BEACON_HOPS 15) := by
  refine (if_neg (not_choiceEarly follows due)).trans ?_
  simp only [State.upTo_fields, silent]
  rfl

theorem exec_beaconChoice_best {n : Nat} {b : Beacon} (best : bestBeacon s.time.beacons = some (n, b)) :
    let mean : Int := b.sum * 65536 / b.n
    let s2 := (((s.upTo t).choiceBegins.put R.TIME_STATUS_BEACON_LANE n).put R.TIME_STATUS_BEACON_HOPS b.hops).withTime
      (fun x => { x with followErr := b.err })
    exec (.beaconChoice t) s = .next
      ((s2.put R.TIME_NET_RATE_RATE (usgn 32 (sgn 32 (s2.get R.TIME_NET_RATE_RATE) + mean / 8))).netDeliver mean) := by
  refine (if_neg (not_choiceEarly follows due)).trans ?_
  simp only [State.upTo_fields, best]
  rfl

end Choice
end Beacon

/-- Settles O29: a beacon is sent when it is due, summed when it is usable, and the second's choice is the best lane or none. -/
theorem beacons : Obligations.Beacons := by
  refine ⟨?send, ?usable, ?unusable, ?silent, ?best⟩
  case send => exact fun s l t enabled locked role due => ⟨_, exec_beaconSend_due enabled locked role due, rfl⟩
  case usable => exact fun s l arrival t f s1 taken follows role sender near other =>
    ⟨_, exec_beaconReceive_usable taken follows role sender near other, Tab.get_set_same _ s1.time.beacons l _, rfl⟩
  case unusable => exact fun s l arrival t f s1 taken unusable => ⟨_, exec_beaconReceive_unusable taken unusable, rfl⟩
  case silent => exact fun s t follows due silent => ⟨_, exec_beaconChoice_none follows due silent, rfl⟩
  case best => exact fun s t l b follows due best => ⟨_, exec_beaconChoice_best follows due best, rfl⟩

end Sys2Proof.Machine

namespace Sys2Proof.Machine

/-! ## Trigger pins and the den (R384 to R387)

A skipped pulse that does not consume COUNT, and what is late, are the model's choices (notes/assumptions/47.md). -/

section Trigout
variable {s : State} {k t : Nat} (unit : k < 4)
include unit

/-- What a refused TRIGOUT_ARM has: no width, or a period not above it. -/
theorem exec_trigoutArm_refused (bad : s.get1 R.TRIGOUT_CTL_WIDTH k = 0 ∨ (s.is1 R.TRIGOUT_CTL_MODE k = true ∧
      s.get1 R.TRIGOUT_PERIOD_PERIOD k * 1000000000 ≤ s.get1 R.TRIGOUT_CTL_WIDTH k * 10 * secT)) :
    exec (.trigoutArm k t) s = .next ((s.upTo t).bump1 R.TRIGOUT_STATUS_REFUSED k 1) := by
  show execTrigoutArm k t s = _
  simp only [execTrigoutArm, Nat.mod_eq_of_lt unit]
  exact if_pos bad

theorem exec_trigoutArm_future (width : s.get1 R.TRIGOUT_CTL_WIDTH k ≠ 0) (future : max s.now t < s.get1 R.TRIGOUT_START_TIME k)
    (period : s.is1 R.TRIGOUT_CTL_MODE k = true → s.get1 R.TRIGOUT_CTL_WIDTH k * 10 * secT < s.get1 R.TRIGOUT_PERIOD_PERIOD k * 1000000000) :
    exec (.trigoutArm k t) s = .next (((s.upTo t).setTrigOut k ⟨s.get1 R.TRIGOUT_START_TIME k, s.is1 R.TRIGOUT_CTL_MODE k,
      if s.is1 R.TRIGOUT_CTL_MODE k then s.get1 R.TRIGOUT_PERIOD_PERIOD k else 0, s.get1 R.TRIGOUT_COUNT_COUNT k == 0,
      (s.trigOut k).busyTo⟩).put1 R.TRIGOUT_STATUS_ARMED k 1) := by
  have good : ¬ (s.get1 R.TRIGOUT_CTL_WIDTH k = 0 ∨ (s.is1 R.TRIGOUT_CTL_MODE k = true ∧
      s.get1 R.TRIGOUT_PERIOD_PERIOD k * 1000000000 ≤ s.get1 R.TRIGOUT_CTL_WIDTH k * 10 * secT)) :=
    not_or.mpr ⟨width, fun short => Nat.not_le.mpr (period short.1) short.2⟩
  show execTrigoutArm k t s = _
  simp only [execTrigoutArm, Nat.mod_eq_of_lt unit, State.get1_upTo, State.is1_upTo, if_neg good]
  refine (if_pos future).trans ?_
  simp only [State.upTo_fields, if_neg (Nat.not_le.mpr future), Nat.zero_mul, Nat.add_zero, ite_self]
  rfl

theorem exec_trigoutCancel (s : State) : exec (.trigoutCancel k) s = .next (s.put1 R.TRIGOUT_STATUS_ARMED k 0) := by
  show execTrigoutCancel k s = _
  rw [execTrigoutCancel, Nat.mod_eq_of_lt unit]

theorem exec_trigoutPulse_due (armed : s.is1 R.TRIGOUT_STATUS_ARMED k = true) (due : (s.trigOut k).next ≤ max s.now t)
    (free : (s.trigOut k).busyTo ≤ max s.now t) :
    exec (.trigoutPulse k t) s = .next (if (s.trigOut k).next < max s.now t then ((s.upTo t).firePulse k (max s.now t)).trigLate k
      else (s.upTo t).firePulse k (s.trigOut k).next) := by
  have fires : ¬ (!s.is1 R.TRIGOUT_STATUS_ARMED k || decide (max s.now t < (s.trigOut k).next) || decide (max s.now t < (s.trigOut k).busyTo)) = true := by
    rw [armed, decide_eq_false (Nat.not_lt.mpr due), decide_eq_false (Nat.not_lt.mpr free)]
    decide
  show execTrigoutPulse k t s = _
  simp only [execTrigoutPulse, Nat.mod_eq_of_lt unit]
  exact if_neg fires

end Trigout

section Trigin
variable {s : State} {p t : Nat} (pin : p < 4)
include pin

/-- An edge of a pin is noted. -/
def State.edgeNoted (s : State) (p : Nat) : State := s.withTime (fun x => { x with edgeAt := Tab.set 0 x.edgeAt p (s.now + 1) })

/-- An edge waits in the queue of stamps. -/
def State.edgeStamped (s : State) (p : Nat) : State :=
  ((s.withTime (fun x => { x with stamps := x.stamps ++ [(p, s.now)] })).triginShow).tapEdge p

theorem exec_triginEdge_close (last : Tab.get 0 s.time.edgeAt p ≠ 0) (close : max s.now t + 1 < Tab.get 0 s.time.edgeAt p + nsToT 50) :
    exec (.triginEdge p t) s = .next (((s.upTo t).edgeNoted p).bump R.TRIGIN_CTL_CLOSE 1) := by
  show execTriginEdge p t s = _
  simp only [execTriginEdge, Nat.mod_eq_of_lt pin]
  exact if_pos ⟨last, close⟩

theorem exec_triginEdge_apart (apart : Tab.get 0 s.time.edgeAt p = 0 ∨ Tab.get 0 s.time.edgeAt p + nsToT 50 ≤ max s.now t + 1) :
    exec (.triginEdge p t) s = .next
      (if 32 ≤ s.time.stamps.length then ((((s.upTo t).edgeNoted p).tapEdge p).bump R.TRIGIN_CTL_DROPPED 1).timeEvt 9
        else if s.time.stamps.isEmpty = true then (((s.upTo t).edgeNoted p).edgeStamped p).timeEvt 8
        else ((s.upTo t).edgeNoted p).edgeStamped p) := by
  show execTriginEdge p t s = _
  simp only [execTriginEdge, Nat.mod_eq_of_lt pin, apply_ite Host.Outcome.next]
  exact if_neg (not_early apart)

end Trigin

/-- The registers show how many stamps wait. -/
theorem State.count_triginShow (s : State) : s.triginShow.get R.TRIGIN_CTL_COUNT = R.TRIGIN_CTL_COUNT.trunc s.time.stamps.length :=
  (State.get_put_ne _ _ _ _ (by decide)).trans ((State.get_put_ne _ _ _ _ (by decide)).trans (State.get_put_same _ _ _))

section Den
variable {s : State} (den : s.tb = tbDen)
include den

theorem exec_denTick_den : exec .denTick s = .next { s with
    now := s.time.denBase + (s.time.denTicks + 1) * 320 * secT / 1000000000, time := { s.time with denTicks := s.time.denTicks + 1 } } :=
  if_neg (not_not.mpr den)

theorem exec_denPpsEdge_near (near : (nearest s.now s.time.denOfs.1 - s.now).natAbs ≤ nsToT 10000) :
    exec (.denPpsEdge 0) s = .next { s with
      now := (nearest s.now s.time.denOfs.1).toNat
      time := { s.time with denA := s.now + 1, denBase := (nearest s.now s.time.denOfs.1).toNat, denTicks := 0 } } := by
  have seen : ¬ (s.tb ≠ tbDen ∨ (0 = 1 ∧ ((s.now + 1 : Nat) != 0 && decide (s.now + 1 ≤ s.now + 1 + secT + nsToT 20000)) = true) ∨
      decide ((nearest s.now s.time.denOfs.1 - s.now).natAbs ≤ nsToT 10000) = false) := by
    rintro (other | inputB | far)
    · exact other den
    · exact absurd inputB.1 Nat.zero_ne_one
    · exact of_decide_eq_false far near
  exact if_neg seen

end Den

/-- Settles O30: an arming by its width, period and start, an edge by its distance and the stamps that wait, the den by its oscillator. -/
theorem trigPins : Obligations.TrigPins := by
  refine ⟨?arm, ?refused, ?cancel, ?pulse, ?close, ?apart, ?pop, ?tick, ?pps⟩
  case arm => exact fun s k t unit width future period => ⟨_, exec_trigoutArm_future unit width future period, State.get1_put1_same _ _ _ _,
      congrArg TrigOut.next (Tab.get_set_same _ s.time.trig k _), congrArg TrigOut.periodic (Tab.get_set_same _ s.time.trig k _), rfl⟩
  case refused => exact fun s k t unit bad => ⟨_, exec_trigoutArm_refused unit bad, rfl⟩
  case cancel => exact fun s k unit => ⟨_, exec_trigoutCancel unit s, rfl, State.get1_put1_same _ _ _ _⟩
  case pulse => exact fun s k t unit armed due free => ⟨_, exec_trigoutPulse_due unit armed due free, rfl⟩
  case close => exact fun s p t pin last close => ⟨_, exec_triginEdge_close pin last close, rfl⟩
  case apart => exact fun s p t pin apart => ⟨_, exec_triginEdge_apart pin apart, rfl⟩
  case pop => exact fun s => ⟨_, rfl, rfl, State.count_triginShow _, rfl⟩
  case tick => exact fun s den => ⟨_, exec_denTick_den den, rfl, rfl, rfl⟩
  case pps => exact fun s den near => ⟨_, exec_denPpsEdge_near den near, rfl⟩

end Sys2Proof.Machine

namespace Sys2Proof.Machine

/-! ## The channels' states (R422 to R424)

What a disabled move leaves is a free number of its first writes (notes/assumptions/51.md). -/

section Dma
variable {s : State} {n : Nat}

/-- A channel that is armed. -/
def State.dmaArmed (s : State) (n : Nat) : State :=
  (((s.put1 R.DMA_STATUS_STATE n dmaRunning).put1 R.DMA_STATUS_ERR n 0).put1 R.DMA_STATUS_POISON n 0).dmaNext n (s.get1 R.DMA_DESC_ADDR n / 64 * 64)

theorem exec_dmaArm_idle (idle : s.dmaState n ≠ 1) : exec (.dmaArm n) s = .next (s.dmaArmed n) := if_neg idle

/-- The address of the next descriptor changes no other field of the channel but the remaining bytes. -/
theorem State.get1_dmaNext (s : State) (n a : Nat) (g : Field)
    (cur : g.addr * 8 + g.lo ≠ R.DMA_CUR_ADDR.addr * 8 + R.DMA_CUR_ADDR.lo ∧ g.s1 = R.DMA_CUR_ADDR.s1 ∧ g.s2 = R.DMA_CUR_ADDR.s2)
    (rest : g.addr * 8 + g.lo ≠ R.DMA_REMAIN_BYTES.addr * 8 + R.DMA_REMAIN_BYTES.lo ∧ g.s1 = R.DMA_REMAIN_BYTES.s1 ∧ g.s2 = R.DMA_REMAIN_BYTES.s2) :
    (s.dmaNext n a).get1 g n = s.get1 g n :=
  (State.get1_put1_field _ _ _ _ _ rest).trans ((State.get1_put1_field _ _ _ _ _ cur).trans (State.get1_setDma _ _ _ _ _))

theorem State.poison_dmaArmed : (s.dmaArmed n).get1 R.DMA_STATUS_POISON n = 0 :=
  (State.get1_dmaNext _ _ _ _ (by decide) (by decide)).trans (State.get1_put1_same _ _ _ _)

theorem State.err_dmaArmed : (s.dmaArmed n).get1 R.DMA_STATUS_ERR n = 0 :=
  (State.get1_dmaNext _ _ _ _ (by decide) (by decide)).trans
    ((State.get1_put1_field _ _ _ _ _ (by decide)).trans (State.get1_put1_same _ _ _ _))

theorem State.dmaState_dmaArmed : (s.dmaArmed n).dmaState n = 1 :=
  (State.get1_dmaNext _ _ _ _ (by decide) (by decide)).trans ((State.get1_put1_field _ _ _ _ _ (by decide)).trans
    ((State.get1_put1_field _ _ _ _ _ (by decide)).trans (State.get1_put1_same _ _ _ _)))

theorem State.cur_dmaArmed : (s.dmaArmed n).get1 R.DMA_CUR_ADDR n = s.get1 R.DMA_DESC_ADDR n / 64 * 64 % 2 ^ 64 :=
  (State.get1_put1_field _ _ _ _ _ (by decide)).trans (State.get1_put1_same _ _ _ _)

theorem State.dmaChan_dmaArmed : (s.dmaArmed n).dmaChan n = DmaChan.init := by
  simp only [State.dmaArmed, State.dmaNext, State.dmaChan_put1, State.dmaChan_setDma]

theorem State.dmaChan_dmaDrop (s : State) (n st : Nat) : (s.dmaDrop n st).dmaChan n = DmaChan.init := by
  simp only [State.dmaDrop, State.dmaChan_put1, State.dmaChan_takeFree, State.dmaChan_setDma]

/-- A channel whose work is dropped: its state, and a free address and rest. -/
theorem State.dmaState_dmaDrop (s : State) (n st : Nat) : (s.dmaDrop n st).dmaState n = R.DMA_STATUS_STATE.trunc st :=
  (State.get1_put1_field _ _ _ _ _ (by decide)).trans ((State.get1_put1_field _ _ _ _ _ (by decide)).trans (State.get1_put1_same _ _ _ _))

section Disable
variable (t : Nat) (ext : List Byte) (bad : List Nat)

theorem exec_dmaDisable_stopped (stopped : s.dmaState n ≠ 1) :
    exec (.dmaDisable n ext bad t) s = .next ((s.upTo t).put1 R.DMA_STATUS_STATE n 4) := if_pos stopped

theorem exec_dmaDisable_running (runs : s.dmaState n = 1) :
    exec (.dmaDisable n ext bad t) s = .next (((s.upTo t).dmaIssued (aperRead t) (aperWrite t) n ext bad).dmaDrop n 4) :=
  if_neg (not_not.mpr runs)

/-- Without a descriptor nothing has been issued. -/
theorem State.dmaIssued_fetching (rd : State → Nat → Option Nat × State) (wr : State → Nat → Nat → Bool × State) (fetching : (s.dmaChan n).desc = []) :
    s.dmaIssued rd wr n ext bad = s := if_pos (by rw [fetching]; rfl)

end Disable

theorem State.dma_dmaFail (s : State) (n e m : Nat) :
    (s.dmaFail n e m false).dma = (s.setDma n { s.dmaChan n with desc := [], moved := m }).dma := by
  simp only [State.dmaFail, State.dmaEvt, State.cause1_fields]
  rfl

section Fail
variable (e m : Nat) (below : n < 32)
include below

/-- A failure leaves the fields beside its event as they were set. -/
theorem State.get1_dmaFail_field (g : Field) (high : 0x200000 ≤ g.addr)
    (cause : g.addr * 8 + g.lo ≠ R.DMA_EVT_ERROR.addr * 8 + R.DMA_EVT_ERROR.lo ∧ g.s1 = R.DMA_EVT_ERROR.s1 ∧ g.s2 = R.DMA_EVT_ERROR.s2)
    (rest : g.addr * 8 + g.lo ≠ R.DMA_REMAIN_BYTES.addr * 8 + R.DMA_REMAIN_BYTES.lo ∧ g.s1 = R.DMA_REMAIN_BYTES.s1 ∧ g.s2 = R.DMA_REMAIN_BYTES.s2) :
    (s.dmaFail n e m false).get1 g n = ((s.put1 R.DMA_STATUS_STATE n 3).put1 R.DMA_STATUS_ERR n e).get1 g n :=
  (State.get1_cause1_field _ _ _ _ _ _ cause high (by omega)).trans (State.get1_put1_field _ _ _ _ _ rest)

theorem State.dmaState_dmaFail : (s.dmaFail n e m false).dmaState n = 3 :=
  (State.get1_dmaFail_field e m below _ (by decide) (by decide) (by decide)).trans
    ((State.get1_put1_field _ _ _ _ _ (by decide)).trans (State.get1_put1_same _ _ _ _))

theorem State.err_dmaFail : (s.dmaFail n e m false).get1 R.DMA_STATUS_ERR n = e % 16 :=
  (State.get1_dmaFail_field e m below _ (by decide) (by decide) (by decide)).trans (State.get1_put1_same _ _ _ _)

end Fail

end Dma

/-- Settles O34: arming, disabling and failing by whether the channel runs and has a descriptor; the fields of its status are read back. -/
theorem dmaChannelStates : Obligations.DmaChannelStates := by
  refine ⟨?arm, ?armIgnored, ?disable, ?disableRunning, ?disableFetching, ?fail⟩
  case arm => exact fun s n idle => ⟨_, exec_dmaArm_idle idle, State.dmaState_dmaArmed, State.err_dmaArmed, State.poison_dmaArmed,
      State.cur_dmaArmed, State.dmaChan_dmaArmed, rfl⟩
  case armIgnored => exact fun s n runs => ⟨_, if_pos runs, rfl⟩
  case disable => exact fun s n t ext bad stopped => ⟨_, exec_dmaDisable_stopped t ext bad stopped, rfl⟩
  case disableRunning => exact fun s n t ext bad runs => ⟨_, exec_dmaDisable_running t ext bad runs, rfl⟩
  case disableFetching =>
    intro s n t ext bad runs fetching
    have drops : exec (.dmaDisable n ext bad t) s = .next ((s.upTo t).dmaDrop n 4) := by
      rw [exec_dmaDisable_running t ext bad runs, State.dmaIssued_fetching (s := s.upTo t) ext bad _ _ fetching]
    exact ⟨_, drops, State.dmaState_dmaDrop _ _ _, State.dmaChan_dmaDrop _ _ _, rfl, rfl⟩
  case fail => exact fun s n e m below => ⟨State.dmaState_dmaFail e m below, State.err_dmaFail e m below, State.dma_dmaFail s n e m⟩

end Sys2Proof.Machine

namespace Sys2Proof.Machine

/-! ## The descriptors (R419 to R423)

A poisoned descriptor as error 2, no write-back after a failed fetch and the move done inside DESCRIPTOR_COMPLETE are the model's choices
(notes/assumptions/51.md). -/

section Fetch
variable {s : State} {n : Nat} (runs : s.dmaState n = 1) (fetching : (s.dmaChan n).desc = [])
include runs fetching

theorem not_fetchIdle (t : Nat) : ¬ ((s.upTo t).dmaState n ≠ dmaRunning ∨ (!((s.upTo t).dmaChan n).desc.isEmpty) = true) := by
  have empty : ((s.upTo t).dmaChan n).desc = [] := fetching
  rintro (stopped | started)
  · exact stopped runs
  · simp [empty] at started

theorem exec_descriptorFetch_misaligned (t : Nat) (ext : List Byte) (bad : Bool) (misaligned : s.get1 R.DMA_CUR_ADDR n % 64 ≠ 0) :
    exec (.descriptorFetch n ext bad t) s = .next ((s.upTo t).dmaFail n 2 0 false) :=
  (if_neg (not_fetchIdle runs fetching t)).trans (if_pos misaligned)

section Aligned
variable (t : Nat) (ext : List Byte) (aligned : s.get1 R.DMA_CUR_ADDR n % 64 = 0)
include aligned

/-- The read of a descriptor. -/
def State.descriptorRead (s : State) (n t : Nat) (ext : List Byte) : ReadResult := (s.upTo t).storeRead 33 (s.get1 R.DMA_CUR_ADDR n) 64 ext

/-- A descriptor that cannot be read, or that stands poisoned in the stacks, fails the channel with 2. -/
theorem exec_descriptorFetch_unread {bad : Bool}
    (fails : (s.descriptorRead n t ext).status ≠ 0 ∨ ((s.descriptorRead n t ext).poisoned = true ∧ bad = false)) :
    exec (.descriptorFetch n ext bad t) s = .next ((s.descriptorRead n t ext).st.dmaFail n 2 0 false) := by
  refine (if_neg (not_fetchIdle runs fetching t)).trans ((if_neg (not_not.mpr aligned)).trans ?_)
  split
  next local_ host target =>
    refine (if_neg ?_).trans (if_pos (fails.imp_right fun poisoned => .inl poisoned.1))
    rintro ⟨-, isBad, good⟩
    rcases fails with failed | ⟨-, isGood⟩
    · exact failed good
    · exact absurd (isBad.symm.trans isGood) (by decide)

/-- A descriptor in host memory that comes poisoned fails the channel with 2. -/
theorem exec_descriptorFetch_hostPoison {h : Nat} (host : ((s.upTo t).translate 33 false (s.get1 R.DMA_CUR_ADDR n)).1 = .host h)
    (read : (s.descriptorRead n t ext).status = 0) :
    exec (.descriptorFetch n ext true t) s = .next ((s.descriptorRead n t ext).st.pciePoison.dmaFail n 2 0 false) := by
  refine (if_neg (not_fetchIdle runs fetching t)).trans ((if_neg (not_not.mpr aligned)).trans ?_)
  rw [show ((s.upTo t).translate dmaPort false ((s.upTo t).get1 R.DMA_CUR_ADDR n)).1 = .host h from host]
  exact if_pos ⟨rfl, rfl, read⟩

/-- A descriptor taken by its channel. -/
def State.descriptorTaken (s : State) (n t : Nat) (ext : List Byte) : State :=
  (s.descriptorRead n t ext).st.setDma n ⟨(s.descriptorRead n t ext).data, 0, false, none⟩

theorem exec_descriptorFetch_read (read : (s.descriptorRead n t ext).status = 0) (clean : (s.descriptorRead n t ext).poisoned = false) :
    exec (.descriptorFetch n ext false t) s = .next
      (if (s.descriptorTaken n t ext).dmaValid (s.descriptorRead n t ext).data = true
        then (s.descriptorTaken n t ext).put1 R.DMA_REMAIN_BYTES n (dmaLen (s.descriptorRead n t ext).data)
        else (s.descriptorTaken n t ext).dmaFail n 1 0 true) := by
  refine (if_neg (not_fetchIdle runs fetching t)).trans ((if_neg (not_not.mpr aligned)).trans ?_)
  split
  next local_ host target =>
    refine (if_neg ?_).trans ((if_neg ?_).trans (apply_ite Host.Outcome.next _ _ _).symm)
    · exact fun poisoned => Bool.false_ne_true poisoned.2.1
    · rintro (failed | poisoned | outside)
      · exact failed read
      · exact absurd (clean.symm.trans poisoned) (by decide)
      · exact Bool.false_ne_true outside.2

end Aligned
end Fetch

section Complete
variable {s : State} {n : Nat} (rd : State → Nat → Option Nat × State) (wr : State → Nat → Nat → Bool × State) (ext : List Byte) (bad : List Nat)

theorem State.dmaComplete_failed (failed : (s.dmaBody rd wr n ext bad).1.err ≠ 0) :
    s.dmaComplete rd wr n ext bad =
      (s.dmaBody rd wr n ext bad).1.st.dmaFail n (s.dmaBody rd wr n ext bad).1.err (s.dmaBody rd wr n ext bad).1.moved true := by
  unfold State.dmaComplete
  generalize s.dmaBody rd wr n ext bad = b at failed ⊢
  exact if_pos failed

section Moved
variable (moved : (s.dmaBody rd wr n ext bad).1.err = 0)
include moved

theorem State.dmaComplete_plain (plain : dmaBarrier (s.dmaChan n).desc = false) :
    s.dmaComplete rd wr n ext bad =
      (s.dmaBody rd wr n ext bad).1.st.dmaFinish n (s.dmaBody rd wr n ext bad).2 (s.dmaBody rd wr n ext bad).1.moved := by
  unfold State.dmaComplete
  generalize s.dmaBody rd wr n ext bad = b at moved ⊢
  exact (if_neg (not_not.mpr moved)).trans (if_pos (congrArg not plain))

/-- With BARRIER the channel waits where its writes are not all visible. -/
theorem State.dmaComplete_barrier (barrier : dmaBarrier (s.dmaChan n).desc = true) :
    s.dmaComplete rd wr n ext bad =
      let b := s.dmaBody rd wr n ext bad
      let s3 := b.1.st.dmaVisible s
      if s3.dmaFlushing = true ∨ s3.sent.length ≠ b.1.st.sent.length
        then s3.setDma n { s3.dmaChan n with held := some (b.2, b.1.moved) } else s3.dmaFinish n b.2 b.1.moved := by
  unfold State.dmaComplete
  generalize s.dmaBody rd wr n ext bad = b at moved ⊢
  exact (if_neg (not_not.mpr moved)).trans (if_neg (ne_true_of_eq_false (congrArg not barrier)))

end Moved

section Started
variable (t : Nat) (runs : s.dmaState n = 1) (started : (s.dmaChan n).desc ≠ []) (unlocked : (s.upTo t).dmaLocked (s.dmaChan n).desc = false)
include runs started unlocked

theorem not_completeIdle : ¬ (s.dmaState n ≠ dmaRunning ∨ (s.dmaChan n).desc.isEmpty = true ∨ (s.upTo t).dmaLocked (s.dmaChan n).desc = true) := by
  rintro (stopped | empty | locked)
  · exact stopped runs
  · exact started (List.isEmpty_iff.mp empty)
  · exact ne_true_of_eq_false unlocked locked

theorem exec_descriptorComplete_moves (fresh : (s.dmaChan n).held = none) :
    exec (.descriptorComplete n ext bad t) s = .next ((s.upTo t).dmaComplete (aperRead t) (aperWrite t) n ext bad) := by
  refine (if_neg (not_completeIdle t runs started unlocked)).trans ?_
  rw [show ((s.upTo t).dmaChan n).held = none from fresh]

theorem exec_descriptorComplete_held {v m : Nat} (held : (s.dmaChan n).held = some (v, m)) :
    exec (.descriptorComplete n ext bad t) s = .next (if (s.upTo t).dmaFlushing = true then s.upTo t else (s.upTo t).dmaFinish n v m) := by
  refine (if_neg (not_completeIdle t runs started unlocked)).trans ?_
  rw [show ((s.upTo t).dmaChan n).held = some (v, m) from held]

/-- After the bytes that were moved an access of the source or the destination fails. -/
theorem exec_dmaFailure_moves (m : Nat) {e : Nat} (fresh : (s.dmaChan n).held = none) (side : e = 3 ∨ e = 4) :
    let x := (s.upTo t).dmaMove (aperRead t) (aperWrite t) (s.dmaChan n).desc (min m (dmaLen (s.dmaChan n).desc)) ext bad
    x.err = 0 → exec (.dmaFailure n e m ext bad t) s = .next ((x.st.dmaPoison n x.poison).dmaFail n e x.moved true) := by
  intro x moved
  have idle : ¬ ((s.dmaChan n).held.isSome = true) := by simp [fresh]
  refine (if_neg (not_not.mpr runs)).trans ((if_neg (started ∘ List.isEmpty_iff.mp)).trans
    ((if_neg (ne_true_of_eq_false unlocked)).trans ((if_neg idle).trans ((if_neg (by omega)).trans ?_))))
  refine congrArg (fun code => Host.Outcome.next ((x.st.dmaPoison n x.poison).dmaFail n code x.moved true)) ((if_neg (not_not.mpr moved)).trans ?_)
  rcases side with rfl | rfl <;> rfl

end Started
end Complete

section Finish
variable {s : State} {n v m : Nat}

/-- The status written back to a descriptor that is done. -/
def State.writtenBack (s : State) (n v m : Nat) : State × Nat :=
  s.storePut 33 (s.get1 R.DMA_CUR_ADDR n + 40) (leBytes 8 v ++ leBytes 4 (1 + 256 * b2n (s.dmaChan n).poison) ++ leBytes 4 m ++ leBytes 8 s.now) false

/-- A descriptor that is done, with the event it asks for. -/
def State.descriptorDone (s : State) (n v m : Nat) : State :=
  (if dmaIrq (s.dmaChan n).desc then (s.writtenBack n v m).1.dmaEvt R.DMA_EVT_DESC n else (s.writtenBack n v m).1).put1 R.DMA_REMAIN_BYTES n 0

theorem State.dmaFinish_unwritten (failed : (s.writtenBack n v m).2 ≠ 0) : s.dmaFinish n v m = (s.writtenBack n v m).1.dmaFail n 2 m false :=
  if_pos failed

section Written
variable (written : (s.writtenBack n v m).2 = 0)
include written

theorem State.dmaFinish_last (last : dmaLast (s.dmaChan n).desc = true) :
    s.dmaFinish n v m = (((s.descriptorDone n v m).setDma n DmaChan.init).put1 R.DMA_STATUS_STATE n 2).dmaEvt R.DMA_EVT_DONE n :=
  (if_neg (not_not.mpr written)).trans (if_pos last)

theorem State.dmaFinish_chained (chained : dmaLast (s.dmaChan n).desc = false) :
    s.dmaFinish n v m = (s.descriptorDone n v m).dmaNext n (dmaNextAddr (s.dmaChan n).desc) :=
  (if_neg (not_not.mpr written)).trans (if_neg (ne_true_of_eq_false chained))

end Written
end Finish

/-- Settles O35: a fetch by how the descriptor is read, a completion by the move's error, by BARRIER and by the write-back. -/
theorem dmaDescriptors : Obligations.DmaDescriptors := by
  refine ⟨?misaligned, ?unread, ?read, ?completes, ?held, ?finish, ?noDescriptor, ?fails⟩
  case misaligned => exact fun s n t ext bad runs fetching misaligned => ⟨_, exec_descriptorFetch_misaligned runs fetching t ext bad misaligned, rfl⟩
  case unread => exact fun s n t ext bad runs fetching aligned =>
    ⟨fun fails => ⟨_, exec_descriptorFetch_unread runs fetching t ext aligned fails, rfl⟩,
      fun h host read => ⟨_, exec_descriptorFetch_hostPoison runs fetching t ext aligned host read, rfl⟩⟩
  case read => exact fun s n t ext runs fetching aligned read clean =>
    ⟨_, exec_descriptorFetch_read runs fetching t ext aligned read clean, rfl⟩
  case completes =>
    intro s n t ext bad runs started unlocked fresh
    have completes := exec_descriptorComplete_moves ext bad t runs started unlocked fresh
    refine ⟨fun failed => ⟨_, completes, ?_⟩, fun moved plain => ⟨_, completes, ?_⟩, fun moved barrier => ⟨_, completes, ?_⟩⟩
    · exact State.dmaComplete_failed _ _ ext bad failed
    · exact State.dmaComplete_plain _ _ ext bad moved plain
    · exact State.dmaComplete_barrier _ _ ext bad moved barrier
  case held => exact fun s n t v m ext bad runs started unlocked held =>
    ⟨_, exec_descriptorComplete_held ext bad t runs started unlocked held, rfl⟩
  case finish => exact fun s n v m =>
    ⟨State.dmaFinish_unwritten, fun written => State.dmaFinish_last written, fun written => State.dmaFinish_chained written⟩
  case noDescriptor => exact fun s n t e m ext bad runs fetching =>
    ⟨_, (if_neg (not_not.mpr runs)).trans (if_pos (List.isEmpty_iff.mpr fetching)), rfl⟩
  case fails => exact fun s n t m ext bad runs started unlocked fresh moved =>
    ⟨⟨_, exec_dmaFailure_moves ext bad t runs started unlocked m fresh (.inl rfl) moved, rfl⟩,
      ⟨_, exec_dmaFailure_moves ext bad t runs started unlocked m fresh (.inr rfl) moved, rfl⟩⟩

end Sys2Proof.Machine

namespace Sys2Proof.Machine

/-! ## The monitor ports (R449 to R453)

The resampled value, its window and the FIFO's zero frames are the model's choices (notes/assumptions/58.md). -/

section Frame
variable {s : State} {p t : Nat}

theorem exec_monFrame_ganged (ganged : s.ganged = true) (within : (s.monPort 0).frame < 1000) (powered : s.power.d ≤ 1) :
    exec (.monFrame 0 t) s = .next (forN 4 (fun q a => a.monSend q) (s.upTo t)) := by
  have runs : (s.monPort 0).run = true := (Bool.and_eq_true_iff.mp ganged).1
  have fifo : s.monTimed 0 = false := by simp [State.monTimed, State.monFifo, ganged]
  have sends : ¬ (!(s.monPort 0).run || decide (1000 ≤ (s.monPort 0).frame) || (s.ganged && 0 != 0) || decide (1 < s.power.d) ||
      (s.monTimed 0 && decide (max s.now t < (s.monPort 0).frameAt))) = true := by
    rw [runs, ganged, fifo, decide_eq_false (Nat.not_le.mpr within), decide_eq_false (Nat.not_lt.mpr powered)]
    exact Bool.false_ne_true
  exact (if_neg sends).trans (congrArg Host.Outcome.next (if_pos ganged))

section Single
variable (port : p < 4) (runs : (s.monPort p).run = true) (within : (s.monPort p).frame < 1000) (powered : s.power.d ≤ 1)
  (single : s.ganged = false)
include port runs within powered single

/-- A single port that runs sends a frame unless its own instant is still to come. -/
theorem exec_monFrame_single :
    exec (.monFrame p t) s = .next
      (if (s.monTimed p && decide (max s.now t < (s.monPort p).frameAt)) = true then s.upTo t else (s.upTo t).monSend p) := by
  have guard : (!(s.monPort p).run || decide (1000 ≤ (s.monPort p).frame) || (s.ganged && p != 0) || decide (1 < s.power.d) ||
      (s.monTimed p && decide (max s.now t < (s.monPort p).frameAt))) = (s.monTimed p && decide (max s.now t < (s.monPort p).frameAt)) := by
    rw [runs, single, decide_eq_false (Nat.not_le.mpr within), decide_eq_false (Nat.not_lt.mpr powered)]
    rfl
  show execMonFrame p t s = _
  simp only [execMonFrame, Nat.mod_eq_of_lt port]
  refine (if_congr (congrArg (· = true) guard).to_iff rfl (congrArg Host.Outcome.next (if_neg (ne_true_of_eq_false single)))).trans ?_
  exact (apply_ite Host.Outcome.next _ _ _).symm

end Single

/-- A single port in master mode leaves on the grid of array time. -/
theorem State.monTimed_master (single : s.ganged = false) (master : s.monFifo p = false) : s.monTimed p = true := by
  simp [State.monTimed, single, master]

theorem State.monTimed_fifo (fifo : s.monFifo p = true) : s.monTimed p = false := by simp [State.monTimed, fifo]

theorem State.monSend_timed (timed : s.monTimed p = true) :
    s.monSend p =
      let f := s.monForm p (s.monPort p).frame (s.monPort p).frameAt
      (f.2.setMon p { f.2.monPort p with frame := (s.monPort p).frame + 1, last := f.1 }).emit (.mon p f.1) :=
  if_neg (ne_true_of_eq_false (congrArg not timed))

section Fifo
variable (untimed : s.monTimed p = false)
include untimed

theorem State.monSend_fifo {f : List Nat} {r : List (List Nat)} (waits : ((s.monFill p).monPort p).fifo = f :: r) :
    s.monSend p =
      let d := ((s.monFill p).monPort p).leaving ((s.monFill p).monPort p).frame f
      ((s.monFill p).setMon p { (s.monFill p).monPort p with fifo := r, last := d, frame := ((s.monFill p).monPort p).frame + 1 }).emit (.mon p d) := by
  refine (if_pos (congrArg not untimed)).trans ?_
  rw [waits]

theorem State.monSend_slips (single : s.ganged = false) (empty : ((s.monFill p).monPort p).fifo = []) :
    s.monSend p =
      ((((s.monFill p).setMon p { (s.monFill p).monPort p with frame := ((s.monFill p).monPort p).frame + 1 }).emit
        (.mon p ((s.monFill p).monPort p).last)).bump1 R.MON_STATUS_SLIPS p 1).monEvt R.MON_EVT_SLIP p := by
  refine (if_pos (congrArg not untimed)).trans ?_
  simp only [empty, single, Bool.false_eq_true, if_false]

end Fifo
end Frame

section Block
variable {s : State} {p : Nat}

/-- The instant and the sequence number of a block shown. -/
def State.blockShown (s : State) (p seq : Nat) : State :=
  (s.put1 R.MON_BLOCK_TIME_TIME p s.now).put1 R.MON_BLOCK_SEQ_SEQ p (seq % 4294967296)

theorem State.time_blockShown (s : State) (p seq : Nat) : (s.blockShown p seq).get1 R.MON_BLOCK_TIME_TIME p = s.now % 2 ^ 64 :=
  (State.get1_put1_field _ _ _ _ _ (by decide)).trans (State.get1_put1_same _ _ _ _)

theorem State.seq_blockShown (s : State) (p seq : Nat) : (s.blockShown p seq).get1 R.MON_BLOCK_SEQ_SEQ p = seq % 2 ^ 32 :=
  (State.get1_put1_same _ _ _ _).trans (Nat.mod_mod seq (2 ^ 32))

theorem State.monPort_setMon (s : State) (p : Nat) (x : MonPort) : (s.setMon p x).monPort p = x := Tab.get_set_same _ _ _ _

/-- A port that starts, or whose CTL word has changed, restarts at the block's edge. -/
theorem State.monEdge_restart {ctl : Nat} (restarts : (s.monPort p).run = false ∨ (s.monPort p).ctl ≠ ctl) :
    s.monEdge p ctl = (s.monStart p ctl).blockShown p (if (s.monPort p).run then s.get1 R.MON_BLOCK_SEQ_SEQ p + 1 else 1) := by
  have changed : (!(s.monPort p).run || ctl != (s.monPort p).ctl) = true := by
    rcases restarts with stopped | other
    · simp [stopped]
    · simp [Ne.symm other]
  unfold State.monEdge
  simp only [if_pos changed]
  rfl

/-- The slots of a port that goes on, those that changed muted. -/
def State.slotsTaken (s : State) (p : Nat) : State :=
  s.setMon p { s.monPort p with
    slots := (List.range 8).map (s.monSlot p)
    mute := (List.range 8).filter (fun j => ((List.range 8).map (s.monSlot p)).getD j 0 != (s.monPort p).slots.getD j 0)
    frame := 0, edge := s.now }

theorem State.monEdge_goesOn {ctl : Nat} (runs : (s.monPort p).run = true) (same : (s.monPort p).ctl = ctl) :
    s.monEdge p ctl = (s.slotsTaken p).blockShown p (s.get1 R.MON_BLOCK_SEQ_SEQ p + 1) := by
  have unchanged : ¬ (!(s.monPort p).run || ctl != (s.monPort p).ctl) = true := by simp [runs, same]
  unfold State.monEdge
  simp only [if_neg unchanged, if_pos runs]
  rfl

section AtEnd
variable {t : Nat} (port : p < 4) (ended : (s.monPort p).run = false ∨ 1000 ≤ (s.monPort p).frame) (single : s.ganged = false)
  (powered : s.power.d = 0)
include port ended single powered

/-- At the end of a block a single port stops, waits for the grid, or meets a block's edge, alone or as the gang's first. -/
theorem exec_monBlock_single :
    exec (.monBlock p t) s = .next
      (if (!s.is1 R.MON_CTL_EN p) = true then (s.upTo t).setMon p MonPort.init
        else if (!bit (s.monCtl p) 3 && !(p == 0 && s.is1 R.MON_CTL_GANG 0) && !monGrid (s.monCtl p) (max s.now t)) = true then s.upTo t
        else if p = 0 ∧ s.is1 R.MON_CTL_GANG 0 = true then forN 4 (fun q a => a.monEdge q (s.monCtl 0)) (s.upTo t)
        else (s.upTo t).monEdge p (s.monCtl p)) := by
  have atEnd : ¬ (((s.monPort p).run && decide ((s.monPort p).frame < 1000)) || (s.ganged && p != 0) || decide (0 < s.power.d)) = true := by
    rcases ended with stopped | past
    · simp [stopped, single, powered]
    · simp [Nat.not_lt.mpr past, single, powered]
  show execMonBlock p t s = _
  simp only [execMonBlock, Nat.mod_eq_of_lt port]
  refine (if_neg atEnd).trans ?_
  simp only [apply_ite Host.Outcome.next]
  rfl

section Alone
variable {t : Nat} (enabled : s.get1 R.MON_CTL_EN p = 1) (alone : ¬(p = 0 ∧ s.get1 R.MON_CTL_GANG 0 = 1))
include port ended single powered enabled alone

omit port ended single powered enabled in
theorem gangs_eq_false : (p == 0 && s.is1 R.MON_CTL_GANG 0) = false := by
  refine Bool.eq_false_iff.mpr fun gangs => alone ?_
  obtain ⟨first, ganging⟩ := Bool.and_eq_true_iff.mp gangs
  exact ⟨beq_iff_eq.mp first, beq_iff_eq.mp ganging⟩

omit alone port ended single powered in
theorem not_disabled : ¬ (!s.is1 R.MON_CTL_EN p) = true := by simp [State.is1, enabled]

/-- A block that is not at an instant of the grid waits in master mode. -/
theorem exec_monBlock_waits (master : bit (s.monCtl p) 3 = false) (off : monGrid (s.monCtl p) (max s.now t) = false) :
    exec (.monBlock p t) s = .next (s.upTo t) := by
  rw [exec_monBlock_single port ended single powered, if_neg (not_disabled enabled), master, off, gangs_eq_false alone]
  exact congrArg Host.Outcome.next (if_pos rfl)

/-- A block's edge: in slave mode at once, in master mode at an instant of the grid. -/
theorem exec_monBlock_edge (begins : bit (s.monCtl p) 3 = true ∨ monGrid (s.monCtl p) (max s.now t) = true) :
    exec (.monBlock p t) s = .next ((s.upTo t).monEdge p (s.monCtl p)) := by
  have goes : ¬ (!bit (s.monCtl p) 3 && !(p == 0 && s.is1 R.MON_CTL_GANG 0) && !monGrid (s.monCtl p) (max s.now t)) = true := by
    rcases begins with slave | on
    · simp [slave]
    · simp [on]
  rw [exec_monBlock_single port ended single powered, if_neg (not_disabled enabled), if_neg goes, if_neg]
  exact fun gangs => alone ⟨gangs.1, beq_iff_eq.mp gangs.2⟩

end Alone
end AtEnd

theorem exec_monBlock_gang {t : Nat} (ended : (s.monPort 0).run = false ∨ 1000 ≤ (s.monPort 0).frame) (single : s.ganged = false)
    (powered : s.power.d = 0) (enabled : s.get1 R.MON_CTL_EN 0 = 1) (gangs : s.get1 R.MON_CTL_GANG 0 = 1) :
    exec (.monBlock 0 t) s = .next (forN 4 (fun q a => a.monEdge q (s.monCtl 0)) (s.upTo t)) := by
  have ganging : s.is1 R.MON_CTL_GANG 0 = true := beq_iff_eq.mpr gangs
  rw [exec_monBlock_single (by decide) ended single powered, if_neg (not_disabled enabled), if_neg (by simp [ganging]), if_pos ⟨rfl, ganging⟩]

end Block

/-- Settles O43: a frame by the mode of its port and by what its FIFO holds, a block by EN, the grid, the gang and the CTL word. -/
theorem monitorPorts : Obligations.MonitorPorts := by
  refine ⟨?frame, ?gang, ?block⟩
  case frame =>
    intro s p t port runs within powered single
    have sends := exec_monFrame_single (t := t) port runs within powered single
    refine ⟨fun master early => ⟨_, sends, ?_⟩, fun master due => ⟨_, sends, ?_⟩, fun fifo => ⟨fun f r waits => ⟨_, sends, ?_⟩, fun empty => ⟨_, sends, ?_⟩⟩⟩
    · exact if_pos (by rw [State.monTimed_master single master, decide_eq_true early]; rfl)
    · refine (if_neg ?_).trans (State.monSend_timed (State.monTimed_master single master))
      rw [State.monTimed_master single master, decide_eq_false (Nat.not_lt.mpr due)]
      exact Bool.false_ne_true
    · refine (if_neg ?_).trans (State.monSend_fifo (s := s.upTo t) (State.monTimed_fifo fifo) waits)
      rw [State.monTimed_fifo fifo]
      exact Bool.false_ne_true
    · refine (if_neg ?_).trans (State.monSend_slips (State.monTimed_fifo fifo) single empty)
      rw [State.monTimed_fifo fifo]
      exact Bool.false_ne_true
  case gang => exact fun s t ganged within powered => ⟨_, exec_monFrame_ganged ganged within powered, rfl⟩
  case block =>
    intro s p t port ended single powered
    refine ⟨fun disabled => ⟨_, exec_monBlock_single port ended single powered, ?_⟩, fun enabled alone master off => ?_,
      fun enabled alone begins restarts => ?_, fun enabled alone begins runs same => ?_, ?_⟩
    · exact if_pos (by simp [State.is1, disabled])
    · exact ⟨_, exec_monBlock_waits port ended single powered enabled alone master off, rfl⟩
    · have edge := exec_monBlock_edge port ended single powered enabled alone begins
      rw [State.monEdge_restart (s := s.upTo t) restarts] at edge
      exact ⟨_, edge, State.monPort_setMon _ p _, State.time_blockShown _ p _, State.seq_blockShown _ p _, rfl⟩
    · have edge := exec_monBlock_edge port ended single powered enabled alone begins
      rw [State.monEdge_goesOn (s := s.upTo t) runs same] at edge
      exact ⟨_, edge, State.monPort_setMon _ p _, State.time_blockShown _ p _, State.seq_blockShown _ p _, rfl⟩
    · rintro rfl enabled gangs
      exact ⟨_, exec_monBlock_gang ended single powered enabled gangs, rfl⟩

end Sys2Proof.Machine

namespace Sys2Proof.Machine

/-! ## Power states and wakes (R456 to R458, R470)

Draining inside the entry to D1, array time after D3 and the wake clauses (notes/assumptions/59.md), the FORCE entry
(notes/assumptions/60.md) and what a warm reset keeps (notes/assumptions/61.md) are the model's choices. -/

section Entry
variable {s : State} {force keep : Bool} {t : Nat}

theorem exec_enterD1_allowed (allowed : ((s.upTo t).powerCtl 1 force keep).powerRefused 1 = false) :
    exec (.enterD1 force keep t) s = .next ((s.upTo t).powerCtl 1 force keep).enterD1 :=
  congrArg Host.Outcome.next (if_neg (ne_true_of_eq_false allowed))

theorem exec_enterD1_refused (refused : ((s.upTo t).powerCtl 1 force keep).powerRefused 1 = true) :
    exec (.enterD1 force keep t) s = .next ((s.upTo t).powerCtl 1 force keep).powerRefuse := congrArg Host.Outcome.next (if_pos refused)

/-- The wait for the Ledger begins; a Draft that FORCE overrides is abandoned. -/
def State.waitsForLedger (s : State) : State :=
  ((((if s.draftRuns = true then s.draftOff.sectionsMove else s).powerEvt 0).ledCount 2).withPower
    (fun p => { p with waits := true, waitAt := s.now })).setPw pwEntering

theorem exec_enterD2_allowed (allowed : ((s.upTo t).powerCtl 2 force keep).powerRefused 2 = false) :
    exec (.enterD2 force keep t) s = .next ((s.upTo t).powerCtl 2 force keep).waitsForLedger := if_neg (ne_true_of_eq_false allowed)

theorem exec_enterD2_refused (refused : ((s.upTo t).powerCtl 2 force keep).powerRefused 2 = true) :
    exec (.enterD2 force keep t) s = .next ((s.upTo t).powerCtl 2 force keep).powerRefuse := if_pos refused

/-- A write of the host (master 0, source 4) or the board (master 1, source 3) wakes the part where its source is enabled. -/
theorem exec_wakeFromD1_source {m : Nat} (master : m < 2) :
    exec (.wakeFromD1 m t force keep) s = .next (if ((s.upTo t).powerCtl 0 force keep).wakeOn (4 - m) = true
      then ((s.upTo t).powerCtl 0 force keep).wakeUp (4 - m) else (s.upTo t).powerCtl 0 force keep) := by
  obtain rfl | rfl : m = 0 ∨ m = 1 := by omega
  · show execWakeFromD1 0 t force keep s = _
    rw [execWakeFromD1, if_pos rfl]
  · show execWakeFromD1 1 t force keep s = _
    rw [execWakeFromD1, if_neg Nat.one_ne_zero, if_pos rfl]

/-- Another master wakes the part with a free source. -/
theorem exec_wakeFromD1_other {m : Nat} (other : 2 ≤ m) :
    exec (.wakeFromD1 m t force keep) s = .next (((s.upTo t).powerCtl 0 force keep).takeFree.2.wakeUp
      (((s.upTo t).powerCtl 0 force keep).takeFree.1 % 6)) := (if_neg (by omega)).trans (if_neg (by omega))

end Entry

section Wait
variable {s : State} (t : Nat) (waits : s.power.waits = true)
include waits

theorem exec_ledgerDone_waits : exec (.ledgerDone t) s = .next ((s.upTo t).powerDown 1 0 false) := congrArg Host.Outcome.next (if_pos waits)

theorem exec_ledgerWaitTimeout_past (past : s.power.waitAt + nsToT 100000000 ≤ max s.now t) :
    exec (.ledgerWaitTimeout t) s = .next ((s.upTo t).powerDown 1 0 true) :=
  congrArg Host.Outcome.next (if_pos (Bool.and_eq_true_iff.mpr ⟨waits, decide_eq_true past⟩))

end Wait

section Ready
variable {s : State}

/-- The events that a part in D0 owes: of its wake, and of the emergency it comes from. -/
def State.owedShown (s : State) (wake : Bool) (owed cause : Nat) : State :=
  let s2 := if wake = true then s.powerEvt 1 else s
  if owed = 0 then s2 else if cause = 2 then s2.powerEvt 4 else if cause = 3 then s2.powerEvt 5 else s2

theorem State.owedShown_evtOnly (s : State) (wake : Bool) (owed cause : Nat) : EvtOnly s (s.owedShown wake owed cause) := by
  have woke : EvtOnly s (if wake = true then s.powerEvt 1 else s) := .ite (.causeBase _ _ _ _) (.refl _)
  exact .trans woke (.ite (.refl _) (.ite (.causeBase _ _ _ _) (.ite (.causeBase _ _ _ _) (.refl _))))

theorem State.stage_powerEvt (s : State) (k : Nat) (source : R.SYS_BOOT_STAGE.free 0 0 (0x180 + k)) :
    (s.powerEvt k).get R.SYS_BOOT_STAGE = s.get R.SYS_BOOT_STAGE :=
  (State.get_cause1 s _ 0 k _ _ source).trans (State.get2_put2_other _ _ _ _ _ _ _ _ (by decide))

theorem State.get_ite_eq {a b : State} {c : Prop} [Decidable c] {f : Field} {v : Nat} (left : a.get f = v) (right : b.get f = v) :
    (if c then a else b).get f = v := by split <;> assumption

theorem State.stage_owedShown (s : State) (wake : Bool) (owed cause : Nat) :
    (s.owedShown wake owed cause).get R.SYS_BOOT_STAGE = s.get R.SYS_BOOT_STAGE := by
  have woke : (if wake = true then s.powerEvt 1 else s).get R.SYS_BOOT_STAGE = s.get R.SYS_BOOT_STAGE :=
    State.get_ite_eq (s.stage_powerEvt 1 (by decide)) rfl
  exact State.get_ite_eq woke (State.get_ite_eq ((State.stage_powerEvt _ 4 (by decide)).trans woke)
    (State.get_ite_eq ((State.stage_powerEvt _ 5 (by decide)).trans woke) woke))

/-- A waking part at stage 3 is in D0 at stage 4. -/
def State.wokeUp (s : State) (t : Nat) : State := ((s.upTo t).put R.SYS_BOOT_STAGE 4).setPw pwD0

/-- What FW_READY leaves of a waking part. -/
def State.fwReadied (s : State) (t : Nat) : State :=
  ((s.wokeUp t).owedShown s.power.wake s.power.owed (s.get R.POWER_CAUSE_CAUSE)).withPower (fun p => { p with owed := 0, wake := false })

theorem exec_fwReady_waking {t : Nat} (wakes : s.pw = pwWaking) (stage : s.get R.SYS_BOOT_STAGE = 3) :
    exec (.fwReady t) s = .next (s.fwReadied t) := if_neg (not_or.mpr ⟨not_not.mpr wakes, not_not.mpr stage⟩)

theorem State.stage_fwReadied (t : Nat) : (s.fwReadied t).get R.SYS_BOOT_STAGE = 4 :=
  (State.stage_owedShown _ _ _ _).trans ((State.get_put_ne _ _ _ _ (by decide)).trans (State.get_put_same _ _ _))

theorem State.power_fwReadied (t : Nat) : (s.fwReadied t).power = { s.power with owed := 0, wake := false } := by
  have kept : ((s.wokeUp t).owedShown s.power.wake s.power.owed (s.get R.POWER_CAUSE_CAUSE)).power = s.power :=
    (congrArg State.power (State.owedShown_evtOnly (s.wokeUp t) s.power.wake s.power.owed (s.get R.POWER_CAUSE_CAUSE))).trans rfl
  exact congrArg (fun p : PowerState => { p with owed := 0, wake := false }) kept

end Ready

section Wakes
variable {s : State} {t : Nat}

theorem exec_wakeTime_past (armed : s.power.armed = true) (past : s.get R.POWER_WAKE_TIME_TIME ≤ max s.now t) :
    let s1 := (s.upTo t).withPower (fun p => { p with armed := false })
    exec (.wakeTime t) s = .next (if s1.wakeOn 1 = true then s1.wakeUp 1 else s1) := by
  have due : ¬ (!s.power.armed || decide (max s.now t < s.get R.POWER_WAKE_TIME_TIME)) = true := by
    rw [armed, decide_eq_false (Nat.not_lt.mpr past)]
    exact Bool.false_ne_true
  exact if_neg due

theorem exec_denWakeN_enabled (on : (s.upTo t).wakeOn 5 = true) : exec (.denWakeN t) s = .next ((s.upTo t).wakeUp 5) :=
  congrArg Host.Outcome.next (if_pos on)

theorem exec_wakeFrame_enabled {f : List Byte} {ok : Bool} (on : (s.upTo t).wakeOn 2 = true) (wakes : (s.upTo t).wakeFrame f ok = true) :
    exec (.wakeFrame f ok t) s = .next ((s.upTo t).wakeUp 2) :=
  congrArg Host.Outcome.next (if_pos (Bool.and_eq_true_iff.mpr ⟨on, wakes⟩))

theorem exec_perstRise_enabled (den : s.power.d = 2) (on : (s.upTo t).wakeOn 4 = true) :
    exec (.perstRise t) s = .next ((s.upTo t).wakeUp 4) :=
  congrArg Host.Outcome.next (if_pos (Bool.and_eq_true_iff.mpr ⟨decide_eq_true den, on⟩))

end Wakes

/-- Settles O44: each request by whether it is refused, each wake by its source, the end of a wake with the events it owes. -/
theorem powerStates : Obligations.PowerStates := by
  refine ⟨?d1, ?d1Refused, ?d2, ?d2Refused, ?source, ?other, ?off, ?done, ?timeout, ?warm, ?ready, ?time, ?pin, ?frame, ?perst⟩
  case d1 => exact fun s force keep t allowed => ⟨_, exec_enterD1_allowed allowed, rfl⟩
  case d1Refused => exact fun s force keep t refused => ⟨_, exec_enterD1_refused refused, rfl⟩
  case d2 => exact fun s force keep t allowed => ⟨_, exec_enterD2_allowed allowed, rfl⟩
  case d2Refused => exact fun s force keep t refused => ⟨_, exec_enterD2_refused refused, rfl⟩
  case source => exact fun s force keep m t master on => ⟨_, exec_wakeFromD1_source master, if_pos on⟩
  case other => exact fun s force keep m t other => ⟨_, exec_wakeFromD1_other other, rfl⟩
  case off => exact fun s force keep m t master off => ⟨_, exec_wakeFromD1_source master, if_neg (ne_true_of_eq_false off)⟩
  case done => exact fun s t waits => ⟨_, exec_ledgerDone_waits t waits, rfl⟩
  case timeout => exact fun s t waits past => ⟨_, exec_ledgerWaitTimeout_past t waits past, rfl⟩
  case warm => exact fun s t => ⟨_, rfl, rfl⟩
  case ready => exact fun s t wakes stage => ⟨_, exec_fwReady_waking wakes stage, State.stage_fwReadied t, State.power_fwReadied t, rfl⟩
  case time => exact fun s t armed past => ⟨_, exec_wakeTime_past armed past, rfl⟩
  case pin => exact fun s t on => ⟨_, exec_denWakeN_enabled on, rfl⟩
  case frame => exact fun s f ok t on wakes => ⟨_, exec_wakeFrame_enabled on wakes, rfl⟩
  case perst => exact fun s t den on => ⟨_, exec_perstRise_enabled den on, rfl⟩

end Sys2Proof.Machine

namespace Sys2Proof.Machine

/-! ## Supplies, temperatures and the boot (R466 to R468, R489, R491)

STAGE 1 passed inside RAILS_GOOD and switched rails ignored in D2 are the model's choices (notes/assumptions/60.md). -/

section Supplies
variable {s : State} {t : Nat}

theorem exec_supplyFault_kept {rail : Nat} (kept : rail = 2 ∨ rail = 7) : exec (.supplyFault rail t) s = .next (s.upTo t).enterD3 :=
  if_pos (by omega)

theorem exec_supplyFault_switched {rail : Nat} (below : rail < 8) (not2 : rail ≠ 2) (not7 : rail ≠ 7) (powered : s.power.d ≤ 1) :
    exec (.supplyFault rail t) s = .next ((s.upTo t).emergencyDown 3 rail) := by
  show execSupplyFault rail t s = _
  rw [execSupplyFault, Nat.mod_eq_of_lt below, if_neg (not_or.mpr ⟨not2, not7⟩)]
  exact if_neg (Nat.not_le.mpr (Nat.lt_succ_of_le powered))

theorem exec_hpEnFall_high (high : s.power.hpEn = true) :
    let s1 := (s.upTo t).withPower (fun p => { p with hpEn := false })
    exec (.hpEnFall t) s = .next (if s.power.d ≤ 1 then (s1.powerEvt 6).ledCount 6 else s1) :=
  if_neg (ne_true_of_eq_false (congrArg not high))

theorem exec_hpEnRise_low (low : s.power.hpEn = false) :
    exec (.hpEnRise t) s = .next ((s.upTo t).withPower (fun p => { p with hpEn := true, hpAt := max s.now t + nsToT 10000 })) :=
  if_neg (ne_true_of_eq_false low)

/-- The temperatures shown. -/
def State.tempsShown (s : State) (die stack den : Int) : State :=
  ((s.put R.POWER_TEMP_DIE_MAX (tempByte die)).put R.POWER_TEMP_STACK_MAX (tempByte stack)).put R.POWER_TEMP_DEN (tempByte den)

theorem exec_tempSample_powered (die stack den : Int) (powered : s.power.d ≤ 1) :
    let s1 := ((s.upTo t).withPower (fun p => { p with denTemp := den })).tempsShown die stack den
    let warn := sgn 8 (s.get R.POWER_THERM_CTL_WARN)
    let s2 := if sgn 8 (s.get R.POWER_TEMP_DIE_MAX) ≤ warn ∧ warn < die then s1.powerEvt 3 else s1
    let s3 := if s2.draftRuns = true ∧ tempMax s2.draft.struct < stack then s2.powerEvt 7 else s2
    exec (.tempSample die stack den t) s = .next (if 130 ≤ die ∨ 130 ≤ stack then s3.emergencyDown 2 0 else s3) :=
  if_neg (Nat.not_le.mpr (Nat.lt_succ_of_le powered))

end Supplies

section Dark

theorem State.power_cacheClear (s : State) : s.cacheClear.power = s.power := by
  unfold State.cacheClear
  dsimp only
  split
  · exact (congrArg State.power (EvtOnly.causeBase _ R.STORE_EVT_CAUSE 0x1E0 3)).trans rfl
  · rfl

theorem State.power_mapReset (s : State) : s.mapReset.power = s.power :=
  State.power_cacheClear _

/-- What D3 leaves of the power manager. -/
theorem State.power_enterD3 (s : State) : s.enterD3.power = { PowerState.init with hpEn := s.power.hpEn, denTemp := s.power.denTemp } :=
  State.power_mapReset _

end Dark

section Boot
variable {s : State} {t : Nat}

theorem exec_porNRelease_dark (dark : s.power.d = 3) : exec (.porNRelease t) s = .next ((s.upTo t).weaveUp 0) := if_pos dark

theorem exec_railsGood_waking (wakes : s.pw = pwWaking) (stage : s.get R.SYS_BOOT_STAGE = 0) :
    let s1 := (s.upTo t).put R.SYS_BOOT_STAGE 2
    let s2 := s1.populated.foldl (fun a x => if a.siteState x = siteOff then a.put1 R.MEM_STATUS_STATE x sitePowering else a) s1
    let s3 : State := { s2 with regs := s.power.hanks.foldl (fun m e => Tab.put m e.1 e.2) s2.regs }
    exec (.railsGood t) s = .next
      ((if s.power.hanks.isEmpty = true then s3 else s3.lanesWake).withPower (fun p => { p with image := 0, hanks := [] })) :=
  if_neg (not_or.mpr ⟨not_not.mpr wakes, not_not.mpr stage⟩)

section Fetched
variable {d : List Byte} (stage : s.get R.SYS_BOOT_STAGE = 2)
include stage

theorem not_bootIdle (below : s.power.image < 2) : ¬ (!(s.upTo t).bootHolds) = true := by
  have holds : (s.upTo t).bootHolds = true := Bool.and_eq_true_iff.mpr ⟨beq_iff_eq.mpr stage, decide_eq_true below⟩
  simp [holds]

/-- A good image is entered, from the second place with the event of that. -/
theorem exec_imageFetched_good (below : s.power.image < 2) (good : imageFault d = 0) :
    let ms := tToNs (max s.now t - s.power.bootAt) / 1000000
    let s1 := (((s.upTo t).imageEnter d 1).put R.TRUST_FW_VERSION_VERSION (fld d 4 4)).put R.SYS_BOOT_START_MS (min 4095 ms)
    let s2 := (s1.put R.SYS_BOOT_STAGE 3).withPower (fun p => { p with image := 2 })
    exec (.imageFetched d t) s = .next (if s.power.image = 1
      then ((s2.put R.SYS_BOOT_SECONDARY 1).cause1 R.SYS_BOOT_SECONDARY_EVT 0 0 0x1A9).flashFree else s2.flashFree) := by
  intro ms s1 s2
  refine (if_neg (not_bootIdle stage below)).trans ((if_pos good).trans ?_)
  exact congrArg Host.Outcome.next (if_congr beq_iff_eq rfl rfl)

/-- A bad first image is passed over for the second. -/
theorem exec_imageFetched_badFirst (first : s.power.image = 0) (bad : imageFault d ≠ 0) :
    exec (.imageFetched d t) s = .next (((s.upTo t).put R.SYS_BOOT_ERR (imageFault d)).withPower (fun p => { p with image := 1 })) := by
  have notSecond : ¬ (s.power.image == 1) = true := by simp [first]
  exact (if_neg (not_bootIdle stage (by omega))).trans ((if_neg bad).trans (if_neg notSecond))

/-- A bad second image stops the boot. -/
theorem exec_imageFetched_badSecond (second : s.power.image = 1) (bad : imageFault d ≠ 0) :
    exec (.imageFetched d t) s = .next (((((s.upTo t).put R.SYS_BOOT_ERR (imageFault d)).put R.SYS_BOOT_STAGE 5).withPower
      (fun p => { p with image := 2 })).cause1 R.SYS_BOOT_FAILED_EVT 0 0 0x1AA).flashFree :=
  (if_neg (not_bootIdle stage (by omega))).trans ((if_neg bad).trans (if_pos (beq_iff_eq.mpr second)))

end Fetched

theorem exec_creelSweepDone_booted (booted : 2 ≤ s.get R.SYS_BOOT_STAGE) :
    exec .creelSweepDone s = .next { s with store := { s.store with creelSwept := true } } := congrArg Host.Outcome.next (if_pos booted)

theorem exec_bootRetry_failed (failed : s.get R.SYS_BOOT_STAGE = 5) :
    exec .bootRetry s = .next ((s.put R.SYS_BOOT_STAGE 2).withPower (fun p => { p with image := 0 })) :=
  congrArg Host.Outcome.next (if_pos failed)

end Boot

/-- Settles O45: a supply by its rail, a sample by the warnings it crosses, an image by its place and its first fault. -/
theorem bootAndSupplies : Obligations.BootAndSupplies := by
  refine ⟨?keptRail, ?rail, ?clear, ?fall, ?rise, ?temp, ?assert, ?release, ?rails, ?creel, ?good, ?badFirst, ?badSecond, ?retry⟩
  case keptRail => exact fun s rail t kept => ⟨_, exec_supplyFault_kept kept, rfl⟩
  case rail => exact fun s rail t below not2 not7 powered => ⟨_, exec_supplyFault_switched below not2 not7 powered, rfl⟩
  case clear => exact fun s => ⟨_, rfl, (State.get_put_ne _ _ _ _ (by decide)).trans (State.get_put_same _ _ _), State.get_put_same _ _ _, rfl⟩
  case fall => exact fun s t high => ⟨_, exec_hpEnFall_high high, rfl⟩
  case rise => exact fun s t low => ⟨_, exec_hpEnRise_low low, rfl⟩
  case temp => exact fun s die stack den t powered => ⟨_, exec_tempSample_powered die stack den powered, rfl⟩
  case assert => exact fun s => ⟨_, rfl, rfl, congrArg PowerState.d s.power_enterD3⟩
  case release => exact fun s t dark => ⟨_, exec_porNRelease_dark dark, rfl⟩
  case rails => exact fun s t wakes stage => ⟨_, exec_railsGood_waking wakes stage, rfl⟩
  case creel => exact fun s booted => ⟨_, exec_creelSweepDone_booted booted, rfl⟩
  case good => exact fun s d t stage below good => ⟨_, exec_imageFetched_good stage below good, rfl⟩
  case badFirst => exact fun s d t stage first bad =>
    ⟨_, exec_imageFetched_badFirst stage first bad, State.get_put_same (s.upTo t) R.SYS_BOOT_ERR _, rfl⟩
  case badSecond => exact fun s d t stage second bad => ⟨_, exec_imageFetched_badSecond stage second bad, rfl⟩
  case retry => exact fun s failed => ⟨_, exec_bootRetry_failed failed, State.get_put_same s R.SYS_BOOT_STAGE 2, rfl⟩

end Sys2Proof.Machine

namespace Sys2Proof.Machine

/-! ## SPDM and the mailbox (R475 to R477)

The codes, the layouts and the out-of-order ERROR (notes/assumptions/56.md) and the ignored LEN (notes/assumptions/64.md) are the model's
reading. -/

section Spdm
variable {s : State}

/-- A request accepted with the measurements of its moment. -/
def State.spdmAccepted (s : State) (tr : Nat) (back d : List Byte) : State :=
  s.withTrust (fun x => { x with spdm := x.spdm ++ [⟨tr, back, d, x.slots, x.log⟩] })

section Requests
variable (alive : s.alive = true)
include alive

theorem not_spdmOff : ¬ (!s.alive) = true := ne_true_of_eq_false (congrArg not alive)

theorem exec_spdmRequest_doe (d : List Byte) (up : s.is R.PCIE_STATUS_UP = true) :
    exec (.spdmRequest 0 d) s = .next (s.spdmAccepted 0 [] d) :=
  (if_neg (not_spdmOff alive)).trans (congrArg Host.Outcome.next (if_pos up))

theorem exec_spdmRequest_mctp (x : List Byte) {back d : List Byte} {rest : List (List Byte)}
    (whole : mctpMessage [] s.trust.mctp = some (back, d, rest)) :
    exec (.spdmRequest 1 x) s = .next ((s.withTrust (fun x => { x with mctp := rest })).spdmAccepted 1 back d) := by
  show execSpdmRequest 1 x s = _
  simp only [execSpdmRequest, if_neg (not_spdmOff alive), whole]
  rfl

theorem exec_spdmRequest_mbox (x : List Byte) (busy : s.is R.TRUST_MBOX_CTL_BUSY = true)
    (none_ : s.trust.spdm.any (fun q => q.transport == 2) = false) :
    exec (.spdmRequest 2 x) s = .next (s.spdmAccepted 2 [] s.trust.mboxResp) :=
  (if_neg (not_spdmOff alive)).trans (if_pos (Bool.and_eq_true_iff.mpr ⟨busy, congrArg not none_⟩))

end Requests

/-- The oldest request answered: its connection noted, an ERROR counted. -/
def SpdmReq.noted (q : SpdmReq) (r : List SpdmReq) (a : List Byte × Bool × Nat × State) : State :=
  let s2 := a.2.2.2.withTrust (fun x => { x with spdm := r, conns := Tab.set 0 x.conns q.transport a.2.2.1 })
  if a.2.1 = true then (s2.bump R.TRUST_EVT_ERRORS 1).trustEvt 3 else s2

/-- An answer leaves by the transport its request came by. -/
def State.spdmSent (s : State) (back d : List Byte) : Nat → State
  | 0 => s.emit (.spdm 0 [] d)
  | 1 => s.mctpSend back d
  | _ => (((s.withTrust (fun x => { x with mboxResp := d, mboxRead := 0, mboxReq := [] })).put
      R.TRUST_MBOX_CTL_BUSY 0).put R.TRUST_MBOX_CTL_DONE 1).put R.TRUST_MBOX_CTL_LEN d.length

theorem State.spdmSent_mbox (s : State) (back d : List Byte) {tr : Nat} (mbox : 2 ≤ tr) :
    s.spdmSent back d tr = (((s.withTrust (fun x => { x with mboxResp := d, mboxRead := 0, mboxReq := [] })).put
      R.TRUST_MBOX_CTL_BUSY 0).put R.TRUST_MBOX_CTL_DONE 1).put R.TRUST_MBOX_CTL_LEN d.length := by
  obtain ⟨n, rfl⟩ := Nat.exists_eq_add_of_le' mbox
  rfl

theorem exec_spdmResponse_waits {q : SpdmReq} {r : List SpdmReq} (waits : s.trust.spdm = q :: r) :
    exec .spdmResponse s = .next ((q.noted r (s.spdmAnswer q)).spdmSent q.back (s.spdmAnswer q).1 q.transport) := by
  show execSpdmResponse s = _
  simp only [execSpdmResponse, waits]
  generalize s.spdmAnswer q = a
  unfold SpdmReq.noted
  generalize q.transport = tr
  match tr with
  | 0 => rfl
  | 1 => rfl
  | _ + 2 => rfl

/-- GET_VERSION needs no connection. -/
theorem State.spdmAnswer_getVersion {q : SpdmReq} (version : byteAt q.req 1 = 0x84) :
    s.spdmAnswer q = (spdmHead 0x04 0 0 ++ [0#8, 1#8] ++ leBytes 2 0x1200, false, 1, s) := if_pos version

end Spdm

section Mailbox
variable {s : State}

/-- A request handed over, padded to its length. -/
def State.mboxSubmitted (s : State) (n : Nat) : State :=
  (((s.put R.TRUST_MBOX_CTL_LEN n).withTrust (fun x => { x with mboxResp := padTo n x.mboxReq, mboxReq := [], mboxRead := 0 })).put
    R.TRUST_MBOX_CTL_BUSY 1).put R.TRUST_MBOX_CTL_DONE 0

theorem State.len_put {n : Nat} (to4096 : n ≤ 4096) : (s.put R.TRUST_MBOX_CTL_LEN n).get R.TRUST_MBOX_CTL_LEN = n :=
  (State.get_put_same _ _ _).trans (Nat.mod_eq_of_lt (Nat.lt_of_le_of_lt to4096 (by decide)))

theorem exec_mboxGo_idle {n : Nat} (idle : s.is R.TRUST_MBOX_CTL_BUSY = false) (from1 : 1 ≤ n) (to4096 : n ≤ 4096) :
    exec (.mboxGo n) s = .next (s.mboxSubmitted n) := by
  have goes : ¬ (s.is R.TRUST_MBOX_CTL_BUSY = true ∨ n = 0 ∨ 4096 < n) :=
    not_or.mpr ⟨ne_true_of_eq_false idle, by omega⟩
  show execMboxGo n s = _
  simp only [execMboxGo, State.len_put to4096]
  exact if_neg goes

theorem State.busy_mboxSubmitted (n : Nat) : (s.mboxSubmitted n).get R.TRUST_MBOX_CTL_BUSY = 1 :=
  (State.get_put_ne _ _ _ _ (by decide)).trans (State.get_put_same _ _ _)

theorem State.len_mboxSubmitted {n : Nat} (to4096 : n ≤ 4096) : (s.mboxSubmitted n).get R.TRUST_MBOX_CTL_LEN = n :=
  (State.get_put_ne _ _ _ _ (by decide)).trans ((State.get_put_ne _ _ _ _ (by decide)).trans (State.len_put to4096))

theorem exec_trustMboxData_done (m v : Nat) (done : s.is R.TRUST_MBOX_CTL_DONE = true) :
    exec (.trustMboxData m v false) s = .next ((s.withTrust (fun x => { x with mboxRead := x.mboxRead + 4 })).emit
      (.regRead m R.TRUST_MBOX_DATA_DATA.addr (fld s.trust.mboxResp s.trust.mboxRead 4))) := by
  show execTrustMboxData m v false s = _
  simp only [execTrustMboxData, State.mboxAccess, done, if_true, Bool.false_eq_true, if_false]

end Mailbox

/-- Settles O46: a request and its answer by the transport, the mailbox by its state and its length. -/
theorem trustSessions : Obligations.TrustSessions := by
  refine ⟨?doe, ?mctp, ?mbox, ?response, ?version, ?go, ?write, ?read⟩
  case doe => exact fun s d alive up => ⟨_, exec_spdmRequest_doe alive d up, rfl⟩
  case mctp => exact fun s x back d rest alive whole => ⟨_, exec_spdmRequest_mctp alive x whole, rfl⟩
  case mbox => exact fun s x alive busy none_ => ⟨_, exec_spdmRequest_mbox alive x busy none_, rfl⟩
  case response =>
    intro s q r waits a s2 s3
    refine ⟨_, exec_spdmResponse_waits waits, fun doe => ?_, fun mctp => ?_, fun mbox => ?_⟩
    · exact congrArg (State.spdmSent _ _ _) doe
    · exact congrArg (State.spdmSent _ _ _) mctp
    · exact State.spdmSent_mbox _ _ _ mbox
  case version => exact fun s q r waits version => State.spdmAnswer_getVersion version
  case go => exact fun s n idle from1 to4096 =>
    ⟨_, exec_mboxGo_idle idle from1 to4096, State.busy_mboxSubmitted n, State.get_put_same _ _ _, State.len_mboxSubmitted to4096, rfl⟩
  case write => exact fun s m v => ⟨_, rfl, rfl⟩
  case read => exact fun s m v done => ⟨_, exec_trustMboxData_done m v done, rfl⟩

end Sys2Proof.Machine

namespace Sys2Proof.Machine

/-! ## The firmware update (R480, R481)

READY in IDLE is the model's choice (notes/assumptions/63.md). -/

section Update
variable {s : State} (t : Nat)

theorem exec_fwUpdate_idle (idle : s.fwState = fwIdle) :
    exec (.fwUpdate t) s = .next (((s.upTo t).fwTo fwLoading).put R.PAIR_BADGER_STANDBY_OK 0) := if_neg (not_not.mpr idle)

theorem exec_fwUpdate_busy (busy : s.fwState ≠ fwIdle) :
    exec (.fwUpdate t) s = .next ((s.upTo t).bump R.TRUST_FW_STATUS_IGNORED 1) := if_pos busy

theorem State.fwState_fwTo (s : State) (st : Nat) : (s.fwTo st).fwState = R.TRUST_FW_STATUS_STATE.trunc st := State.get_put_same _ _ _

/-- The image read, by the first check that it fails. -/
theorem exec_imageLoaded_loading (ext : List Byte) (loading : s.fwState = fwLoading) :
    let a := s.get R.TRUST_FW_ADDR_ADDR / 64 * 64
    let h := (s.upTo t).storeRead 35 a 64 ext
    let r := h.st.storeRead 35 (a + 64) (fld h.data 8 4 - 64) (ext.drop 64)
    let d := h.data ++ r.data
    exec (.imageLoaded ext t) s = .next
      (if h.status ≠ stOk ∨ h.poisoned = true then h.st.fwFail 4
        else if imageFault h.data = 1 ∨ imageFault h.data = 2 then h.st.fwFail (imageFault h.data)
        else if r.status ≠ stOk ∨ r.poisoned = true then r.st.fwFail 4
        else if imageFault d ≠ 0 then r.st.fwFail (imageFault d)
        else ((r.st.imageEnter d 2).withTrust (fun x => { x with fwVersion := fld d 4 4 })).fwTo fwStarting) := by
  refine (if_neg (not_not.mpr loading)).trans ?_
  simp only [apply_ite Host.Outcome.next]
  rfl

theorem exec_fwReadyCore_starting (starting : s.fwState = fwStarting) : exec (.fwReadyCore t) s = .next ((s.upTo t).fwTo fwHandover) :=
  if_pos starting

theorem exec_fwReadyCore_reloading (reloading : s.fwState = fwReloading) :
    exec (.fwReadyCore t) s = .next (((((((s.upTo t).fwTo fwIdle).put R.TRUST_FW_STATUS_ERR 0).put R.PAIR_BADGER_STANDBY_OK 1).put
      R.PAIR_BADGER_FAILED 0).ledCount 10).trustEvt 1) :=
  (if_neg (by rw [State.fwState, State.get_upTo, ← State.fwState, reloading]; decide)).trans (if_pos reloading)

theorem exec_fwReadyCore_awaited (idle : s.fwState = fwIdle) (awaited : s.trust.awaits = 1) :
    exec (.fwReadyCore t) s = .next (((s.upTo t).withTrust (fun x => { x with awaits := 0 })).put R.PAIR_BADGER_STANDBY_OK 1) := by
  have idle' : (s.upTo t).fwState = fwIdle := idle
  have awaited' : (s.upTo t).trust.awaits = 1 := awaited
  show execFwReadyCore t s = _
  rw [execFwReadyCore, idle', awaited']
  exact (if_neg (by decide)).trans ((if_neg (by decide)).trans ((if_pos rfl).trans ((if_neg (by decide)).trans (if_pos (.inl rfl)))))

theorem exec_fwYield_handover (hands : s.fwState = fwHandover) : exec (.fwYield t) s = .next (s.upTo t).handover :=
  congrArg Host.Outcome.next (if_pos hands)

theorem exec_handoverTimeout_past (hands : s.fwState = fwHandover) (past : s.trust.fwAt + nsToT 1000000 ≤ max s.now t) :
    exec (.handoverTimeout t) s = .next (s.upTo t).handover := congrArg Host.Outcome.next (if_pos ⟨hands, past⟩)

section Late
variable (past : s.trust.fwAt + nsToT 150000000 ≤ max s.now t)
include past

theorem exec_fwStartTimeout_starting (starting : s.fwState = fwStarting) : exec (.fwStartTimeout t) s = .next ((s.upTo t).fwFail 5) :=
  (if_neg (Nat.not_lt.mpr past)).trans (if_pos starting)

theorem exec_fwStartTimeout_reloading (reloading : s.fwState = fwReloading) : exec (.fwStartTimeout t) s = .next ((s.upTo t).fwFail 6) :=
  (if_neg (Nat.not_lt.mpr past)).trans ((if_neg fun starting => absurd (reloading.symm.trans starting) (by decide)).trans (if_pos reloading))

end Late

/-- The other core is in service after a handover. -/
theorem State.core_handover (s : State) : s.handover.get R.PAIR_BADGER_ACTIVE_CORE = (1 - s.get R.PAIR_BADGER_ACTIVE_CORE) % 2 :=
  (State.get_put_ne _ _ _ _ (by decide)).trans ((State.get_put_ne _ _ _ _ (by decide)).trans (State.get_put_same _ _ _))

end Update

/-- Settles O47: each command by the state of the update, the image by the first check that it fails. -/
theorem firmwareUpdate : Obligations.FirmwareUpdate := by
  refine ⟨?start, ?ignored, ?loaded, ?ready, ?reloaded, ?awaited, ?yield, ?late, ?lateReload, ?handover⟩
  case start => exact fun s t idle =>
    ⟨_, exec_fwUpdate_idle t idle, (State.get_put_ne _ _ _ _ (by decide)).trans (State.fwState_fwTo _ _), State.get_put_same _ _ _, rfl, rfl⟩
  case ignored => exact fun s t busy => ⟨_, exec_fwUpdate_busy t busy, rfl⟩
  case loaded => exact fun s ext t loading => ⟨_, exec_imageLoaded_loading t ext loading, rfl⟩
  case ready => exact fun s t starting => ⟨_, exec_fwReadyCore_starting t starting, rfl⟩
  case reloaded => exact fun s t reloading => ⟨_, exec_fwReadyCore_reloading t reloading, rfl⟩
  case awaited => exact fun s t idle awaited => ⟨_, exec_fwReadyCore_awaited t idle awaited, State.get_put_same _ _ _, rfl⟩
  case yield => exact fun s t hands => ⟨_, exec_fwYield_handover t hands, rfl⟩
  case late => exact fun s t starting past => ⟨_, exec_fwStartTimeout_starting t past starting, rfl⟩
  case lateReload => exact fun s t reloading past => ⟨_, exec_fwStartTimeout_reloading t past reloading, rfl⟩
  case handover => exact fun s t hands past => ⟨_, exec_handoverTimeout_past t hands past, rfl, State.core_handover _⟩

/-! ## The Ledger (R482 to R485)

A commit that invalidates the copy it writes first is the model's choice (notes/assumptions/65.md). -/

section Ledger
variable {s : State}

theorem exec_ledgerCommit_ignored {t : Nat} (ignored : s.alive = false ∨ s.is R.LEDGER_STATUS_BUSY = true) :
    exec (.ledgerCommit t) s = .next (s.upTo t) := by
  have skips : (s.is R.LEDGER_STATUS_BUSY || !s.alive) = true := by
    rcases ignored with dark | busy
    · simp [dark]
    · simp [busy]
  exact if_pos skips

/-- The commit of an image begins: the copy that it goes to holds nothing valid. -/
def State.commitBegins (s : State) (img : Tab Byte) : State :=
  ({ s with ledger := { s.ledger with image := img, commit := some img, tries := 0, copies := Tab.del s.ledger.copies s.ledger.next } } : State).put
    R.LEDGER_STATUS_BUSY 1

theorem exec_ledgerCommit_idle {t : Nat} (idle : s.is R.LEDGER_STATUS_BUSY = false) (alive : s.alive = true) :
    exec (.ledgerCommit t) s = .next ((s.upTo t).commitBegins (ledgerHeader s.ledger.image (ledgerCommits s.ledger.image + 1) (max s.now t))) := by
  have goes : ¬ (s.is R.LEDGER_STATUS_BUSY || !s.alive) = true := by simp [idle, alive]
  exact if_neg goes

section Done
variable {img : Tab Byte} (commits : s.ledger.commit = some img)
include commits

/-- A copy that has read back well. -/
def State.copyKept (s : State) (img : Tab Byte) : State :=
  (({ s with ledger := { s.ledger with
      commit := none, next := (s.ledger.next + 1) % 63, since := [], copies := Tab.set [] s.ledger.copies s.ledger.next img } } : State).put
    R.LEDGER_STATUS_COPY s.ledger.next).put R.LEDGER_STATUS_BUSY 0

theorem exec_commitDone_good : exec (.commitDone true) s = .next (s.copyKept img) := by
  show execCommitDone true s = _
  simp only [execCommitDone, commits, if_true]
  rfl

theorem exec_commitDone_again (early : s.ledger.tries < 2) :
    let s1 := s.bump R.LEDGER_STATUS_FAILS 1
    exec (.commitDone false) s = .next { s1 with ledger := { s1.ledger with
      next := (s.ledger.next + 1) % 63, tries := s.ledger.tries + 1, copies := Tab.del s1.ledger.copies ((s.ledger.next + 1) % 63) } } := by
  show execCommitDone false s = _
  simp only [execCommitDone, commits, Bool.false_eq_true, if_false, if_pos (Nat.succ_lt_succ early : s.ledger.tries + 1 < 3)]

/-- The third failure ends the commit. -/
theorem exec_commitDone_gaveUp (late : 2 ≤ s.ledger.tries) :
    let s1 := s.bump R.LEDGER_STATUS_FAILS 1
    let s2 : State := { s1 with ledger := { s1.ledger with commit := none, next := (s.ledger.next + 1) % 63, tries := 0 } }
    exec (.commitDone false) s = .next (((s2.put R.LEDGER_STATUS_BUSY 0).put R.LEDGER_STATUS_FAIL 1).ledgerEvt 0) := by
  have third : ¬ s.ledger.tries + 1 < 3 := by omega
  show execCommitDone false s = _
  simp only [execCommitDone, commits, Bool.false_eq_true, if_false, if_neg third]

end Done

/-- A write of the selected word, where it may be written; the pointer moves on. -/
theorem exec_ledgerData_write (m v : Nat) :
    let w := s.get R.LEDGER_ADDR_WORD
    exec (.ledgerData m v true) s = .next
      (if ledgerWritable (4 * w) = true then (s.ledgerWord (4 * w) v).put R.LEDGER_ADDR_WORD (w + 1)
        else ((s.bump R.LEDGER_STATUS_REFUSED 1).ledgerEvt 3).put R.LEDGER_ADDR_WORD (w + 1)) :=
  congrArg Host.Outcome.next (apply_ite (fun a : State => a.put R.LEDGER_ADDR_WORD (s.get R.LEDGER_ADDR_WORD + 1)) _ _ _)

theorem exec_ledgerSample_powered (rails : List Int) (t : Nat) (powered : s.power.d ≤ 1) :
    let s1 := ((s.upTo t).ledCount 0).ledBump (0xC0 + 4 * tempBin (sgn 8 (s.get R.POWER_TEMP_DIE_MAX))) 4 1
    let s2 := forN 8 (fun k a => a.ledBump (0x100 + 32 * k + 4 * railBin (rails.getD k 0)) 4 1) s1
    let s3 := (s.ledger.lockedAll.filter s.locked).foldl (fun a l => a.ledBump (0x400 + 32 * l + 4 * hdrBin (Tab.get 0 s.ledger.hdr l)) 4 1) s2
    exec (.ledgerSample rails t) s = .next { s3 with ledger := { s3.ledger with hdr := [], lockedAll := (List.range 96).filter s.locked } } :=
  if_neg (Nat.not_le.mpr (Nat.lt_succ_of_le powered))

end Ledger

/-- Settles O48: a commit by the Ledger's state and its failures, an access by whether the word may be written. -/
theorem ledgerCommands : Obligations.LedgerCommands := by
  refine ⟨?ignored, ?commit, ?good, ?again, ?gaveUp, ?read, ?write, ?sample⟩
  case ignored => exact fun s t ignored => ⟨_, exec_ledgerCommit_ignored ignored, rfl⟩
  case commit => exact fun s t idle alive => ⟨_, exec_ledgerCommit_idle idle alive, State.get_put_same _ _ _, rfl⟩
  case good => exact fun s img commits => ⟨_, exec_commitDone_good commits, State.get_put_same _ _ _,
      (State.get_put_ne _ _ _ _ (by decide)).trans (State.get_put_same _ _ _), rfl⟩
  case again => exact fun s img commits early => ⟨_, exec_commitDone_again commits early, rfl⟩
  case gaveUp => exact fun s img commits late => ⟨_, exec_commitDone_gaveUp commits late, rfl⟩
  case read => exact fun s m v => ⟨_, rfl, rfl⟩
  case write => exact fun s m v => ⟨_, exec_ledgerData_write m v, rfl⟩
  case sample => exact fun s rails t powered => ⟨_, exec_ledgerSample_powered rails t powered, rfl⟩

end Sys2Proof.Machine
